-- ==== Sys2Proof/Word.lean ====
section
/-! DEFINITION. The word types of the module and its one container: a sparse map from numbers, kept in one
canonical form. Everything a test could show wrong about bits and octets stands in `Machine/Operands.lean`. -/

namespace Sys2Proof

/-- One octet. -/
abbrev Octet := BitVec 8

/-- A 64-bit word: a design-memory word, a truth table, a capture or log word. -/
abbrev Word64 := BitVec 64

/-- A sparse map: (key, value) pairs, keys strictly rising, and no pair equal to what an unlisted key reads as
(`Sparse.wf` in `Machine/Ops.lean` says so). -/
abbrev Sparse (α : Type) := List (Nat × α)

end Sys2Proof
end

