-- ==== Sys2Proof/Syntax.lean ====
section
/-! DEFINITION. The commands of the block: one constructor per row of the opcode table, with the operands the row
carries. A command is what the outside world presents: a frame of the Azmuax Control Protocol, an access of the
PCIe function, a message on a link, a level on a land, or the passing of an interval that the manual names. -/

namespace Sys2Proof

/-- What every tagged ACP frame carries beside its operation (Table 9-6): session number, request SEQ, tag, and the
carrier it arrived on (0, 1 management port; 2 PCIe mailbox) with the UDP source. -/
structure Req where
  session : Nat
  seq : Nat
  tag : Nat
  carrier : Nat
  src : Nat
  srcPort : Nat
  deriving DecidableEq, Repr

/-- Sender of a datagram: its MAC address and its IPv4 address. -/
structure Sender where
  mac : Nat
  addr : Nat
  deriving DecidableEq, Repr

/-- A write of a BAR: its size in octets, and the number written. -/
structure BarValue where
  size : Nat
  num : Nat
  deriving DecidableEq, Repr

/-- TYPE field and body of a WRITE frame. -/
structure WVal where
  ty : Nat
  data : List Octet
  deriving DecidableEq, Repr

/-- The ways a row that stores elements reaches its object: WRITE of the element object, WRITE of the block object,
WRITE_BLOCK of the block object with its START. -/
inductive WForm where
  | word (v : WVal)
  | run (v : WVal)
  | block (start : Nat) (data : List Octet)
  deriving DecidableEq, Repr

/-- A storage error that the environment places in a stored word before the step at which the command is carried out
reads it. `n` is the number of flipped bits; `lbs` flips the bit at its address. -/
inductive Upset where
  | codeword (lane word n : Nat)          -- physical lane, word
  | lbs (lane addr plane : Nat)           -- physical lane, address, plane 0..3 (3: temporary)
  | dict (cluster bank entry n : Nat)     -- physical cluster
  | exs (tile bank entry group n : Nat)    -- 64-bit group 0-47 of the entry
  | bank (bank word n : Nat)              -- 4*tile+bank
  | far (word : Nat)
  | tifWord (cell : Nat) (bits : List Nat)  -- stored bits: 0-255 data, 256+8g+i check bit i of 64-bit group g
  deriving DecidableEq, Repr

/-- What the surroundings decide during one commit window or wait block: which hold causes' work is finished in time
(DRAM, drain, trace sink, capture buffer), and storage errors met. -/
structure CommitEnv where
  logAccepted : Bool        -- DRAM has accepted the stimulus record by C8 / W8 (R421)
  captureRoom : Bool        -- the capture buffer has room (R380)
  copiesDrained : Bool      -- the copy stores have drained to the ring, and far copies are done (R413, R414)
  farReady : Bool           -- far read data is present and far writes have retired by C8 / W8 (R313)
  traceRoom : Bool          -- the trace sink keeps up (R806)
  farFailed : List Nat      -- tiles whose far read DRAM reports uncorrectable (R314)
  target : List (Nat × Bool) -- TIO pads that the target drives at C8, with the level (R483)
  upsets : List Upset
  deriving DecidableEq, Repr

/-- The reference inputs of Table 12-1 that can be lost. -/
inductive RefSrc where
  | sref | xta | xtb
  deriving DecidableEq, Repr

/-- What training of an Ilyan port found (steps 2-7 of training). -/
structure TrainResult where
  order : List Nat          -- number of the lane that arrives on each of the receiver's lanes 0..8 (step 3)
  failedLanes : List Nat    -- failed lanes of the receive direction, 0..8
  sendFailed : List Nat     -- failed lanes of the transmit direction, as the partner found them
  drift : Bool              -- elastic-buffer drift (step 6)
  polarity : BitVec 9
  echoGone : Nat            -- t_r - t_a, in reference steps
  hold : Nat                -- h of ECHO_REPLY
  micros : Nat              -- duration
  deriving DecidableEq, Repr

/-- IDENTITY packet (Table 3-9). -/
structure Identity where
  moduleId : Nat
  port : Nat
  systemId : Nat
  imageTag : Nat
  freqCode : Nat
  guardLead : Nat
  members : Nat
  deriving DecidableEq, Repr

/-- One slot of a superframe: the exchange bits that are 1, and the sideband word. -/
structure Slot where
  bits : List Nat
  side : Nat
  deriving DecidableEq, Repr

/-- A superframe as the receiver recovers it (Table 3-6), with what its Reed-Solomon decoder met. -/
structure RxSuperframe where
  port : Nat
  marker : Nat
  typ : Nat
  cycle : Nat
  index : Nat
  slotMap : Nat
  spareFor : Nat
  switchNext : Nat
  hcrc : Nat
  slots : List Slot
  corrected : List Nat       -- corrected symbols per data lane 0..7 and bit errors on the free spare lane (8)
  correctedWords : Nat       -- codewords with at least one correction
  badWords : List Nat        -- uncorrectable codewords, 0..6
  ago : Nat                  -- steps of this end's step clock since its step with the number of the transmitter's slot 0
  deriving DecidableEq, Repr

/-- A received or sent IEEE 1588 message, as far as the manual reads it. Times are in ns, corrections in units of
2^-16 ns. `ds` is the data set of an Announce in the order of its default comparison: priority1, clockClass,
clockAccuracy, offsetScaledLogVariance, priority2, grandmasterIdentity, stepsRemoved. -/
inductive PtpMsg where
  | announce (ds : List Nat) (utcOffset : Int)
  | sync (origin : Int) (correction : Int) (twoStep : Bool) (seq : Nat)
  | followUp (origin : Int) (correction : Int) (seq : Nat)
  | delayReq (seq : Nat) (correction : Int)
  | delayResp (receive : Int) (correction : Int) (seq : Nat)
  | pdelayReq (seq : Nat)
  | pdelayResp (receive : Int) (correction : Int) (twoStep : Bool) (seq : Nat)
  | pdelayRespFollowUp (origin : Int) (correction : Int) (seq : Nat)
  | other
  deriving DecidableEq, Repr

/-- What a frame that reaches the internal port carries (Table 11-5). A PTP message names its transport (UDP/IPv4 or
IEEE 802.3), its domain and its sourcePortIdentity; an ICMP echo request its payload octets and whether it is
fragmented; a DHCP message to the client its type (2 OFFER, 5 ACK, 6 NAK), the address, option 1 and option 51 in s; a fragment for the
ACP port its octets of the datagram's IPv4 payload with their offset, and whether more follow. -/
inductive HostPayload where
  | acp
  | arpRequest (target : Nat)
  | icmpEcho (octets : Nat) (fragmented : Bool)
  | dhcp (kind : Nat) (offer : Nat) (netmask : Nat) (lease : Nat)
  | ptp (udp : Bool) (domain : Nat) (src : Nat) (m : PtpMsg)
  | fragment (ident : Nat) (offset : Nat) (octets : Nat) (more : Bool)
  | other
  deriving DecidableEq, Repr

/-- An Ethernet frame as the switch sees it: addresses, VLAN IDs of its tags, length, whether it is a MAC control frame (EtherType
8808h), what its transmission met, and the time stamps that the ingress and the egress port take of it. -/
structure EthFrame where
  port : Nat
  dst : Nat
  src : Nat
  vlan : List Nat
  length : Nat
  fcsOk : Bool
  macControl : Bool
  ipSrc : Nat
  ipDst : Nat
  payload : HostPayload
  collisions : Nat
  late : Bool
  rxStamp : Nat
  txStamp : Nat
  deriving DecidableEq, Repr

/-- PHY status as read over the management bus (R678). -/
structure PhyStatus where
  link : Bool
  speed : Nat
  fullDuplex : Bool
  deriving DecidableEq, Repr

/-- Header of a packet of the packet network (Table 10-9), with the initiator that sends it (R645; from 17 on, none that is counted).
`dst` and `src` are 8·router + port; the network stamps AGE. -/
structure NocPacket where
  dst : Nat
  src : Nat
  vn : Nat
  opcode : Nat
  body : Nat
  size : Nat
  tag : Nat
  status : Nat
  addr : Nat
  reserved : Nat
  initiator : Nat
  age : Nat
  deriving DecidableEq, Repr

/-- A DMA descriptor (Table 10-4) with what the host link and the region answered to it. -/
structure Descriptor where
  words : List Nat           -- 4 words of 64 bits
  data : List Octet          -- octets read from host memory; with an error, the octets that moved before it
  hostError : Nat            -- the host link: 0 no error, 1 error completion or poisoned data, 2 completion timeout
  deriving DecidableEq, Repr

/-- Measurements that the supervisor takes. -/
structure PowerSample where
  tj : Int                   -- highest junction temperature, in m°C
  sensor : Nat
  power : Nat                -- input power, mW
  vin : Nat
  vbat : Nat
  deriving DecidableEq, Repr

/-- One finding of a built-in test: a unit that failed, numbered as in its health-map section (Table 13-3). -/
inductive TestFinding where
  | cluster (n : Nat)        -- 17·(32q + t) + c
  | bank (n : Nat)
  | timeSwitch (n : Nat)
  | router (n : Nat)
  | stack (n : Nat)
  | pll (n : Nat)
  | oscillator (n : Nat)
  | dramUnit (n : Nat)
  | phase (n : Nat)
  | sensor (n : Nat)
  | delayLine (n : Nat)
  deriving DecidableEq, Repr

/-- One word that Tallow patrols, with the number n of flipped bits found beyond those stored before; a health-map copy
that it finds to fail MAP_CRC. -/
inductive PatrolWord where
  | im (lane word n : Nat)
  | dict (cluster bank entry n : Nat)
  | exs (tile bank entry group n : Nat)    -- 64-bit group 0-47 of the entry
  | tif (cell : Nat) (bits : List Nat)      -- stored bits, as of Upset.tifWord
  | healthCopy (copy : Nat)
  deriving DecidableEq, Repr

/-- The commands. -/
inductive Instr where
  -- sweeps and run control
  | sweepStep (upsets : List Upset)
  | commitWindow (env : CommitEnv)
  | waitBlock (env : CommitEnv)
  | holdCausesCleared
  | sweepStart (syncHigh : Bool)
  | syncTimeout
  | run (r : Req)
  | stop (r : Req)
  | step (r : Req)
  | runTo (r : Req)
  | abort (r : Req)
  | designReset (r : Req)
  | park (r : Req)
  | stateLoad (r : Req)
  -- clocks
  | stepFreqRequest (r : Req) (v : WVal)
  | taperIncrement
  | taperRampDone
  | stepRefWrite (r : Req) (v : WVal)
  | referenceLost (src : RefSrc)
  | referenceRestored (src : RefSrc)
  | pllFailed (pll : Nat)
  | clockForced (root : Nat)
  -- lanes and dictionaries
  | imWordWrite (r : Req) (w : WForm)
  | dictEntryWrite (r : Req) (w : WForm)
  | dictSeal (r : Req) (v : WVal)
  | dictSwapRequest (r : Req)
  | dictSwapCancel (r : Req)
  | lbsWrite (r : Req) (w : WForm)
  | deposit (r : Req) (v : WVal)
  -- exchange
  | exsEntryWrite (r : Req) (w : WForm)
  | exsSeal (r : Req) (v : WVal)
  | xswapRequest (r : Req)
  | xswapCancel (r : Req)
  | joinedSwapRequest (r : Req)
  -- Ilyan
  | linkEnableWrite (r : Req) (port : Nat) (v : WVal)
  | trainingDone (port : Nat) (t : TrainResult) (partner : Identity)
  | identityReceived (port : Nat) (i : Identity)
  | identitySend (port : Nat)
  | superframeReceived (f : RxSuperframe)
  | portRetrain (port : Nat)
  | status (port : Nat) (arg : Nat)
  | stoppedFwd (port : Nat) (origin : Nat)
  | faultFwd (port : Nat) (origin : Nat)
  | echo (port : Nat) (hold : Nat)
  | echoReply (port : Nat) (gone : Nat) (hold : Nat)
  | spareReq (port : Nat) (lane : Nat)
  | spareRequestSend (port : Nat) (lane : Nat) (symbols : Nat) (lockLost : Bool) (spareErrors : Nat)
  | laneSpared (port : Nat) (lane : Nat)
  | guardMessageReceived (port : Nat) (words : List Nat)
  | laneTestStart (r : Req)
  | laneTestAbort (r : Req)
  | laneTestDone (errors marginV marginH : Nat)
  | systemMembersWrite (r : Req) (v : WVal)
  -- design memories
  | farDelivery (tile : Nat) (failed : Bool)
  | farWriteRetired (tile : Nat)
  | correctionWriteBack (bank word : Nat)
  | dmWordWrite (r : Req) (w : WForm)
  | farWordWrite (r : Req) (w : WForm)
  | portBindingWrite (r : Req) (sub : Nat) (v : WVal)
  | layoutApply (r : Req)
  | layoutRevert (r : Req)
  | layoutApplied
  -- rewind
  | checkpointCommand (r : Req)
  | deferredSnapshot
  | drainComplete (upsets : List Upset) (micros : Nat)
  | stimulusRecordAccepted
  | restore (r : Req)
  | replayDone
  | spareSubstituted
  | clusterRecovered
  -- Lantern
  | arm (r : Req)
  | disarm (r : Req)
  | forceTrigger (r : Req)
  | hostMark (r : Req) (v : WVal)
  | probeMapWrite (r : Req) (w : WForm)
  | timeRecord (segment : Nat)
  | captureAccept
  | extCalibrated (residual : Nat) (failed : List Nat)
  | extSample (high : List Nat) (frac : Nat)
  -- target interface fabric
  | cellConfigWrite (r : Req) (w : WForm)
  | tifReset (r : Req)
  | oscFreqWrite (r : Req) (k : Nat) (v : WVal)
  | ufRead
  | ufErase (r : Req) (v : WVal)
  | ufProgram (r : Req) (w : WForm)
  | spSend (r : Req) (port : Nat)
  | spI2cRead (r : Req) (port : Nat)
  | spI2cWriteRead (r : Req) (port : Nat)
  | spAbort (r : Req) (port : Nat)
  | serialDone (port : Nat) (status : Nat) (received : List Octet) (sent : Nat)
  | busStuck (port : Nat)
  | uartReceive (port : Nat) (o : Octet)
  | bankVoltageWrite (r : Req) (bank : Nat) (v : WVal)
  | bankFault (bank : Nat) (millivolts : Nat)
  | pinConfigWrite (r : Req) (v : WVal)
  | outputMapWrite (r : Req) (v : WVal)
  | injectionMapWrite (r : Req) (w : WForm)
  | patStartWrite (r : Req) (v : WVal)
  -- images and keys
  | stageDataWrite (r : Req) (w : WForm)
  | imageCheck (r : Req)
  | imageCheckApply (r : Req)
  | imageDiscard (r : Req)
  | imageCheckDone
  | regionWriteDone
  | shadowApplyDone
  | ownerToken (r : Req) (v : WVal)
  | loadVbat (r : Req)
  | programEfuse (r : Req)
  | zeroiseVbat (r : Req)
  | setEfuseOnly (r : Req)
  | tamperZeroised (detector : Nat)
  | updLengthWrite (r : Req) (v : WVal)
  | updDataWrite (r : Req) (w : WForm)
  | updVerify (r : Req)
  | updCancel (r : Req)
  | boot (failedStacks : List Nat) (millis : Nat)
  | doneRise
  | doneTimeout
  -- ACP
  | openFrame (carrier : Nat) (src : Sender) (srcPort level : Nat) (nonce : BitVec 128)
  | prove (r : Req) (proof : BitVec 256)
  | proveTimeout (session : Nat)
  | sourceUnlock (carrier src : Nat)
  | negotiate (r : Req) (requested : BitVec 128)
  | read (r : Req) (idx sub ty : Nat)
  | write (r : Req) (idx sub : Nat) (v : WVal)
  | readBlock (r : Req) (idx sub : Nat) (start total : Nat)
  | writeBlock (r : Req) (idx sub : Nat) (start : Nat) (data : List Octet)
  | subscribe (r : Req) (body : List Octet)
  | close (r : Req)
  | badFrame (carrier : Nat) (frame : List Octet)
  | sessionIdleTimeout (session : Nat)
  | serviceTimeout (session seq : Nat)
  | credLoad (r : Req)
  | credClear (r : Req)
  -- host link and packet network
  | pcieReset (kind : Nat)
  | bar2Read (offset length : Nat)
  | bar2Write (offset : Nat) (data : List Octet)
  | apWrite (n : Nat) (base : Bool) (value : Nat)
  | mbSlotSubmit (slot length : Nat)
  | mbControlWrite (offset : Nat) (value : BarValue)
  | mailboxRingFull (event : Bool)
  | dmaDoorbell (engine offset value : Nat)
  | dmaDescriptorDone (engine : Nat) (d : Descriptor)
  | dmaEnable (engine : Nat)
  | dmaStop (engine : Nat)
  | pcieCreditStall (millis : Nat)
  | packetReceived (p : NocPacket)
  | routingTableSwitch (router : Nat)
  | statsClear (r : Req)
  | statsFreeze (r : Req)
  | statsResume (r : Req)
  | msixMapWrite (r : Req) (sub : Nat) (v : WVal)
  -- time base and management ports
  | frcWrap
  | setTime (r : Req) (v : WVal)
  | ptpMessage (port src : Nat) (m : PtpMsg) (rxStamp : Nat)
  | pathFreezeEnd
  | masterLost
  | ptpTransmit (kind : Nat) (collided : List Nat)
  | tcFollowupMissed (port : Nat)
  | ptpConfigWrite (r : Req) (sub : Nat) (v : WVal)
  | phyPoll (port : Nat) (s : PhyStatus)
  | mgmtFrame (f : EthFrame)
  | switchForward (f : EthFrame)
  | macAging (mac : Nat)
  | reassemblyExpiry (src ident : Nat)
  | dhcpRenew (addr netmask lease : Nat)
  | addressProbe (conflict : Option Nat)
  | ipAddressWrite (r : Req) (sub : Nat) (v : WVal)
  -- modes, supply, power
  | modeStandby (r : Req)
  | modeAnalyzer (r : Req)
  | modeIdle (r : Req)
  | modeService (r : Req)
  | shutdown (r : Req) (findings : List TestFinding) (stepsDone : Nat) (millis : Nat)
  | reboot (r : Req)
  | idleWake
  | wakeLate (micros : Nat)
  | vinGood (straps : Nat) (resetHigh : Bool)
  | vinUndervoltage
  | vinOvervoltage
  | resetNLow
  | resetNRise
  | pfail
  | pfailNHigh
  | standbyWake
  | dutyAdjust (p : PowerSample)
  | thermalHalt (p : PowerSample)
  | thermalTrip
  | powerLimitChanged (phases : Nat)
  | domainRequest (r : Req) (d : Nat) (v : WVal)
  | gateForced (r : Req) (v : WVal)
  | ckoutWrite (r : Req) (sub : Nat) (v : WVal)
  -- self-test and Tallow
  | scheduledTest (findings : List TestFinding) (stepsDone : Nat) (millis : Nat)
  | testProgressRecord (findings : List TestFinding) (stepsDone : Nat) (millis : Nat)
  | odStart (r : Req)
  | odAbort (r : Req)
  | ondemandDone (passed : Bool) (detail : Nat) (deviation : List Int)
  | tallowPatrol (area : Nat) (words : List PatrolWord) (passMillis : Option Nat)
  | tallowVote (copy : Nat)
  | tallowReset (stalled : Option Nat)
  -- flow trace
  | sinkWrite (r : Req) (v : WVal)
  | seqUnsuppress (r : Req) (v : WVal)
  | coreTraceWrite (r : Req) (v : WVal)
  | traceOverflow
  -- further events
  | symbolLockLost (port : Nat) (lane : Nat)
  | transportLost (port : Nat)
  | ringConsumerWrite (ring : Nat) (value : Nat)
  | msixUnmask (vector : Nat)
  | configurationRequest (write : Bool) (offset value : Nat)
  | ufOperationDone
  | updateEraseDone
  | bankRailSettled (bank : Nat)
  | tifClockEdge (clock : Nat) (target : List (Nat × Bool))
  | laneTest (port : Nat) (arg : Nat) (errors : Nat)
  | tapInstruction (code : Nat)
  deriving DecidableEq, Repr

end Sys2Proof
end

