-- ==== Sys2Proof/WellFormed.lean ====
section
/-! DEFINITION. Which commands are well formed: the unit numbers name units that the module has. No wire of the module
carries another number; the meanings stop by name on such a command. -/

namespace Sys2Proof

/-- Whether every unit number of a command names a unit of the module. A number that a WRITE frame spells in an object's
index is not one of these: a frame that names no object is answered (R15). -/
def Instr.wellFormed : Instr → Bool
  | .pllFailed p => decide (p < 8)
  | .clockForced r => decide (r < 9)
  | .trainingDone p _ _ | .identityReceived p _ | .identitySend p | .portRetrain p
  | .status p _ | .stoppedFwd p _ | .faultFwd p _ | .echo p _ | .echoReply p _ _ | .spareReq p _
  | .spareRequestSend p _ _ _ _ | .laneSpared p _ | .guardMessageReceived p _ | .symbolLockLost p _
  | .laneTest p _ _ => decide (p < 8)
  | .superframeReceived f => decide (f.port < 8)
  | .farDelivery t _ | .farWriteRetired t => decide (t < 128)
  | .correctionWriteBack b _ => decide (b < 512)
  | .serialDone k _ _ _ | .busStuck k | .uartReceive k _ => decide (k < 8)
  | .bankRailSettled b | .bankFault b _ => decide (b < 10)
  | .apWrite n _ _ => decide (n < 4)
  | .mbSlotSubmit n _ => decide (n < 4)
  | .msixUnmask v => decide (v < 64)
  | .dmaDoorbell e _ _ | .dmaDescriptorDone e _ | .dmaEnable e | .dmaStop e => decide (e < 8)
  | .ringConsumerWrite k _ => decide (k < 10)
  | .pcieReset k => decide (k < 3)
  | .routingTableSwitch r => decide (r < 28)
  | .ptpMessage p _ _ _ | .tcFollowupMissed p | .phyPoll p _ | .transportLost p => decide (p < 2)
  | .mgmtFrame f | .switchForward f => decide (f.port < 2)
  | .tallowPatrol a _ _ => decide (a < 5)
  | .tallowVote c => decide (c < 3)
  | _ => true

end Sys2Proof
end

