-- ==== Sys2Proof/Config.lean ====
section
/-! DEFINITION. What one module fixes once (factory values, keys, the named published cryptographic standards) and
the free values of the model. Every constant here is opaque: no proof can see what it is, so a statement that holds
of the model holds whatever the constant is. -/

namespace Sys2Proof.Config

/-- FREE VALUE (log 3): the k-th bit the manual leaves undefined (a combinational loop, R459; an undefined pad,
R848 and R849). -/
opaque freeBit : Nat → Bool

/-- FREE VALUE (log 3): the k-th number the manual leaves open. -/
opaque freeNat : Nat → Nat

/-- FREE VALUE (log 3): what the k-th frame of the module's own meets on a half-duplex management link: collisions (R679). -/
opaque linkCollisions : Nat → Nat

/-- FREE VALUE (log 3): whether one of them is a late collision. -/
opaque linkLate : Nat → Bool

/-- FREE VALUE (log 3): the k-th fresh 16-octet nonce the module draws (chapter 9, step 2 of opening a session). -/
opaque freeNonce : Nat → BitVec 128

/-- UNINTERPRETED STANDARD (log 4): HMAC-SHA-256 of a message under a key. -/
opaque hmacSha256 : List Octet → List Octet → BitVec 256

/-- UNINTERPRETED STANDARD (log 4): HKDF-SHA-256 with 32 octets of output: salt, input key, info. -/
opaque hkdfSha256 : List Octet → List Octet → List Octet → BitVec 256

/-- UNINTERPRETED STANDARD (log 4): AES-256-GCM decryption: key, 12-octet IV, associated data, ciphertext, tag;
none when the tag fails. -/
opaque aesGcmOpen : BitVec 256 → List Octet → List Octet → List Octet → List Octet → Option (List Octet)

/-- UNINTERPRETED STANDARD (log 4): ECDSA P-384 verification under the factory public key: message, signature. -/
opaque ecdsaP384Verify : List Octet → List Octet → Bool

/-- IMPLEMENTATION VALUE (log 5): factory values of the identity objects (R837), by object key idx*256+sub. -/
opaque factory : Nat → Nat

/-- IMPLEMENTATION VALUE (log 5): spare columns fused in bank b of the module, 0 to 16 (R838 bounds it; the reader
takes the value modulo 17). -/
opaque fusedColumns : Nat → Nat

/-- IMPLEMENTATION VALUE (log 5): SECURITY_VERSION of a vendor part, whose layout the manual does not give. -/
opaque vendorVersion : List Octet → Nat

/-- IMPLEMENTATION VALUE (log 5): ADVANCE of a vendor part. -/
opaque vendorAdvance : List Octet → Bool

/-- IMPLEMENTATION VALUE (log 5): version of the firmware in a vendor part (1000h:06). -/
opaque vendorFirmware : List Octet → Nat

/-- IMPLEMENTATION VALUE (log 5): EXPECTED_STEPS of the shutdown test that a vendor part holds. -/
opaque vendorSteps : List Octet → Nat

/-- IMPLEMENTATION VALUE (log 5): whether the firmware in a vendor part is secure (8800h:05). -/
opaque vendorSecure : List Octet → Bool

/-- IMPLEMENTATION VALUE (log 6): the number that a setup section of the boot stream gives an object, by key. The
reader takes it into the object's range. -/
opaque bootSetting : List Octet → Nat → Nat

/-- IMPLEMENTATION VALUE (log 5): clockClass, clockAccuracy and offsetScaledLogVariance of the module's ordinary clock,
which its Announce carries (R666). -/
opaque ptpQuality : List Nat

/-- FREE VALUE (log 3): which of the far accesses that different tiles strobe in one step comes next: design cycle, executed step,
number of accesses left. It depends on the design's own progress alone (R4, R5). -/
opaque farOrder : Nat → Nat → Nat → Nat

/-- IMPLEMENTATION VALUE (log 79): the tile whose far port serves a host access to a far word (R845). -/
opaque farHostTile : Nat → Nat

/-- FREE VALUE (log 28): entries of a tile's copy store that have drained to the ring by the end of executed step e of design cycle k (R411): cycle, step,
tile. -/
opaque copyDrain : Nat → Nat → Nat → Nat

end Sys2Proof.Config
end

