-- ==== Sys2Proof/Machine/ObjTable.lean ====
section
/-! DEFINITION. The object dictionary as data: one row per row of the object tables of the chapters (Tables 9-14, 1-14,
2-10, 3-16, 4-8, 5-14, 6-11, 7-14, 8-16, 10-12, 11-6, 12-15, 13-6, 14-7), with type, access, run lock, privilege and
default. Values and effects stand in the chapters' files. -/

namespace Sys2Proof.Machine

/-- Object types of Table 9-1 (`i16` stands in Table 3-16 alone). -/
inductive ObjTy where
  | bool | u8 | u16 | u32 | u64 | i16 | i32 | i64 | time32 | time64
  | bits (n : Nat) | octets (n : Nat) | octetsVar | string (n : Nat)
  deriving DecidableEq, Repr

/-- Access codes of Table 9-2. -/
inductive Access where
  | ro | rw | wo | rc
  deriving DecidableEq, Repr

/-- The Default column: a value, one value per sub-index from the first (0 beyond the list), the boot stream's, or
no stored value. -/
inductive Dflt where
  | val (n : Nat) | subs (l : List Nat) | boot | none
  deriving DecidableEq, Repr

/-- One row: indices base, base+stride, ... (count of them), sub-indices lo to hi. -/
structure ObjDesc where
  base : Nat
  stride : Nat
  count : Nat
  lo : Nat
  hi : Nat
  ty : ObjTy
  acc : Access
  lock : Bool
  priv : Nat
  dflt : Dflt
  deriving DecidableEq, Repr

/-- Rows of the lanes objects, part 1. -/
def lanesRows1 : List ObjDesc := [
  ⟨0x3000, 1, 1, 1, 1, .u8, .ro, false, 0, (.val 64)⟩,  -- 3000h:01 LANES_PER_CLUSTER
  ⟨0x3000, 1, 1, 2, 2, .u16, .ro, false, 0, (.val 1024)⟩,  -- 3000h:02 LBS_BITS
  ⟨0x3000, 1, 1, 3, 3, .u16, .ro, false, 0, (.val 384)⟩,  -- 3000h:03 STATE_BITS
  ⟨0x3000, 1, 1, 4, 4, .u16, .ro, false, 0, (.val 2048)⟩,  -- 3000h:04 WORDS_PER_LANE
  ⟨0x3000, 1, 1, 5, 5, .u16, .ro, false, 0, (.val 1024)⟩,  -- 3000h:05 DICT_ENTRIES
  ⟨0x3000, 1, 1, 6, 6, .u8, .ro, false, 0, (.val 2)⟩,  -- 3000h:06 WRITE_READ_DISTANCE
  ⟨0x3000, 1, 1, 7, 7, .u8, .ro, false, 0, (.val 1)⟩,  -- 3000h:07 CAPTURE_LATENCY
  ⟨0x3000, 1, 1, 8, 8, .u16, .ro, false, 0, (.val 1)⟩,  -- 3000h:08 INSTR_SET_LEVEL
  ⟨0x3010, 1, 1, 1, 1, .u32, .rw, false, 1, (.val 0)⟩,  -- 3010h:01 IM_LANE
  ⟨0x3010, 1, 1, 2, 2, .u16, .rw, false, 1, (.val 0)⟩,  -- 3010h:02 IM_WORD_INDEX
  ⟨0x3010, 1, 1, 3, 3, (.octets 16), .rw, true, 1, .none⟩,  -- 3010h:03 IM_WORD
  ⟨0x3010, 1, 1, 4, 4, .octetsVar, .rw, true, 1, .none⟩,  -- 3010h:04 IM_BLOCK
  ⟨0x3020, 1, 1, 1, 1, .u32, .rc, false, 1, (.val 0)⟩,  -- 3020h:01 IM_CORR_SINGLE
  ⟨0x3020, 1, 1, 2, 2, .u32, .rc, false, 1, (.val 0)⟩,  -- 3020h:02 IM_CORR_DOUBLE
  ⟨0x3020, 1, 1, 3, 3, .u32, .rc, false, 1, (.val 0)⟩,  -- 3020h:03 IM_UNCORRECTABLE
  ⟨0x3020, 1, 1, 4, 4, .u32, .ro, false, 0, (.val 0)⟩,  -- 3020h:04 IM_ERR_LANE
  ⟨0x3020, 1, 1, 5, 5, .u16, .ro, false, 0, (.val 0)⟩,  -- 3020h:05 IM_ERR_WORD
  ⟨0x3020, 1, 1, 6, 6, .u64, .ro, false, 0, (.val 0)⟩,  -- 3020h:06 IM_ERR_CYCLE
  ⟨0x3030, 1, 1, 1, 1, .u32, .rc, false, 1, (.val 0)⟩,  -- 3030h:01 LBS_PARITY_ERRORS
  ⟨0x3030, 1, 1, 2, 2, .u32, .ro, false, 0, (.val 0)⟩,  -- 3030h:02 LBS_ERR_LANE
  ⟨0x3030, 1, 1, 3, 3, .u16, .ro, false, 0, (.val 0)⟩,  -- 3030h:03 LBS_ERR_ADDR
  ⟨0x3030, 1, 1, 4, 4, .u64, .ro, false, 0, (.val 0)⟩,  -- 3030h:04 LBS_ERR_CYCLE
  ⟨0x3040, 1, 1, 1, 1, .u32, .rc, false, 1, (.val 0)⟩,  -- 3040h:01 DICT_CORRECTED
  ⟨0x3040, 1, 1, 2, 2, .u32, .rc, false, 1, (.val 0)⟩,  -- 3040h:02 DICT_UNCORRECTABLE
  ⟨0x3040, 1, 1, 3, 3, .u32, .ro, false, 0, (.val 0)⟩,  -- 3040h:03 DICT_ERR_CLUSTER
  ⟨0x3040, 1, 1, 4, 4, .u16, .ro, false, 0, (.val 0)⟩,  -- 3040h:04 DICT_ERR_ENTRY
  ⟨0x3060, 1, 1, 1, 1, .u32, .rc, false, 1, (.val 0)⟩,  -- 3060h:01 RULE_ST_RANGE
  ⟨0x3060, 1, 1, 2, 2, .u32, .rc, false, 1, (.val 0)⟩,  -- 3060h:02 RULE_EXPORT_SHARED
  ⟨0x3060, 1, 1, 3, 3, .u32, .rc, false, 1, (.val 0)⟩,  -- 3060h:03 RULE_SLOT_OVERFLOW
  ⟨0x3060, 1, 1, 4, 4, .u32, .rc, false, 1, (.val 0)⟩,  -- 3060h:04 RULE_BOUNDARY_OVERFLOW
  ⟨0x3060, 1, 1, 5, 5, .u32, .rc, false, 1, (.val 0)⟩,  -- 3060h:05 RULE_TAP_CONFLICT
  ⟨0x3060, 1, 1, 6, 6, .u32, .rc, false, 1, (.val 0)⟩,  -- 3060h:06 RULE_MEM_NO_PORT
  ⟨0x3100, 1, 1, 1, 1, .u32, .rw, false, 1, (.val 0)⟩,  -- 3100h:01 DICT_CLUSTER
  ⟨0x3100, 1, 1, 2, 2, .u8, .rw, false, 1, (.val 0)⟩,  -- 3100h:02 DICT_BANK
  ⟨0x3100, 1, 1, 3, 3, .u16, .rw, false, 1, (.val 16)⟩,  -- 3100h:03 DICT_ENTRY_INDEX
  ⟨0x3100, 1, 1, 4, 4, .u64, .rw, false, 1, .none⟩,  -- 3100h:04 DICT_ENTRY
  ⟨0x3100, 1, 1, 5, 5, .octetsVar, .rw, false, 1, .none⟩,  -- 3100h:05 DICT_BLOCK
  ⟨0x3100, 1, 1, 6, 6, .u32, .wo, false, 1, .none⟩,  -- 3100h:06 DICT_SEAL
  ⟨0x3100, 1, 1, 7, 7, .u8, .ro, false, 0, (.val 0)⟩,  -- 3100h:07 DICT_SHADOW_STATE
  ⟨0x3110, 1, 1, 1, 1, (.bits 128), .rw, false, 1, (.val (2 ^ 128 - 1))⟩  -- 3110h:01 SWAP_SCOPE
]

/-- Rows of the lanes objects, part 2. -/
def lanesRows2 : List ObjDesc := [
  ⟨0x3110, 1, 1, 2, 2, .u8, .wo, false, 1, .none⟩,  -- 3110h:02 SWAP_COMMAND
  ⟨0x3110, 1, 1, 3, 3, .u8, .ro, false, 0, (.val 0)⟩,  -- 3110h:03 SWAP_STATE
  ⟨0x3110, 1, 1, 4, 4, .u64, .ro, false, 0, (.val 0)⟩,  -- 3110h:04 SWAP_CYCLE
  ⟨0x3110, 1, 1, 5, 5, .u16, .ro, false, 0, (.val 0)⟩,  -- 3110h:05 SWAP_UNSEALED
  ⟨0x3200, 1, 1, 1, 1, .u32, .rw, false, 1, (.val 0)⟩,  -- 3200h:01 LBS_LANE
  ⟨0x3200, 1, 1, 2, 2, .u16, .rw, false, 1, (.val 0)⟩,  -- 3200h:02 LBS_ADDRESS
  ⟨0x3200, 1, 1, 3, 3, .u8, .rw, false, 1, (.val 0)⟩,  -- 3200h:03 LBS_PLANE
  ⟨0x3200, 1, 1, 4, 4, .bool, .rw, true, 1, .none⟩,  -- 3200h:04 LBS_BIT
  ⟨0x3200, 1, 1, 5, 5, (.octets 128), .rw, true, 1, .none⟩,  -- 3200h:05 LBS_BLOCK
  ⟨0x3210, 1, 1, 1, 1, .u32, .rw, false, 1, (.val 0)⟩,  -- 3210h:01 DEP_LANE
  ⟨0x3210, 1, 1, 2, 2, .u16, .rw, false, 1, (.val 0)⟩,  -- 3210h:02 DEP_ADDRESS
  ⟨0x3210, 1, 1, 3, 3, .bool, .wo, false, 1, .none⟩,  -- 3210h:03 DEP_VALUE
  ⟨0x3210, 1, 1, 4, 4, .u16, .ro, false, 0, (.val 256)⟩,  -- 3210h:04 DEP_QUEUE_FREE
  ⟨0x3300, 1, 1, 1, 1, .bool, .ro, false, 0, (.val 0)⟩  -- 3300h:01 FIRST_CYCLE
]

/-- Rows of the lanes objects. -/
def lanesRows : List ObjDesc := lanesRows1 ++ lanesRows2

/-- Rows of the sweeps objects, part 1. -/
def sweepsRows1 : List ObjDesc := [
  ⟨0x3400, 1, 1, 1, 1, .u8, .wo, false, 1, .none⟩,  -- 3400h:01 RUN_COMMAND
  ⟨0x3400, 1, 1, 2, 2, .u32, .rw, false, 1, (.val 1)⟩,  -- 3400h:02 STEP_COUNT
  ⟨0x3400, 1, 1, 3, 3, .u64, .rw, false, 1, (.val 0)⟩,  -- 3400h:03 RUN_TO_CYCLE
  ⟨0x3400, 1, 1, 4, 4, .u8, .ro, false, 0, (.val 0)⟩,  -- 3400h:04 RUN_STATE
  ⟨0x3400, 1, 1, 5, 5, .u8, .ro, false, 0, (.val 0)⟩,  -- 3400h:05 STOP_CAUSE
  ⟨0x3400, 1, 1, 6, 6, .u8, .rw, false, 1, (.val 0)⟩,  -- 3400h:06 RUN_FLAVOUR
  ⟨0x3400, 1, 1, 7, 7, .bool, .rw, false, 1, (.val 1)⟩,  -- 3400h:07 HALT_ON_LANTERN
  ⟨0x3400, 1, 1, 8, 8, .u64, .ro, false, 0, (.val 0)⟩,  -- 3400h:08 STOP_CYCLE
  ⟨0x3400, 1, 1, 9, 9, (.bits 16), .ro, false, 0, (.val 0)⟩,  -- 3400h:09 STOP_CAUSES
  ⟨0x3400, 1, 1, 10, 10, .u32, .ro, false, 0, (.val 0)⟩,  -- 3400h:0A STEPS_REMAINING
  ⟨0x3410, 1, 1, 1, 1, .u64, .ro, false, 0, (.val 0)⟩,  -- 3410h:01 DESIGN_CYCLE
  ⟨0x3410, 1, 1, 2, 2, .u16, .ro, false, 0, (.val 0)⟩,  -- 3410h:02 LAST_SWEEP_STEPS
  ⟨0x3410, 1, 1, 3, 3, .u32, .ro, false, 0, (.val 0)⟩,  -- 3410h:03 LAST_COMMIT_STEPS
  ⟨0x3410, 1, 1, 4, 4, .u8, .ro, false, 0, (.val 0)⟩,  -- 3410h:04 LAST_VARIANT
  ⟨0x3410, 1, 1, 5, 5, .u32, .rc, false, 1, (.val 0)⟩,  -- 3410h:05 VARIANT_FALLBACKS
  ⟨0x3420, 1, 1, 1, 1, .u8, .ro, false, 0, (.val 1)⟩,  -- 3420h:01 GUARD_LEAD
  ⟨0x3420, 1, 1, 2, 2, (.bits 64), .rw, true, 1, (.val (2 ^ 64 - 1))⟩,  -- 3420h:02 INITIAL_GUARD_0
  ⟨0x3420, 1, 1, 3, 3, (.bits 64), .rw, true, 1, (.val (2 ^ 64 - 1))⟩,  -- 3420h:03 INITIAL_GUARD_1
  ⟨0x3420, 1, 1, 4, 4, (.bits 64), .ro, false, 0, (.val 0)⟩,  -- 3420h:04 LOCAL_GUARD
  ⟨0x3420, 1, 1, 5, 5, (.bits 64), .ro, false, 0, (.val 0)⟩,  -- 3420h:05 COMBINED_GUARD
  ⟨0x3430, 1, 1, 1, 1, .u8, .rw, true, 1, (.val 1)⟩,  -- 3430h:01 VARIANT_ENABLE
  ⟨0x3430, 1, 1, 2, 5, .u16, .rw, true, 1, (.val 0)⟩,  -- 3430h:02–05 VARIANT_START_0–3
  ⟨0x3430, 1, 1, 6, 9, .u16, .rw, true, 1, (.val 2048)⟩,  -- 3430h:06–09 VARIANT_LENGTH_0–3
  ⟨0x3500, 16, 4, 1, 1, .u8, .rw, true, 1, (.val 1)⟩,  -- 35n0h:01 SEG_COUNT
  ⟨0x3500, 16, 4, 2, 2, .u8, .ro, false, 0, (.val 0)⟩,  -- 35n0h:02 SEG_TABLE_STATE
  ⟨0x3500, 16, 4, 16, 79, .u32, .rw, true, 1, (.subs [0x00800080])⟩,  -- 35n0h:10h–4Fh SEG_0–SEG_63
  ⟨0x3440, 1, 1, 1, 1, .u32, .rw, false, 1, (.val 1000000)⟩,  -- 3440h:01 SYNC_TIMEOUT
  ⟨0x3440, 1, 1, 2, 2, (.bits 16), .ro, false, 0, (.val 0)⟩,  -- 3440h:02 HOLD_CAUSES
  ⟨0x3440, 1, 1, 3, 3, .bool, .ro, false, 0, (.val 0)⟩,  -- 3440h:03 SYNC_LEVEL
  ⟨0x3440, 1, 1, 4, 4, .bool, .ro, false, 0, (.val 0)⟩,  -- 3440h:04 SYNC_RELEASED
  ⟨0x3440, 1, 1, 5, 5, (.bits 8), .ro, false, 0, (.val 0)⟩,  -- 3440h:05 NEIGHBOUR_HOLDS
  ⟨0x3450, 1, 1, 1, 1, .u64, .rc, false, 1, (.val 0)⟩,  -- 3450h:01 STRETCHED_CYCLES
  ⟨0x3450, 1, 1, 2, 2, .u64, .rc, false, 1, (.val 0)⟩,  -- 3450h:02 WAIT_BLOCKS
  ⟨0x3450, 1, 1, 3, 3, .u32, .rc, false, 1, (.val 0)⟩,  -- 3450h:03 LONGEST_COMMIT
  ⟨0x3450, 1, 1, 16, 25, .u64, .rc, false, 1, (.val 0)⟩,  -- 3450h:10h–19h WAIT_BLOCKS_CAUSE_0–9
  ⟨0x3460, 1, 1, 1, 1, .u32, .ro, false, 0, (.val 1600000)⟩,  -- 3460h:01 STEP_FREQ
  ⟨0x3460, 1, 1, 2, 2, .u32, .rw, false, 1, (.val 1600000)⟩,  -- 3460h:02 STEP_FREQ_REQUEST
  ⟨0x3460, 1, 1, 3, 3, .u64, .rw, false, 1, (.val 0)⟩,  -- 3460h:03 FREQ_CHANGE_CYCLE
  ⟨0x3460, 1, 1, 4, 4, .bool, .ro, false, 0, (.val 0)⟩,  -- 3460h:04 COASTING
  ⟨0x3460, 1, 1, 5, 5, .u8, .ro, false, 0, (.val 0)⟩  -- 3460h:05 FREQ_CHANGE_STATE
]

/-- Rows of the sweeps objects. -/
def sweepsRows : List ObjDesc := sweepsRows1

/-- Rows of the exchange objects, part 1. -/
def exchangeRows1 : List ObjDesc := [
  ⟨0x3800, 1, 1, 1, 1, .u8, .ro, false, 0, (.val 8)⟩,  -- 3800h:01 EXPORT_WIRES
  ⟨0x3800, 1, 1, 2, 2, .u8, .ro, false, 0, (.val 8)⟩,  -- 3800h:02 IMPORT_WIRES
  ⟨0x3800, 1, 1, 3, 3, .u8, .ro, false, 0, (.val 3)⟩,  -- 3800h:03 LAT_INTRA_TILE
  ⟨0x3800, 1, 1, 4, 4, .u8, .ro, false, 0, (.val 1)⟩,  -- 3800h:04 LAT_MESH_HOP
  ⟨0x3800, 1, 1, 5, 5, .u8, .ro, false, 0, (.val 8)⟩,  -- 3800h:05 LAT_BRIDGE
  ⟨0x3800, 1, 1, 6, 6, .u16, .ro, false, 0, (.val 192)⟩,  -- 3800h:06 LAT_ILYAN
  ⟨0x3800, 1, 1, 7, 7, .u8, .ro, false, 0, (.val 32)⟩,  -- 3800h:07 MESH_WIDTH
  ⟨0x3800, 1, 1, 8, 8, .u16, .ro, false, 0, (.val 512)⟩,  -- 3800h:08 BRIDGE_WIDTH
  ⟨0x3800, 1, 1, 9, 9, .u16, .ro, false, 0, (.val 512)⟩,  -- 3800h:09 ILYAN_BITS
  ⟨0x3800, 1, 1, 10, 10, .u8, .ro, false, 0, (.val 16)⟩,  -- 3800h:0A SIDEBAND_BITS
  ⟨0x3800, 1, 1, 11, 11, .u16, .ro, false, 0, (.val 2048)⟩,  -- 3800h:0B EXS_ENTRIES
  ⟨0x3800, 1, 1, 12, 12, .u16, .ro, false, 0, (.val 384)⟩,  -- 3800h:0C EXS_ENTRY_OCTETS
  ⟨0x3800, 1, 1, 13, 13, .u16, .ro, false, 0, (.val 208)⟩,  -- 3800h:0D GUARD_HOP_STEPS
  ⟨0x3810, 1, 1, 1, 1, .u32, .rw, false, 1, (.val 0)⟩,  -- 3810h:01 EXS_TILE
  ⟨0x3810, 1, 1, 2, 2, .u8, .rw, false, 1, (.val 0)⟩,  -- 3810h:02 EXS_BANK
  ⟨0x3810, 1, 1, 3, 3, .u16, .rw, false, 1, (.val 0)⟩,  -- 3810h:03 EXS_ENTRY_INDEX
  ⟨0x3810, 1, 1, 4, 4, (.octets 384), .rw, false, 1, .none⟩,  -- 3810h:04 EXS_ENTRY
  ⟨0x3810, 1, 1, 5, 5, .octetsVar, .rw, false, 1, .none⟩,  -- 3810h:05 EXS_BLOCK
  ⟨0x3810, 1, 1, 6, 6, .u32, .wo, false, 1, .none⟩,  -- 3810h:06 EXS_SEAL
  ⟨0x3810, 1, 1, 7, 7, .u8, .ro, false, 0, (.val 0)⟩,  -- 3810h:07 EXS_SHADOW_STATE
  ⟨0x3820, 1, 1, 1, 1, .u32, .rc, false, 1, (.val 0)⟩,  -- 3820h:01 EXS_CORRECTED
  ⟨0x3820, 1, 1, 2, 2, .u32, .rc, false, 1, (.val 0)⟩,  -- 3820h:02 EXS_UNCORRECTABLE
  ⟨0x3820, 1, 1, 3, 3, .u32, .ro, false, 0, (.val 0)⟩,  -- 3820h:03 EXS_ERR_TILE
  ⟨0x3820, 1, 1, 4, 4, .u16, .ro, false, 0, (.val 0)⟩,  -- 3820h:04 EXS_ERR_ENTRY
  ⟨0x3820, 1, 1, 5, 5, .u64, .ro, false, 0, (.val 0)⟩,  -- 3820h:05 EXS_ERR_CYCLE
  ⟨0x3820, 1, 1, 6, 6, .u32, .rc, false, 1, (.val 0)⟩,  -- 3820h:06 RULE_NO_NEIGHBOUR
  ⟨0x3830, 1, 1, 1, 1, .u8, .ro, false, 0, .none⟩,  -- 3830h:01 MODULE_ID
  ⟨0x3830, 1, 1, 2, 2, .u32, .rw, true, 1, (.val 0)⟩,  -- 3830h:02 SYSTEM_ID
  ⟨0x3830, 1, 1, 3, 3, (.bits 128), .rw, true, 1, (.val 0)⟩,  -- 3830h:03 SYSTEM_MEMBERS
  ⟨0x3830, 1, 1, 4, 4, (.octets 8), .ro, false, 0, (.val 0)⟩,  -- 3830h:04 IMAGE_SYSTEM_TAG
  ⟨0x3830, 1, 1, 5, 5, .u8, .ro, false, 0, (.val 0)⟩,  -- 3830h:05 MEMBER_COUNT
  ⟨0x3840, 1, 1, 1, 1, .u16, .ro, false, 0, (.val 0)⟩,  -- 3840h:01 GUARD_DONE_LAST
  ⟨0x3840, 1, 1, 2, 2, .u16, .rc, false, 1, (.val 0)⟩,  -- 3840h:02 GUARD_DONE_MAX
  ⟨0x3840, 1, 1, 3, 3, .i32, .rc, false, 1, (.val 2147483647)⟩,  -- 3840h:03 GUARD_MIN_SLACK
  ⟨0x3900, 1, 1, 1, 1, (.bits 128), .rw, false, 1, (.val (2 ^ 128 - 1))⟩,  -- 3900h:01 XSWAP_SCOPE
  ⟨0x3900, 1, 1, 2, 2, .u8, .wo, false, 1, .none⟩,  -- 3900h:02 XSWAP_COMMAND
  ⟨0x3900, 1, 1, 3, 3, .u8, .ro, false, 0, (.val 0)⟩,  -- 3900h:03 XSWAP_STATE
  ⟨0x3900, 1, 1, 4, 4, .u64, .ro, false, 0, (.val 0)⟩,  -- 3900h:04 XSWAP_CYCLE
  ⟨0x3900, 1, 1, 5, 5, .u16, .ro, false, 0, (.val 0)⟩,  -- 3900h:05 XSWAP_UNSEALED
  ⟨0x3A00, 1, 8, 1, 1, .bool, .rw, true, 1, (.val 1)⟩  -- 3A0nh:01 LINK_ENABLE
]

/-- Rows of the exchange objects, part 2. -/
def exchangeRows2 : List ObjDesc := [
  ⟨0x3A00, 1, 8, 2, 2, .bool, .ro, false, 0, (.val 0)⟩,  -- 3A0nh:02 EXCHANGE_ENABLED
  ⟨0x3A00, 1, 8, 3, 3, .u8, .ro, false, 0, (.val 0)⟩,  -- 3A0nh:03 PORT_STATE
  ⟨0x3A00, 1, 8, 4, 4, .u8, .ro, false, 0, (.val 0)⟩,  -- 3A0nh:04 REFUSE_REASON
  ⟨0x3A00, 1, 8, 5, 5, .u8, .ro, false, 0, (.val 255)⟩,  -- 3A0nh:05 PARTNER_ID
  ⟨0x3A00, 1, 8, 6, 6, .u8, .ro, false, 0, (.val 255)⟩,  -- 3A0nh:06 PARTNER_PORT
  ⟨0x3A00, 1, 8, 7, 7, .u16, .ro, false, 0, (.val 0)⟩,  -- 3A0nh:07 TRANSIT
  ⟨0x3A00, 1, 8, 8, 8, .i16, .ro, false, 0, (.val 0)⟩,  -- 3A0nh:08 SLACK
  ⟨0x3A00, 1, 8, 9, 9, .u8, .ro, false, 0, (.val 15)⟩,  -- 3A0nh:09 SPARE_FOR
  ⟨0x3A00, 1, 8, 10, 10, .u32, .rw, false, 1, (.val 10000)⟩,  -- 3A0nh:0A SPARE_THRESHOLD
  ⟨0x3A00, 1, 8, 11, 11, .u8, .ro, false, 0, (.val 0)⟩,  -- 3A0nh:0B LANE_ORDER
  ⟨0x3A00, 1, 8, 12, 12, (.bits 9), .ro, false, 0, (.val 0)⟩,  -- 3A0nh:0C POLARITY
  ⟨0x3A00, 1, 8, 13, 13, .u32, .rc, false, 1, (.val 0)⟩,  -- 3A0nh:0D LINK_UPS
  ⟨0x3A00, 1, 8, 14, 14, .u32, .ro, false, 0, (.val 0)⟩,  -- 3A0nh:0E TRAINING_TIME
  ⟨0x3B00, 1, 8, 1, 9, .u64, .rc, false, 1, (.val 0)⟩,  -- 3B0nh:01–09 LANE_CORRECTED_0–8
  ⟨0x3B00, 1, 8, 10, 10, .u64, .rc, false, 1, (.val 0)⟩,  -- 3B0nh:0A CODEWORDS
  ⟨0x3B00, 1, 8, 11, 11, .u64, .rc, false, 1, (.val 0)⟩,  -- 3B0nh:0B CORRECTED_CODEWORDS
  ⟨0x3B00, 1, 8, 12, 12, .u64, .rc, false, 1, (.val 0)⟩,  -- 3B0nh:0C BAD_FRAMES
  ⟨0x3B00, 1, 8, 13, 13, .u32, .rc, false, 1, (.val 0)⟩,  -- 3B0nh:0D SIDEBAND_DISCARDS
  ⟨0x3B00, 1, 8, 14, 14, .u64, .rc, false, 1, (.val 0)⟩,  -- 3B0nh:0E FILL_SUPERFRAMES
  ⟨0x3C00, 1, 1, 1, 1, .u8, .rw, false, 2, (.val 0)⟩,  -- 3C00h:01 TEST_PORT
  ⟨0x3C00, 1, 1, 2, 2, .u8, .rw, false, 2, (.val 0)⟩,  -- 3C00h:02 TEST_LANE
  ⟨0x3C00, 1, 1, 3, 3, .u16, .rw, false, 2, (.val 100)⟩,  -- 3C00h:03 TEST_DURATION
  ⟨0x3C00, 1, 1, 4, 4, .u8, .wo, false, 2, .none⟩,  -- 3C00h:04 TEST_COMMAND
  ⟨0x3C00, 1, 1, 5, 5, .u8, .ro, false, 0, (.val 0)⟩,  -- 3C00h:05 TEST_STATE
  ⟨0x3C00, 1, 1, 6, 6, .u8, .ro, false, 0, (.val 0)⟩,  -- 3C00h:06 TEST_RESULT
  ⟨0x3C00, 1, 1, 7, 7, .u64, .ro, false, 0, (.val 0)⟩,  -- 3C00h:07 TEST_BIT_ERRORS
  ⟨0x3C00, 1, 1, 8, 8, .u8, .ro, false, 0, (.val 0)⟩,  -- 3C00h:08 TEST_MARGIN_V
  ⟨0x3C00, 1, 1, 9, 9, .u8, .ro, false, 0, (.val 0)⟩,  -- 3C00h:09 TEST_MARGIN_H
  ⟨0x3F00, 1, 1, 1, 1, .u32, .rc, false, 1, (.val 0)⟩,  -- 3F00h:01 LOCKSTEP_FAULTS
  ⟨0x3F00, 1, 1, 2, 2, .u8, .ro, false, 0, (.val 0)⟩,  -- 3F00h:02 LF_KIND
  ⟨0x3F00, 1, 1, 3, 3, .u8, .ro, false, 0, (.val 255)⟩,  -- 3F00h:03 LF_PORT
  ⟨0x3F00, 1, 1, 4, 4, .u64, .ro, false, 0, (.val 0)⟩,  -- 3F00h:04 LF_CYCLE
  ⟨0x3F00, 1, 1, 5, 5, .u16, .ro, false, 0, (.val 0)⟩,  -- 3F00h:05 LF_STEP
  ⟨0x3F00, 1, 1, 6, 6, .u8, .ro, false, 0, (.val 255)⟩  -- 3F00h:06 LF_REMOTE_ID
]

/-- Rows of the exchange objects. -/
def exchangeRows : List ObjDesc := exchangeRows1 ++ exchangeRows2

/-- Rows of the memory objects, part 1. -/
def memoryRows1 : List ObjDesc := [
  ⟨0x4000, 1, 1, 1, 1, .u8, .ro, false, 0, (.val 4)⟩,  -- 4000h:01 BANKS_PER_TILE
  ⟨0x4000, 1, 1, 2, 2, .u32, .ro, false, 0, (.val 65536)⟩,  -- 4000h:02 BANK_WORDS
  ⟨0x4000, 1, 1, 3, 3, .u8, .ro, false, 0, (.val 2)⟩,  -- 4000h:03 ACCESS_SPACING
  ⟨0x4000, 1, 1, 4, 4, .u8, .ro, false, 0, (.val 4)⟩,  -- 4000h:04 READ_LATENCY
  ⟨0x4000, 1, 1, 5, 5, .u8, .ro, false, 0, (.val 1)⟩,  -- 4000h:05 FAR_LATENCY_CYCLES
  ⟨0x4000, 1, 1, 6, 6, .u8, .ro, false, 0, (.val 16)⟩,  -- 4000h:06 FAR_ACCESSES
  ⟨0x4000, 1, 1, 7, 7, .u8, .ro, false, 0, (.val 8)⟩,  -- 4000h:07 COMMIT_HOST_SLOTS
  ⟨0x4010, 1, 1, 1, 1, .u32, .rw, false, 1, (.val 0)⟩,  -- 4010h:01 PORT_TILE
  ⟨0x4010, 1, 1, 2, 9, .u8, .rw, true, 1, (.val 255)⟩,  -- 4010h:02–09 OWNER_MB0A–MB3B
  ⟨0x4010, 1, 1, 10, 10, .u8, .rw, true, 1, (.val 255)⟩,  -- 4010h:0A OWNER_FAR
  ⟨0x4010, 1, 1, 11, 11, (.bits 4), .rw, true, 1, (.val 0)⟩,  -- 4010h:0B COMPAT_MODE
  ⟨0x4020, 1, 1, 1, 1, .u64, .rc, false, 1, (.val 0)⟩,  -- 4020h:01 DOUBLE_WRITES
  ⟨0x4020, 1, 1, 2, 2, .u64, .rc, false, 1, (.val 0)⟩,  -- 4020h:02 C7_BUSY
  ⟨0x4020, 1, 1, 3, 3, .u32, .ro, false, 0, (.val 0)⟩,  -- 4020h:03 COLL_TILE
  ⟨0x4020, 1, 1, 4, 4, .u8, .ro, false, 0, (.val 0)⟩,  -- 4020h:04 COLL_BANK
  ⟨0x4020, 1, 1, 5, 5, .u16, .ro, false, 0, (.val 0)⟩,  -- 4020h:05 COLL_WORD
  ⟨0x4020, 1, 1, 6, 6, .u64, .ro, false, 0, (.val 0)⟩,  -- 4020h:06 COLL_CYCLE
  ⟨0x4030, 1, 1, 1, 1, .u32, .rc, false, 1, (.val 0)⟩,  -- 4030h:01 RULE_SPACING
  ⟨0x4030, 1, 1, 2, 2, .u32, .rc, false, 1, (.val 0)⟩,  -- 4030h:02 RULE_FAR_EXCESS
  ⟨0x4030, 1, 1, 3, 3, .u32, .rc, false, 1, (.val 0)⟩,  -- 4030h:03 RULE_FAR_READS
  ⟨0x4030, 1, 1, 4, 4, .u32, .rc, false, 1, (.val 0)⟩,  -- 4030h:04 RULE_FAR_RANGE
  ⟨0x4030, 1, 1, 5, 5, .u32, .rc, false, 1, (.val 0)⟩,  -- 4030h:05 RULE_LATE_READ
  ⟨0x4030, 1, 1, 6, 6, .u32, .rc, false, 1, (.val 0)⟩,  -- 4030h:06 BAR2_FAR_DISCARDS
  ⟨0x4040, 1, 1, 1, 1, .u64, .rc, false, 1, (.val 0)⟩,  -- 4040h:01 DM_CORRECTED
  ⟨0x4040, 1, 1, 2, 2, .u32, .rc, false, 1, (.val 0)⟩,  -- 4040h:02 DM_UNCORRECTABLE
  ⟨0x4040, 1, 1, 3, 3, .u32, .ro, false, 0, (.val 0)⟩,  -- 4040h:03 DM_ERR_TILE
  ⟨0x4040, 1, 1, 4, 4, .u8, .ro, false, 0, (.val 0)⟩,  -- 4040h:04 DM_ERR_BANK
  ⟨0x4040, 1, 1, 5, 5, .u16, .ro, false, 0, (.val 0)⟩,  -- 4040h:05 DM_ERR_WORD
  ⟨0x4040, 1, 1, 6, 6, .u64, .ro, false, 0, (.val 0)⟩,  -- 4040h:06 DM_ERR_CYCLE
  ⟨0x4040, 1, 1, 7, 7, .u32, .rc, false, 1, (.val 0)⟩,  -- 4040h:07 FAR_UNCORRECTABLE
  ⟨0x4040, 1, 1, 8, 8, .u64, .ro, false, 0, (.val 0)⟩,  -- 4040h:08 FAR_ERR_ADDRESS
  ⟨0x4100, 1, 1, 1, 8, .u8, .ro, false, 0, (.subs [64, 16, 16, 16, 8, 4, 4, 0])⟩,  -- 4100h:01–08 REGION_UNITS_1–8
  ⟨0x4100, 1, 1, 9, 9, .u16, .ro, false, 0, (.val 4096)⟩,  -- 4100h:09 RESERVED_BW
  ⟨0x4110, 1, 1, 1, 1, (.octets 128), .rw, false, 2, (.val 0x101010101010101010101010101010102020202030303030404040405050607010101010101010101010101010101010202020203030303040404040505060701010101010101010101010101010101020202020303030304040404050506070101010101010101010101010101010102020202030303030404040405050607)⟩,  -- 4110h:01 LAYOUT
  ⟨0x4110, 1, 1, 2, 2, .u8, .wo, false, 2, .none⟩,  -- 4110h:02 LAYOUT_COMMAND
  ⟨0x4110, 1, 1, 3, 3, .u8, .ro, false, 0, (.val 0)⟩,  -- 4110h:03 LAYOUT_STATE
  ⟨0x4200, 1, 1, 1, 1, .u32, .rw, false, 1, (.val 0)⟩,  -- 4200h:01 DM_TILE
  ⟨0x4200, 1, 1, 2, 2, .u8, .rw, false, 1, (.val 0)⟩,  -- 4200h:02 DM_BANK
  ⟨0x4200, 1, 1, 3, 3, .u16, .rw, false, 1, (.val 0)⟩,  -- 4200h:03 DM_WORD_INDEX
  ⟨0x4200, 1, 1, 4, 4, .u64, .rw, false, 1, .none⟩  -- 4200h:04 DM_WORD
]

/-- Rows of the memory objects, part 2. -/
def memoryRows2 : List ObjDesc := [
  ⟨0x4200, 1, 1, 5, 5, .octetsVar, .rw, false, 1, .none⟩,  -- 4200h:05 DM_BLOCK
  ⟨0x4200, 1, 1, 6, 6, .u8, .ro, false, 0, .none⟩,  -- 4200h:06 FUSED_COLUMNS
  ⟨0x4210, 1, 1, 1, 1, .u64, .rw, false, 1, (.val 0)⟩,  -- 4210h:01 FAR_WORD_INDEX
  ⟨0x4210, 1, 1, 2, 2, .u64, .rw, false, 1, .none⟩,  -- 4210h:02 FAR_WORD
  ⟨0x4210, 1, 1, 3, 3, .octetsVar, .rw, false, 1, .none⟩,  -- 4210h:03 FAR_BLOCK
  ⟨0x4220, 1, 1, 1, 1, .u16, .ro, false, 0, (.val 1024)⟩,  -- 4220h:01 WQ_FREE
  ⟨0x4220, 1, 1, 2, 2, .u64, .rc, false, 1, (.val 0)⟩  -- 4220h:02 WQ_APPLIED
]

/-- Rows of the memory objects. -/
def memoryRows : List ObjDesc := memoryRows1 ++ memoryRows2

/-- Rows of the lantern objects, part 1. -/
def lanternRows1 : List ObjDesc := [
  ⟨0x5000, 1, 1, 1, 1, .u8, .ro, false, 0, (.val 16)⟩,  -- 5000h:01 SLOTS_PER_TILE
  ⟨0x5000, 1, 1, 2, 2, .u32, .ro, false, 0, (.val 65536)⟩,  -- 5000h:02 MAX_GROUPS
  ⟨0x5000, 1, 1, 3, 3, .u8, .ro, false, 0, (.val 64)⟩,  -- 5000h:03 MAX_GROUP_BITS
  ⟨0x5000, 1, 1, 4, 4, .u16, .ro, false, 0, (.val 1024)⟩,  -- 5000h:04 SEGMENTS
  ⟨0x5000, 1, 1, 5, 5, .u8, .ro, false, 0, (.val 16)⟩,  -- 5000h:05 COMPARATORS
  ⟨0x5000, 1, 1, 6, 6, .u8, .ro, false, 0, (.val 4)⟩,  -- 5000h:06 COUNTERS
  ⟨0x5000, 1, 1, 7, 7, .u8, .ro, false, 0, (.val 8)⟩,  -- 5000h:07 SEQ_STATES
  ⟨0x5000, 1, 1, 8, 8, .u16, .ro, false, 0, (.val 256)⟩,  -- 5000h:08 MINMAX_ENTRIES
  ⟨0x5000, 1, 1, 9, 9, .u8, .ro, false, 0, (.val 2)⟩,  -- 5000h:09 FEEDBACK_LATENCY
  ⟨0x5000, 1, 1, 10, 10, .u8, .ro, false, 0, (.val 2)⟩,  -- 5000h:0A REARM_CYCLES
  ⟨0x5000, 1, 1, 11, 11, .u16, .ro, false, 0, (.val 320)⟩,  -- 5000h:0B EXT_CHANNELS
  ⟨0x5000, 1, 1, 12, 12, .u16, .ro, false, 0, (.val 800)⟩,  -- 5000h:0C EXT_MAX_RATE
  ⟨0x5000, 1, 1, 13, 13, .u8, .ro, false, 0, (.val 5)⟩,  -- 5000h:0D DELAY_STEP
  ⟨0x5000, 1, 1, 14, 14, .u8, .ro, false, 0, (.val 25)⟩,  -- 5000h:0E SKEW_LIMIT
  ⟨0x5000, 1, 1, 15, 15, .u16, .ro, false, 0, (.val 4096)⟩,  -- 5000h:0F BLOCK_OCTETS
  ⟨0x5100, 1, 1, 1, 1, .u32, .rw, false, 1, (.val 0)⟩,  -- 5100h:01 PMAP_INDEX
  ⟨0x5100, 1, 1, 2, 2, .u32, .rw, false, 1, (.val 0)⟩,  -- 5100h:02 PMAP_ENTRY
  ⟨0x5100, 1, 1, 3, 3, .octetsVar, .rw, false, 1, .none⟩,  -- 5100h:03 PMAP_BLOCK
  ⟨0x5100, 1, 1, 4, 4, .u32, .ro, false, 0, (.val 0)⟩,  -- 5100h:04 GROUP_COUNT
  ⟨0x5100, 1, 1, 5, 5, .u16, .rw, false, 1, (.val 0)⟩,  -- 5100h:05 GROUP_INDEX
  ⟨0x5100, 1, 1, 6, 6, .u8, .ro, false, 0, (.val 0)⟩,  -- 5100h:06 GROUP_WIDTH
  ⟨0x5100, 1, 1, 7, 7, .bool, .ro, false, 0, (.val 0)⟩,  -- 5100h:07 GROUP_PUBLIC
  ⟨0x5100, 1, 1, 8, 8, (.bits 65536), .rw, false, 1, (.val 0)⟩,  -- 5100h:08 CAPTURE_SELECT
  ⟨0x5100, 1, 1, 9, 9, .u32, .ro, false, 0, (.val 0)⟩,  -- 5100h:09 SELECTED_BITS
  ⟨0x5100, 1, 1, 10, 10, .u32, .ro, false, 0, (.val 2)⟩,  -- 5100h:0A RAW_WORDS
  ⟨0x5100, 1, 1, 11, 11, .bool, .ro, false, 0, (.val 0)⟩,  -- 5100h:0B TAPS_PUBLIC
  ⟨0x5200, 1, 1, 1, 1, .u8, .wo, false, 1, .none⟩,  -- 5200h:01 ARM_COMMAND
  ⟨0x5200, 1, 1, 2, 2, .u8, .ro, false, 0, (.val 0)⟩,  -- 5200h:02 ACQ_STATE
  ⟨0x5200, 1, 1, 3, 3, .u8, .rw, false, 1, (.val 0)⟩,  -- 5200h:03 STORE_MODE
  ⟨0x5200, 1, 1, 4, 4, .u64, .rw, false, 1, (.val 0)⟩,  -- 5200h:04 PRE_DEPTH
  ⟨0x5200, 1, 1, 5, 5, .u64, .rw, false, 1, (.val 1)⟩,  -- 5200h:05 POST_LENGTH
  ⟨0x5200, 1, 1, 6, 6, .u16, .rw, false, 1, (.val 0)⟩,  -- 5200h:06 FIRST_SEG
  ⟨0x5200, 1, 1, 7, 7, .u16, .rw, false, 1, (.val 0)⟩,  -- 5200h:07 LAST_SEG
  ⟨0x5200, 1, 1, 8, 8, .u16, .ro, false, 0, (.val 0)⟩,  -- 5200h:08 CURRENT_SEG
  ⟨0x5200, 1, 1, 9, 9, .u16, .ro, false, 0, (.val 0)⟩,  -- 5200h:09 SEGS_CLOSED
  ⟨0x5200, 1, 1, 10, 10, .bool, .rw, false, 1, (.val 1)⟩,  -- 5200h:0A GATE_AT_ARM
  ⟨0x5200, 1, 1, 11, 11, .bool, .ro, false, 0, (.val 0)⟩,  -- 5200h:0B STORE_GATE
  ⟨0x5210, 1, 1, 1, 1, .u32, .rc, false, 1, (.val 0)⟩,  -- 5210h:01 IGN_PREFILL
  ⟨0x5210, 1, 1, 2, 2, .u32, .rc, false, 1, (.val 0)⟩,  -- 5210h:02 IGN_REARM
  ⟨0x5210, 1, 1, 3, 3, .u32, .rc, false, 1, (.val 0)⟩  -- 5210h:03 IGN_DONE
]

/-- Rows of the lantern objects, part 2. -/
def lanternRows2 : List ObjDesc := [
  ⟨0x5210, 1, 1, 4, 4, .u32, .rc, false, 1, (.val 0)⟩,  -- 5210h:04 IGN_POST
  ⟨0x5300, 1, 1, 1, 1, .u16, .rw, false, 1, (.val 0)⟩,  -- 5300h:01 SEG_INDEX
  ⟨0x5300, 1, 1, 2, 2, .u32, .rw, false, 1, (.val 0)⟩,  -- 5300h:02 SEG_START
  ⟨0x5300, 1, 1, 3, 3, .u32, .rw, false, 1, (.val 0)⟩,  -- 5300h:03 SEG_BLOCKS
  ⟨0x5300, 1, 1, 4, 4, .u8, .ro, false, 0, (.val 0)⟩,  -- 5300h:04 SEG_STATE
  ⟨0x5300, 1, 1, 5, 5, .bool, .ro, false, 0, (.val 0)⟩,  -- 5300h:05 SEG_WRAPPED
  ⟨0x5300, 1, 1, 6, 6, .u64, .ro, false, 0, (.val 0)⟩,  -- 5300h:06 SEG_CAPACITY
  ⟨0x5300, 1, 1, 7, 7, .u64, .ro, false, 0, (.val 0)⟩,  -- 5300h:07 SEG_READ_START
  ⟨0x5300, 1, 1, 8, 8, .u64, .ro, false, 0, (.val 0)⟩,  -- 5300h:08 SEG_WRITE_END
  ⟨0x5300, 1, 1, 9, 9, .u64, .ro, false, 0, (.val 0)⟩,  -- 5300h:09 SEG_TRIGGER
  ⟨0x5300, 1, 1, 10, 10, .u64, .ro, false, 0, (.val 0)⟩,  -- 5300h:0A SEG_FIRST
  ⟨0x5300, 1, 1, 11, 11, .u64, .ro, false, 0, (.val 0)⟩,  -- 5300h:0B SEG_LAST
  ⟨0x5300, 1, 1, 12, 12, .u64, .ro, false, 0, (.val 0)⟩,  -- 5300h:0C SEG_REPLAYED_FROM
  ⟨0x5400, 1, 16, 1, 1, .u32, .rw, false, 1, (.val 0)⟩,  -- 540nh:01–04 CMP_n
  ⟨0x5400, 1, 16, 2, 2, .u64, .rw, false, 1, (.val 0)⟩,  -- 540nh:01–04 CMP_n
  ⟨0x5400, 1, 16, 3, 3, .u64, .rw, false, 1, (.val 0)⟩,  -- 540nh:01–04 CMP_n
  ⟨0x5400, 1, 16, 4, 4, .u8, .rw, false, 1, (.val 0)⟩,  -- 540nh:01–04 CMP_n
  ⟨0x5400, 1, 16, 5, 5, .u64, .rc, false, 1, (.val 0)⟩,  -- 540nh:05 CMP_MATCHES
  ⟨0x5500, 1, 4, 1, 1, .u64, .rw, false, 1, (.val 0)⟩,  -- 550nh:01 CNT_LIMIT
  ⟨0x5500, 1, 4, 2, 2, .u64, .ro, false, 0, (.val 0)⟩,  -- 550nh:02 CNT_VALUE
  ⟨0x5500, 1, 4, 3, 3, .bool, .ro, false, 0, (.val 0)⟩,  -- 550nh:03 CNT_TERMINAL
  ⟨0x5600, 16, 8, 1, 1, .u64, .rw, false, 1, (.val 0)⟩,  -- 56s0h:01 BRANCH0
  ⟨0x5600, 16, 8, 2, 2, .u64, .rw, false, 1, (.val 0)⟩,  -- 56s0h:02 BRANCH1
  ⟨0x5600, 16, 8, 3, 3, .u8, .rw, false, 1, (.val 0)⟩,  -- 56s0h:03 STATE_CNT_OP
  ⟨0x5680, 1, 1, 1, 1, .u8, .ro, false, 0, (.val 0)⟩,  -- 5680h:01 SEQ_STATE
  ⟨0x5680, 1, 1, 2, 2, .u8, .rw, false, 1, (.val 0)⟩,  -- 5680h:02 SEQ_START
  ⟨0x5680, 1, 1, 3, 3, .bool, .ro, false, 0, (.val 0)⟩,  -- 5680h:03 FEEDBACK
  ⟨0x5690, 1, 1, 1, 4, .u64, .rc, false, 1, (.val 0)⟩,  -- 5690h:01–04 ACT_TRIGGERS, ACT_MARKS, ACT_HALTS, ACT_NOTIFIES
  ⟨0x5700, 1, 1, 1, 1, .u32, .rw, false, 1, (.val 1024)⟩,  -- 5700h:01 MM_INTERVAL
  ⟨0x5700, 1, 1, 2, 2, .u16, .rw, false, 1, (.val 0)⟩,  -- 5700h:02 MM_COUNT
  ⟨0x5700, 1, 1, 3, 3, .u16, .rw, false, 1, (.val 0)⟩,  -- 5700h:03 MM_SEGMENT
  ⟨0x5700, 1, 1, 4, 4, .u8, .rw, false, 1, (.val 0)⟩,  -- 5700h:04 MM_INDEX
  ⟨0x5700, 1, 1, 5, 5, .u32, .rw, false, 1, (.val 0)⟩,  -- 5700h:05 MM_ENTRY
  ⟨0x5800, 1, 1, 1, 1, (.bits 320), .rw, true, 1, (.val 0)⟩,  -- 5800h:01 EXT_ENABLE
  ⟨0x5800, 1, 1, 2, 2, .u8, .rw, false, 1, (.val 0)⟩,  -- 5800h:02 EXT_RATE
  ⟨0x5800, 1, 1, 3, 3, .u16, .rw, false, 1, (.val 0)⟩,  -- 5800h:03 EXT_SEGMENT
  ⟨0x5800, 1, 1, 4, 4, .u8, .ro, false, 0, (.val 0)⟩,  -- 5800h:04 CAL_STATE
  ⟨0x5800, 1, 1, 5, 5, .u64, .ro, false, 0, (.val 0)⟩,  -- 5800h:05 CAL_CYCLE
  ⟨0x5800, 1, 1, 6, 6, .u8, .ro, false, 0, (.val 0)⟩,  -- 5800h:06 CAL_RESIDUAL
  ⟨0x5810, 1, 1, 1, 64, .u16, .rw, false, 1, (.val 65535)⟩  -- 5810h:01–40h EXT_VECTOR_MAP
]

/-- Rows of the lantern objects, part 3. -/
def lanternRows3 : List ObjDesc := [
  ⟨0x5900, 1, 1, 1, 1, .u16, .rw, false, 1, (.val 1000)⟩,  -- 5900h:01 STAMP_MAX_GAP
  ⟨0x5A00, 1, 1, 1, 1, .u32, .wo, false, 1, .none⟩,  -- 5A00h:01 HOST_MARK
  ⟨0x5B00, 1, 1, 1, 1, .u16, .rw, false, 0, (.val 0)⟩,  -- 5B00h:01 RD_SEGMENT
  ⟨0x5B00, 1, 1, 2, 2, .u64, .rw, false, 0, (.val 0)⟩,  -- 5B00h:02 RD_WORD
  ⟨0x5B00, 1, 1, 3, 3, .octetsVar, .ro, false, 0, .none⟩  -- 5B00h:03 RD_DATA
]

/-- Rows of the lantern objects. -/
def lanternRows : List ObjDesc := lanternRows1 ++ lanternRows2 ++ lanternRows3

/-- Rows of the rewind objects, part 1. -/
def rewindRows1 : List ObjDesc := [
  ⟨0x4800, 1, 1, 1, 1, .u32, .rw, true, 1, (.val 65536)⟩,  -- 4800h:01 CKPT_INTERVAL
  ⟨0x4800, 1, 1, 2, 2, .u16, .ro, false, 0, (.val 1024)⟩,  -- 4800h:02 CKPT_MIN_INTERVAL
  ⟨0x4800, 1, 1, 3, 3, .u8, .ro, false, 0, (.val 64)⟩,  -- 4800h:03 CKPT_MAX
  ⟨0x4800, 1, 1, 4, 4, .u8, .ro, false, 0, (.val 0)⟩,  -- 4800h:04 CKPT_COMPLETE
  ⟨0x4800, 1, 1, 5, 5, .u64, .ro, false, 0, (.val 18446744073709551615)⟩,  -- 4800h:05 WINDOW_FIRST
  ⟨0x4800, 1, 1, 6, 6, .u64, .ro, false, 0, (.val 18446744073709551615)⟩,  -- 4800h:06 WINDOW_LAST
  ⟨0x4800, 1, 1, 7, 7, .u64, .ro, false, 0, (.val 18446744073709551615)⟩,  -- 4800h:07 NEWEST_CKPT
  ⟨0x4800, 1, 1, 8, 8, .u8, .wo, false, 1, .none⟩,  -- 4800h:08 CKPT_COMMAND
  ⟨0x4800, 1, 1, 9, 9, .u32, .ro, false, 0, (.val 0)⟩,  -- 4800h:09 DRAIN_TIME_LAST
  ⟨0x4800, 1, 1, 10, 10, .u32, .ro, false, 0, .none⟩,  -- 4800h:0A RING_FREE
  ⟨0x4800, 1, 1, 11, 11, .u64, .ro, false, 0, .none⟩,  -- 4800h:0B LOG_FREE
  ⟨0x4800, 1, 1, 12, 12, .bool, .rw, false, 1, (.val 1)⟩,  -- 4800h:0C AUTO_RECOVERY
  ⟨0x4800, 1, 1, 13, 13, .u32, .rc, false, 1, (.val 0)⟩,  -- 4800h:0D BAR2_CKPT_DISCARDS
  ⟨0x4810, 1, 1, 1, 1, .u16, .ro, false, 0, (.val 256)⟩,  -- 4810h:01 COW_BLOCK_OCTETS
  ⟨0x4810, 1, 1, 2, 2, .u16, .ro, false, 0, (.val 2048)⟩,  -- 4810h:02 COPY_STORE_ENTRIES
  ⟨0x4810, 1, 1, 3, 3, .u32, .rw, false, 1, (.val 0)⟩,  -- 4810h:03 COW_TILE
  ⟨0x4810, 1, 1, 4, 4, .u16, .ro, false, 0, (.val 0)⟩,  -- 4810h:04 COW_DEMAND
  ⟨0x4810, 1, 1, 5, 5, .u16, .ro, false, 0, (.val 2048)⟩,  -- 4810h:05 COW_FREE
  ⟨0x4810, 1, 1, 6, 6, .u64, .rc, false, 1, (.val 0)⟩,  -- 4810h:06 COW_COPIES
  ⟨0x4810, 1, 1, 7, 7, .u32, .rc, false, 1, (.val 0)⟩,  -- 4810h:07 CKPT_RESTARTS
  ⟨0x4900, 1, 1, 1, 1, .u64, .rw, false, 1, (.val 0)⟩,  -- 4900h:01 RESTORE_CYCLE
  ⟨0x4900, 1, 1, 2, 2, .u64, .rw, false, 1, (.val 0)⟩,  -- 4900h:02 REPLAY_TO
  ⟨0x4900, 1, 1, 3, 3, .u8, .wo, false, 1, .none⟩,  -- 4900h:03 RESTORE_COMMAND
  ⟨0x4900, 1, 1, 4, 4, .u8, .ro, false, 0, (.val 0)⟩,  -- 4900h:04 RESTORE_STATE
  ⟨0x4910, 1, 1, 1, 1, .u8, .rw, false, 0, (.val 0)⟩,  -- 4910h:01 DIR_INDEX
  ⟨0x4910, 1, 1, 2, 2, (.octets 32), .ro, false, 0, .none⟩,  -- 4910h:02 DIR_ENTRY
  ⟨0x4A00, 1, 1, 1, 1, .u64, .rw, false, 0, (.val 0)⟩,  -- 4A00h:01 LOG_CYCLE
  ⟨0x4A00, 1, 1, 2, 2, .octetsVar, .ro, false, 1, .none⟩,  -- 4A00h:02 LOG_RECORD
  ⟨0x4A00, 1, 1, 3, 3, .u64, .ro, false, 0, (.val 18446744073709551615)⟩,  -- 4A00h:03 LOG_FIRST
  ⟨0x4A00, 1, 1, 4, 4, .u32, .ro, false, 0, (.val 0)⟩,  -- 4A00h:04 LOCKED_FRAMES
  ⟨0x4A00, 1, 1, 5, 5, .u32, .rc, false, 1, (.val 0)⟩,  -- 4A00h:05 PATTERN_DISCARDS
  ⟨0x4B00, 1, 1, 1, 1, .u32, .rw, false, 0, (.val 0)⟩,  -- 4B00h:01 SPARE_TILE
  ⟨0x4B00, 1, 1, 2, 2, .u8, .ro, false, 0, (.val 0)⟩,  -- 4B00h:02 SPARE_STATE
  ⟨0x4B00, 1, 1, 3, 3, .u8, .ro, false, 0, (.val 255)⟩,  -- 4B00h:03 SPARE_CARRIES
  ⟨0x4B00, 1, 1, 4, 4, .bool, .ro, false, 0, (.val 0)⟩,  -- 4B00h:04 TILE_DEGRADED
  ⟨0x4B00, 1, 1, 5, 5, .u16, .ro, false, 0, (.val 0)⟩,  -- 4B00h:05 SPARES_IN_USE
  ⟨0x4B00, 1, 1, 6, 6, .u16, .ro, false, 0, (.val 0)⟩,  -- 4B00h:06 DEGRADED_TILES
  ⟨0x4C00, 1, 1, 1, 1, .u32, .rc, false, 1, (.val 0)⟩,  -- 4C00h:01 RECOVERIES
  ⟨0x4C00, 1, 1, 2, 2, .u32, .ro, false, 0, (.val 0)⟩,  -- 4C00h:02 REC_TILE
  ⟨0x4C00, 1, 1, 3, 3, .u8, .ro, false, 0, (.val 0)⟩  -- 4C00h:03 REC_CLUSTER
]

/-- Rows of the rewind objects, part 2. -/
def rewindRows2 : List ObjDesc := [
  ⟨0x4C00, 1, 1, 4, 4, .u64, .ro, false, 0, (.val 18446744073709551615)⟩,  -- 4C00h:04 REC_FIRST
  ⟨0x4C00, 1, 1, 5, 5, .u64, .ro, false, 0, (.val 0)⟩,  -- 4C00h:05 REC_LAST
  ⟨0x4C00, 1, 1, 6, 6, .u32, .ro, false, 0, (.val 0)⟩,  -- 4C00h:06 REC_DURATION
  ⟨0x4C00, 1, 1, 7, 7, .u8, .ro, false, 0, (.val 0)⟩,  -- 4C00h:07 REC_RESULT
  ⟨0x4C00, 1, 1, 8, 8, .u8, .ro, false, 0, (.val 0)⟩  -- 4C00h:08 REC_FAIL_REASON
]

/-- Rows of the rewind objects. -/
def rewindRows : List ObjDesc := rewindRows1 ++ rewindRows2

/-- Rows of the fabric objects, part 1. -/
def fabricRows1 : List ObjDesc := [
  ⟨0x6800, 1, 1, 1, 1, .u16, .ro, false, 0, (.val 8192)⟩,  -- 6800h:01 CELLS
  ⟨0x6800, 1, 1, 2, 2, .u8, .ro, false, 0, (.val 128)⟩,  -- 6800h:02 COLUMNS
  ⟨0x6800, 1, 1, 3, 3, .u8, .ro, false, 0, (.val 64)⟩,  -- 6800h:03 ROWS
  ⟨0x6800, 1, 1, 4, 4, .u16, .ro, false, 0, (.val 1024)⟩,  -- 6800h:04 BOUNDARY_OUTPUTS
  ⟨0x6800, 1, 1, 5, 5, .u16, .ro, false, 0, (.val 1024)⟩,  -- 6800h:05 BOUNDARY_INPUTS
  ⟨0x6800, 1, 1, 6, 6, .u16, .ro, false, 0, (.val 320)⟩,  -- 6800h:06 TIO_LANDS
  ⟨0x6800, 1, 1, 7, 7, .u32, .ro, false, 0, (.val 524288)⟩,  -- 6800h:07 USER_FLASH_OCTETS
  ⟨0x6810, 1, 1, 1, 1, .u16, .rw, false, 1, (.val 0)⟩,  -- 6810h:01 CELL_INDEX
  ⟨0x6810, 1, 1, 2, 2, (.octets 32), .rw, true, 1, .boot⟩,  -- 6810h:02 CELL_CONFIG
  ⟨0x6810, 1, 1, 3, 3, .octetsVar, .rw, true, 1, .none⟩,  -- 6810h:03 CELL_BLOCK
  ⟨0x6810, 1, 1, 4, 4, .u8, .ro, false, 0, (.val 0)⟩,  -- 6810h:04 TIF_STATE
  ⟨0x6810, 1, 1, 5, 5, .u32, .ro, false, 0, (.val 0)⟩,  -- 6810h:05 CONFIG_CRC
  ⟨0x6810, 1, 1, 6, 6, .u32, .rc, false, 1, (.val 0)⟩,  -- 6810h:06 CONFIG_CORRECTED
  ⟨0x6810, 1, 1, 7, 7, .u32, .rc, false, 1, (.val 0)⟩,  -- 6810h:07 CONFIG_RELOADED
  ⟨0x6820, 1, 1, 1, 1, .u16, .rw, false, 1, (.val 0)⟩,  -- 6820h:01 BO_INDEX
  ⟨0x6820, 1, 1, 2, 2, .u32, .rw, true, 1, (.val 0)⟩,  -- 6820h:02 BO_SOURCE
  ⟨0x6820, 1, 1, 3, 3, (.bits 1024), .ro, false, 0, (.val 0)⟩,  -- 6820h:03 BO_VALUE
  ⟨0x6820, 1, 1, 4, 4, (.bits 1024), .ro, false, 0, (.val 0)⟩,  -- 6820h:04 BI_VALUE
  ⟨0x6820, 1, 1, 5, 5, .u32, .rc, false, 1, (.val 0)⟩,  -- 6820h:05 BO_UNMAPPED
  ⟨0x6828, 1, 1, 1, 1, .u32, .rw, false, 1, (.val 0)⟩,  -- 6828h:01 INJ_INDEX
  ⟨0x6828, 1, 1, 2, 2, .u16, .rw, true, 1, (.val 0)⟩,  -- 6828h:02 INJ_ENTRY
  ⟨0x6828, 1, 1, 3, 3, .octetsVar, .rw, true, 1, .none⟩,  -- 6828h:03 INJ_BLOCK
  ⟨0x6828, 1, 1, 4, 4, .u32, .ro, false, 0, (.val 0)⟩,  -- 6828h:04 PATTERN_BITS
  ⟨0x6828, 1, 1, 5, 5, .u32, .ro, false, 0, (.val 0)⟩,  -- 6828h:05 FRAME_WORDS
  ⟨0x6828, 1, 1, 6, 6, .u8, .ro, false, 0, (.val 0)⟩,  -- 6828h:06 PATTERN_PLACEMENT
  ⟨0x6830, 1, 1, 1, 1, .u8, .wo, true, 1, .none⟩,  -- 6830h:01 TIF_RESET
  ⟨0x6830, 1, 1, 2, 2, .bool, .rw, false, 1, (.val 0)⟩,  -- 6830h:02 PIN_HOLD
  ⟨0x6830, 1, 1, 3, 3, .bool, .ro, false, 0, (.val 0)⟩,  -- 6830h:03 TARGET_LIVE
  ⟨0x6840, 1, 1, 1, 1, .u64, .rw, true, 1, (.val 0)⟩,  -- 6840h:01 PAT_START
  ⟨0x6840, 1, 1, 2, 2, .u64, .ro, false, 0, (.val 0)⟩,  -- 6840h:02 PAT_POSITION
  ⟨0x6840, 1, 1, 3, 3, .u64, .rc, false, 1, (.val 0)⟩,  -- 6840h:03 PAT_FRAMES
  ⟨0x6840, 1, 1, 4, 4, .u8, .ro, false, 0, (.val 0)⟩,  -- 6840h:04 PAT_STOP_REASON
  ⟨0x6850, 1, 10, 1, 1, .u8, .rw, true, 2, .boot⟩,  -- 6850h+b:01 BANK_VOLTAGE
  ⟨0x6850, 1, 10, 2, 2, .u8, .ro, false, 0, (.val 0)⟩,  -- 6850h+b:02 BANK_STATE
  ⟨0x6860, 1, 1, 1, 1, .u16, .rw, false, 1, (.val 0)⟩,  -- 6860h:01 PIN_INDEX
  ⟨0x6860, 1, 1, 2, 2, .u16, .rw, true, 2, .boot⟩,  -- 6860h:02 PIN_CONFIG
  ⟨0x6860, 1, 1, 3, 3, .bool, .ro, false, 0, (.val 0)⟩,  -- 6860h:03 PIN_LEVEL
  ⟨0x6860, 1, 1, 4, 4, .u8, .ro, false, 0, .boot⟩,  -- 6860h:04 PIN_SAFE
  ⟨0x6870, 1, 4, 1, 1, .u32, .rw, false, 1, (.val 100000)⟩,  -- 6870h+k:01 OSC_FREQ
  ⟨0x6870, 1, 4, 2, 2, .bool, .rw, false, 1, (.val 0)⟩  -- 6870h+k:02 OSC_ENABLE
]

/-- Rows of the fabric objects, part 2. -/
def fabricRows2 : List ObjDesc := [
  ⟨0x6880, 1, 1, 1, 1, .u32, .rw, false, 1, (.val 0)⟩,  -- 6880h:01 UF_ADDRESS
  ⟨0x6880, 1, 1, 2, 2, .octetsVar, .rw, false, 2, .none⟩,  -- 6880h:02 UF_DATA
  ⟨0x6880, 1, 1, 3, 3, .u8, .wo, false, 2, .none⟩,  -- 6880h:03 UF_ERASE
  ⟨0x6880, 1, 1, 4, 4, .u8, .ro, false, 0, (.val 0)⟩,  -- 6880h:04 UF_STATE
  ⟨0x6C00, 1, 8, 1, 1, .u8, .rw, false, 1, (.val 0)⟩,  -- 6C0kh:01 SP_MODE
  ⟨0x6C00, 1, 8, 2, 2, .u32, .rw, false, 1, (.val 115200)⟩,  -- 6C0kh:02 SP_RATE
  ⟨0x6C00, 1, 8, 3, 3, .u16, .rw, false, 1, (.val 0)⟩,  -- 6C0kh:03 SP_FORMAT
  ⟨0x6C00, 1, 8, 4, 4, .u16, .rw, false, 1, (.val 0)⟩,  -- 6C0kh:04 SP_ADDRESS
  ⟨0x6C00, 1, 8, 5, 5, .octetsVar, .wo, false, 1, .none⟩,  -- 6C0kh:05 SP_TX
  ⟨0x6C00, 1, 8, 6, 6, .octetsVar, .ro, false, 1, .none⟩,  -- 6C0kh:06 SP_RX
  ⟨0x6C00, 1, 8, 7, 7, .u8, .wo, false, 1, .none⟩,  -- 6C0kh:07 SP_COMMAND
  ⟨0x6C00, 1, 8, 8, 8, .u32, .rc, false, 1, (.val 0)⟩,  -- 6C0kh:08 SP_OVERRUNS
  ⟨0x6C00, 1, 8, 9, 9, .u8, .ro, false, 0, (.val 0)⟩,  -- 6C0kh:09 SP_STATUS
  ⟨0x6C00, 1, 8, 10, 10, .u16, .rw, false, 1, (.val 1)⟩  -- 6C0kh:0A SP_RX_COUNT
]

/-- Rows of the fabric objects. -/
def fabricRows : List ObjDesc := fabricRows1 ++ fabricRows2

/-- Rows of the images objects, part 1. -/
def imagesRows1 : List ObjDesc := [
  ⟨0x6000, 1, 1, 1, 1, .u8, .ro, false, 0, (.val 0)⟩,  -- 6000h:01 BOOT_STATE
  ⟨0x6000, 1, 1, 2, 2, .u8, .ro, false, 0, (.val 0)⟩,  -- 6000h:02 BOOT_SLOT
  ⟨0x6000, 1, 1, 3, 3, .u8, .ro, false, 0, (.val 0)⟩,  -- 6000h:03 BOOT_FAIL_REASON
  ⟨0x6000, 1, 1, 4, 4, .u32, .ro, false, 0, (.val 0)⟩,  -- 6000h:04 BOOT_TIME
  ⟨0x6000, 1, 1, 5, 5, .u16, .ro, false, 0, .none⟩,  -- 6000h:05 SECURITY_VERSION
  ⟨0x6000, 1, 1, 6, 6, .u8, .ro, false, 0, .none⟩,  -- 6000h:06 KEY_SOURCE
  ⟨0x6010, 1, 1, 1, 1, .u8, .rw, false, 0, (.val 0)⟩,  -- 6010h:01 SLOT_INDEX
  ⟨0x6010, 1, 1, 2, 2, .u8, .ro, false, 0, .none⟩,  -- 6010h:02 SLOT_STATE
  ⟨0x6010, 1, 1, 3, 3, .u32, .ro, false, 0, .none⟩,  -- 6010h:03 SLOT_SEQUENCE
  ⟨0x6010, 1, 1, 4, 4, .u32, .ro, false, 0, .none⟩,  -- 6010h:04 SLOT_LENGTH
  ⟨0x6020, 1, 1, 1, 1, .u32, .ro, false, 0, (.val 10000)⟩,  -- 6020h:01 DONE_TIMEOUT
  ⟨0x6020, 1, 1, 2, 2, .bool, .ro, false, 0, (.val 0)⟩,  -- 6020h:02 DONE_LEVEL
  ⟨0x6020, 1, 1, 3, 3, .u32, .ro, false, 0, (.val 0)⟩,  -- 6020h:03 DONE_WAIT
  ⟨0x6030, 1, 1, 1, 1, .u32, .rw, false, 2, (.val 0)⟩,  -- 6030h:01 UPD_OFFSET
  ⟨0x6030, 1, 1, 2, 2, .octetsVar, .wo, false, 2, .none⟩,  -- 6030h:02 UPD_DATA
  ⟨0x6030, 1, 1, 3, 3, .u32, .rw, false, 2, (.val 0)⟩,  -- 6030h:03 UPD_LENGTH
  ⟨0x6030, 1, 1, 4, 4, .u8, .wo, false, 2, .none⟩,  -- 6030h:04 UPD_COMMAND
  ⟨0x6030, 1, 1, 5, 5, .u8, .ro, false, 0, (.val 0)⟩,  -- 6030h:05 UPD_STATE
  ⟨0x6030, 1, 1, 6, 6, .u8, .ro, false, 0, (.val 0)⟩,  -- 6030h:06 UPD_RESULT
  ⟨0x6040, 1, 1, 1, 1, .u8, .ro, false, 0, (.val 0)⟩,  -- 6040h:01 EFUSE_KEY_STATE
  ⟨0x6040, 1, 1, 2, 2, (.octets 4), .ro, false, 0, (.val 0)⟩,  -- 6040h:02 EFUSE_KCV
  ⟨0x6040, 1, 1, 3, 3, .u8, .ro, false, 0, (.val 0)⟩,  -- 6040h:03 VBAT_KEY_STATE
  ⟨0x6040, 1, 1, 4, 4, (.octets 4), .ro, false, 0, (.val 0)⟩,  -- 6040h:04 VBAT_KCV
  ⟨0x6040, 1, 1, 5, 5, (.octets 60), .wo, false, 3, .none⟩,  -- 6040h:05 KEY_WRAPPED
  ⟨0x6040, 1, 1, 6, 6, .u8, .wo, false, 3, .none⟩,  -- 6040h:06 KEY_COMMAND
  ⟨0x6040, 1, 1, 7, 7, .bool, .ro, false, 0, (.val 0)⟩,  -- 6040h:07 EFUSE_ONLY
  ⟨0x6040, 1, 1, 8, 8, .u8, .ro, false, 0, (.val 0)⟩,  -- 6040h:08 ROLLBACK_COUNTER
  ⟨0x6050, 1, 1, 1, 1, (.bits 8), .rc, false, 3, (.val 0)⟩,  -- 6050h:01 TAMPER_CAUSE
  ⟨0x6050, 1, 1, 3, 3, (.bits 8), .rw, false, 3, (.val 15)⟩,  -- 6050h:03 TAMPER_ENABLE
  ⟨0x6100, 1, 1, 1, 1, .u64, .rw, false, 1, (.val 0)⟩,  -- 6100h:01 STAGE_OFFSET
  ⟨0x6100, 1, 1, 2, 2, .u64, .rw, false, 1, (.val 0)⟩,  -- 6100h:02 STAGE_LENGTH
  ⟨0x6100, 1, 1, 3, 3, .octetsVar, .rw, false, 1, .none⟩,  -- 6100h:03 STAGE_DATA
  ⟨0x6100, 1, 1, 4, 4, .u8, .ro, false, 0, (.val 0)⟩,  -- 6100h:04 STAGE_STATE
  ⟨0x6100, 1, 1, 5, 5, .u8, .ro, false, 0, (.val 0)⟩,  -- 6100h:05 HELD_IMAGES
  ⟨0x6100, 1, 1, 6, 6, .bool, .ro, false, 0, (.val 0)⟩,  -- 6100h:06 HELD_VALID
  ⟨0x6100, 1, 1, 7, 7, .u32, .rc, false, 1, (.val 0)⟩,  -- 6100h:07 STAGE_DISCARDS
  ⟨0x6100, 1, 1, 8, 8, .u64, .rw, false, 1, (.val 0)⟩,  -- 6100h:08 STAGE_POSITION
  ⟨0x6200, 1, 1, 1, 1, .u8, .wo, false, 1, .none⟩,  -- 6200h:01 IMAGE_COMMAND
  ⟨0x6200, 1, 1, 2, 2, .u8, .ro, false, 0, (.val 0)⟩,  -- 6200h:02 REJECT_REASON
  ⟨0x6200, 1, 1, 3, 3, .u32, .ro, false, 0, (.val 0)⟩  -- 6200h:03 REJECT_FRAME
]

/-- Rows of the images objects, part 2. -/
def imagesRows2 : List ObjDesc := [
  ⟨0x6200, 1, 1, 4, 4, .u32, .ro, false, 0, (.val 0)⟩,  -- 6200h:04 REJECT_UNIT
  ⟨0x6200, 1, 1, 5, 5, .u32, .ro, false, 0, (.val 0)⟩,  -- 6200h:05 APPLY_PROGRESS
  ⟨0x6200, 1, 1, 6, 6, .u8, .ro, false, 0, (.val 0)⟩,  -- 6200h:06 REGION_STATE
  ⟨0x6200, 1, 1, 7, 7, .u64, .ro, false, 0, (.val 0)⟩,  -- 6200h:07 RELEASE_CYCLE
  ⟨0x6300, 1, 1, 1, 1, (.octets 8), .ro, false, 0, (.val 0)⟩,  -- 6300h:01 APPLIED_TAG
  ⟨0x6300, 1, 1, 2, 2, .bool, .ro, false, 0, (.val 0)⟩,  -- 6300h:02 APPLIED_PROTECTED
  ⟨0x6300, 1, 1, 3, 3, (.bits 2048), .ro, false, 0, (.val 0)⟩,  -- 6300h:03 APPLIED_REQUIRED
  ⟨0x6300, 1, 1, 4, 4, .u32, .rc, false, 1, (.val 0)⟩,  -- 6300h:04 APPLY_COUNT
  ⟨0x6400, 1, 1, 1, 1, (.octets 32), .wo, false, 3, .none⟩,  -- 6400h:01 OWNER_TOKEN
  ⟨0x6400, 1, 1, 2, 2, .bool, .ro, false, 0, (.val 0)⟩,  -- 6400h:02 OWNER_UNLOCKED
  ⟨0x6400, 1, 1, 3, 3, .u32, .rc, false, 3, (.val 0)⟩  -- 6400h:03 TOKEN_FAILURES
]

/-- Rows of the images objects. -/
def imagesRows : List ObjDesc := imagesRows1 ++ imagesRows2

/-- Rows of the dict objects, part 1. -/
def dictRows1 : List ObjDesc := [
  ⟨0x1000, 1, 1, 1, 1, (.string 32), .ro, false, 0, (.val 0x4C6F6D77616A616E2053797374656D73)⟩,  -- 1000h:01 VENDOR
  ⟨0x1000, 1, 1, 2, 2, (.string 32), .ro, false, 0, (.val 0x43686F74726963203958)⟩,  -- 1000h:02 PRODUCT
  ⟨0x1000, 1, 1, 3, 3, (.string 16), .ro, false, 0, (.val 0x434839582D34512D313238)⟩,  -- 1000h:03 ORDER_CODE
  ⟨0x1000, 1, 1, 4, 4, (.string 16), .ro, false, 0, .none⟩,  -- 1000h:04 SERIAL
  ⟨0x1000, 1, 1, 5, 5, .u16, .ro, false, 0, .none⟩,  -- 1000h:05 HW_REVISION
  ⟨0x1000, 1, 1, 6, 6, .u32, .ro, false, 0, .none⟩,  -- 1000h:06 FW_VERSION
  ⟨0x1000, 1, 1, 7, 7, .u16, .ro, false, 0, (.val 1)⟩,  -- 1000h:07 ACP_VERSION
  ⟨0x1000, 1, 1, 8, 8, .u8, .ro, false, 0, (.val 4)⟩,  -- 1000h:08 FAMILY_MEMBER
  ⟨0x1001, 1, 1, 1, 1, .u8, .ro, false, 0, (.val 4)⟩,  -- 1001h:01 QUADRANTS
  ⟨0x1001, 1, 1, 2, 2, .u8, .ro, false, 0, (.val 32)⟩,  -- 1001h:02 TILES_PER_QUADRANT
  ⟨0x1001, 1, 1, 3, 3, .u8, .ro, false, 0, (.val 16)⟩,  -- 1001h:03 USER_CLUSTERS_PER_TILE
  ⟨0x1001, 1, 1, 4, 4, .u8, .ro, false, 0, (.val 1)⟩,  -- 1001h:04 SPARE_CLUSTERS_PER_TILE
  ⟨0x1001, 1, 1, 5, 5, .u8, .ro, false, 0, (.val 64)⟩,  -- 1001h:05 LANES_PER_CLUSTER
  ⟨0x1001, 1, 1, 6, 6, .u16, .ro, false, 0, (.val 2048)⟩,  -- 1001h:06 MAX_SCHEDULE_LENGTH
  ⟨0x1001, 1, 1, 7, 7, .u8, .ro, false, 0, (.val 4)⟩,  -- 1001h:07 DRAM_STACKS
  ⟨0x1001, 1, 1, 8, 8, .u16, .ro, false, 0, (.val 128)⟩,  -- 1001h:08 DRAM_GIB
  ⟨0x1001, 1, 1, 9, 9, .u8, .ro, false, 0, (.val 8)⟩,  -- 1001h:09 ILYAN_PORTS
  ⟨0x1001, 1, 1, 10, 10, .u16, .ro, false, 0, (.val 320)⟩,  -- 1001h:0A TIO_LANDS
  ⟨0x1002, 1, 1, 1, 1, .u8, .ro, false, 0, .none⟩,  -- 1002h:01 MODULE_ID
  ⟨0x1002, 1, 1, 2, 2, .bool, .ro, false, 0, (.val 0)⟩,  -- 1002h:02 CONFIGURED
  ⟨0x1010, 1, 1, 1, 1, (.bits 128), .ro, false, 0, .none⟩,  -- 1010h:01 FEATURES_OFFERED
  ⟨0x1011, 1, 1, 1, 1, (.bits 128), .ro, false, 0, (.val 0)⟩,  -- 1011h:01 FEATURES_REQUESTED
  ⟨0x1012, 1, 1, 1, 1, (.bits 128), .ro, false, 0, (.val 0)⟩,  -- 1012h:01 FEATURES_AGREED
  ⟨0x1013, 1, 1, 1, 1, (.bits 128), .ro, false, 0, .none⟩,  -- 1013h:01 FEATURES_LICENSED
  ⟨0x1018, 1, 1, 1, 1, .u32, .ro, false, 0, (.val 19543)⟩,  -- 1018h:01 VENDOR_NUMBER
  ⟨0x1018, 1, 1, 2, 2, .u32, .ro, false, 0, (.val 589828)⟩,  -- 1018h:02 PRODUCT_NUMBER
  ⟨0x1018, 1, 1, 3, 3, .u32, .ro, false, 0, .none⟩,  -- 1018h:03 REVISION_NUMBER
  ⟨0x1018, 1, 1, 4, 4, .u32, .ro, false, 0, .none⟩,  -- 1018h:04 SERIAL_NUMBER
  ⟨0x1100, 1, 1, 1, 1, .u32, .ro, false, 0, .none⟩,  -- 1100h:01 SESSION_ID
  ⟨0x1100, 1, 1, 2, 2, .u8, .ro, false, 0, .none⟩,  -- 1100h:02 SESSION_LEVEL
  ⟨0x1100, 1, 1, 3, 3, .u8, .ro, false, 0, .none⟩,  -- 1100h:03 SESSION_TRANSPORT
  ⟨0x1100, 1, 1, 4, 4, .u16, .rw, false, 0, (.val 1472)⟩,  -- 1100h:04 MAX_DATAGRAM
  ⟨0x1110, 1, 1, 1, 1, .u8, .ro, false, 0, (.val 0)⟩,  -- 1110h:01 SESSIONS_OPEN
  ⟨0x1110, 1, 1, 2, 2, .u8, .ro, false, 0, (.val 16)⟩,  -- 1110h:02 SESSIONS_MAX
  ⟨0x1120, 1, 1, 1, 1, .u16, .rw, false, 2, (.val 60)⟩,  -- 1120h:01 IDLE_TIMEOUT
  ⟨0x1120, 1, 1, 2, 2, .u8, .ro, false, 0, (.val 64)⟩,  -- 1120h:02 REPLAY_WINDOW
  ⟨0x1120, 1, 1, 3, 3, .u8, .ro, false, 0, (.val 8)⟩,  -- 1120h:03 REPLY_CACHE
  ⟨0x1120, 1, 1, 4, 4, .u16, .ro, false, 0, (.val 500)⟩,  -- 1120h:04 SERVICE_LIMIT
  ⟨0x1140, 1, 1, 1, 1, .u32, .rc, false, 1, (.val 0)⟩,  -- 1140h:01 BAD_FRAMES
  ⟨0x1140, 1, 1, 2, 2, .u32, .rc, false, 1, (.val 0)⟩  -- 1140h:02 PROVE_FAILURES
]

/-- Rows of the dict objects, part 2. -/
def dictRows2 : List ObjDesc := [
  ⟨0x1140, 1, 1, 3, 3, .u32, .rc, false, 1, (.val 0)⟩,  -- 1140h:03 REPLAY_DISCARDS
  ⟨0x1140, 1, 1, 4, 4, .u32, .rc, false, 2, (.val 0)⟩,  -- 1140h:04 LOCKOUTS
  ⟨0x1200, 1, 1, 1, 1, (.octets 64), .ro, false, 0, (.val 0)⟩,  -- 1200h:01 SUB_FILTERS
  ⟨0x1200, 1, 1, 2, 2, .u32, .rc, false, 0, (.val 0)⟩,  -- 1200h:02 EVENTS_DROPPED
  ⟨0x1300, 1, 1, 1, 1, .u32, .rw, false, 0, (.val 0)⟩,  -- 1300h:01 LOG_SEQ
  ⟨0x1300, 1, 1, 2, 2, .octetsVar, .ro, false, 0, .none⟩,  -- 1300h:02 LOG_RECORD
  ⟨0x1300, 1, 1, 3, 3, .u32, .ro, false, 0, (.val 0)⟩,  -- 1300h:03 LOG_OLDEST
  ⟨0x1300, 1, 1, 4, 4, .u32, .ro, false, 0, (.val 0)⟩,  -- 1300h:04 LOG_NEWEST
  ⟨0x1E00, 1, 1, 1, 1, .u8, .rw, false, 3, (.val 0)⟩,  -- 1E00h:01 CRED_LEVEL
  ⟨0x1E00, 1, 1, 2, 2, .u8, .ro, false, 3, .none⟩,  -- 1E00h:02 CRED_STATE
  ⟨0x1E00, 1, 1, 3, 3, (.octets 4), .ro, false, 3, .none⟩,  -- 1E00h:03 CRED_KCV
  ⟨0x1E00, 1, 1, 4, 4, (.octets 60), .wo, false, 3, .none⟩,  -- 1E00h:04 CRED_WRAPPED
  ⟨0x1E00, 1, 1, 5, 5, .u8, .wo, false, 3, .none⟩  -- 1E00h:05 CRED_COMMAND
]

/-- Rows of the dict objects. -/
def dictRows : List ObjDesc := dictRows1 ++ dictRows2

/-- Rows of the host objects, part 1. -/
def hostRows1 : List ObjDesc := [
  ⟨0x7000, 1, 1, 1, 1, .u16, .ro, false, 0, .none⟩,  -- 7000h:01 PCIE_VENDOR_ID
  ⟨0x7000, 1, 1, 2, 2, .u16, .ro, false, 0, (.val 2308)⟩,  -- 7000h:02 PCIE_DEVICE_ID
  ⟨0x7000, 1, 1, 3, 3, .u8, .ro, false, 0, (.val 0)⟩,  -- 7000h:03 LINK_SPEED
  ⟨0x7000, 1, 1, 4, 4, .u8, .ro, false, 0, (.val 0)⟩,  -- 7000h:04 LINK_WIDTH
  ⟨0x7000, 1, 1, 5, 5, .u8, .ro, false, 0, (.val 0)⟩,  -- 7000h:05 LINK_STATE
  ⟨0x7000, 1, 1, 6, 6, .u16, .ro, false, 0, (.val 128)⟩,  -- 7000h:06 MAX_PAYLOAD
  ⟨0x7000, 1, 1, 7, 7, .u16, .ro, false, 0, (.val 512)⟩,  -- 7000h:07 MAX_READ_REQUEST
  ⟨0x7010, 1, 1, 1, 1, .u32, .rc, false, 1, (.val 0)⟩,  -- 7010h:01 AER_CORRECTABLE
  ⟨0x7010, 1, 1, 2, 2, .u32, .rc, false, 1, (.val 0)⟩,  -- 7010h:02 AER_NONFATAL
  ⟨0x7010, 1, 1, 3, 3, .u32, .rc, false, 1, (.val 0)⟩,  -- 7010h:03 AER_FATAL
  ⟨0x7010, 1, 1, 4, 4, .u32, .rc, false, 1, (.val 0)⟩,  -- 7010h:04 COMPLETION_TIMEOUTS
  ⟨0x7010, 1, 1, 5, 5, .u32, .rc, false, 1, (.val 0)⟩,  -- 7010h:05 LINK_RESETS
  ⟨0x7010, 1, 1, 6, 6, .u32, .rc, false, 1, (.val 0)⟩,  -- 7010h:06 CREDIT_STALL_MAX
  ⟨0x7010, 1, 1, 7, 7, .u32, .rw, false, 1, (.val 100)⟩,  -- 7010h:07 CREDIT_STALL_LIMIT
  ⟨0x7100, 1, 1, 1, 4, .u8, .rw, false, 1, (.subs [1, 1, 5, 2])⟩,  -- 7100h:01–04 AP_REGION_0–3
  ⟨0x7100, 1, 1, 5, 8, .u64, .rw, false, 1, (.subs [0, 17179869184, 0, 0])⟩,  -- 7100h:05–08 AP_BASE_0–3
  ⟨0x7100, 1, 1, 9, 9, .u32, .rc, false, 1, (.val 0)⟩,  -- 7100h:09 BAR2_READS_ZEROED
  ⟨0x7100, 1, 1, 10, 10, .u32, .rc, false, 1, (.val 0)⟩,  -- 7100h:0A BAR2_WRITES_DISCARDED
  ⟨0x7100, 1, 1, 11, 11, .u32, .rc, false, 1, (.val 0)⟩,  -- 7100h:0B AP_WRITES_IGNORED
  ⟨0x7100, 1, 1, 12, 12, .u64, .rc, false, 1, (.val 0)⟩,  -- 7100h:0C BAR2_READ_OCTETS
  ⟨0x7100, 1, 1, 13, 13, .u64, .rc, false, 1, (.val 0)⟩,  -- 7100h:0D BAR2_WRITE_OCTETS
  ⟨0x7200, 1, 8, 1, 1, .u8, .ro, false, 0, (.val 0)⟩,  -- 720eh:01 DMA_STATE
  ⟨0x7200, 1, 8, 2, 2, .u64, .rc, false, 1, (.val 0)⟩,  -- 720eh:02 DMA_DESCRIPTORS
  ⟨0x7200, 1, 8, 3, 3, .u64, .rc, false, 1, (.val 0)⟩,  -- 720eh:03 DMA_OCTETS
  ⟨0x7200, 1, 8, 4, 4, .u32, .rc, false, 1, (.val 0)⟩,  -- 720eh:04 DMA_ERRORS
  ⟨0x7200, 1, 8, 5, 5, .u16, .ro, false, 0, (.val 0)⟩,  -- 720eh:05 DMA_LAST_ERROR
  ⟨0x7300, 1, 17, 1, 1, .u64, .ro, false, 0, (.val 0)⟩,  -- 73(00+i)h:01 NOC_BYTES
  ⟨0x7300, 1, 17, 2, 2, .u64, .ro, false, 0, (.val 0)⟩,  -- 73(00+i)h:02 NOC_PACKETS
  ⟨0x7300, 1, 17, 3, 3, .u32, .ro, false, 0, (.val 0)⟩,  -- 73(00+i)h:03 NOC_MAX_LATENCY
  ⟨0x7300, 1, 17, 4, 11, .u64, .ro, false, 0, (.val 0)⟩,  -- 73(00+i)h:04–0B NOC_HIST_0–7
  ⟨0x7380, 1, 1, 1, 1, .u8, .wo, false, 1, .none⟩,  -- 7380h:01 STATS_COMMAND
  ⟨0x7380, 1, 1, 2, 2, .bool, .ro, false, 0, (.val 0)⟩,  -- 7380h:02 STATS_FROZEN
  ⟨0x7400, 1, 1, 1, 1, .u8, .ro, false, 0, (.val 28)⟩,  -- 7400h:01 ROUTERS
  ⟨0x7400, 1, 1, 2, 2, .u16, .ro, false, 0, (.val 2000)⟩,  -- 7400h:02 NOC_CLOCK
  ⟨0x7400, 1, 1, 3, 3, .u16, .ro, false, 0, (.val 512)⟩,  -- 7400h:03 LINK_BITS
  ⟨0x7400, 1, 1, 4, 4, .u8, .ro, false, 0, (.val 32)⟩,  -- 7400h:04 ARB_WAIT_BOUND
  ⟨0x7400, 1, 1, 5, 5, .u8, .ro, false, 0, (.val 8)⟩,  -- 7400h:05 VN_BUFFER_FLITS
  ⟨0x7410, 1, 1, 1, 1, .u32, .rc, false, 1, (.val 0)⟩,  -- 7410h:01 TABLE_SWITCHES
  ⟨0x7410, 1, 1, 2, 2, .u32, .rc, false, 1, (.val 0)⟩,  -- 7410h:02 TABLE_WAIT_MAX
  ⟨0x7420, 1, 1, 1, 1, .u8, .rc, false, 1, (.val 0)⟩  -- 7420h:01 ARB_WAIT_MAX
]

/-- Rows of the host objects, part 2. -/
def hostRows2 : List ObjDesc := [
  ⟨0x7420, 1, 1, 2, 2, .u32, .rc, false, 1, (.val 0)⟩,  -- 7420h:02 MALFORMED_PACKETS
  ⟨0x7500, 1, 20, 1, 1, .u8, .ro, false, 0, .none⟩,  -- 75(00+d)h:01 GATE_STATE
  ⟨0x7500, 1, 20, 2, 2, .u32, .rc, false, 1, (.val 0)⟩,  -- 75(00+d)h:02 GATE_DOMAIN_OFF
  ⟨0x7500, 1, 20, 3, 3, .u32, .rc, false, 1, (.val 0)⟩,  -- 75(00+d)h:03 GATE_POSTED_SUNK
  ⟨0x7500, 1, 20, 4, 4, .u32, .rc, false, 1, (.val 0)⟩,  -- 75(00+d)h:04 GATE_DRAIN_MAX
  ⟨0x7600, 1, 1, 1, 1, .u64, .rc, false, 1, (.val 0)⟩,  -- 7600h:01 MB_FRAMES_IN
  ⟨0x7600, 1, 1, 2, 2, .u64, .rc, false, 1, (.val 0)⟩,  -- 7600h:02 MB_FRAMES_OUT
  ⟨0x7600, 1, 1, 3, 3, .u32, .rc, false, 1, (.val 0)⟩,  -- 7600h:03 MB_REPLY_FULL
  ⟨0x7600, 1, 1, 4, 4, .u32, .rc, false, 1, (.val 0)⟩,  -- 7600h:04 MB_EVENT_FULL
  ⟨0x7600, 1, 1, 5, 5, .u32, .rc, false, 1, (.val 0)⟩,  -- 7600h:05 MB_SLOT_MISUSE
  ⟨0x7700, 1, 1, 1, 48, .u64, .rw, false, 1, (.subs [0x800000003401ffff, 0x800000003f00fff8, 0x800000004800ff00, 0x800000005200ff00, 0x800000006200ff00, 0x800000002000f800, 0x800000007000f800, 0x0, 0x0, 0x0, 0x0, 0x0, 0x0, 0x0, 0x0, 0x0, 0x0, 0x0, 0x0, 0x0, 0x0, 0x0, 0x0, 0x0, 0x0, 0x0, 0x0, 0x0, 0x0, 0x0, 0x0, 0x0, 0x0, 0x0, 0x0, 0x0, 0x0, 0x0, 0x0, 0x0, 0x0, 0x0, 0x0, 0x0, 0x0, 0x0, 0x0, 0x0])⟩  -- 7700h:01–30h MSIX_MAP_16–63
]

/-- Rows of the host objects. -/
def hostRows : List ObjDesc := hostRows1 ++ hostRows2

/-- Rows of the time objects, part 1. -/
def timeRows1 : List ObjDesc := [
  ⟨0x7800, 1, 1, 1, 1, .u64, .ro, false, 0, (.val 0)⟩,  -- 7800h:01 FRC
  ⟨0x7800, 1, 1, 2, 2, .time64, .ro, false, 0, (.val 0)⟩,  -- 7800h:02 SYSTEM_TIME
  ⟨0x7800, 1, 1, 3, 3, .i64, .ro, false, 0, (.val 0)⟩,  -- 7800h:03 OFFSET
  ⟨0x7800, 1, 1, 4, 4, .i64, .ro, false, 0, (.val 0)⟩,  -- 7800h:04 RATE
  ⟨0x7800, 1, 1, 5, 5, .u64, .ro, false, 0, (.val 0)⟩,  -- 7800h:05 ANCHOR
  ⟨0x7800, 1, 1, 6, 6, .u16, .ro, false, 0, (.val 0)⟩,  -- 7800h:06 ERA
  ⟨0x7800, 1, 1, 7, 7, .u32, .ro, false, 0, (.val 0)⟩,  -- 7800h:07 STEP_COUNT
  ⟨0x7800, 1, 1, 8, 8, .time64, .wo, false, 2, .none⟩,  -- 7800h:08 SET_TIME
  ⟨0x7800, 1, 1, 9, 9, (.bits 8), .ro, false, 0, (.val 0)⟩,  -- 7800h:09 TIME_STATUS
  ⟨0x7800, 1, 1, 10, 10, (.octets 32), .ro, false, 0, .none⟩,  -- 7800h:0A TIME_SNAPSHOT
  ⟨0x7810, 1, 1, 1, 1, .u8, .ro, false, 0, (.val 0)⟩,  -- 7810h:01 SERVO_STATE
  ⟨0x7810, 1, 1, 2, 2, .u32, .rw, false, 2, (.val 1000000)⟩,  -- 7810h:02 STEP_THRESHOLD
  ⟨0x7810, 1, 1, 3, 3, .u8, .rw, false, 2, (.val 0)⟩,  -- 7810h:03 STEP_MODE
  ⟨0x7810, 1, 1, 4, 4, .u32, .rw, false, 2, (.val 768)⟩,  -- 7810h:04 SERVO_KP
  ⟨0x7810, 1, 1, 5, 5, .u32, .rw, false, 2, (.val 330)⟩,  -- 7810h:05 SERVO_KI
  ⟨0x7810, 1, 1, 6, 6, .i64, .ro, false, 0, (.val 0)⟩,  -- 7810h:06 LAST_OFFSET
  ⟨0x7810, 1, 1, 7, 7, .i64, .ro, false, 0, (.val 0)⟩,  -- 7810h:07 MEAN_PATH_DELAY
  ⟨0x7810, 1, 1, 8, 8, .u32, .rw, false, 2, (.val 1000)⟩,  -- 7810h:08 LOCK_THRESHOLD
  ⟨0x7810, 1, 1, 9, 9, .i64, .ro, false, 0, (.val 0)⟩,  -- 7810h:09 RATE_I
  ⟨0x7820, 1, 1, 1, 1, .bool, .rw, false, 2, .boot⟩,  -- 7820h:01 PTP_ENABLE
  ⟨0x7820, 1, 1, 2, 2, .u8, .rw, false, 2, .boot⟩,  -- 7820h:02 CLOCK_ROLE
  ⟨0x7820, 1, 1, 3, 3, .u8, .rw, false, 2, (.val 0)⟩,  -- 7820h:03 PTP_DOMAIN
  ⟨0x7820, 1, 1, 4, 4, .u8, .rw, false, 2, (.val 1)⟩,  -- 7820h:04 PTP_TRANSPORT
  ⟨0x7820, 1, 1, 5, 5, .u8, .rw, false, 2, (.val 1)⟩,  -- 7820h:05 DELAY_MECHANISM
  ⟨0x7820, 1, 1, 6, 6, .u8, .rw, false, 2, (.val 128)⟩,  -- 7820h:06 PRIORITY1
  ⟨0x7820, 1, 1, 7, 7, .u8, .rw, false, 2, (.val 128)⟩,  -- 7820h:07 PRIORITY2
  ⟨0x7820, 1, 1, 8, 8, .i32, .rw, false, 2, (.val 0)⟩,  -- 7820h:08 LOG_SYNC_INTERVAL
  ⟨0x7820, 1, 1, 9, 9, .i32, .rw, false, 2, (.val 1)⟩,  -- 7820h:09 LOG_ANNOUNCE_INTERVAL
  ⟨0x7820, 1, 1, 10, 10, .u8, .rw, false, 2, (.val 3)⟩,  -- 7820h:0A ANNOUNCE_TIMEOUT
  ⟨0x7820, 1, 1, 11, 11, .i32, .rw, false, 2, (.val 0)⟩,  -- 7820h:0B LOG_DELAY_INTERVAL
  ⟨0x7820, 1, 1, 12, 12, (.octets 8), .ro, false, 0, .none⟩,  -- 7820h:0C CLOCK_IDENTITY
  ⟨0x7820, 1, 1, 13, 13, .u8, .ro, false, 0, (.val 1)⟩,  -- 7820h:0D PORT_STATE
  ⟨0x7820, 1, 1, 14, 14, (.octets 10), .ro, false, 0, (.val 0)⟩,  -- 7820h:0E MASTER_PORT_ID
  ⟨0x7820, 1, 1, 15, 15, .i32, .ro, false, 0, (.val 0)⟩,  -- 7820h:0F UTC_OFFSET
  ⟨0x7820, 1, 1, 16, 16, .u32, .rw, false, 2, (.val 200)⟩,  -- 7820h:10 PATH_CHANGE_THRESHOLD
  ⟨0x7820, 1, 1, 17, 17, .u32, .rw, false, 2, (.val 0)⟩,  -- 7820h:11 PATH_CHANGE_HOLD
  ⟨0x7820, 1, 1, 18, 18, .u8, .rw, false, 2, (.val 8)⟩,  -- 7820h:12 SYNC_LOSS
  ⟨0x7830, 1, 2, 1, 1, .u8, .rw, false, 2, (.val 2)⟩,  -- 7830h+p:01 TS_MODE
  ⟨0x7830, 1, 2, 2, 2, .bool, .rw, false, 2, (.val 1)⟩,  -- 7830h+p:02 TC_ENABLE
  ⟨0x7830, 1, 2, 3, 3, .u32, .rw, false, 2, .boot⟩  -- 7830h+p:03 INGRESS_LATENCY
]

/-- Rows of the time objects, part 2. -/
def timeRows2 : List ObjDesc := [
  ⟨0x7830, 1, 2, 4, 4, .u32, .rw, false, 2, .boot⟩,  -- 7830h+p:04 EGRESS_LATENCY
  ⟨0x7830, 1, 2, 5, 5, .i32, .rw, false, 2, (.val 0)⟩,  -- 7830h+p:05 DELAY_ASYMMETRY
  ⟨0x7830, 1, 2, 6, 6, .i64, .ro, false, 0, (.val 0)⟩,  -- 7830h+p:06 PEER_DELAY
  ⟨0x7830, 1, 2, 7, 7, .u64, .rc, false, 1, (.val 0)⟩,  -- 7830h+p:07 TC_CORRECTED
  ⟨0x7830, 1, 2, 8, 8, .u64, .rc, false, 1, (.val 0)⟩,  -- 7830h+p:08 PTP_RX
  ⟨0x7830, 1, 2, 9, 9, .u64, .rc, false, 1, (.val 0)⟩,  -- 7830h+p:09 PTP_TX
  ⟨0x7830, 1, 2, 10, 10, .u32, .rc, false, 1, (.val 0)⟩,  -- 7830h+p:0A TC_FOLLOWUP_MISSED
  ⟨0x7900, 1, 2, 1, 1, .u8, .ro, false, 0, (.val 0)⟩,  -- 7900h+p:01 LINK_STATE
  ⟨0x7900, 1, 2, 2, 2, .u8, .ro, false, 0, (.val 0)⟩,  -- 7900h+p:02 SPEED
  ⟨0x7900, 1, 2, 3, 3, .u8, .ro, false, 0, (.val 0)⟩,  -- 7900h+p:03 DUPLEX
  ⟨0x7900, 1, 2, 4, 4, .u8, .rw, false, 2, .boot⟩,  -- 7900h+p:04 PHY_ADDRESS
  ⟨0x7900, 1, 2, 5, 5, .u64, .rc, false, 1, (.val 0)⟩,  -- 7900h+p:05 RX_FRAMES
  ⟨0x7900, 1, 2, 6, 6, .u64, .rc, false, 1, (.val 0)⟩,  -- 7900h+p:06 TX_FRAMES
  ⟨0x7900, 1, 2, 7, 7, .u64, .rc, false, 1, (.val 0)⟩,  -- 7900h+p:07 COLLISIONS
  ⟨0x7900, 1, 2, 8, 8, .u32, .rc, false, 1, (.val 0)⟩,  -- 7900h+p:08 EXCESS_COLLISIONS
  ⟨0x7900, 1, 2, 9, 9, .u32, .rc, false, 1, (.val 0)⟩,  -- 7900h+p:09 LATE_COLLISIONS
  ⟨0x7900, 1, 2, 10, 10, .u32, .rc, false, 1, (.val 0)⟩,  -- 7900h+p:0A RX_ERRORS
  ⟨0x7900, 1, 2, 11, 11, .u64, .rc, false, 1, (.val 0)⟩,  -- 7900h+p:0B FILTERED
  ⟨0x7900, 1, 2, 12, 12, .u64, .rc, false, 1, (.val 0)⟩,  -- 7900h+p:0C RATE_DROPPED
  ⟨0x7900, 1, 2, 13, 13, .u64, .rc, false, 1, (.val 0)⟩,  -- 7900h+p:0D STORM_DROPPED
  ⟨0x7A00, 1, 1, 1, 1, .bool, .rw, false, 2, .boot⟩,  -- 7A00h:01 FORWARD
  ⟨0x7A00, 1, 1, 2, 2, .u16, .ro, false, 0, (.val 0)⟩,  -- 7A00h:02 MAC_TABLE_USED
  ⟨0x7A00, 1, 1, 3, 3, .u16, .rw, false, 2, (.val 300)⟩,  -- 7A00h:03 AGING_TIME
  ⟨0x7A00, 1, 1, 4, 4, .u32, .rw, false, 2, (.val 10000)⟩,  -- 7A00h:04 STORM_LIMIT
  ⟨0x7A00, 1, 1, 5, 5, .u16, .rw, false, 2, .boot⟩,  -- 7A00h:05 MGMT_VID
  ⟨0x7B00, 1, 1, 1, 1, (.octets 6), .ro, false, 0, .none⟩,  -- 7B00h:01 MAC_ADDRESS
  ⟨0x7B00, 1, 1, 2, 2, .u8, .rw, false, 2, .boot⟩,  -- 7B00h:02 IP_MODE
  ⟨0x7B00, 1, 1, 3, 3, .u32, .rw, false, 2, .boot⟩,  -- 7B00h:03 IP_ADDRESS
  ⟨0x7B00, 1, 1, 4, 4, .u32, .rw, false, 2, .boot⟩,  -- 7B00h:04 NETMASK
  ⟨0x7B00, 1, 1, 5, 5, .u8, .ro, false, 0, (.val 0)⟩,  -- 7B00h:05 IP_STATE
  ⟨0x7B00, 1, 1, 6, 6, .u32, .ro, false, 0, (.val 0)⟩,  -- 7B00h:06 LEASE_REMAINING
  ⟨0x7C00, 1, 1, 1, 1, .u32, .rw, false, 2, (.val 2000)⟩,  -- 7C00h:01 SOURCE_RATE
  ⟨0x7C00, 1, 1, 2, 2, .u16, .rw, false, 2, (.val 256)⟩,  -- 7C00h:02 SOURCE_BURST
  ⟨0x7C00, 1, 1, 3, 3, .u16, .rw, false, 2, (.val 100)⟩,  -- 7C00h:03 ARP_RATE
  ⟨0x7C00, 1, 1, 4, 4, .u16, .rw, false, 2, (.val 20)⟩,  -- 7C00h:04 ICMP_RATE
  ⟨0x7C00, 1, 1, 5, 5, .u32, .rc, false, 1, (.val 0)⟩,  -- 7C00h:05 REASSEMBLY_DROPS
  ⟨0x7C00, 1, 1, 6, 6, .u32, .rc, false, 1, (.val 0)⟩,  -- 7C00h:06 ARP_DROPPED
  ⟨0x7C00, 1, 1, 7, 7, .u32, .rc, false, 1, (.val 0)⟩  -- 7C00h:07 ICMP_DROPPED
]

/-- Rows of the time objects. -/
def timeRows : List ObjDesc := timeRows1 ++ timeRows2

/-- Rows of the clocks objects, part 1. -/
def clocksRows1 : List ObjDesc := [
  ⟨0x2000, 1, 1, 1, 1, .u8, .ro, false, 0, .none⟩,  -- 2000h:01 MODE
  ⟨0x2000, 1, 1, 2, 2, .u8, .wo, false, 2, .none⟩,  -- 2000h:02 MODE_COMMAND
  ⟨0x2000, 1, 1, 3, 3, .u8, .rw, false, 2, (.val 1)⟩,  -- 2000h:03 SHUTDOWN_TARGET
  ⟨0x2000, 1, 1, 4, 4, .bool, .rw, false, 2, (.val 1)⟩,  -- 2000h:04 SHUTDOWN_TEST
  ⟨0x2000, 1, 1, 5, 5, .u32, .rw, false, 2, (.val 0)⟩,  -- 2000h:05 STANDBY_WAKE
  ⟨0x2000, 1, 1, 6, 6, .u8, .ro, false, 0, (.val 0)⟩,  -- 2000h:06 MODE_PREVIOUS
  ⟨0x2010, 1, 1, 1, 1, .u8, .rw, true, 1, .boot⟩,  -- 2010h:01 STEP_REF
  ⟨0x2010, 1, 1, 2, 2, (.bits 8), .ro, false, 0, (.val 0)⟩,  -- 2010h:02 SOURCES_PRESENT
  ⟨0x2010, 1, 1, 3, 3, .u8, .ro, false, 0, (.val 0)⟩,  -- 2010h:03 WICK_SOURCE
  ⟨0x2020, 1, 1, 1, 8, .u8, .ro, false, 0, (.val 0)⟩,  -- 2020h:01–08 PLL_STATE
  ⟨0x2020, 1, 1, 9, 9, (.bits 16), .ro, false, 0, (.val 0)⟩,  -- 2020h:09 CLOCK_STATUS
  ⟨0x2020, 1, 1, 10, 10, (.bits 16), .rc, false, 1, (.val 0)⟩,  -- 2020h:0A CLK_FORCED
  ⟨0x2020, 1, 1, 11, 11, .u32, .rc, false, 1, (.val 0)⟩,  -- 2020h:0B FORCED_SWITCHES
  ⟨0x2028, 1, 1, 1, 1, .u8, .ro, false, 0, (.val 0)⟩,  -- 2028h:01 TAPER_STATE
  ⟨0x2028, 1, 1, 2, 2, .u8, .ro, false, 0, (.val 0)⟩,  -- 2028h:02 TAPER_INCREMENTS
  ⟨0x2028, 1, 1, 3, 3, .u32, .ro, false, 0, (.val 0)⟩,  -- 2028h:03 TAPER_LAST
  ⟨0x2030, 1, 1, 1, 1, (.bits 16), .rw, false, 1, (.val 0)⟩,  -- 2030h:01 FORCE_GATE
  ⟨0x2030, 1, 1, 2, 2, (.bits 16), .ro, false, 0, (.val 0)⟩,  -- 2030h:02 GATED
  ⟨0x2030, 1, 1, 3, 3, .u32, .rc, false, 1, (.val 0)⟩,  -- 2030h:03 GATE_ACCESS_ERRORS
  ⟨0x2040, 1, 1, 1, 1, .bool, .rw, true, 1, (.val 0)⟩,  -- 2040h:01 SSC_ENABLE
  ⟨0x2040, 1, 1, 2, 2, .u8, .rw, true, 1, (.val 10)⟩,  -- 2040h:02 SSC_DEPTH
  ⟨0x2040, 1, 1, 3, 3, .u8, .rw, true, 1, (.val 31)⟩,  -- 2040h:03 SSC_RATE
  ⟨0x2040, 1, 1, 4, 4, .bool, .ro, false, 0, (.val 0)⟩,  -- 2040h:04 SSC_ACTIVE
  ⟨0x2050, 1, 1, 1, 1, .u8, .rw, false, 1, (.val 0)⟩,  -- 2050h:01 CKOUT_SOURCE
  ⟨0x2050, 1, 1, 2, 2, .u32, .rw, false, 1, (.val 1)⟩,  -- 2050h:02 CKOUT_DIVIDER
  ⟨0x2050, 1, 1, 3, 3, .bool, .rw, false, 1, (.val 0)⟩,  -- 2050h:03 CKOUT_ENABLE
  ⟨0x2100, 1, 1, 1, 1, .u8, .rw, false, 1, (.val 4)⟩,  -- 2100h:01 MAX_DEPTH
  ⟨0x2100, 1, 1, 2, 2, .u32, .rw, false, 1, (.val 5000)⟩,  -- 2100h:02 GUARD_MARGIN
  ⟨0x2100, 1, 1, 3, 3, .time64, .rw, false, 1, (.val 0)⟩,  -- 2100h:03 NEXT_JOB
  ⟨0x2100, 1, 1, 4, 4, .u8, .ro, false, 0, (.val 0)⟩,  -- 2100h:04 CURRENT_DEPTH
  ⟨0x2100, 1, 1, 5, 5, .u32, .ro, false, 0, (.val 0)⟩,  -- 2100h:05 NEXT_EVENT_IN
  ⟨0x2100, 1, 1, 6, 6, .u8, .ro, false, 0, (.val 0)⟩,  -- 2100h:06 NEXT_EVENT_SOURCE
  ⟨0x2200, 1, 1, 1, 1, .u32, .ro, false, 0, .none⟩,  -- 2200h:01 VIN
  ⟨0x2200, 1, 1, 2, 2, .u16, .ro, false, 0, .none⟩,  -- 2200h:02 VBAT
  ⟨0x2200, 1, 1, 3, 3, .u32, .ro, false, 0, .none⟩,  -- 2200h:03 INPUT_POWER
  ⟨0x2200, 1, 1, 4, 4, .u32, .ro, false, 0, (.val 250000)⟩,  -- 2200h:04 POWER_LIMIT
  ⟨0x2200, 1, 1, 5, 5, .u8, .ro, false, 0, (.val 48)⟩,  -- 2200h:05 PHASES_GOOD
  ⟨0x2200, 1, 1, 6, 6, .u8, .ro, false, 0, .none⟩,  -- 2200h:06 LAST_OFF_CAUSE
  ⟨0x2200, 1, 1, 7, 7, .bool, .ro, false, 0, .none⟩,  -- 2200h:07 PFAIL_LEVEL
  ⟨0x2200, 1, 1, 8, 8, .u64, .rc, false, 1, (.val 0)⟩  -- 2200h:08 ENERGY
]

/-- Rows of the clocks objects, part 2. -/
def clocksRows2 : List ObjDesc := [
  ⟨0x2200, 1, 1, 9, 9, .u32, .rc, false, 1, (.val 0)⟩,  -- 2200h:09 PEAK_POWER
  ⟨0x2200, 1, 1, 10, 10, (.bits 8), .rw, false, 2, (.val 31)⟩,  -- 2200h:0A ALERT_MASK
  ⟨0x2300, 1, 20, 1, 1, .u8, .ro, false, 0, .none⟩,  -- 2300h+d:01 DOMAIN_STATE
  ⟨0x2300, 1, 20, 2, 2, .u8, .rw, false, 2, (.val 0)⟩,  -- 2300h+d:02 DOMAIN_REQUEST
  ⟨0x2300, 1, 20, 3, 3, .u32, .ro, false, 0, .none⟩,  -- 2300h+d:03 DOMAIN_POWER
  ⟨0x2400, 1, 1, 1, 1, .i32, .ro, false, 0, .none⟩,  -- 2400h:01 TJ_MAX
  ⟨0x2400, 1, 1, 2, 2, .u8, .ro, false, 0, .none⟩,  -- 2400h:02 TJ_MAX_SENSOR
  ⟨0x2400, 1, 1, 3, 3, .i32, .rw, false, 2, (.val 100000)⟩,  -- 2400h:03 THROTTLE_THRESHOLD
  ⟨0x2400, 1, 1, 4, 4, .i32, .ro, false, 0, (.val 105000)⟩,  -- 2400h:04 HALT_THRESHOLD
  ⟨0x2400, 1, 1, 5, 5, .i32, .ro, false, 0, (.val 110000)⟩,  -- 2400h:05 TRIP_THRESHOLD
  ⟨0x2400, 1, 1, 6, 6, .u8, .ro, false, 0, (.val 16)⟩,  -- 2400h:06 DUTY
  ⟨0x2400, 1, 1, 7, 7, (.bits 8), .ro, false, 0, (.val 0)⟩,  -- 2400h:07 THROTTLE_CAUSE
  ⟨0x2400, 1, 1, 8, 8, .u64, .rc, false, 1, (.val 0)⟩,  -- 2400h:08 THROTTLED_CYCLES
  ⟨0x2400, 1, 1, 9, 9, .i32, .rc, false, 1, .none⟩,  -- 2400h:09 TJ_PEAK
  ⟨0x2410, 1, 1, 1, 1, .u8, .rw, false, 0, (.val 0)⟩,  -- 2410h:01 SENSOR_INDEX
  ⟨0x2410, 1, 1, 2, 2, .i32, .ro, false, 0, .none⟩  -- 2410h:02 SENSOR_TEMP
]

/-- Rows of the clocks objects. -/
def clocksRows : List ObjDesc := clocksRows1 ++ clocksRows2

/-- Rows of the selftest objects, part 1. -/
def selftestRows1 : List ObjDesc := [
  ⟨0x8000, 1, 1, 1, 1, .u8, .ro, false, 0, (.val 0)⟩,  -- 8000h:01 LAST_RESULT
  ⟨0x8000, 1, 1, 2, 2, .u32, .ro, false, 0, (.val 0)⟩,  -- 8000h:02 MAP_GENERATION
  ⟨0x8000, 1, 1, 3, 3, .time64, .ro, false, 0, (.val 0)⟩,  -- 8000h:03 LAST_TEST_TIME
  ⟨0x8000, 1, 1, 4, 4, .u32, .ro, false, 0, (.val 0)⟩,  -- 8000h:04 LAST_DURATION
  ⟨0x8000, 1, 1, 5, 5, .bool, .ro, false, 0, (.val 0)⟩,  -- 8000h:05 BIST_INCOMPLETE
  ⟨0x8000, 1, 1, 6, 6, .u32, .ro, false, 0, .none⟩,  -- 8000h:06 EXPECTED_STEPS
  ⟨0x8000, 1, 1, 7, 7, .u32, .ro, false, 0, (.val 0)⟩,  -- 8000h:07 STEPS_DONE
  ⟨0x8010, 1, 1, 1, 1, .time64, .rw, false, 2, (.val 0)⟩,  -- 8010h:01 SCHED_TIME
  ⟨0x8010, 1, 1, 2, 2, .u32, .rw, false, 2, (.val 0)⟩,  -- 8010h:02 SCHED_PERIOD
  ⟨0x8100, 1, 1, 1, 1, .u16, .rw, false, 0, (.val 32)⟩,  -- 8100h:01 HM_SECTION
  ⟨0x8100, 1, 1, 2, 2, .octetsVar, .ro, false, 0, .none⟩,  -- 8100h:02 HM_BITS
  ⟨0x8100, 1, 1, 3, 3, .u16, .ro, false, 0, (.val 0)⟩,  -- 8100h:03 UNUSABLE_CLUSTERS
  ⟨0x8100, 1, 1, 4, 4, .u16, .ro, false, 0, (.val 0)⟩,  -- 8100h:04 FAILED_BANKS
  ⟨0x8100, 1, 1, 5, 5, .u8, .ro, false, 0, (.val 0)⟩,  -- 8100h:05 FAILED_DRAM_UNITS
  ⟨0x8100, 1, 1, 6, 6, .u8, .ro, false, 0, (.val 0)⟩,  -- 8100h:06 FAILED_PHASES
  ⟨0x8100, 1, 1, 7, 7, (.bits 8), .ro, false, 0, (.val 0)⟩,  -- 8100h:07 FAILED_OTHER
  ⟨0x8100, 1, 1, 8, 8, .u8, .ro, false, 0, (.val 0)⟩,  -- 8100h:08 MAP_COPY_USED
  ⟨0x8200, 1, 1, 1, 1, .u8, .rw, false, 2, (.val 1)⟩,  -- 8200h:01 OD_KIND
  ⟨0x8200, 1, 1, 2, 2, .u8, .rw, false, 2, (.val 0)⟩,  -- 8200h:02 OD_TARGET
  ⟨0x8200, 1, 1, 3, 3, .u8, .wo, false, 2, .none⟩,  -- 8200h:03 OD_COMMAND
  ⟨0x8200, 1, 1, 4, 4, .u8, .ro, false, 0, (.val 0)⟩,  -- 8200h:04 OD_STATE
  ⟨0x8200, 1, 1, 5, 5, .u8, .ro, false, 0, (.val 0)⟩,  -- 8200h:05 OD_RESULT
  ⟨0x8200, 1, 1, 6, 6, .u32, .ro, false, 0, (.val 0)⟩,  -- 8200h:06 OD_DETAIL
  ⟨0x8210, 1, 1, 1, 4, .i32, .ro, false, 0, (.val 0)⟩,  -- 8210h:01–04 OSC_DEVIATION
  ⟨0x8300, 1, 1, 1, 1, .u32, .rw, false, 1, (.val 30)⟩,  -- 8300h:01 SLOT_PERIOD
  ⟨0x8300, 1, 1, 2, 2, .u32, .ro, false, 0, .none⟩,  -- 8300h:02 NEXT_SLOT
  ⟨0x8300, 1, 1, 3, 3, .u64, .rc, false, 1, (.val 0)⟩,  -- 8300h:03 PASSES
  ⟨0x8300, 1, 1, 4, 4, .u64, .rc, false, 1, (.val 0)⟩,  -- 8300h:04 CORRECTED
  ⟨0x8300, 1, 1, 5, 5, .u32, .rc, false, 1, (.val 0)⟩,  -- 8300h:05 UNCORRECTABLE
  ⟨0x8300, 1, 1, 6, 6, .u32, .rc, false, 1, (.val 0)⟩,  -- 8300h:06 VOTE_CORRECTIONS
  ⟨0x8300, 1, 1, 7, 7, .u32, .rc, false, 1, (.val 0)⟩,  -- 8300h:07 TALLOW_RESETS
  ⟨0x8300, 1, 1, 8, 8, .u32, .rw, false, 2, (.val 500)⟩,  -- 8300h:08 PROGRESS_TIMEOUT
  ⟨0x8310, 1, 5, 1, 1, .u32, .ro, false, 0, (.val 0)⟩  -- 8310h+a:01 AREA_PASS_TIME
]

/-- Rows of the selftest objects. -/
def selftestRows : List ObjDesc := selftestRows1

/-- Rows of the trace objects, part 1. -/
def traceRows1 : List ObjDesc := [
  ⟨0x8800, 1, 1, 1, 1, .u32, .ro, false, 0, (.val 1048576)⟩,  -- 8800h:01 BUFFER_OCTETS
  ⟨0x8800, 1, 1, 2, 2, .u16, .ro, false, 0, (.val 512)⟩,  -- 8800h:02 FRAME_WORDS
  ⟨0x8800, 1, 1, 3, 3, .u16, .ro, false, 0, (.val 1000)⟩,  -- 8800h:03 TIME_INTERVAL
  ⟨0x8800, 1, 1, 4, 4, .u16, .ro, false, 0, (.val 1)⟩,  -- 8800h:04 TRACE_FORMAT
  ⟨0x8800, 1, 1, 5, 5, .bool, .ro, false, 0, .none⟩,  -- 8800h:05 FW_SECURE
  ⟨0x8810, 1, 1, 1, 1, .bool, .rw, false, 1, (.val 0)⟩,  -- 8810h:01 SEQ_TRACE
  ⟨0x8810, 1, 1, 2, 2, (.bits 64), .rw, false, 1, (.val (2 ^ 64 - 1))⟩,  -- 8810h:02 SEQ_SEGMENTS
  ⟨0x8810, 1, 1, 3, 3, .bool, .rw, false, 3, (.val 0)⟩,  -- 8810h:03 SEQ_UNSUPPRESS
  ⟨0x8810, 1, 1, 4, 4, .bool, .ro, false, 0, (.val 0)⟩,  -- 8810h:04 SEQ_SUPPRESSED
  ⟨0x8810, 1, 1, 5, 5, .u64, .rc, false, 1, (.val 0)⟩,  -- 8810h:05 SUPPRESSED_CYCLES
  ⟨0x8820, 1, 1, 1, 1, (.bits 4), .rw, false, 1, (.val 0)⟩,  -- 8820h:01 CORE_TRACE
  ⟨0x8820, 1, 1, 2, 2, (.bits 4), .ro, false, 0, (.val 0)⟩,  -- 8820h:02 CORE_ACTIVE
  ⟨0x8830, 1, 1, 1, 1, .u8, .rw, true, 1, (.val 0)⟩,  -- 8830h:01 SINK
  ⟨0x8830, 1, 1, 2, 2, .u8, .rw, true, 1, (.val 0)⟩,  -- 8830h:02 OVERFLOW_MODE
  ⟨0x8830, 1, 1, 3, 3, .u8, .ro, false, 0, (.val 0)⟩,  -- 8830h:03 SINK_STATE
  ⟨0x8830, 1, 1, 4, 4, .u64, .ro, false, 0, (.val 0)⟩,  -- 8830h:04 DRAM_WRITE_OFFSET
  ⟨0x8830, 1, 1, 5, 5, .bool, .ro, false, 0, (.val 0)⟩,  -- 8830h:05 DRAM_WRAPPED
  ⟨0x8840, 1, 1, 1, 1, .u64, .rc, false, 1, (.val 0)⟩,  -- 8840h:01 RECORDS_WRITTEN
  ⟨0x8840, 1, 1, 2, 2, .u64, .rc, false, 1, (.val 0)⟩,  -- 8840h:02 RECORDS_DROPPED
  ⟨0x8840, 1, 1, 3, 3, .u32, .rc, false, 1, (.val 0)⟩,  -- 8840h:03 OVERFLOWS
  ⟨0x8840, 1, 1, 4, 4, .u32, .rc, false, 1, (.val 0)⟩  -- 8840h:04 BUFFER_PEAK
]

/-- Rows of the trace objects. -/
def traceRows : List ObjDesc := traceRows1

/-- R14: the rows of the chapter that owns an index (Table 0-7). -/
def rowsOf (idx : Nat) : List ObjDesc :=
  if idx < 0x1000 then [] else if idx < 0x2000 then dictRows else if idx < 0x2800 then clocksRows
  else if idx < 0x3000 then [] else if idx < 0x3400 then lanesRows else if idx < 0x3800 then sweepsRows
  else if idx < 0x4000 then exchangeRows else if idx < 0x4800 then memoryRows else if idx < 0x5000 then rewindRows
  else if idx < 0x6000 then lanternRows else if idx < 0x6800 then imagesRows else if idx < 0x7000 then fabricRows
  else if idx < 0x7800 then hostRows else if idx < 0x8000 then timeRows else if idx < 0x8800 then selftestRows
  else if idx < 0x9000 then traceRows else []

/-- Whether a row names the object idx:sub. -/
def ObjDesc.names (d : ObjDesc) (idx sub : Nat) : Bool :=
  d.base ≤ idx && (idx - d.base) % d.stride == 0 && (idx - d.base) / d.stride < d.count && d.lo ≤ sub && sub ≤ d.hi

/-- The row of an object; none for an absent index (R15). -/
def findObj (idx sub : Nat) : Option ObjDesc := (rowsOf idx).find? (fun d => d.names idx sub)

/-- Default of sub-index sub of a row; "boot stream" and "—" hold 0 until something is stored (log 6). -/
def ObjDesc.dfltAt (d : ObjDesc) (sub : Nat) : Nat :=
  match d.dflt with
  | .val n => n
  | .subs l => l.getD (sub - d.lo) 0
  | .boot => 0
  | .none => 0

/-- Default of an object. -/
def objDflt (idx sub : Nat) : Nat :=
  match findObj idx sub with
  | some d => d.dfltAt sub
  | none => 0

end Sys2Proof.Machine
end

