-- ==== Sys2Proof/Machine/Operands.lean ====
section
/-! DEFINITION. Bit fields, octet orders, the two cyclic redundancy codes, and the fields of the instruction word
and of the other words the manual lays out bit by bit. -/

namespace Sys2Proof.Machine

/-- Bits [lo+len-1:lo] of a number. -/
def fld (n lo len : Nat) : Nat := (n >>> lo) % 2 ^ len

/-- Bit i of a number. -/
def bitOf (n i : Nat) : Bool := n.testBit i

/-- A number with bit i set to b. -/
def putBit (n i : Nat) (b : Bool) : Nat :=
  if b then n ||| (1 <<< i) else if n.testBit i then n ^^^ (1 <<< i) else n

/-- A bit vector with bit i set to b. -/
def putBv {w : Nat} (v : BitVec w) (i : Nat) (b : Bool) : BitVec w :=
  BitVec.ofNat w (putBit v.toNat i b)

/-- The indices below n whose bit is 1, ascending. -/
def ones (n v : Nat) : List Nat := (List.range n).filter (fun i => v.testBit i)

/-- The number whose bits at the listed indices are 1. -/
def ofOnes (l : List Nat) : Nat := l.foldl (fun a i => a ||| (1 <<< i)) 0

/-- Number of bits that are 1 among the lowest n. -/
def popcount (n v : Nat) : Nat := (ones n v).length

/-- n octets, most significant first. -/
def octetsBE : Nat → Nat → List Octet
  | 0, _ => []
  | n + 1, v => BitVec.ofNat 8 (v >>> (8 * n)) :: octetsBE n v

/-- n octets, least significant first. -/
def octetsLE : Nat → Nat → List Octet
  | 0, _ => []
  | n + 1, v => BitVec.ofNat 8 v :: octetsLE n (v >>> 8)

/-- The number that octets spell, most significant first. -/
def natBE (l : List Octet) : Nat := l.foldl (fun a o => 256 * a + o.toNat) 0

/-- The number that octets spell, least significant first. -/
def natLE : List Octet → Nat
  | [] => 0
  | o :: t => o.toNat + 256 * natLE t

/-- A list cut into pieces of n elements (the last may be shorter); `fuel` bounds the pieces. -/
def chunksOf {α : Type} (n : Nat) : Nat → List α → List (List α)
  | 0, _ => []
  | _, [] => []
  | f + 1, l => l.take n :: chunksOf n f (l.drop n)

/-- A list cut into whole pieces of n elements. -/
def chunks {α : Type} (n : Nat) (l : List α) : List (List α) := chunksOf n l.length l

/-- Unsigned value read as two's complement of w bits. -/
def toSigned (w n : Nat) : Int := if n % 2 ^ w < 2 ^ (w - 1) then (n % 2 ^ w : Nat) else (n % 2 ^ w : Nat) - (2 ^ w : Nat)

/-- An integer as w-bit two's complement. -/
def ofSigned (w : Nat) (i : Int) : Nat := (i % (2 ^ w : Nat)).toNat

/-! ### Check codes -/

/-- One bit step of the reflected CRC-32. -/
def crc32Bit (c : Nat) : Nat := if c % 2 = 1 then (c >>> 1) ^^^ 0xEDB88320 else c >>> 1

/-- One octet step of the reflected CRC-32. -/
def crc32Octet (c : Nat) (o : Octet) : Nat :=
  crc32Bit (crc32Bit (crc32Bit (crc32Bit (crc32Bit (crc32Bit (crc32Bit (crc32Bit (c ^^^ o.toNat))))))))

/-- CRC-32 of R48: polynomial 04C11DB7h, reflected, initial value and final exclusive-OR FFFFFFFFh. -/
def crc32 (l : List Octet) : Nat := (l.foldl crc32Octet 0xFFFFFFFF) ^^^ 0xFFFFFFFF

/-- One bit step of the CRC-16 with polynomial 1021h, most significant bit first. -/
def crc16Bit (c : Nat) (b : Bool) : Nat :=
  let top := c.testBit 15
  let c' := (2 * c) % 65536
  if top != b then c' ^^^ 0x1021 else c'

/-- CRC-16 of Table 3-6: polynomial 1021h, initial value FFFFh, over the n bits of v, most significant first. -/
def crc16 (n v : Nat) : Nat := ((List.range n).reverse.map (fun i => v.testBit i)).foldl crc16Bit 0xFFFF

/-! ### The instruction word (Tables 1-5, 1-6) -/

/-- The null word. -/
def nullWord : BitVec 128 := 0x003F0FC3F0FC3F0FC3F003F000000100#128

/-- FN. -/
def wFn (w : BitVec 128) : Nat := fld w.toNat 118 10
/-- A0..A5. -/
def wA (w : BitVec 128) (x : Nat) : Nat := fld w.toNat (108 - 10 * x) 10
/-- DST. -/
def wDst (w : BitVec 128) : Nat := fld w.toNat 48 10
/-- CAP_SRC. -/
def wCapSrc (w : BitVec 128) : Nat := fld w.toNat 42 6
/-- CAP_ADDR. -/
def wCapAddr (w : BitVec 128) : Nat := fld w.toNat 32 10
/-- EXP. -/
def wExp (w : BitVec 128) : Bool := bitOf w.toNat 31
/-- EW. -/
def wEw (w : BitVec 128) : Nat := fld w.toNat 28 3
/-- IMP. -/
def wImp (w : BitVec 128) : Bool := bitOf w.toNat 27
/-- IW. -/
def wIw (w : BitVec 128) : Nat := fld w.toNat 24 3
/-- IADDR. -/
def wIaddr (w : BitVec 128) : Nat := fld w.toNat 14 10
/-- ST. -/
def wSt (w : BitVec 128) : Bool := bitOf w.toNat 13
/-- MEM. -/
def wMem (w : BitVec 128) : Bool := bitOf w.toNat 12
/-- PRB. -/
def wPrb (w : BitVec 128) : Bool := bitOf w.toNat 11
/-- GRD as it stands in the word. -/
def wGrd (w : BitVec 128) : Bool := bitOf w.toNat 10
/-- TRG as it stands in the word. -/
def wTrg (w : BitVec 128) : Bool := bitOf w.toNat 9
/-- NOP. -/
def wNop (w : BitVec 128) : Bool := bitOf w.toNat 8
/-- BND. -/
def wBnd (w : BitVec 128) : Bool := bitOf w.toNat 7
/-- Tap number T = 8·EW + IW (R68). -/
def wTap (w : BitVec 128) : Nat := 8 * wEw w + wIw w
/-- R69: GRD or TRG beside EXP or IMP; the word's GRD and TRG are then ignored. -/
def wConflict (w : BitVec 128) : Bool := (wGrd w || wTrg w) && (wExp w || wImp w)
/-- R79: a reserved bit of the word is set. -/
def wReserved (w : BitVec 128) : Bool := fld w.toNat 0 7 != 0

/-- Fixed dictionary entries 0-15 (Table 1-4). -/
def fixedEntry (i : Nat) : Word64 :=
  [0x0, 0xFFFFFFFFFFFFFFFF, 0xAAAAAAAAAAAAAAAA, 0x5555555555555555, 0x8000000000000000, 0xFFFFFFFFFFFFFFFE,
   0x6996966996696996, 0x9669699669969669, 0xCACACACACACACACA, 0xE8E8E8E8E8E8E8E8, 0x8888888888888888,
   0xEEEEEEEEEEEEEEEE, 0x6666666666666666, 0x7777777777777777, 0x1111111111111111, 0x9696969696969696].getD i 0

/-! ### Lane addresses (Table 1-13) -/

/-- Lane address from tile number (32·quadrant + tile), cluster and lane. -/
def laneAddr (tile cluster lane : Nat) : Nat := tile * 2048 + cluster * 64 + lane

/-- Tile number of a lane address. -/
def laTile (a : Nat) : Nat := fld a 11 7
/-- Cluster of a lane address. -/
def laCluster (a : Nat) : Nat := fld a 6 5
/-- Lane of a lane address. -/
def laLane (a : Nat) : Nat := fld a 0 6

/-! ### The port vector (Table 4-1) -/

/-- WDATA. -/
def pvData (v : Nat) : Word64 := BitVec.ofNat 64 (v >>> 64)
/-- BE. -/
def pvBe (v : Nat) : BitVec 8 := BitVec.ofNat 8 (v >>> 56)
/-- WE. -/
def pvWe (v : Nat) : Bool := bitOf v 55
/-- ROT. -/
def pvRot (v : Nat) : Nat := fld v 52 3
/-- ADDR, 33 bits. -/
def pvAddr (v : Nat) : Nat := fld v 0 33

/-- Byte j of a word. -/
def byteOf (w : Word64) (j : Nat) : Octet := BitVec.ofNat 8 (w.toNat >>> (8 * j))

/-- A word from its eight bytes by position. -/
def ofBytes (f : Nat → Octet) : Word64 :=
  BitVec.ofNat 64 ((List.range 8).foldl (fun a j => a + (f j).toNat * 2 ^ (8 * j)) 0)

/-- R281: the stored word after a write of WDATA under BE and ROT. -/
def mergeWrite (old wdata : Word64) (be : BitVec 8) (rot : Nat) : Word64 :=
  ofBytes fun j => if be.getLsbD j then byteOf wdata ((j + 8 - rot) % 8) else byteOf old j

/-- R282: the delivered word of a read under ROT. -/
def rotRead (w : Word64) (rot : Nat) : Word64 := ofBytes fun j => byteOf w ((j + rot) % 8)

end Sys2Proof.Machine
end

