-- ==== Sys2Proof/Machine/State.lean ====
section
/-! DEFINITION. The state of the module as plain data: everything the manual gives the machine, the queue of
commands that wait, and what the module has sent out. INVENTORY.md lists every piece with the rule that names it. -/

namespace Sys2Proof.Machine

/-- Why a command stops the machine. -/
inductive Fault where
  /-- The command names a port, engine, slot, bank or domain that the module does not have; raised by the rows that
  carry such a number. SAFE: no wire of the module carries such a command. -/
  | absentUnit
  deriving DecidableEq, Repr

/-- Why a command has no meaning. -/
inductive Refusal where
  /-- The command has no meaning in the model yet; raised by the arm of `exec` alone. SAFE: nothing is claimed. -/
  | notModelled (mnemonic : String)
  deriving DecidableEq, Repr

/-! ### Lanes (chapter 1) -/

/-- Local bit store of one physical lane (Tables 1-2, 1-3, R39). Bit i of `tmp` is address 384+i. The `bad` masks
say which 8-bit groups hold bad parity. -/
structure LaneRec where
  cur : BitVec 384 := 0
  nxt : BitVec 384 := 0
  sh : BitVec 384 := 0
  tmp : BitVec 624 := 0
  rd : Bool := false
  ind : Bool := false
  imp : Bool := false
  badCur : Nat := 0
  badNxt : Nat := 0
  badSh : Nat := 0
  badTmp : Nat := 0
  deriving DecidableEq, Repr

/-- A write that an executed step applied and that becomes visible two steps later (R80, R83). `plane`: 0 both
state planes, 1 next plane only, 2 temporary, 3 import latch. -/
structure LbsWrite where
  lane : Nat
  plane : Nat
  addr : Nat
  bit : Bool
  deriving DecidableEq, Repr

/-- A delivery of a bank port that becomes readable at executed step `due` (R31, R286). -/
structure Delivery where
  due : Nat
  tile : Nat
  cluster : Nat
  data : Option Word64
  ind : Bool
  deriving DecidableEq, Repr

/-- A host deposit (R87, R88): lane address (Table 1-13), state address, value. -/
structure Deposit where
  lane : Nat
  addr : Nat
  bit : Bool
  deriving DecidableEq, Repr

/-- Chapter 1 state. Lanes and clusters of stored data are numbered physically: lane = 64·cluster + l, cluster =
17·tile + c, tile = 32·quadrant + t. `res1`, `res2` are the logical lanes whose result was 1 in the last executed
step and in the one before (R18, R279). -/
structure LaneSt where
  lbs : Sparse LaneRec := []
  im : Sparse (BitVec 128) := []
  imErr : Sparse Nat := []          -- flipped bits stored in a codeword (R89, R90)
  imFixed : List Nat := []          -- corrected codewords to be written back in the commit window (R89)
  imHost : List Nat := []           -- words written through 3010h since application (R439)
  dict : Sparse Word64 := []        -- ((cluster·2 + physical bank)·1024 + entry)
  dictErr : Sparse Nat := []
  dictHost : List Nat := []
  dictActive : Sparse Nat := []     -- physical bank that is active, per cluster
  dictSealed : List Nat := []       -- clusters whose shadow bank is sealed (R47)
  res1 : List Nat := []
  res2 : List Nat := []
  flight : List LbsWrite := []
  deliveries : List Delivery := []
  deposits : List Deposit := []     -- deposit queue (R107)
  first : Bool := false             -- location 1013
  fbLatch : Bool := false           -- location 1014
  deriving DecidableEq, Repr

/-- A bank swap (R50-R54, R842): 3110h:03 / 3900h:03 code, fixed scope, and whether it is joined (R221). -/
structure Swap where
  state : Nat := 0                  -- 0 none, 1 at next commit, 2 pending, 3 done
  scope : Nat := 0
  joined : Bool := false
  late : Bool := false               -- sealed during a replay: waits for the first commit after it (R51)
  deriving DecidableEq, Repr

/-! ### Exchange and Ilyan (chapter 3) -/

/-- Port states of Table 3-10. -/
inductive PortState where
  | off | training | linked | exchange | refused | lost
  deriving DecidableEq, Repr

/-- A step slot a port has built and not yet framed (R228): design cycle, step number, sweep flag, bits, sideband. -/
structure TxSlot where
  cycle : Nat
  index : Nat
  sweep : Bool
  bits : List Nat
  side : Nat
  deriving DecidableEq, Repr

/-- A received sweep slot that waits for its release step (R250). -/
structure RxSlot where
  cycle : Nat
  step : Nat
  bits : List Nat
  deriving DecidableEq, Repr

/-- One Ilyan port. -/
structure Port where
  state : PortState := .off
  enabled : Bool := false            -- 3A0nh:02, the applied image uses the port
  reason : Nat := 0                  -- 3A0nh:04
  partnerId : Nat := 255
  partnerPort : Nat := 255
  partner : Option Identity := none  -- last IDENTITY received
  transit : Nat := 0
  spareFor : Nat := 15               -- receive direction (3A0nh:09)
  txSpareFor : Nat := 15
  txSwitch : Option Nat := none      -- SPARE_FOR to be announced (R255)
  gtx : Option (Nat × List Nat) := none -- guard message in transmission: cycle, guard words still to send (R262, R264)
  ctl : List Nat := []               -- control messages that wait for a slot, oldest first (R237)
  mg : List Nat := []                -- management words that wait for a slot, oldest first
  reversed : Bool := false
  polarity : BitVec 9 := 0
  trainingTime : Nat := 0
  badRun : Nat := 0                  -- consecutive superframes that failed HCRC (R248)
  lostAt : Nat := 0
  dead : Bool := false               -- inputs read 0 for the rest of the sweep (R267)
  holding : Bool := false            -- HOLDING of the partner's latest STATUS (R239)
  tx : List TxSlot := []
  rx : List RxSlot := []
  guard : List Nat := []             -- words of a guard message received so far (R265)
  guardSkip : Nat := 0               -- words still to come of a guard message whose first word lacked FIRST
  mgmt : List Nat := []              -- words of a management packet received so far, its header first (R241)
  mgSkip : Nat := 0                  -- words still to come of a management packet that is discarded
  deriving DecidableEq, Repr

/-- A guard message under assembly for one design cycle (R261-R264). -/
structure GuardSum where
  cycle : Nat
  mask : Nat
  vec : Nat
  doneAt : Option Nat                -- steps from C1 of the cycle's commit to completion
  deriving DecidableEq, Repr

/-- Chapter 3 state. Bits in pipelines are held as the list of those that are 1. Input and output indices are
tile·336 + index of Table 3-2. -/
structure ExchSt where
  bank : Sparse (BitVec 3072) := []  -- ((tile·2 + physical bank)·2048 + entry)
  bankErr : Sparse Nat := []         -- flipped bits per 64-bit group: 48·(key of the entry) + group (R214)
  active : Sparse Nat := []
  sealed : List Nat := []
  inputs : List Nat := []            -- exports and mesh bits present during the next step (R203, R206)
  imp1 : List Nat := []              -- imports routed in the last step (tile·128 + 8c + w)
  imp2 : List Nat := []              -- imports routed in the step before it (R205)
  bridge : List (Nat × Nat) := []    -- (due step, input)
  ports : List Port := List.replicate 8 {}
  guards : List GuardSum := []
  guardNow : Option Nat := none      -- cycle whose guard messages may be sent (R261, R264)
  tags : List (Nat × Nat × Bool) := []   -- cycle, index and sweep flag of this end's steps, newest first, at most 256 (R252)
  lineTime : Nat := 0                -- quarter-ns since the last superframe boundary (R229)
  stopFwd : List Nat := []           -- origins whose STOPPED_FWD was sent in this commit window (R240)
  faultFwd : List Nat := []          -- origins whose FAULT_FWD was sent in it
  stopSeen : List Nat := []          -- origins of stopped indications in this commit window (R148)
  faultSeen : List Nat := []
  lfDone : Bool := false             -- a lockstep fault has raised its event in this cycle (R268)
  test : Option (Nat × Nat) := none  -- lane test in progress: port, lane
  testBack : Option Nat := none      -- port of a test that ended, while its lane returns from the spare (3C00h:05 = 3)
  slackClear : Bool := false         -- 3840h:03 has been cleared by a read and no slack taken since (R266)
  deriving DecidableEq, Repr

/-! ### Design memories and DRAM (chapter 4) -/

/-- A host write in the queue or in the log (R295, R297): far flag, address (bank: 65536·(4·tile+bank) + word; far:
word), data, byte enables. -/
structure HostWr where
  far : Bool
  addr : Nat
  data : Word64
  be : BitVec 8
  deriving DecidableEq, Repr

/-- A far delivery of the cycle (R310, R312): tile, read data (none: only writes), delivered yet. -/
structure FarDel where
  tile : Nat
  cluster : Nat
  addr : Nat
  data : Option Word64
  ready : Bool
  done : Bool
  failed : Bool
  deriving DecidableEq, Repr

/-- A host read of bank or far words that waits for steps at which the module may perform it (R292, R294): the request, the words
left to read, the octets read, the TYPE and the octets of each part of the answer. -/
structure HostRead where
  session : Nat
  seq : Nat
  far : Bool
  addr : Nat
  left : Nat
  got : List Octet
  ty : Nat
  part : Nat
  ahead : Nat := 0                   -- queued writes accepted before it that are not applied yet (R561)
  block : Option (Nat × Nat × Nat × Nat) := none   -- READ_BLOCK: object, start selector, START, the selector's former value (R590)
  deriving DecidableEq, Repr

/-- Chapter 4 state. Port p of a tile: 0-7 = MB0A..MB3B, 8 = far. -/
structure MemSt where
  bank : Sparse Word64 := []         -- 65536·(4·tile+bank) + word
  bankErr : Sparse Nat := []         -- 1 single-bit, 2 uncorrectable
  fixed : List (Nat × Nat) := []     -- corrected words whose write-back waits, with the port 0 A or 1 B of it (R301)
  touched : Sparse Nat := []         -- 1 + executed step of the last access of port tile·9+p, the host's included (R292)
  slots : Sparse Nat := []           -- host slots used in this block of the commit window, per port tile·9+p (R293)
  reads : List HostRead := []        -- host reads that wait (R294)
  last : Sparse Nat := []            -- 1 + executed step of the last schedule access of port tile·9+p (R285)
  farCount : Sparse Nat := []        -- far accesses of the cycle per tile (R307)
  farReads : Sparse Nat := []
  farDel : List FarDel := []
  farWrites : List Nat := []         -- tiles with an unretired far write (R313)
  farWait : List Nat := []           -- those whose write waits for the copy of its block (R414)
  hostQ : List HostWr := []          -- host write queue (R295)
  hostHeld : Bool := false           -- a queued write waits for the next commit (R415)
  dram : List Host.Cell := []        -- octets of the DRAM, physical address
  farErr : List Nat := []            -- far words that DRAM reports uncorrectable
  layout : List Nat := []            -- applied region code per unit (R316)
  owner : Sparse Nat := []           -- owner of port tile·9 + p, stored plus 1 (R276); 0 unbound
  compat : Sparse Nat := []          -- 4010h:0B per tile
  applying : Bool := false
  applyTo : List Nat := []           -- layout that the apply in progress brings in
  deriving DecidableEq, Repr

/-! ### Sequencer and run control (chapter 2) -/

/-- Run states of Table 2-8. -/
inductive RunState where
  | noDesign | stopped | running | stepping | stopping | waiting | recovering | faulted | parked
  deriving DecidableEq, Repr

/-- Where the sequencer stands: no sweep; in a sweep; in the commit window or a wait block; in the wait blocks that
start a run (R862). -/
inductive Phase where
  | idle | sweep | commit | starting
  deriving DecidableEq, Repr

/-- Replay in progress (R429-R443). -/
structure Replay where
  host : Bool                        -- host-commanded (R433) or spare recovery (R440)
  first : Nat                        -- c
  last : Nat                         -- t or f
  since : Nat                        -- FRC at the halt
  resume : RunState                  -- run state to return to (R441)
  recovered : List (Nat × Nat × Nat × Nat) -- recoveries that this replay completes (R440, R443): tile, cluster, f, FRC at the halt
  finished : Bool
  deriving DecidableEq, Repr

/-- Chapter 2 state. -/
structure RunSt where
  state : RunState := .noDesign
  before : RunState := .stopped      -- state that STOPPING or WAITING came from
  phase : Phase := .idle
  cycle : BitVec 64 := 0             -- design-cycle counter (R152)
  todo : List Nat := []              -- schedule steps of the sweep not yet executed
  e : Nat := 0                       -- executed steps of the sweep so far
  variant : Nat := 0
  vec : Nat := 0                     -- governing guard vector of the cycle in hand
  base : Nat := 0                    -- S of the variant
  blocks : Nat := 0                  -- wait blocks of this commit window
  settled : Bool := false            -- C8 has passed in this commit window
  gov : List (Nat × Nat) := []       -- governing vector and variant of the coming cycles
  guardAcc : Nat := 0                -- guard accumulators (R70)
  failed : List (Nat × Nat) := []    -- clusters that failed in this cycle: tile, logical cluster
  causes : List Nat := []            -- stop causes that fall due at the next C8
  stepLeft : Nat := 0
  runTo : Option Nat := none
  holdStop : Bool := true            -- hold cause STOP (R862)
  holdRecovery : Bool := false
  thermal : Nat := 0                 -- wait blocks THERMAL still takes (R748)
  heldNow : Nat := 0                 -- causes active at the last C8 or W8
  released : Bool := false           -- 3440h:04
  syncLevel : Bool := false          -- 3440h:03
  lowSince : Option Nat := none      -- FRC since which SYNC was sampled low in this window
  timedOut : Bool := false           -- 3441h raised for this window
  ruleBits : Nat := 0                -- 3060h counters incremented in the cycle (R856)
  dmBits : Nat := 0                  -- 4030h counters incremented
  frame : Option (Nat × Nat) := none -- pattern frame taken for the coming cycle: offset, payload bits (R489)
  cycleFrc : Nat := 0                -- FRC at step 0 of the cycle
  replay : Option Replay := none
  steppingNow : Bool := false        -- the run was started by STEP
  haltAt : Nat := 0                  -- FRC at the halt of R436
  deriving DecidableEq, Repr

/-! ### Lantern (chapter 5) -/

/-- Acquisition states of Table 5-5. -/
inductive AcqState where
  | disarmed | calibrating | filling | ready | post | rearm | done
  deriving DecidableEq, Repr

/-- Writer of one segment: position in words from the segment's start, block sequence number, state code of 5300h:04,
first pass or later, status fields, words since the last key record, last TIME32 stamp. -/
structure SegSt where
  start : Nat := 0
  blocks : Nat := 0
  state : Nat := 0
  pos : Nat := 0
  seq : Nat := 0
  firstRec : Bool := false           -- a record header has begun in the open block
  wrapped : Bool := false
  trigger : Nat := 0
  first : Nat := 0
  last : Nat := 0
  replayed : Nat := 0
  readStart : Nat := 0
  writeEnd : Nat := 0
  keyPos : Nat := 0
  keyWords : Nat := 0
  stamp : Nat := 0
  timed : Nat := 0                   -- 1 + cycle of the last TIME or TIMEMAP record written in a run (R344)
  recs : List (Nat × Nat × Bool) := []   -- (cycle, word offset of its record, key) of stored cycles
  deriving DecidableEq, Repr

/-- The Lantern context that a checkpoint carries (R382). -/
structure LanCtx where
  acq : AcqState := .disarmed
  gate : Bool := false
  cur : Nat := 0
  closed : Nat := 0
  from_ : Nat := 0                   -- first evaluated cycle (R349)
  stored : Nat := 0                  -- stored cycles in the current segment
  postLeft : Nat := 0
  rearmLeft : Nat := 0
  seqState : Nat := 0
  counters : List Nat := [0, 0, 0, 0]
  prevX : List Nat := []             -- X(k-1) per comparator; empty before the first evaluated cycle
  feedback : Bool := false
  mmCount : Nat := 0
  mmFirst : Nat := 0
  mmVals : List (Int × Int) := []
  ref : Sparse Nat := []             -- group values of the previous stored cycle (CHANGE)
  needKey : Bool := true
  segs : Sparse SegSt := []
  deriving DecidableEq, Repr

/-- An EXT record under construction (R383, R390). -/
structure ExtRec where
  seg : Nat                          -- segment that takes it
  sample : Nat                       -- number of its first sample since arming, in ANALYZER (R389)
  cycle : Nat
  time : Nat
  frac : Nat
  nch : Nat
  samples : List (List Nat)
  deriving DecidableEq, Repr

/-- Chapter 5 state. -/
structure LanternSt where
  ctx : LanCtx := {}
  held : List Nat := []              -- probe indices whose held value is 1 (R327)
  probeMap : Sparse Nat := []
  taps : Nat := 0                    -- tap vector of the cycle (R332)
  tapFirst : Sparse Nat := []        -- 1 + first executed step per tap
  ignBits : Nat := 0                 -- 5210h counters incremented since the last C8 (R358)
  disarmDue : Bool := false
  force : Bool := false
  hostMark : Option Nat := none
  timeMap : Option (Nat × Nat × Nat) := none -- TIMEMAP due: F, system time, step counter (R656, R657)
  minmax : Sparse Nat := []          -- reduction entries (5700h:05)
  ext : Option ExtRec := none
  extVec : Nat := 0
  extMatch : Nat := 0                -- comparators that matched at a sample since C4 of the previous commit
  extSeen : Bool := false
  sampleNo : Nat := 0
  capHold : Bool := false            -- CAPTURE hold (R380)
  rewriting : Bool := false          -- records carry REPLAYED
  rewound : List Nat := []           -- segments that took a REWIND record in this recovery (R382)
  deriving DecidableEq, Repr

/-! ### Rewind (chapter 6) -/

/-- One pre-image: far flag, block number, its 32 words. -/
structure PreImage where
  far : Bool
  block : Nat
  words : List Word64
  deriving DecidableEq, Repr

/-- One checkpoint (Tables 6-2, 6-3). `state`: 1 draining, 2 complete, 3 withdrawn. -/
structure Ckpt where
  cycle : Nat
  state : Nat
  cause : Nat
  by_ : Nat
  frc : Nat
  planes : Sparse (BitVec 384)       -- state section, per logical lane; filled by the drain (R402)
  first : Bool
  fb : Bool                          -- location 1014 in the cycle it begins (R36)
  gov : List (Nat × Nat)
  far : List (Nat × Nat × Option Word64)
  patPos : Nat
  ctx : LanCtx
  held : List Nat
  pre : List PreImage
  drained : Bool
  guardOk : Bool
  fresh : Bool                       -- taken in a commit whose SYNC has not been sampled high (R401)
  lone : Bool                        -- no recovery waits for its drain: a restart (R419), or a region's release (R539)
  deriving DecidableEq, Repr

/-- One stimulus-log record (Tables 6-5, 6-6). `bnd` lists the boundary inputs that were 1, `bndN` the section's N
(0: section absent). -/
structure LogRec where
  cycle : Nat
  fb : Bool
  first : Bool
  pat : Option Nat
  bndN : Nat
  bnd : List Nat
  deps : List Deposit
  hws : List HostWr
  isOpen : Bool
  deriving DecidableEq, Repr

/-- Chapter 6 state. -/
structure RewSt where
  ckpts : List Ckpt := []            -- oldest first
  log : List LogRec := []            -- oldest first
  copied : List Nat := []            -- blocks copied since the newest checkpoint (far: 2^40 + block)
  storeUsed : Sparse Nat := []       -- copy-store entries in use per tile
  farCopies : Nat := 0               -- far copies outstanding (R414)
  demand : Sparse Nat := []          -- D per tile (R412)
  restart : Option (Nat × Nat) := none -- restart due: tile or FFFFFFFFh, cause
  cmdDue : Bool := false             -- 4800h:08 = 1 accepted
  dueCause : Option Nat := none      -- highest cause of a checkpoint due at this commit
  deferred : Bool := false           -- snapshot deferred (R400)
  uncopyDue : Bool := false          -- blocks become uncopied when SYNC is sampled high (R401)
  logHold : Bool := false            -- STIMULUS_LOG hold
  spares : Sparse Nat := []          -- per tile: 0 free, 1+c carrying c, 100 unusable
  degraded : List Nat := []
  patDiscards : Nat := 0             -- discards since the last commit (R423)
  parkRestore : Bool := false        -- restore of R176 needed before the next run
  parkNewest : Option Nat := none
  deriving DecidableEq, Repr

/-! ### Target interface fabric (chapter 7) -/

/-- One serial port. -/
structure Serial where
  tx : List Octet := []
  rx : List Octet := []
  running : Nat := 0                 -- command in progress, 0 none
  deriving DecidableEq, Repr

/-- Chapter 7 state. -/
structure TifSt where
  cells : Sparse (BitVec 256) := []  -- configuration words as loaded or written
  cellErr : List Nat := []           -- stored bits of cell words that are flipped: 288*cell + bit (R498)
  hostCells : List Nat := []         -- cells written through 6810h since boot
  ram : Sparse Nat := []             -- current 32-bit table of a RAM cell
  ff : Sparse Nat := []              -- flip-flops: bit 0 FF0, bit 1 FF1
  state : Nat := 0                   -- 6810h:04
  bo : BitVec 1024 := 0
  bi : BitVec 1024 := 0
  omap : Sparse Nat := []
  imap : Sparse Nat := []
  bnd : List (Nat × Bool) := []      -- accepted BND results of the cycle: probe index, value
  bndCount : Nat := 0
  executed : List Nat := []          -- schedule steps executed in the cycle (R468)
  dropped : List Nat := []           -- probe indices dropped under R77 in the cycle
  live : Bool := false               -- TARGET_LIVE
  target : List (Nat × Bool) := []   -- pads the target drives
  padHold : Option (List (Nat × Bool)) := none -- pads that drive a level while outputs are held under R485
  patPos : Nat := 0                  -- 6840h:02
  flash : Sparse Octet := []
  ufBusy : Option (Nat × Bool) := none -- sector, erase
  ufValid : Bool := false
  ufData : Octet := 0
  ufRd : Bool := false
  ufAddr : Nat := 0                  -- address of the read that RD started
  ports : List Serial := List.replicate 8 {}
  pins : Sparse Nat := []            -- pin configuration per land
  safe : Sparse Nat := []            -- safe state per land
  deriving DecidableEq, Repr

/-! ### Object dictionary and ACP (chapter 9) -/

/-- Status codes of Table 9-5. -/
inductive Status where
  | ok | busy | pending | denied | badIndex | badType | badValue | badLength | runLocked | domainOff | notAgreed
  | authFail | rejectedImage | timeout
  deriving DecidableEq, Repr

/-- A raised event (Table 9-11, without the per-session LOST flag). -/
structure EventRec where
  code : Nat
  replayed : Bool
  seq : Nat
  frc : Nat
  cycle : Nat
  payload : List Octet
  deriving DecidableEq, Repr

/-- One ACP frame that the module sends (Table 9-6): operation, LAST, STATUS, object, TYPE, OFFSET, body. -/
structure Frame where
  session : Nat
  op : Nat
  last : Bool
  seq : Nat
  echo : Nat
  status : Status
  idx : Nat
  sub : Nat
  ty : Nat
  offset : Nat
  body : List Octet
  deriving DecidableEq, Repr

/-- A kept reply (R582): request SEQ and tag, and the frames sent. -/
structure Kept where
  seq : Nat
  tag : Nat
  frames : List Frame
  deriving DecidableEq, Repr

/-- An operation accepted and not yet answered (R563, R583): SEQ, tag, object, and the operation's row code. -/
structure Waiting where
  seq : Nat
  tag : Nat
  op : Nat
  idx : Nat
  sub : Nat
  deriving DecidableEq, Repr

/-- One session (chapter 9). -/
structure Session where
  id : Nat
  isOpen : Bool := false             -- false: reserved since the CHALLENGE
  level : Nat := 0
  carrier : Nat := 0
  src : Nat := 0
  srcPort : Nat := 0
  mac : Nat := 0                     -- source MAC address of the OPEN frame (R694)
  clientNonce : BitVec 128 := 0
  moduleNonce : BitVec 128 := 0
  key : BitVec 256 := 0              -- K_S
  since : Nat := 0                   -- FRC of the CHALLENGE
  lastAt : Nat := 0                  -- FRC of the last accepted request
  high : Nat := 0                    -- H (R581)
  seen : List Nat := []              -- SEQs accepted in the window
  kept : List Kept := []             -- newest first, at most 8
  txSeq : Nat := 0                   -- SEQ of the last frame the module sent
  waiting : List Waiting := []
  negotiated : Bool := false
  requested : Nat := 0
  agreed : Nat := 0
  maxDatagram : Nat := 1472
  sel : Sparse Nat := []             -- per-session selectors (Table 9-3), keyed idx*256+sub
  filters : List (Nat × Nat) := []
  queue : List EventRec := []        -- records queued for sending (R598), oldest first
  dropped : Nat := 0
  lost : Bool := false
  token : Bool := false              -- owner token presented (R544)
  tokenFails : Nat := 0              -- failed presentations (R545)
  deriving DecidableEq, Repr

/-- Chapter 9 state beside the objects. -/
structure AcpSt where
  sessions : List Session := []
  nextId : Nat := 1
  log : List EventRec := []          -- newest first, at most 1,024 (R599)
  eventSeq : Nat := 0
  fails : List (Nat × Nat × Nat) := []   -- PROVE failures: carrier class, source, FRC
  locked : List (Nat × Nat × Nat) := []  -- locked-out sources (R577)
  deriving DecidableEq, Repr

/-! ### What the module sends out -/

/-- Where a frame of the protocol goes: the carrier, over UDP with the MAC address (R694), the VLAN ID of its tag (0 for none, R686), the
IPv4 address and the port. -/
structure Via where
  carrier : Nat
  mac : Nat
  vid : Nat
  dst : Nat
  dstPort : Nat
  deriving DecidableEq, Repr

/-- Everything that leaves the module. Nothing in the module reads it back. -/
inductive Emission where
  | frame (via : Via) (f : Frame) (tag : Nat)                          -- ACP reply or EVENT frame with its tag (R568); over UDP with DF 0 (R690)
  | fragment (via : Via) (offset octets : Nat) (more df : Bool)        -- IPv4 fragment of the frame sent just before it (R690)
  | challenge (via : Via) (session : Nat) (st : Status) (nonce : BitVec 128) (moduleId : Nat)
  | msix (vector : Nat)
  | superframe (port typ cycle index slotMap spareFor switchNext : Nat) (slots : List Slot)
  | pad (land : Nat) (level : Option Bool)
  | serial (port : Nat) (command : Nat) (data : List Octet)
  | console (boot : Bool) (code cycle : Nat)                           -- one line of CONSOLE_TX (R818)
  | done (released : Bool)
  | traceSerial (lane : Nat) (start : Bool) (word : Nat)               -- one block of TRC_TX; start: a start control block (R801)
  | traceBeats (beats : List Nat)                                      -- one word on the parallel sink, four 16-bit beats (R802)
  | hostWrite (addr : Nat) (data : List Octet)                         -- write of the function into host memory
  | completion (data : List Octet)                                     -- completion of a host read
  | configReply (retry : Bool) (value : Nat)
  | packet (opcode vn tag src dst status octets : Nat)
  | eth (port : Nat) (f : EthFrame)
  | ptp (port vid : Nat) (udp zeroSum : Bool) (m : PtpMsg) (stamp : Nat)   -- zeroSum: the UDP checksum is set to 0 (R669)
  | arp (port vid target : Nat) (probe : Bool)
  | icmp (port vid dst : Nat)
  | dhcp (port vid kind addr : Nat)                                    -- 1 DISCOVER, 3 REQUEST, 4 DECLINE (R691, R692)
  | discarded (port : Nat)                                             -- the frame just sent was discarded after collisions (R679)
  | mdio (port phy reg : Nat)                                          -- clause 22 read of a PHY register (R678)
  | ckout (source divider : Nat)
  | flashData (o : Octet) (valid : Bool)
  | tap (reply : Nat)
  | alertN (low : Bool)                                                -- ALERT_N changes (R745)
  deriving DecidableEq, Repr

/-! ### Images, boot and keys (chapter 8) -/

/-- Image header (Table 8-10), the fields that later rules read. -/
structure ImgHdr where
  typ : Nat                          -- 0 FULL, 1 REGION, 2 SHADOW
  prot : Bool
  swapAtEnd : Bool
  tapsPublic : Bool
  portMask : Nat
  level : Nat
  latencies : List Nat               -- the twelve octets
  tag : Nat
  baseTag : Nat
  ownerTag : Nat
  frameCount : Nat
  quadMask : Nat
  tileMask : Nat
  dictMask : Nat
  exchMask : Nat
  bankMask : Nat
  required : Nat
  deriving DecidableEq, Repr

/-- One decrypted frame of an image (Table 8-8). -/
structure ImgFrame where
  kind : Nat
  number : Nat
  target : Nat
  first : Nat
  count : Nat
  extra : Nat
  payload : List Octet
  deriving DecidableEq, Repr

/-- A check in progress: the staged range, the request that waits for its answer, and what stood before it (6100h:04 and
the range checked before). -/
structure ImgCheck where
  off : Nat
  len : Nat
  apply : Bool
  session : Nat
  seq : Nat
  before : Nat
  kept : Option (Nat × Nat)
  deriving DecidableEq, Repr

/-- A REGION or SHADOW image in application. -/
structure Applying where
  hdr : ImgHdr
  frames : List ImgFrame
  off : Nat
  len : Nat
  inReset : Bool                     -- REGION: the region is in reset
  from_ : Nat                        -- a
  stopped : Bool                     -- applied while no sweeps run (R537)
  written : Bool := false            -- REGION: the last frame is written (R536)
  deriving DecidableEq, Repr

/-- Chapter 8 state, the design-image part. `held` lists the ranges of the held set in STAGING; `planes`, `banks`,
`far` are the reset copy (R527). -/
structure ImgSt where
  prot : Bool := false
  ownerTag : Nat := 0
  portMask : Nat := 0
  full : Bool := false               -- a full image is applied
  held : List (Nat × Nat) := []
  planes : Sparse (BitVec 384) := []
  banks : Sparse Word64 := []
  far : Sparse Word64 := []
  hasFar : Bool := false
  check : Option ImgCheck := none
  passed : Option (Nat × Nat) := none
  applying : Option Applying := none
  touched : Bool := false            -- words or entries written through objects since the last application (R735)
  tierIm : Sparse (BitVec 128) := []     -- instruction tier as the held image set gives it (R734): keys of `lanes.im`
  tierDict : Sparse Word64 := []         -- the same of `lanes.dict`
  tierEx : Sparse (BitVec 3072) := []    -- the same of `ex.bank`
  deriving DecidableEq, Repr

/-- One directory entry of a boot slot (Table 8-1). -/
structure SlotDir where
  state : Nat := 0
  seq : Nat := 0
  len : Nat := 0
  deriving DecidableEq, Repr

/-- One directory copy. -/
structure DirCopy where
  gen : Nat := 0
  ok : Bool := true
  slots : List SlotDir := [{}, {}]
  deriving DecidableEq, Repr

/-- Boot flash and boot progress. -/
structure BootSt where
  dirs : List DirCopy := [{}, {}]
  flash : List (Sparse Octet) := [[], []]  -- octets of the two slots; unlisted octets are erased
  slot : Nat := 0                    -- slot booted
  reasons : List Nat := [0, 0]
  cells : Sparse (BitVec 256) := []  -- the decrypted personality kept in working storage
  released : Bool := false           -- DONE released
  releasedAt : Nat := 0
  doneTimedOut : Bool := false
  firmware : Bool := false           -- the vendor part runs (boot step 3)
  steps : Nat := 0                   -- EXPECTED_STEPS of the firmware that runs
  advance : Option Nat := none       -- version to raise the counter to when the boot completes (R509)
  padsSafe : Bool := false
  deriving DecidableEq, Repr

/-- Keys. The eFuse key, the EFUSE_ONLY flag and the rollback counter are burned; the VBAT key and the credential
store are held from VBAT. `customer` is the key the last boot took. -/
structure KeySt where
  efuse : Option (BitVec 256) := none
  vbat : Option (BitVec 256) := none
  customer : Option (BitVec 256) := none
  wrapped : List Octet := []
  creds : List (Option (BitVec 256)) := [none, none, none, none]
  credWrapped : List Octet := []
  tamper : Nat := 0                  -- causes not yet reported by 6051h
  deriving DecidableEq, Repr

/-! ### Clocks, supply, modes (chapter 12) -/

/-- A Taper ramp: from f0 to f1 in n increments of which i are done; `kind` 0 commanded, 1 coast-down, 2 ramp back,
3 source change down, 4 source change up, 5 start of a stopped root (R714). -/
structure Ramp where
  kind : Nat
  f0 : Nat
  f1 : Nat
  n : Nat
  i : Nat
  since : Nat
  deriving DecidableEq, Repr

/-- Chapter 12 state, clocks. Frequencies in kHz. -/
structure ClkSt where
  ramp : Option Ramp := none
  want : Bool := false               -- a commanded change is scheduled (R184)
  due : Bool := false                -- a commanded change that fell due waits (R855)
  back : Bool := false               -- the ramp back of R704 waits for a commit
  fosc : Bool := false               -- step roots on FOSC
  lostAt : List Nat := [0, 0, 0]     -- FRC at which SREF, XTA, XTB was declared missing
  newRef : Option Nat := none        -- value written to 2010h:01 while its change runs (R715)
  rootsDue : Nat := 0                -- quadrants whose step root starts after the one that starts now (R714)
  xtbLost : Bool := false            -- Wick has declared XTB missing, and not present again (R700, R701)
  deriving DecidableEq, Repr

/-- Chapter 12 state, modes and power. Mode codes are those of Table 0-5. -/
structure PwrSt where
  mode : Nat := 0
  dom : List Nat := List.replicate 20 0
  gate : List Nat := List.replicate 20 2
  hostOff : List Nat := []           -- domains that the host switched off
  depth : Nat := 0
  vinGood : Bool := false
  resetHigh : Bool := true
  pfailLow : Bool := false
  offByCommand : Bool := false       -- OFF entered by command (R727)
  overvolted : Bool := false
  pfailDown : Bool := false          -- STANDBY after an emergency power-down caused by PFAIL_N
  tripped : Bool := false            -- STANDBY after a thermal trip
  tripSensor : Option Nat := none    -- 2403h is due at the next boot
  coolFor : Nat := 0                 -- ms for which Tj and the power have stayed low (R747)
  riseWait : Nat := 0                -- ms until the commit duty may rise again (R747)
  microJoules : Nat := 0             -- input energy below 1 mJ not yet counted in 2200h:08
  due : Nat := 0                     -- mode command whose effect follows its answer
  haltLevel : Bool := false          -- Tj at or above 105 °C at the last sample
  vbatGone : Bool := false           -- no VBAT at the last sample (R740)
  alert : Bool := false              -- ALERT_N is driven low (R745)
  deriving DecidableEq, Repr

/-! ### Time and management ports (chapter 11) -/

/-- Chapter 11 state, time. -/
structure TimeSt where
  frc : BitVec 64 := 0
  offset : Int := 0
  rate : Int := 0
  anchor : Nat := 0
  rateI : Int := 0
  inLock : Nat := 0                  -- consecutive samples within the lock threshold
  master : Option Nat := none        -- sourcePortIdentity followed
  former : Option Nat := none
  since : Nat := 0                   -- FRC at which HOLDOVER was entered
  xtaSince : Nat := 0
  sync : Option (Nat × Int × Int) := none   -- two-step Sync: sequence, receive stamp, correction
  msDelay : Int := 0                 -- last receive stamp minus master stamp
  masterDs : List Nat := []          -- data set of the master followed, in comparison order
  newMaster : Bool := false          -- no sample has come from the master followed yet (R665)
  req : List (Option (Nat × Int)) := [none, none]   -- Delay_Req in flight per port: sequence, transmit stamp
  preq : List (Option (Nat × Int)) := [none, none]
  presp : List (Option (Nat × Int × Int)) := [none, none]  -- Pdelay_Resp: sequence, t2, t4
  delays : List (List Int) := [[], [], []]  -- measurements: request-response, peer of port 0, of port 1; newest first
  outliers : List (List Int) := [[], [], []]
  nextSeq : Nat := 0
  deriving DecidableEq, Repr

/-- Reassembly in progress (R689). -/
structure Frag where
  src : Nat
  ident : Nat
  parts : List (Nat × Nat)           -- IPv4 payload octets received: from, to
  total : Nat                        -- IPv4 payload octets of the datagram; 0 while the last fragment is missing
  since : Nat
  deriving DecidableEq, Repr

/-- Chapter 11, management ports. Times are FRC values. -/
structure NetSt where
  macs : List (Nat × Nat × Nat) := []        -- learned address, port, last seen
  buckets : List (Nat × Nat × Nat) := []     -- limiter: source key, tokens in units of 1/10^9 frame, last refill
  arp : List (Nat × Nat) := [(0, 0), (0, 0)] -- answers in the current second per port, its start
  icmp : List (Nat × Nat) := [(0, 0), (0, 0)]
  storm : List (Nat × Nat) := [(0, 0), (0, 0)]
  frags : List Frag := []
  addr : Nat := 0                            -- address in use, 0 none
  mask : Nat := 0
  probing : Nat := 0                         -- address under probe
  due : Option Nat := none                   -- change of address that takes effect after the answer (R695)
  leaseEnd : Nat := 0
  renewAt : Nat := 0                         -- FRC at which the lease is renewed (R691); 0 no lease
  client : Nat := 0                          -- DHCP client: 0 none, 1 DISCOVER sent, 2 REQUEST sent, 3 lease held
  tc : List (Nat × Nat × Nat × Int) := []    -- corrections that wait for a Follow_Up: egress port, source, sequence, value
  downAt : List Nat := [0, 0]
  badDuplex : List Bool := [false, false]
  deriving DecidableEq, Repr

/-! ### Host link and packet network (chapter 10) -/

/-- One DMA engine (Table 10-5). -/
structure DmaEng where
  ringBase : Nat := 0
  ringSize : Nat := 16
  ringProd : Nat := 0
  ringCons : Nat := 0
  compBase : Nat := 0
  compSize : Nat := 16
  compProd : Nat := 0
  compCons : Nat := 0
  enable : Bool := false
  stop : Bool := false
  running : Bool := false            -- a descriptor is taken and not completed
  failed : Bool := false
  waiting : Bool := false            -- waits on the completion ring
  deriving DecidableEq, Repr

/-- A flit of a packet in the packet network: the packet's number, and whether it is the header or the last flit. -/
structure Flit where
  pkt : Nat
  head : Bool
  last : Bool
  deriving DecidableEq, Repr

/-- Output of router r toward router d on the route of R626, along X and then along Y: 8 to column x + 1, 9 to x - 1, 10 to row y - 1,
11 to y + 1; 12 at the destination. -/
def xyOutput (r d : Nat) : Nat :=
  if r % 7 < d % 7 then 8 else if d % 7 < r % 7 then 9 else if d / 7 < r / 7 then 10 else if r / 7 < d / 7 then 11 else 12

/-- Routing table of router r (R626). -/
def xyTable (r : Nat) : List Nat := (List.range 28).map (xyOutput r)

/-- The packet network (R626-R644). A router has 12 inputs and 12 outputs: 0-7 its endpoints, 8-11 the routers to the east, west, north and
south. A buffer or output of a virtual network has key 4·(12·router + port) + VN. -/
structure NocSt where
  clock : Nat := 0
  nextId : Nat := 1
  pkts : List (Nat × NocPacket) := []    -- packets in the network, by number
  src : List (Nat × Flit) := []          -- flits that wait at their source, 4·endpoint + VN, oldest first
  buf : List (Nat × Flit) := []          -- flits in input buffers, oldest first (R627)
  flight : List (Nat × Nat × Flit) := [] -- flits on links: clock of arrival, buffer
  hold : Sparse Nat := []                -- output: 1 + input whose worm holds it (R628)
  lost : Sparse Nat := []                -- input: rounds that its waiting header has lost (R629)
  granted : Sparse Nat := []             -- output: 1 + input granted last
  turn : Sparse Nat := []                -- output 12·router + port: 1 + VN that sent last (R628)
  gates : List (Nat × Nat) := []         -- packet whose header has reached its gate: the gate's state then (R639)
  tables : List (List Nat) := (List.range 28).map xyTable    -- active tables (R626, R643)
  newTables : List (Nat × List Nat) := []    -- pending tables that wait to take effect (R643)
  waited : Sparse Nat := []              -- flits of an input buffer passed while its router's table waits (R644)
  tags : List (Nat × Nat × Nat × Nat × Nat) := []    -- requests outstanding: endpoint, tag, octets of response space (R632), initiator, AGE
  closing : List (Nat × Nat × Nat × Nat) := [] -- domains whose gate is CLOSING: domain, states of domain and gate that follow, since when (R638)
  deriving DecidableEq, Repr

/-- Chapter 10 state. -/
structure HostSt where
  met : Nat := 0                             -- frames of the module's own that met a half-duplex management link (log 3)
  mbOn : Bool := false
  slotLen : List Nat := [0, 0, 0, 0]
  evSize : Nat := 64
  evProd : Nat := 0
  evCons : Nat := 0
  evBase : Nat := 0
  rpSize : Nat := 16
  rpProd : Nat := 0
  rpCons : Nat := 0
  rpBase : Nat := 0
  fullRaised : List Bool := [false, false]   -- 7601h raised for the reply ring, the event ring
  masked : List Nat := List.range 64
  pend : List Nat := []
  msix : Sparse Nat := []            -- MSI-X table words other than vector control: 4·v + word
  d3hot : Bool := false
  stalled : Bool := false            -- 7012h raised for the stall
  dma : List DmaEng := List.replicate 8 {}
  heldPkts : List (Nat × NocPacket) := []    -- packets held by SLEEPING and WAKING gates, oldest first
  noc : NocSt := {}
  refusedAt : Sparse Nat := []       -- 1 + FRC of the last 7501h per domain (R642)
  slots : Sparse Octet := []         -- request slots: octets 0000h-7FFFh of BAR0 (R607)
  gating : List (Nat × Nat) := []    -- DMA engines whose forced gate waits for a pending access, and since when (R717)
  deriving DecidableEq, Repr

/-! ### Self-test, health map, Tallow (chapter 13) -/

/-- Contents of one health-map copy (Tables 13-2, 13-3): numbers of the units whose bit is 1. -/
structure Health where
  ok : Bool := true                  -- MAGIC, FORMAT and MAP_CRC are correct
  gen : Nat := 0
  testTime : Nat := 0
  expected : Nat := 0
  done : Nat := 0
  clusters : List Nat := []
  banks : List Nat := []
  switches : List Nat := []
  routers : List Nat := []
  dramStacks : List Nat := []
  plls : List Nat := []
  oscs : List Nat := []
  units : List Nat := []
  lanes : List Nat := []
  phases : List Nat := []
  sensors : List Nat := []
  delays : List Nat := []
  suspects : List Nat := []
  suspectLanes : List Nat := []
  deriving DecidableEq, Repr

/-- One copy of the Tallow settings: patrol position per area, rate, enables. -/
structure TallowCopy where
  pos : List Nat := [0, 0, 0, 0, 0]
  rate : Nat := 30
  enable : Nat := 31
  deriving DecidableEq, Repr

/-- Chapter 13 state. -/
structure TestSt where
  odKind : Nat := 0                  -- the on-command test that runs, and its target (R775)
  odTarget : Nat := 0
  copies : List Health := [{}, {}]   -- the two copies in the boot flash
  force : Health := {}               -- the map in force, with the updates made since boot
  used : Nat := 255                  -- copy used, 255 none valid
  booted : Health := {}              -- the map as the last boot applied it
  bootDead : List Nat := []          -- clusters unusable since boot (R764)
  progress : List (Option (Nat × Nat × Nat)) := [none, none]  -- progress record slots: expected, done, system time of the start
  running : Bool := false            -- a shutdown or scheduled test runs
  scheduled : Bool := false          -- the test that runs is a scheduled one
  started : Nat := 0                 -- system time of its start
  schedDue : Bool := false           -- a postponed scheduled test waits (R774)
  savedPos : List Nat := [0, 0, 0, 0, 0]
  saved : TallowCopy := {}           -- settings in the boot flash
  tallow : List TallowCopy := [{}, {}, {}]
  slotAt : Nat := 0                  -- FRC of the last patrol of area 4 (R783)
  deriving DecidableEq, Repr

/-! ### Flow trace (chapter 14) -/

/-- Chapter 14 state. -/
structure TraceSt where
  buf : List Nat := []               -- words not yet passed to the sink, oldest first
  pos : Nat := 0                     -- words of the current frame already written
  sent : Nat := 0                    -- words passed to the sink since the stream started, modulo 2,048
  lastTime : Option Nat := none      -- FRC of the last TIME record
  dropped : Nat := 0                 -- records dropped since dropping began
  dropCycle : Nat := 0
  dropping : Bool := false
  suppressed : Nat := 0              -- cycles since the last SUPPRESSED record
  lastSupp : Nat := 0
  lifted : Option Nat := none        -- session that lifted suppression
  liftDue : Option (Option Nat) := none -- who lifts suppression from the next commit on
  lastSync : Nat := 0                -- FRC of the last SYNC
  timeMap : Option (Nat × Nat × Nat) := none -- TIMEMAP due: F, system time, step counter
  coreBy : Option Nat := none        -- session that authorised core trace
  syncDue : Option Nat := none       -- SYNC reason due before the next CYC
  swapped : Bool := false            -- last CYC was a replayed one
  deriving DecidableEq, Repr

/-- The state of the module. -/
structure State where
  pending : List Instr
  obj : Sparse Nat
  free : Nat
  moduleId : Nat
  out : List Emission
  acp : AcpSt
  lanes : LaneSt
  dswap : Swap
  xswap : Swap
  ex : ExchSt
  mem : MemSt
  run : RunSt
  lan : LanternSt
  rew : RewSt
  tif : TifSt
  img : ImgSt
  boot : BootSt
  keys : KeySt
  pwr : PwrSt
  clk : ClkSt
  time : TimeSt
  net : NetSt
  host : HostSt
  test : TestSt
  trace : TraceSt
  tap : Nat
  deriving DecidableEq, Repr

/-- Region code of unit u in the default layout (Table 4-5). -/
def defaultUnit (u : Nat) : Nat :=
  let r := u % 32
  if r < 16 then 1 else if r < 20 then 2 else if r < 24 then 3 else if r < 28 then 4 else if r < 30 then 5
  else if r = 30 then 6 else 7

/-- The state at the first application of supply: OFF, no boot stream written, no key loaded, no image applied
(log 1). Every object holds the Default of its table. -/
def State.reset : State :=
  { pending := [], obj := [], free := 0, moduleId := 127, out := [], acp := {}, lanes := {}, dswap := {}, xswap := {}
    ex := {}, mem := { layout := (List.range 128).map defaultUnit }, run := {}, lan := {}, rew := {}, tif := {}
    img := {}, boot := {}, keys := {}, pwr := {}, clk := {}, time := {}, net := {}, host := {}, test := {}
    trace := {}, tap := 0 }

end Sys2Proof.Machine
end

