-- ==== Sys2Proof/Machine/Ops.lean ====
section
/-! DEFINITION. The named operations over the state that every family shares: sparse maps, objects, events,
sessions and the service of one request. -/

namespace Sys2Proof.Machine

/-! ### Sparse maps -/

/-- Value at a key; `d` gives what an unlisted key reads as. -/
def Sparse.get {α : Type} (d : Nat → α) : Sparse α → Nat → α
  | [], k => d k
  | (i, v) :: t, k => if i = k then v else Sparse.get d t k

/-- Insert a pair into a list with rising keys that does not list the key. -/
def Sparse.insert {α : Type} (k : Nat) (v : α) : Sparse α → Sparse α
  | [] => [(k, v)]
  | (i, w) :: t => if k < i then (k, v) :: (i, w) :: t else (i, w) :: Sparse.insert k v t

/-- Remove a key. -/
def Sparse.erase {α : Type} (m : Sparse α) (k : Nat) : Sparse α := m.filter (fun p => p.1 != k)

/-- Write a value; the value an unlisted key reads as removes the pair, which keeps the canonical form. -/
def Sparse.set {α : Type} [DecidableEq α] (d : Nat → α) (m : Sparse α) (k : Nat) (v : α) : Sparse α :=
  if v = d k then Sparse.erase m k else Sparse.insert k v (Sparse.erase m k)

/-- The canonical form: keys strictly rising and no pair equal to what an unlisted key reads as. -/
def Sparse.wf {α : Type} [DecidableEq α] (d : Nat → α) : Sparse α → Bool
  | [] => true
  | (i, v) :: t => decide (v ≠ d i) && t.all (fun p => decide (i < p.1)) && Sparse.wf d t

/-- Read with default 0. -/
def Sparse.get0 (m : Sparse Nat) (k : Nat) : Nat := Sparse.get (fun _ => 0) m k
/-- Write with default 0. -/
def Sparse.set0 (m : Sparse Nat) (k v : Nat) : Sparse Nat := Sparse.set (fun _ => 0) m k v

/-- Add to an ascending list without repeats. -/
def nsAdd (k : Nat) : List Nat → List Nat
  | [] => [k]
  | i :: t => if k < i then k :: i :: t else if k = i then i :: t else i :: nsAdd k t

/-- Ascending list without repeats of the given numbers. -/
def nsOf (l : List Nat) : List Nat := l.foldl (fun a k => nsAdd k a) []

/-! ### Objects -/

/-- Key of an object. -/
def okey (idx sub : Nat) : Nat := idx * 256 + sub

/-- What an object holds when nothing is stored. -/
def okDflt (k : Nat) : Nat := objDflt (k / 256) (k % 256)

/-- Stored value of an object, its default when nothing is stored. -/
def State.o (s : State) (idx sub : Nat) : Nat := Sparse.get okDflt s.obj (okey idx sub)

/-- Store a value. -/
def State.setO (s : State) (idx sub v : Nat) : State :=
  { s with obj := Sparse.set okDflt s.obj (okey idx sub) v }

/-- Largest value of a numeric type (R836). -/
def ObjTy.maxVal : ObjTy → Nat
  | .bool => 1 | .u8 => 255 | .u16 => 65535 | .u32 | .time32 | .i32 => 2 ^ 32 - 1
  | .i16 => 65535 | .u64 | .i64 | .time64 => 2 ^ 64 - 1
  | .bits n => 2 ^ n - 1 | .octets n => 2 ^ (8 * n) - 1 | .octetsVar => 0 | .string n => 2 ^ (8 * n) - 1

/-- Largest value that object idx:sub counts to. -/
def objMax (idx sub : Nat) : Nat :=
  match findObj idx sub with
  | some d => d.ty.maxVal
  | none => 0

/-- R836: a counting object advanced by n stops at the largest value of its type. -/
def State.incO (s : State) (idx sub n : Nat) : State :=
  s.setO idx sub (min (objMax idx sub) (s.o idx sub + n))

/-- Raise a maximum-holding object to at least v. -/
def State.maxO (s : State) (idx sub v : Nat) : State :=
  s.setO idx sub (max (s.o idx sub) (min (objMax idx sub) v))

/-! ### Free values -/

/-- The next free bit (log 3); the counter in the state advances. -/
def State.takeBit (s : State) : Bool × State := (Config.freeBit s.free, { s with free := s.free + 1 })

/-- The next free number below n (log 3). -/
def State.takeNat (s : State) (n : Nat) : Nat × State := (Config.freeNat s.free % n, { s with free := s.free + 1 })

/-- A free permutation draw: whether to swap two things whose order the manual leaves open (log 3). -/
def State.takeNonce (s : State) : BitVec 128 × State := (Config.freeNonce s.free, { s with free := s.free + 1 })

/-! ### Time and emissions -/

/-- Local time in ns. -/
def State.now (s : State) : Nat := s.time.frc.toNat

/-- Something leaves the module (newest first). -/
def State.emit (s : State) (e : Emission) : State := { s with out := e :: s.out }

/-! ### Interrupt vectors (R608) -/

/-- Signal an MSI-X vector; a masked vector sets its pending bit. -/
def signalVector (v : Nat) (s : State) : State :=
  if s.host.masked.contains v then { s with host := { s.host with pend := nsAdd v s.host.pend } }
  else s.emit (.msix v)

/-- Whether map entry m (Table 10-3 form) matches an event code. -/
def mapMatches (m code : Nat) : Bool := bitOf m 63 && ((code ^^^ fld m 16 16) &&& fld m 0 16) == 0

/-- R608: the vector of the lowest-numbered enabled entry that matches. -/
def eventVector (s : State) (code : Nat) : Option Nat :=
  (List.range 48).find? (fun i => mapMatches (s.o 0x7700 (i + 1)) code) |>.map (· + 16)

/-! ### Sessions -/

/-- The session with a number. -/
def State.sess (s : State) (n : Nat) : Option Session := s.acp.sessions.find? (fun x => x.id == n)

/-- Replace a session by f of it. -/
def State.modSess (s : State) (n : Nat) (f : Session → Session) : State :=
  { s with acp := { s.acp with sessions := s.acp.sessions.map (fun x => if x.id = n then f x else x) } }

/-- A per-session selector; its Default before the session has written it (R559). -/
def selOf (s : State) (n idx sub : Nat) : Nat :=
  match s.sess n with
  | some x => Sparse.get okDflt x.sel (okey idx sub)
  | none => objDflt idx sub

/-- Write a per-session selector. -/
def setSel (n idx sub v : Nat) (s : State) : State :=
  s.modSess n (fun x => { x with sel := Sparse.set okDflt x.sel (okey idx sub) v })

/-- Octets of an event record (Table 9-11) for one session. -/
def recordOctets (s : State) (r : EventRec) (lost : Bool) : List Octet :=
  octetsBE 2 r.code ++ [BitVec.ofNat 8 (r.replayed.toNat * 128 + lost.toNat * 64), BitVec.ofNat 8 (2 * s.moduleId)] ++
  [BitVec.ofNat 8 r.payload.length] ++ octetsBE 4 r.seq ++ octetsBE 4 (r.frc % 2 ^ 32) ++
  octetsBE 2 (r.frc / 2 ^ 32 % 65536) ++ octetsBE 1 0 ++ octetsBE 8 r.cycle ++ r.payload

/-- Entries in use in a ring with free-running 32-bit counts. -/
def ringUsed (prod cons : Nat) : Nat := (prod + 2 ^ 32 - cons) % 2 ^ 32

/-- Write one entry into the event ring (R601, R614). -/
def eventRingPut (octets : List Octet) (s : State) : State :=
  let h := s.host
  let s := s.emit (.hostWrite (h.evBase + 256 * (h.evProd % h.evSize))
    (octetsLE 4 octets.length ++ octetsLE 4 0 ++ octets))
  let s := { s with host := { s.host with evProd := (h.evProd + 1) % 2 ^ 32 } }
  let s := s.incO 0x7600 2 1
  let s := if ringUsed s.host.evProd s.host.evCons = s.host.evSize then s.incO 0x7600 4 1 else s
  signalVector 1 s

/-- Write one entry into the reply ring (R614). -/
def replyRingPut (octets : List Octet) (s : State) : State :=
  let h := s.host
  let s := s.emit (.hostWrite (h.rpBase + 8192 * (h.rpProd % h.rpSize))
    (octetsLE 4 octets.length ++ octetsLE 4 0 ++ octets))
  let s := { s with host := { s.host with rpProd := (h.rpProd + 1) % 2 ^ 32 } }
  let s := s.incO 0x7600 2 1
  let s := if ringUsed s.host.rpProd s.host.rpCons = s.host.rpSize then s.incO 0x7600 3 1 else s
  signalVector 0 s

/-- Numeric value of a status (Table 9-5). -/
def Status.code : Status → Nat
  | .ok => 0 | .busy => 1 | .pending => 2 | .denied => 3 | .badIndex => 4 | .badType => 5 | .badValue => 6
  | .badLength => 7 | .runLocked => 8 | .domainOff => 9 | .notAgreed => 10 | .authFail => 11 | .rejectedImage => 12
  | .timeout => 13

/-- Whether a status says that the operation was carried out or accepted (R567). -/
def Status.done : Status → Bool
  | .ok | .pending => true
  | _ => false

/-- Header octets of a frame (Table 9-6). `reply` is bit 231. -/
def headerOctets (f : Frame) (reply : Bool) : List Octet :=
  octetsBE 2 0xA7C1 ++ [BitVec.ofNat 8 (16 + f.op % 16), BitVec.ofNat 8 (reply.toNat * 128 + f.last.toNat * 64)] ++
  octetsBE 4 f.session ++ octetsBE 8 f.seq ++ octetsBE 4 f.echo ++ octetsBE 2 f.status.code ++
  octetsBE 2 f.body.length ++ octetsBE 2 f.idx ++ octetsBE 1 f.sub ++ octetsBE 1 f.ty ++ octetsBE 4 f.offset

/-- R568: the tag is the first 16 octets of HMAC-SHA-256 under K_S over header and body. -/
def frameTag (key : BitVec 256) (octets : List Octet) : Nat :=
  (Config.hmacSha256 (octetsBE 32 key.toNat) octets).toNat >>> 128

/-- Tag of a frame of the module. -/
def tagOf (key : BitVec 256) (f : Frame) (reply : Bool) : Nat := frameTag key (headerOctets f reply ++ f.body)

/-- Octets of a tagged frame as it leaves the module. -/
def frameOctets (key : BitVec 256) (f : Frame) (reply : Bool) : List Octet :=
  headerOctets f reply ++ f.body ++ octetsBE 16 (tagOf key f reply)

/-- R690: the IPv4 fragments of a datagram of n octets of IPv4 payload, each at most 1,500 octets with its header: offset, octets, and
whether more follow. A datagram that fits in 1,500 octets has none, and leaves whole. -/
def fragmentsOf (n : Nat) : List (Nat × Nat × Bool) :=
  if n ≤ 1480 then []
  else (List.range ((n + 1479) / 1480)).map (fun i => (1480 * i, min 1480 (n - 1480 * i), decide (1480 * (i + 1) < n)))

/-- Where the frames of a session go: over UDP to the MAC address and through the port of its OPEN frame, tagged with the ID of 7A00h:05
(R686, R694). -/
def viaOf (x : Session) (s : State) : Via :=
  { carrier := x.carrier, mac := x.mac, vid := s.o 0x7A00 5, dst := x.src, dstPort := x.srcPort }

/-- R679: collisions of a half-duplex transmission at port p; the second component says whether the frame is discarded. -/
def collide (p collisions : Nat) (late : Bool) (s : State) : Bool × State :=
  if s.o (0x7900 + p) 3 = 1 then (false, s)
  else
    let s := s.incO (0x7900 + p) 7 (max late.toNat (min collisions 16))
    if late then (true, s.incO (0x7900 + p) 9 1)
    else if 16 ≤ collisions then (true, s.incO (0x7900 + p) 8 1)
    else (false, s)

/-- A frame of the module's own leaves at port p, and is counted (7900h+p:06); false when it is discarded (R679). What it meets on a
half-duplex link is a free value: collisions, at most `most`, and whether one is late (log 3). -/
def transmit (p most : Nat) (s : State) : Bool × State :=
  if 2 ≤ p then (true, s)
  else if s.o (0x7900 + p) 1 != 1 || s.o (0x7900 + p) 3 == 1 then (true, s.incO (0x7900 + p) 6 1)
  else
    let k := s.host.met
    match collide p (Config.linkCollisions k % (most + 1)) (Config.linkLate k) { s with host := { s.host with met := k + 1 } } with
    | (true, s) => (false, s)
    | (false, s) => (true, s.incO (0x7900 + p) 6 1)

/-- Send a frame of the module's own on port p. -/
def sendOn (p : Nat) (e : Emission) (s : State) : State :=
  match transmit p 16 s with
  | (true, s) => s.emit e
  | (false, s) => s

/-- Put one frame of a session on its carrier (R578, R602). Over UDP a frame of 48 octets and its body takes 8 more of the UDP header; a
datagram too long for 1,500 octets of IPv4 leaves in fragments, and DF is never set (R690). The frame is told as sent, also when the
link discards it (R679). -/
def carry (x : Session) (f : Frame) (reply : Bool) (s : State) : State :=
  let via := viaOf x s
  let s := s.emit (.frame via f (tagOf x.key f reply))
  if x.carrier = 2 then
    let oct := frameOctets x.key f reply
    if reply then replyRingPut oct s else eventRingPut oct s
  else
    let parts := fragmentsOf (56 + f.body.length)
    if parts.isEmpty then
      match transmit x.carrier 16 s with
      | (true, s) => s
      | (false, s) => s.emit (.discarded x.carrier)
    else parts.foldl (fun s g => sendOn x.carrier (.fragment via g.1 g.2.1 g.2.2 false) s) s

/-- Whether the carrier of a session takes an EVENT frame now: the event ring has a free entry, or the port is up. -/
def carrierFree (x : Session) (s : State) : Bool :=
  if x.carrier = 2 then s.host.mbOn && decide (ringUsed s.host.evProd s.host.evCons < s.host.evSize)
  else s.o (0x7900 + x.carrier) 1 == 1

/-- Send queued records of session n while its carrier takes them; `fuel` bounds the records. -/
def drainQueue (n : Nat) : Nat → State → State
  | 0, s => s
  | fuel + 1, s =>
    match s.sess n with
    | none => s
    | some x =>
      match x.queue with
      | [] => s
      | r :: rest =>
        if carrierFree x s then
          let f : Frame := { session := n, op := 10, last := false, seq := x.txSeq + 1, echo := 0, status := .ok,
                             idx := 0, sub := 0, ty := 0, offset := 0, body := recordOctets s r x.lost }
          let s := carry x f false s
          drainQueue n fuel (s.modSess n (fun y => { y with queue := rest, txSeq := y.txSeq + 1, lost := false }))
        else s

/-- Send what every session has queued. -/
def drainQueues (s : State) : State :=
  s.acp.sessions.foldl (fun s x => drainQueue x.id 64 s) s

/-- R596: whether a session's filters take an event. -/
def wants (x : Session) (code : Nat) : Bool :=
  x.isOpen && x.filters.any (fun f => ((code ^^^ f.1) &&& f.2) == 0)

/-- R598: queue a record for a session; a full queue drops its oldest record. -/
def enqueue (r : EventRec) (x : Session) : Session :=
  if wants x r.code then
    if x.queue.length < 64 then { x with queue := x.queue ++ [r] }
    else { x with queue := x.queue.drop 1 ++ [r], dropped := min (2 ^ 32 - 1) (x.dropped + 1), lost := true }
  else x

/-- EVENT_SEQ wraps from FFFFFFFFh to 1 (R836). -/
def nextEventSeq (n : Nat) : Nat := if n = 2 ^ 32 - 1 then 1 else n + 1

/-- Whether the cycle in progress is a replayed one (R595). -/
def replaying (s : State) : Bool := s.run.replay.isSome

/-- R595: the events that the execution of a design cycle itself raises: errors met in it, its rule counters, its stimulus and Lantern's
events of it. Only these can be raised for a replayed cycle. -/
def cycleEvent (code : Nat) : Bool :=
  [0x3021, 0x3031, 0x3041, 0x3062, 0x3821, 0x4031, 0x4041, 0x4042, 0x4A01, 0x5202, 0x5203, 0x5204, 0x5211, 0x5601].contains code

/-- R594, R818: raise an event: log it, write its console line, queue it for the sessions that want it, signal its vector. -/
def raise (code : Nat) (payload : List Octet) (s : State) : State :=
  let r : EventRec := { code, replayed := replaying s && cycleEvent code, seq := nextEventSeq s.acp.eventSeq, frc := s.now,
                        cycle := s.run.cycle.toNat, payload }
  let s := { s with acp := { s.acp with
    eventSeq := r.seq
    log := (r :: s.acp.log).take 1024
    sessions := s.acp.sessions.map (enqueue r) } }
  let s := drainQueues (s.emit (.console false code r.cycle))
  match eventVector s code with
  | some v => signalVector v s
  | none => s

/-! ### Power domains and what an operation needs -/

/-- State of a domain (Table 12-6). -/
def domState (s : State) (d : Nat) : Nat := s.pwr.dom.getD d 0
/-- State of a domain's gate (Table 10-11). -/
def gateState (s : State) (d : Nat) : Nat := s.pwr.gate.getD d 2

/-- Whether a domain's gate answers DOMAIN_OFF: CLOSING or OFF (Table 10-11). -/
def gateShut (s : State) (d : Nat) : Bool := gateState s d == 1 || gateState s d == 2

/-! ### Lanes and ports as wholes -/

/-- Change every stored lane by f; a lane that is not listed holds all zero and f must keep it so. -/
def mapLanes (f : Nat → LaneRec → LaneRec) (s : State) : State :=
  { s with lanes := { s.lanes with
      lbs := (s.lanes.lbs.map (fun p => (p.1, f p.1 p.2))).filter (fun p => decide (p.2 ≠ {})) } }

/-- Change one port. -/
def modPort (p : Nat) (f : Port → Port) (s : State) : State :=
  { s with ex := { s.ex with ports := s.ex.ports.modify p f } }

/-- The port, by number. -/
def State.port (s : State) (p : Nat) : Port := s.ex.ports.getD p {}

end Sys2Proof.Machine
end

