-- ==== Sys2Proof/Machine/Depth.lean ====
section
/-! DEFINITION. What rests and wakes: system time, references and PLLs, ports as they start and stop, power-domain gates
with the packets they hold or refuse, and the idle depths (chapter 12). -/

namespace Sys2Proof.Machine

/-! ### System time (R652) -/

/-- System time at FRC value f, in ns; the division rounds toward minus infinity. -/
def sysTimeAt (s : State) (f : Nat) : Int :=
  f + s.time.offset + s.time.rate * ((f : Int) - s.time.anchor) / 2 ^ 32

/-- System time now. -/
def sysTime (s : State) : Int := sysTimeAt s s.now

/-! ### Clocks and ports that stop and start -/

/-- The object 3460h:05 after a change of its inputs: 2 while a commanded ramp or the ramp back runs, 1 while a change is scheduled
or waits. A change of source (R715) leaves what is scheduled as it is. -/
def freqState (s : State) : State :=
  let st := match s.clk.ramp with
    | some r => if r.kind = 0 || r.kind = 2 then 2 else (s.clk.due || s.clk.want).toNat
    | none => (s.clk.due || s.clk.want).toNat
  s.setO 0x3460 5 st

/-- Bit of a missing source in 2020h:09. -/
def missBit : RefSrc → Nat
  | .sref => 0 | .xta => 1 | .xtb => 2

/-- Whether a source has been declared missing. -/
def refMissing (s : State) (r : RefSrc) : Bool := bitOf (s.o 0x2020 9) (missBit r)

/-- Reference that the step PLLs take now (R698); while a change of 2010h:01 runs, `newRef` holds the former one. -/
def stepRef (s : State) : RefSrc :=
  match s.clk.newRef with
  | some 0 => .sref
  | some _ => .xta
  | none => if s.o 0x2010 1 = 1 then .xta else .sref

/-- Reference of a PLL (Table 12-2). -/
def pllRef (s : State) (p : Nat) : RefSrc := if p < 4 then stepRef s else if p = 4 then .sref else .xta

/-- State of PLL p (2020h:01-08): 0 off, 1 locking, 2 locked, 3 coasting, 4 failed, 5 stopped. -/
def pllState (s : State) (p : Nat) : Nat := s.o 0x2020 (p + 1)

/-- Set the state of PLL p, and bit 4 of 2020h:09. -/
def setPll (p v : Nat) (s : State) : State :=
  let s := s.setO 0x2020 (p + 1) v
  s.setO 0x2020 9 (putBit (s.o 0x2020 9) 4 ((List.range 8).any (fun q => pllState s q == 3)))

/-- State of a PLL that runs: locked on a reference that is present, coasting otherwise; a failed one stays failed until
the next boot (R702, R710). -/
def runPll (p : Nat) (s : State) : State :=
  if pllState s p = 4 then s else setPll p (if refMissing s (pllRef s p) then 3 else 2) s

/-- Whether the step roots run from their PLLs. -/
def stepPllsRun (s : State) : Bool := (pllState s 0 == 1 || pllState s 0 == 2 || pllState s 0 == 3) && !s.clk.fosc

/-- No ramp runs any more. -/
def endRamp (s : State) : State := ({ s with clk := { s.clk with ramp := none } }).setO 0x2028 1 0

/-- Power domain of a port (Table 3-3). -/
def portDomain (p : Nat) : Nat := if p < 4 then 17 else 18

/-- Whether a port may train: its domain on, PLL_I locked, 3A0nh:01 = 1. -/
def mayTrain (s : State) (p : Nat) : Bool :=
  domState s (portDomain p) == 2 && gateState s (portDomain p) == 0 && s.o 0x2020 5 == 2 && s.o (0x3A00 + p) 1 == 1

/-- Forget everything that a port has under way on its line: slots and words to send, messages and packets in reception. -/
def lineClear (q : Port) : Port :=
  { q with tx := [], rx := [], gtx := none, ctl := [], mg := [], guard := [], guardSkip := 0, mgmt := [], mgSkip := 0 }

/-- R260 and step 5 of the lane test: the test is over when its lane is back in both directions (3C00h:05 from 3 to 4). -/
def testSettle (p : Nat) (s : State) : State :=
  let q := s.port p
  if s.ex.testBack = some p && q.spareFor == 15 && q.txSpareFor == 15 && q.txSwitch.isNone then
    { s with ex := { s.ex with testBack := none } }.setO 0x3C00 5 4
  else s

/-- A port in OFF that may train enters TRAINING (step 1 of training). -/
def startTraining (p : Nat) (s : State) : State :=
  if (s.port p).state = .off && mayTrain s p then
    testSettle p (modPort p (fun q => { lineClear q with
      state := .training, reason := 0, spareFor := 15, txSpareFor := 15, txSwitch := none, badRun := 0
      partner := none, partnerId := 255, partnerPort := 255, transit := 0 }) s)
  else s

/-- A port leaves service: 3A0nh:01 = 0, or its domain went off. -/
def portOff (p : Nat) (s : State) : State :=
  modPort p (fun q => { lineClear q with state := .off, reason := 0, partner := none, partnerId := 255, partnerPort := 255
                                         transit := 0, holding := false }) s

/-! ### Gates and packets (R625, R638-R642) -/

/-- Power domain of the endpoint 8·router + port (Table 10-8, Table 0-6). -/
def endpointDomain (d : Nat) : Nat :=
  [3, 3, 1, 1, 4, 0, 19, 13, 13, 2, 2, 2, 14, 14, 15, 15, 2, 2, 2, 16, 16, 5, 6, 17, 2, 18, 7, 8].getD (d / 8) 2

/-- Virtual network of an opcode (Table 10-10); none for a reserved one. -/
def opcodeVn (op : Nat) : Option Nat :=
  match op with
  | 1 | 2 => some 0
  | 3 | 4 => some 1
  | 5 => some 2
  | 6 | 7 => some 3
  | _ => none

/-- Whether a packet asks for an answer. -/
def pktRequest (p : NocPacket) : Bool := p.opcode == 1 || p.opcode == 2 || p.opcode == 6

/-- R624, R625: a reserved opcode or field, a VN other than the opcode's, or a BODY that breaks R624. -/
def pktMalformed (p : NocPacket) : Bool :=
  let body := if p.opcode = 1 then 0 else if 48 < p.size then (p.size - 48 + 63) / 64 else 0
  opcodeVn p.opcode != some p.vn || p.body != body || decide (256 < p.size) || (p.opcode == 1 && p.size == 0) ||
  decide (224 ≤ p.dst) || decide (224 ≤ p.src) || decide (5 ≤ p.status) || p.reserved != 0

/-- Change the packet network. -/
def modNoc (f : NocSt → NocSt) (s : State) : State := { s with host := { s.host with noc := f s.host.noc } }

/-- Whether a packet can cross the network: both its endpoints exist. -/
def crossable (p : NocPacket) : Bool := decide (p.dst < 224) && decide (p.src < 224) && decide (p.vn < 4)

/-- A packet with its AGE: the time of its injection in network clocks, modulo 2^16 (Table 10-9). -/
def stampAge (p : NocPacket) (n : NocSt) : NocPacket := { p with age := n.clock % 2 ^ 16 }

/-- Put a packet behind what waits at its source: a header and its body flits. -/
def inject (p : NocPacket) (n : NocSt) : NocSt :=
  { n with
    nextId := n.nextId + 1, pkts := n.pkts ++ [(n.nextId, stampAge p n)]
    src := n.src ++ (List.range (p.body % 8 + 1)).map (fun j =>
      (4 * p.src + p.vn, { pkt := n.nextId, head := j == 0, last := j == p.body % 8 })) }

/-- The answer to a request (Table 10-10, R624). It is no packet of an initiator of R645. -/
def responseTo (p : NocPacket) (status : Nat) : NocPacket :=
  let op := if p.opcode = 1 then 3 else if p.opcode = 6 then 7 else 4
  let size := if p.opcode = 1 && status = 0 then p.size else 0
  { dst := p.src, src := p.dst, vn := (opcodeVn op).getD 1, opcode := op, body := if 48 < size then (size - 48 + 63) / 64 else 0
    size, tag := p.tag, status, addr := 0, reserved := 0, initiator := 17, age := 0 }

/-- Send the answer to a request (Table 10-10); it crosses the network to the initiator. -/
def respond (p : NocPacket) (status : Nat) (s : State) : State :=
  let q := responseTo p status
  let s := s.emit (.packet q.opcode q.vn q.tag q.src q.dst q.status q.size)
  if crossable q then modNoc (inject q) s else s

/-- R642: 7501h, at most once a second for a domain. -/
def refusedEvent (d : Nat) (s : State) : State :=
  let last := Sparse.get0 s.host.refusedAt d
  if last != 0 && decide (s.now < 1000000000 + (last - 1)) then s
  else raise 0x7501 (octetsBE 4 d ++ octetsBE 4 (s.o (0x7500 + d) 2))
    { s with host := { s.host with refusedAt := Sparse.set0 s.host.refusedAt d (s.now + 1) } }

/-- A gate answers a request with DOMAIN_OFF. -/
def gateRefuse (d : Nat) (s : State) : State := refusedEvent d (s.incO (0x7500 + d) 2 1)

/-- A gate sinks a posted write. -/
def gateSink (d : Nat) (s : State) : State := s.incO (0x7500 + d) 3 1

/-- Histogram bin of a latency in ns (R646). -/
def latencyBin (ns : Nat) : Nat :=
  if ns < 100 then 0 else if ns < 200 then 1 else if ns < 400 then 2 else if ns < 800 then 3 else if ns < 1600 then 4
  else if ns < 3200 then 5 else if ns < 6400 then 6 else 7

/-- Whether the statistics of an initiator count now (R647). -/
def statsCount (i : Nat) (s : State) : Bool := s.o 0x7380 2 != 1 && decide (i < 17)

/-- Count a packet that an initiator sends, with its payload octets. -/
def countSent (p : NocPacket) (s : State) : State :=
  if statsCount p.initiator s then
    (s.incO (0x7300 + p.initiator) 1 (if p.opcode = 1 then 0 else p.size)).incO (0x7300 + p.initiator) 2 1
  else s

/-- R645, R646: count a latency of initiator i, in ns, from the AGE of its packet to now. -/
def countLatency (i age : Nat) (s : State) : State :=
  if statsCount i s then
    let ns := (s.host.noc.clock + 2 ^ 16 - age) % 2 ^ 16 / 2
    (s.maxO (0x7300 + i) 3 ns).incO (0x7300 + i) (4 + latencyBin ns) 1
  else s

/-- An endpoint takes a packet (R625). The latency of a posted write ends here (R645). -/
def takePacket (p : NocPacket) (s : State) : State :=
  let s := if p.opcode = 5 then countLatency p.initiator p.age s else s
  if pktMalformed p then
    let s := s.incO 0x7420 2 1
    if pktRequest p then respond p 4 s else s
  else if pktRequest p then respond p 0 s else s

/-- A gate that is OPEN delivers what it holds, in arrival order (R640). -/
def deliverHeld (d : Nat) (s : State) : State :=
  let mine := (s.host.heldPkts.filter (fun x => x.1 == d)).map (fun x => x.2)
  let s := { s with host := { s.host with heldPkts := s.host.heldPkts.filter (fun x => x.1 != d) } }
  mine.foldl (fun s p => takePacket p s) s

/-- Whether responses of a domain's endpoints have not left them yet. -/
def leaving (s : State) (d : Nat) : Bool := s.host.noc.src.any (fun x => endpointDomain (x.1 / 4) == d)

/-- Put a domain and its gate into a state; an OPEN gate delivers what it holds. The end of CLOSING is the end of step 3 of R638, whose
longest time is recorded. -/
def settleDomain (d dom gate : Nat) (s : State) : State :=
  let s := match s.host.noc.closing.find? (fun x => x.1 == d) with
    | some x => s.maxO (0x7500 + d) 4 ((s.now - x.2.2.2) / 1000)
    | none => s
  let s := modNoc (fun n => { n with closing := n.closing.filter (fun x => x.1 != d) }) s
  let s := { s with pwr := { s.pwr with dom := s.pwr.dom.set d dom, gate := s.pwr.gate.set d gate } }
  if gate = 0 then deliverHeld d s else s

/-- Put a domain and its gate into a state. The open gate of a domain that switches off enters CLOSING, and the domain switches off at
the end of the network clock in which the last response of its endpoints has left (R638, R639). -/
def setDomain (d dom gate : Nat) (s : State) : State :=
  if (gate = 2 || gate = 3) && gateState s d ≤ 1 && domState s 2 == 2 then
    let s := modNoc (fun n => { n with closing := n.closing.filter (fun x => x.1 != d) ++ [(d, dom, gate, s.now)] }) s
    { s with pwr := { s.pwr with gate := s.pwr.gate.set d 1 } }
  else settleDomain d dom gate s

/-- Whether a kind-1 test runs on the stack of domain d: its gate stays OFF until the test ends (R776). -/
def testIsolates (s : State) (d : Nat) : Bool := s.o 0x8200 4 != 0 && s.test.odKind == 1 && d == 13 + s.test.odTarget

/-- A domain that the host has not switched off, and that no test isolates, goes on, or rests. -/
def restDomain (d dom gate : Nat) (s : State) : State :=
  if s.pwr.hostOff.contains d || testIsolates s d then s else setDomain d dom gate s

/-- State and gate of a domain that is on: a stack whose root has no clock stays in self-refresh and answers DOMAIN_OFF (Table 12-3). -/
def onState (s : State) (d : Nat) : Nat × Nat :=
  if 13 ≤ d && d < 17 && pllState s 5 == 4 then (4, 2) else (2, 0)

/-- A domain that the host has not switched off is on again. -/
def wakeDomain (d : Nat) (s : State) : State := restDomain d (onState s d).1 (onState s d).2 s

/-! ### Idle depths (R733-R739) -/

/-- Wake time of a depth, in µs (Table 12-11). -/
def wakeMicros (d : Nat) : Nat := match d with | 0 => 2 | 1 => 200 | 2 => 15000 | 3 => 120000 | _ => 130000

/-- Break-even time of a depth, in µs (Table 12-11). -/
def breakEven (d : Nat) : Nat := match d with | 0 => 0 | 1 => 2000 | 2 => 150000 | 3 => 1500000 | _ => 3000000

/-- ns from now to a system time that lies ahead. -/
def aheadOf (s : State) (t : Nat) : Option Nat :=
  let left : Int := t - sysTime s
  if t != 0 && decide (0 < left) then some left.toNat else none

/-- The known events: source code of Table 12-12 and ns left. A slot or a timeout whose time has come has 0 left. -/
def knownEvents (s : State) : List (Nat × Nat) :=
  let at_ (code : Nat) (o : Option Nat) : List (Nat × Nat) := match o with | some n => [(code, n)] | none => []
  at_ 1 (aheadOf s (s.o 0x2100 3)) ++ at_ 2 (aheadOf s (s.o 0x8010 1)) ++
  [(3, s.test.slotAt + 1000000000 * s.o 0x8300 1 - s.now)] ++
  (if s.net.renewAt = 0 then [] else [(4, s.net.renewAt - s.now)]) ++
  (s.acp.sessions.filter (fun x => x.isOpen)).map (fun x => (4, x.lastAt + 1000000000 * s.o 0x1120 1 - s.now))

/-- Whether a known event limits a depth (Table 12-12). -/
def limits (code d : Nat) : Bool := decide (code ≤ 2) || d == 4

/-- The earliest of some known events. -/
def earliest (l : List (Nat × Nat)) : Option (Nat × Nat) :=
  l.foldl (fun best x => match best with | none => some x | some b => if x.2 < b.2 then some x else some b) none

/-- ns to the earliest known event that limits a depth. -/
def leftOf (s : State) (d : Nat) : Option Nat :=
  (earliest ((knownEvents s).filter (fun x => limits x.1 d))).map (fun x => x.2)

/-- R735 and the last column of Table 12-11. -/
def eligible (s : State) (d : Nat) : Bool :=
  let still := s.ex.ports.all (fun p => !p.enabled)
  let idle := s.run.state == .noDesign || s.run.state == .parked
  let rebuilt := s.run.state == .noDesign || (s.o 0x6100 6 == 1 && !s.img.touched)
  match d with
  | 0 => true
  | 1 => still
  | 2 => still && idle
  | _ => still && idle && rebuilt

/-- R736: the depth that the module chooses. -/
def chooseFrom (s : State) : Nat → Nat
  | 0 => 0
  | d + 1 =>
    let need := 1000 * (wakeMicros (d + 1) + breakEven (d + 1) + s.o 0x2100 2)
    let fits := match leftOf s (d + 1) with | some n => decide (need ≤ n) | none => true
    if eligible s (d + 1) && fits then d + 1 else chooseFrom s d

/-- The step PLLs stop. Coasting, and a change that waited for it, end here: the roots start at 3460h:02 when they are needed again (R704,
R714, R855). Any other ramp that is cut short leaves the frequency that it led to. -/
def stopStepPlls (s : State) : State :=
  let coasting := s.o 0x3460 4 == 1 || s.clk.due
  let f := if coasting then s.o 0x3460 2
    else match s.clk.ramp with
    | some r => if r.kind = 3 then r.f0 else r.f1
    | none => s.o 0x3460 1
  let s := (List.range 4).foldl (fun s p => if pllState s p = 4 then s else setPll p 5 s) (endRamp s)
  if s.clk.fosc then s
  else
    let s := { s with clk := { s.clk with back := false, want := s.clk.want && !coasting, due := false, newRef := none, rootsDue := 0 } }
    freqState ((s.setO 0x3460 1 f).setO 0x3460 4 0)

/-- The step roots of n quadrants start one after another (R714): at f/16 and up in steps of f/16, to 3460h:02, or to the coast
frequency while the reference is missing (R703). -/
def startRoots (n : Nat) (s : State) : State :=
  if s.clk.fosc then s
  else
    let coast := pllState s 0 == 3
    let f := if coast then 400000 else s.o 0x3460 1
    let r : Ramp := { kind := 5, f0 := f / 16, f1 := f, n := 15, i := 0, since := s.now }
    let s := { s with clk := { s.clk with ramp := some r, rootsDue := n - 1 } }
    freqState (((s.setO 0x2028 1 1).setO 0x3460 1 (f / 16)).setO 0x3460 4 coast.toNat)

/-- R733: PD5-PD8 switch off. With a PARKED design the module copies every bank word into RESERVE, corrected, to be written back, and the
planes return from the checkpoint of PARK; with no design what the domains held is gone, and they come back as after power-on (log 14). -/
def loseCompute (s : State) : State :=
  if s.run.state = .parked then
    let s := mapLanes (fun _ r => { r with tmp := 0, badTmp := 0, rd := false, ind := false, imp := false }) s
    { s with mem := { s.mem with bankErr := [], fixed := [] }, rew := { s.rew with parkRestore := true } }
  else { s with lanes := { s.lanes with lbs := [] }, mem := { s.mem with bank := [], bankErr := [], fixed := [] } }

/-- R734: PD9-PD12 switch off. On the next wake the instruction words and both banks of every dictionary and exchange schedule of a PARKED
design come from the held image set, every bank in its role and with its seal; with no design they come back as after power-on. -/
def loseTier (s : State) : State :=
  let (im, dict, ex) := if s.run.state = .parked then (s.img.tierIm, s.img.tierDict, s.img.tierEx) else ([], [], [])
  { s with
    lanes := { s.lanes with im, imErr := [], imFixed := [], dict, dictErr := [] }
    ex := { s.ex with bank := ex, bankErr := [] } }

/-- Go to depth d from the one above it (Table 12-11). Within a depth the domains switch off in the reverse order of Table 12-7. -/
def deepen (d : Nat) (s : State) : State :=
  match d with
  | 1 =>
    let s := (List.range 8).foldl (fun s p => portOff p s) s
    let s := restDomain 17 0 3 (restDomain 18 0 3 s)
    let s := stopStepPlls s
    if pllState s 4 = 4 then s else setPll 4 5 s
  | 2 => loseCompute ([3, 2, 1, 0].foldl (fun s q => restDomain (9 + q) 3 3 (restDomain (5 + q) 0 3 s)) s)
  | 3 => loseTier ([3, 2, 1, 0].foldl (fun s q => restDomain (9 + q) 0 3 s) s)
  | 4 =>
    let s := [3, 2, 1, 0].foldl (fun s q => restDomain (13 + q) 4 3 s) s
    let s := if pllState s 5 = 4 then s else setPll 5 5 s
    setDomain 1 5 3 s
  | _ => s

/-- R738: wake to depth 0. What a deeper depth stopped runs again, in the order of Table 12-7; nothing that the manual keeps is lost. -/
def wakeDepth (s : State) : State :=
  if s.pwr.depth = 0 then s
  else
    let d := s.pwr.depth
    let s := { s with pwr := { s.pwr with depth := 0 } }
    let s := if 4 ≤ d then
        let s := (List.range 4).foldl (fun s q => wakeDomain (13 + q) s) (setDomain 1 2 0 s)
        runPll 5 s
      else s
    let s := (List.range 5).foldl (fun s p => runPll p s) (restDomain 18 2 0 (restDomain 17 2 0 s))
    let s := if 2 ≤ d then (List.range 4).foldl (fun s q => restDomain (5 + q) 2 0 (restDomain (9 + q) 2 0 s)) s else s
    let s := startRoots (if 2 ≤ d then 4 else 1) s
    (List.range 8).foldl (fun s p => startTraining p s) s

/-- Take a depth in IDLE. The quadrants switch off before PD17 and PD18, and these before the stacks (R724). -/
def takeDepth (d : Nat) (s : State) : State :=
  if d = s.pwr.depth then s
  else
    let s := if d < s.pwr.depth then wakeDepth s else s
    let s := ([2, 3, 1, 4].filter (fun k => decide (s.pwr.depth < k ∧ k ≤ d))).foldl (fun s k => deepen k s) s
    { s with pwr := { s.pwr with depth := d } }

/-- R736: in IDLE the module chooses its depth and takes it. -/
def chooseDepth (s : State) : State :=
  if s.pwr.mode = 3 then takeDepth (chooseFrom s (min 4 (s.o 0x2100 1))) s else s

/-- Whether force has gated the block of an endpoint (R718): DMA engines 0-7, and supervisor cores 1-3. The ports of a router stand in
the order of Table 10-8 (log 62). -/
def forceGated (s : State) (d : Nat) : Bool :=
  if d < 4 then bitOf (s.o 0x2030 2) d
  else if 8 ≤ d && d < 12 then bitOf (s.o 0x2030 2) (d - 4)
  else (d == 17 || d == 24 || d == 25) && bitOf (s.o 0x2030 2) 11

/-- State of the gate that a packet meets (Table 10-11): responses pass, and behind a failed router a gate answers as OFF (R767). 5 stands
for the gate of a block that force has gated. -/
def gateOf (p : NocPacket) (s : State) : Nat :=
  if opcodeVn p.opcode = some 1 || p.opcode = 7 then 0
  else if s.test.booted.routers.contains (p.dst / 8) then 2
  else if forceGated s p.dst then 5 else gateState s (endpointDomain p.dst)

/-- Packets that the gate of a domain holds. -/
def heldBy (s : State) (d : Nat) : Nat := (s.host.heldPkts.filter (fun x => x.1 == d)).length

/-- A packet meets a gate in state g (Table 10-11, R638-R642). A SLEEPING gate holds the packet and has the module woken. -/
def gateServe (g : Nat) (p : NocPacket) (s : State) : State :=
  let d := endpointDomain p.dst
  match g with
  | 0 => takePacket p s
  | 5 => if pktRequest p then respond p 1 s else takePacket p s
  | 3 | 4 => chooseDepth (wakeDepth { s with host := { s.host with heldPkts := s.host.heldPkts ++ [(d, p)] } })
  | _ => if pktRequest p then respond p 1 (gateRefuse d s) else gateSink d s

/-- A packet reaches its endpoint's gate. -/
def gatePacket (p : NocPacket) (s : State) : State := gateServe (gateOf p s) p s

end Sys2Proof.Machine
end

