-- ==== Sys2Proof/Machine/Noc.lean ====
section
/-! DEFINITION. The packet network (chapter 10): routers, routes, buffers and credits, arbitration, tags, the change of a routing
table, and the crossing of a packet. -/

namespace Sys2Proof.Machine

/-! ### Routers, buffers and credits (R626-R628) -/

/-- Key of the buffer of an input, or of an output, of a virtual network. -/
def nocKey (r port v : Nat) : Nat := 4 * (12 * r + port) + v

/-- Flits in a buffer. -/
def bufUsed (n : NocSt) (k : Nat) : Nat := (n.buf.filter (fun x => x.1 == k)).length

/-- The flit at the head of a buffer. -/
def bufHead (n : NocSt) (k : Nat) : Option Flit := (n.buf.find? (fun x => x.1 == k)).map (fun x => x.2)

/-- Take the flit at the head of a buffer away. -/
def bufPop (k : Nat) : List (Nat × Flit) → List (Nat × Flit)
  | [] => []
  | x :: l => if x.1 == k then l else x :: bufPop k l

/-- The buffer that a link output of a router feeds: the input of the neighbour that faces it. -/
def downstream (r o v : Nat) : Nat :=
  match o with
  | 8 => nocKey (r + 1) 9 v
  | 9 => nocKey (r - 1) 8 v
  | 10 => nocKey (r - 7) 11 v
  | _ => nocKey (r + 7) 10 v

/-- Credits that a link output holds for a virtual network: free places of the buffer of 8 flits that it feeds (R627). -/
def credits (n : NocSt) (r o v : Nat) : Nat :=
  let k := downstream r o v
  8 - bufUsed n k - (n.flight.filter (fun x => x.2.1 == k)).length

/-- Output that a packet takes at router r: its routing table's, or the packet's endpoint at the destination (R626). -/
def outputOf (n : NocSt) (r id : Nat) : Option Nat :=
  (n.pkts.find? (fun x => x.1 == id)).map (fun x =>
    let o := (n.tables.getD r []).getD (x.2.dst / 8) 12
    if o = 12 then x.2.dst % 8 else o)

/-! ### Arbitration (R628, R629) -/

/-- Inputs of router r whose waiting header of virtual network v asks for output o, from the input after the one granted last. -/
def nocRequests (n : NocSt) (r o v : Nat) : List Nat :=
  let last := Sparse.get0 n.granted (nocKey r o v)
  ((List.range 12).map (fun j => (last + j) % 12)).filter (fun i =>
    match bufHead n (nocKey r i v) with
    | some f => f.head && outputOf n r f.pkt == some o
    | none => false)

/-- The header that has lost the most rounds; among equal counts the first in round-robin order. -/
def nocWinner (n : NocSt) (r v : Nat) (l : List Nat) : Option Nat :=
  let lost (i : Nat) : Nat := Sparse.get0 n.lost (nocKey r i v)
  l.foldl (fun best i => match best with
    | none => some i
    | some b => if lost b < lost i then some i else some b) none

/-- One round for an output and virtual network that no worm holds. A router whose table waits accepts no new header (R644). -/
def arbitrate (r o v : Nat) (s : State) : State :=
  let n := s.host.noc
  if Sparse.get0 n.hold (nocKey r o v) != 0 || n.newTables.any (fun x => x.1 == r) then s
  else
    let l := nocRequests n r o v
    match nocWinner n r v l with
    | none => s
    | some w =>
      let s := s.maxO 0x7420 1 (Sparse.get0 n.lost (nocKey r w v))
      let lost := l.foldl (fun m i => Sparse.set0 m (nocKey r i v)
        (if i = w then 0 else 1 + Sparse.get0 n.lost (nocKey r i v))) n.lost
      modNoc (fun n => { n with
        lost, hold := Sparse.set0 n.hold (nocKey r o v) (1 + w), granted := Sparse.set0 n.granted (nocKey r o v) (1 + w) }) s

/-! ### Flits on the move -/

/-- A packet's last flit has been accepted at its destination. A response returns the tag of its request (R632)
and ends the request's latency (R645). -/
def arrivePacket (g : Nat) (p : NocPacket) (s : State) : State :=
  let back := opcodeVn p.opcode == some 1 || p.opcode == 7
  let mine (x : Nat × Nat × Nat × Nat × Nat) : Bool := x.1 == p.dst && x.2.1 == p.tag
  let s := if back then
      let s := match s.host.noc.tags.find? mine with
        | some x => countLatency x.2.2.2.1 x.2.2.2.2 s
        | none => s
      modNoc (fun n => { n with tags := n.tags.filter (fun x => !(mine x)) }) s
    else s
  gateServe g p s

/-- A flit leaves the network at its destination. The state of the gate when the header reaches it decides (R638, R639). -/
def ejectFlit (f : Flit) (s : State) : State :=
  match (s.host.noc.pkts.find? (fun x => x.1 == f.pkt)).map (fun x => x.2) with
  | none => s
  | some p =>
    let s := if f.head then modNoc (fun n => { n with gates := n.gates ++ [(f.pkt, gateOf p s)] }) s else s
    if f.last then
      let g := match s.host.noc.gates.find? (fun x => x.1 == f.pkt) with | some x => x.2 | none => gateOf p s
      arrivePacket g p (modNoc (fun n => { n with
        pkts := n.pkts.filter (fun x => x.1 != f.pkt), gates := n.gates.filter (fun x => x.1 != f.pkt) }) s)
    else s

/-- Whether a packet's endpoint takes its header: a gate that holds 16 packets applies back-pressure (R640), and a management request
waits for the response slot of its endpoint, which the answer to the request before it leaves free (R634, log 62). -/
def gateRoom (s : State) (id : Nat) : Bool :=
  match (s.host.noc.pkts.find? (fun x => x.1 == id)).map (fun x => x.2) with
  | none => true
  | some p =>
    !((gateOf p s == 3 || gateOf p s == 4) && decide (16 ≤ heldBy s (endpointDomain p.dst))) &&
    !(p.opcode == 6 && s.host.noc.src.any (fun x => x.1 == 4 * p.dst + 3))

/-- The flit that the worm of a virtual network can send on output o now: it stands at the head of its buffer, and the output has a
credit. -/
def readyFlit (s : State) (r o v : Nat) : Option (Nat × Flit) :=
  let n := s.host.noc
  match Sparse.get0 n.hold (nocKey r o v) with
  | 0 => none
  | i + 1 =>
    match bufHead n (nocKey r i v) with
    | none => none
    | some f =>
      let room := if o < 8 then !f.head || gateRoom s f.pkt else decide (0 < credits n r o v)
      if room then some (i, f) else none

/-- Send one flit on an output: the virtual networks that can send take turns (R628). On a link, a flit arrives 4 clocks later (R630). -/
def sendFlit (r o : Nat) (s : State) : State :=
  let t := Sparse.get0 s.host.noc.turn (12 * r + o)
  match ((List.range 4).map (fun j => (t + j) % 4)).find? (fun v => (readyFlit s r o v).isSome) with
  | none => s
  | some v =>
    match readyFlit s r o v with
    | none => s
    | some (i, f) =>
      let s := modNoc (fun n => { n with
        buf := bufPop (nocKey r i v) n.buf
        turn := Sparse.set0 n.turn (12 * r + o) (1 + v)
        hold := if f.last then Sparse.set0 n.hold (nocKey r o v) 0 else n.hold
        waited := if n.newTables.any (fun x => x.1 == r) then
            Sparse.set0 n.waited (nocKey r i v) (1 + Sparse.get0 n.waited (nocKey r i v)) else n.waited
        flight := if o < 8 then n.flight else n.flight ++ [(n.clock + 4, downstream r o v, f)] }) s
      if o < 8 then ejectFlit f s else s

/-- One clock of a router. -/
def routerClock (r : Nat) (s : State) : State :=
  let s := (List.range 12).foldl (fun s o => (List.range 4).foldl (fun s v => arbitrate r o v s) s) s
  (List.range 12).foldl (fun s o => sendFlit r o s) s

/-- Each endpoint puts one flit into its router's input buffer, where there is room. -/
def injectFlits (n : NocSt) : NocSt :=
  let (n, _) := (nsOf (n.src.map (fun x => x.1))).foldl (fun (acc : NocSt × List Nat) k =>
    let (n, done) := acc
    let ep := k / 4
    let b := nocKey (ep / 8) (ep % 8) (k % 4)
    match n.src.find? (fun x => x.1 == k) with
    | some (_, f) =>
      if done.contains ep || decide (8 ≤ bufUsed n b) then (n, done)
      else ({ n with src := bufPop k n.src, buf := n.buf ++ [(b, f)] }, ep :: done)
    | none => (n, done)) (n, [])
  n

/-! ### Routing tables and closing gates (R638, R643, R644) -/

/-- Whether a worm is in flight through a router: it holds one of its outputs. -/
def wormThrough (n : NocSt) (r : Nat) : Bool := n.hold.any (fun x => x.1 / 48 == r)

/-- Firmware writes the pending table of a router: it holds the route of R626. -/
def newTable (r : Nat) (s : State) : State :=
  modNoc (fun n => { n with newTables := n.newTables.filter (fun x => x.1 != r) ++ [(r, xyTable r)] }) s

/-- Every pending table whose router has no worm in flight takes effect; the wait is counted in flits of the busiest input
buffer: at most the 5 flits of one worm. -/
def switchTables (s : State) : State :=
  (s.host.noc.newTables.filter (fun x => !(wormThrough s.host.noc x.1))).foldl (fun s x =>
    let n := s.host.noc
    let wait := (List.range 48).foldl (fun m i => max m (Sparse.get0 n.waited (48 * x.1 + i))) 0
    let s := (s.incO 0x7410 1 1).maxO 0x7410 2 wait
    modNoc (fun n => { n with
      tables := n.tables.set x.1 x.2, newTables := n.newTables.filter (fun y => y.1 != x.1)
      waited := n.waited.filter (fun y => y.1 / 48 != x.1) }) s) s

/-- The domains whose responses have all left switch off (R638). -/
def finishClosing (s : State) : State :=
  s.host.noc.closing.foldl (fun s x => if leaving s x.1 then s else settleDomain x.1 x.2.1 x.2.2.1 s) s

/-! ### The network clock and the crossing of a packet -/

/-- One clock of the network: flits arrive, routers arbitrate and send, endpoints inject. -/
def nocClock (s : State) : State :=
  let s := modNoc (fun n =>
    let c := n.clock + 1
    let (now, later) := n.flight.partition (fun x => decide (x.1 ≤ c))
    { n with clock := c, flight := later, buf := n.buf ++ now.map (fun x => (x.2.1, x.2.2)) }) s
  let s := (nsOf (s.host.noc.buf.map (fun x => x.1 / 48))).foldl (fun s r => routerClock r s) s
  finishClosing (switchTables (modNoc injectFlits s))

/-- Whether anything moves in the network. -/
def nocBusy (n : NocSt) : Bool := !(n.pkts.isEmpty && n.newTables.isEmpty && n.closing.isEmpty)

/-- One ns at 2.0 GHz: two clocks. The network lies in PD2. -/
def nocTick (s : State) : State :=
  if domState s 2 != 2 then s
  else if nocBusy s.host.noc then nocClock (nocClock s)
  else modNoc (fun n => { n with clock := n.clock + 2 }) s

/-- The clocks that the gate of a domain needs to leave CLOSING, at most `fuel`. -/
def drainGate (d : Nat) : Nat → State → State
  | 0, s => s
  | fuel + 1, s => if s.host.noc.closing.any (fun x => x.1 == d) then drainGate d fuel (nocClock s) else s

/-- The clocks that a packet needs to cross the network, at most `fuel`; where back-pressure stops it, it stays in the network (R640). -/
def crossNetwork (id : Nat) : Nat → State → State
  | 0, s => s
  | fuel + 1, s => if s.host.noc.pkts.any (fun x => x.1 == id) then crossNetwork id fuel (nocClock s) else s

/-- A packet is sent and received. An initiator issues a request only while the tag is free; the tag reserves space for the response
(R632). A packet with an endpoint that does not exist reaches none of the routers, and is handled at once (log 62). -/
def receivePacket (p : NocPacket) (s : State) : State :=
  if !(crossable p) then gatePacket (stampAge p s.host.noc) s
  else if pktRequest p && s.host.noc.tags.any (fun x => x.1 == p.src && x.2.1 == p.tag) then s
  else
    let s := countSent p s
    let s := if pktRequest p then
        modNoc (fun n => { n with tags := n.tags ++
          [(p.src, p.tag, if p.opcode = 1 then p.size else 0, p.initiator, n.clock % 2 ^ 16)] }) s
      else s
    crossNetwork s.host.noc.nextId 512 (modNoc (inject p) s)

end Sys2Proof.Machine
end

