-- ==== Sys2Proof/Machine/Serve.lean ====
section
/-! DEFINITION. Values on the wire, the checks of Table 9-4, and the service of one tagged request (chapter 9). -/

namespace Sys2Proof.Machine

/-! ### Values on the wire -/

/-- TYPE code of a type (Table 9-1). I16 has none (log 7). -/
def ObjTy.code : ObjTy → Nat
  | .bool => 1 | .u8 => 2 | .u16 => 3 | .u32 => 4 | .u64 => 5 | .i32 => 6 | .i64 => 7 | .time32 => 8 | .time64 => 9
  | .bits _ => 10 | .octets _ => 11 | .octetsVar => 11 | .string _ => 12 | .i16 => 0

/-- Octets of a fixed-size type. -/
def ObjTy.size : ObjTy → Option Nat
  | .bool => some 1 | .u8 => some 1 | .u16 => some 2 | .i16 => some 2 | .u32 => some 4 | .i32 => some 4
  | .time32 => some 4 | .u64 => some 8 | .i64 => some 8 | .time64 => some 8 | .bits n => some ((n + 7) / 8)
  | .octets n => some n | .octetsVar => none | .string _ => none

/-- Octets of a STRING value held as the number its characters spell. -/
def stringOctets : Nat → Nat → List Octet
  | 0, _ => []
  | f + 1, v => if v = 0 then [] else stringOctets f (v / 256) ++ [BitVec.ofNat 8 v]

/-- Encoding of a value (Table 9-1). -/
def encodeVal (t : ObjTy) (v : Nat) : List Octet :=
  match t with
  | .bits n => octetsLE ((n + 7) / 8) v
  | .string n => stringOctets n v
  | .octetsVar => []
  | t => octetsBE ((t.size).getD 0) v

/-- Value that octets of a type spell. -/
def decodeVal (t : ObjTy) (l : List Octet) : Nat :=
  match t with
  | .bits _ => natLE l
  | _ => natBE l

/-- R551: values that no object takes. -/
def valueAllowed (t : ObjTy) (l : List Octet) : Bool :=
  match t with
  | .bool => natBE l ≤ 1
  | .bits n => natLE l < 2 ^ n
  | .string _ => l.all (fun o => 0x20 ≤ o.toNat && o.toNat ≤ 0x7E)
  | _ => true

/-! ### The checks of Table 9-4 -/

/-- Identity objects (1000h-100Fh, 1018h), readable before negotiation. -/
def isIdentity (idx : Nat) : Bool := (0x1000 ≤ idx && idx ≤ 0x100F) || idx == 0x1018

/-- Feature bit that governs an object (Table 9-9). -/
def featureOf (idx sub : Nat) : Nat :=
  if 0x1200 ≤ idx && idx ≤ 0x13FF then 2
  else if (0x3A00 ≤ idx && idx ≤ 0x3BFF) || (0x3D00 ≤ idx && idx ≤ 0x3FFF) then 3
  else if (idx == 0x4010 && sub == 0x0A) || idx == 0x4210 then 4
  else if idx == 0x4010 && sub == 0x0B then 5
  else if 0x4800 ≤ idx && idx ≤ 0x4AFF then 6
  else if 0x4B00 ≤ idx && idx ≤ 0x4CFF then 7
  else if 0x5800 ≤ idx && idx ≤ 0x58FF then 8
  else if idx == 0x5700 then 9
  else if 0x6800 ≤ idx && idx ≤ 0x6FFF then 10
  else if 0x7800 ≤ idx && idx ≤ 0x7FFF then 11
  else if 0x8800 ≤ idx && idx ≤ 0x8FFF then 12
  else if idx == 0x6400 then 13
  else if idx == 0x6030 || (idx == 0x6040 && (sub == 5 || sub == 6)) || idx == 0x1E00 then 14
  else if (0x3C00 ≤ idx && idx ≤ 0x3CFF) || idx == 0x8200 || idx == 0x8210 then 15
  else 0

/-- Per-session selectors (Table 9-3, and those the chapters name: 2410h:01, 8100h:01). -/
def isSelector (idx sub : Nat) : Bool :=
  match idx with
  | 0x3010 => sub == 1 || sub == 2
  | 0x3100 => sub == 1 || sub == 2 || sub == 3
  | 0x3200 => sub == 1 || sub == 2 || sub == 3
  | 0x3210 => sub == 1 || sub == 2
  | 0x3810 => sub == 1 || sub == 2 || sub == 3
  | 0x4010 => sub == 1
  | 0x4200 => sub == 1 || sub == 2 || sub == 3
  | 0x4210 => sub == 1
  | 0x4810 => sub == 3
  | 0x4910 => sub == 1
  | 0x4A00 => sub == 1
  | 0x4B00 => sub == 1
  | 0x5100 => sub == 1 || sub == 5
  | 0x5300 => sub == 1
  | 0x5700 => sub == 4
  | 0x5B00 => sub == 1 || sub == 2
  | 0x6010 => sub == 1
  | 0x6100 => sub == 8
  | 0x6810 => sub == 1
  | 0x6820 => sub == 1
  | 0x6828 => sub == 1
  | 0x6860 => sub == 1
  | 0x6880 => sub == 1
  | 0x1300 => sub == 1
  | 0x1E00 => sub == 1
  | 0x2410 => sub == 1
  | 0x8100 => sub == 1
  | _ => false

/-- Units of a region, ascending. -/
def regionUnits (s : State) (code : Nat) : List Nat :=
  (List.range 128).filter (fun u => s.mem.layout.getD u 0 == code)

/-- Power domains of the stacks that hold a region. -/
def regionDomains (s : State) (code : Nat) : List Nat := nsOf ((regionUnits s code).map (fun u => 13 + u / 32))

/-- Domains whose stored contents an object reads or writes (R565; DEDUCED from Table 0-6, log 8). `n` is the
session, for the selectors. -/
def domainsNeeded (s : State) (n idx sub : Nat) : List Nat :=
  let quad (a : Nat) : Nat := laTile a / 32
  if idx = 0x3010 && 3 ≤ sub then [9 + quad (selOf s n 0x3010 1)]
  else if idx = 0x3100 && 4 ≤ sub then [5 + quad (selOf s n 0x3100 1)]
  else if idx = 0x3200 && 4 ≤ sub then [5 + quad (selOf s n 0x3200 1)]
  else if idx = 0x3210 && sub = 3 then [5 + quad (selOf s n 0x3210 1)]
  else if idx = 0x3810 && 4 ≤ sub then [5 + quad (selOf s n 0x3810 1)]
  else if idx = 0x4200 && (sub = 4 || sub = 5) then [5 + quad (selOf s n 0x4200 1)]
  else if idx = 0x4210 && 2 ≤ sub then regionDomains s 4
  else if idx = 0x5B00 && sub = 3 then regionDomains s 1
  else if idx = 0x6100 && sub = 3 then regionDomains s 5
  else if 0x6810 ≤ idx && idx ≤ 0x6830 && !(isSelector idx sub) then [19]
  else []

/-- The block of Table 12-5 that an object belongs to: external sampling, the trace unit's sink, or a serial port (log 8). -/
def blockOf (idx sub : Nat) : Option Nat :=
  if idx = 0x5800 && sub = 1 then some 8
  else if idx = 0x8830 && sub ≤ 2 then some 9
  else if 0x6C00 ≤ idx && idx < 0x6C08 then some 10
  else none

/-- R718: whether an object's block is gated by force. -/
def blockGated (s : State) (idx sub : Nat) : Bool :=
  match blockOf idx sub with
  | some b => bitOf (s.o 0x2030 2) b
  | none => false

/-- Check 8 of Table 9-4: a needed domain that mode or host switched off, or a block gated by force (R718). -/
def domainBlocked (s : State) (n idx sub : Nat) : Bool :=
  (domainsNeeded s n idx sub).any (gateShut s) || blockGated s idx sub

/-- R556: the answer of the run lock in a run state, if it refuses. -/
def lockAnswer : RunState → Option Status
  | .running | .stopping | .waiting => some .runLocked
  | .stepping | .recovering => some .busy
  | _ => none

/-- The set of objects that stay reachable after a failed boot (R518). -/
def bootFailedAllows (idx : Nat) : Bool :=
  isIdentity idx || decide (0x1100 ≤ idx ∧ idx ≤ 0x13FF) || [0x1E00, 0x2000, 0x6000, 0x6010, 0x6030, 0x6040].contains idx

/-- Whether the boot has failed (6000h:01 = 6). -/
def bootFailed (s : State) : Bool := s.o 0x6000 1 == 6

/-- Checks 1-5 of Table 9-4 that reads and writes share. -/
def checkCommon (s : State) (x : Session) (idx sub : Nat) (wr : Bool) : Except Status ObjDesc :=
  if !x.negotiated && !(isIdentity idx && !wr) then .error .notAgreed
  else match findObj idx sub with
  | none => .error .badIndex
  | some d =>
    if x.negotiated && !(bitOf x.agreed (featureOf idx sub)) then .error .notAgreed
    else if wr && (d.acc == .ro || d.acc == .rc) then .error .denied
    else if !wr && d.acc == .wo then .error .denied
    else if x.level < d.priv then .error .denied
    else if bootFailed s && !(bootFailedAllows idx) then .error .denied
    else .ok d

/-- Checks 1-9 of Table 9-4 for a WRITE of one value, with R551 before the chapter's own checks. `long` says that the
defining chapter refuses the length. -/
def checkWrite (s : State) (x : Session) (idx sub : Nat) (v : WVal) (long : Bool) : Option Status :=
  match checkCommon s x idx sub true with
  | .error st => some st
  | .ok d =>
    let fixedOctets := match d.ty with | .octets _ => true | _ => false
    if v.ty != d.ty.code then some .badType
    else if !fixedOctets && (match d.ty.size with | some n => v.data.length != n | none => false) then some .badType
    else if fixedOctets && (match d.ty.size with | some n => v.data.length != n | none => false) then some .badLength
    else if (match d.ty with | .string n => decide (n < v.data.length) | _ => false) then some .badLength
    else if long then some .badLength
    else if domainBlocked s x.id idx sub then some .domainOff
    else match (if d.lock then lockAnswer s.run.state else none) with
    | some st => some st
    | none => if valueAllowed d.ty v.data then none else some .badValue

/-! ### Service of one request (R561, R580-R583) -/

/-- One answer to a request: STATUS, TYPE, OFFSET, body. -/
structure Answer where
  status : Status
  ty : Nat := 0
  offset : Nat := 0
  body : List Octet := []
  deriving DecidableEq, Repr

/-- The reply frames of a request, numbered from the session's count. -/
def replyFrames (x : Session) (r : Req) (op idx sub : Nat) (as_ : List Answer) : List Frame :=
  (List.range as_.length).map fun i =>
    let a := as_.getD i { status := .ok }
    { session := x.id, op, last := decide (i + 1 = as_.length), seq := x.txSeq + 1 + i, echo := r.seq % 2 ^ 32,
      status := a.status, idx, sub, ty := a.ty, offset := a.offset, body := a.body }

/-- Send the answers of a request and keep them (R582). -/
def answer (r : Req) (op idx sub : Nat) (as_ : List Answer) (s : State) : State :=
  match s.sess r.session with
  | none => s
  | some x =>
    let fs := replyFrames x r op idx sub as_
    let s := fs.foldl (fun s f => carry x f true s) s
    s.modSess r.session fun y => { y with
      txSeq := y.txSeq + fs.length
      kept := ({ seq := r.seq, tag := r.tag, frames := fs } :: y.kept).take 8 }

/-- R581: whether SEQ lies where the window accepts it. -/
def seqFresh (x : Session) (q : Nat) : Bool :=
  q != 0 && (decide (x.high < q) || (decide (x.high < q + 64) && !x.seen.contains q))

/-- Record an accepted SEQ. -/
def acceptSeq (q frc : Nat) (x : Session) : Session :=
  let h := max x.high q
  { x with high := h, seen := (nsAdd q x.seen).filter (fun k => decide (h < k + 64)), lastAt := frc }

/-- R582: the kept reply of a repeated request. -/
def keptFor (x : Session) (r : Req) : Option Kept :=
  x.kept.find? (fun k => k.seq == r.seq && k.tag == r.tag)

/-- R616: whether the carrier takes a frame now: the mailbox only while it is enabled and the reply ring has a free entry; UDP only while
the module has an address (R693). -/
def carrierTakes (s : State) (carrier : Nat) : Bool :=
  if carrier != 2 then s.net.addr != 0 else (s.host.mbOn && !s.host.d3hot && decide (ringUsed s.host.rpProd s.host.rpCons < s.host.rpSize))

/-- The session that a request belongs to: open, and on its own carrier (R569, R602). -/
def sessionFor (s : State) (r : Req) : Option Session :=
  match s.sess r.session with
  | some x => if x.isOpen && x.carrier == r.carrier then some x else none
  | none => none

/-- Serve a tagged request with the module awake: find its session, apply the replay rules, then let `act` carry it out. `act` answers
with reply parts; none means that the operation is accepted and answered later. -/
def serveAwake (r : Req) (op idx sub : Nat) (act : Session → State → List Answer × State) (s : State) : State :=
  match sessionFor s r with
  | none => s.incO 0x1140 1 1
  | some x =>
    if seqFresh x r.seq then
      let s := s.modSess x.id (acceptSeq r.seq s.now)
      if 8 ≤ x.waiting.length then answer r op idx sub [{ status := .busy }] s
      else
        match act x s with
        | ([], s) => s.modSess x.id (fun y => { y with
            waiting := y.waiting ++ [{ seq := r.seq, tag := r.tag, op, idx, sub }] })
        | (as_, s) => answer r op idx sub as_ s
    else
      match keptFor x r with
      | some k => k.frames.foldl (fun s f => carry x f true s) s
      | none => s.incO 0x1140 3 1

/-- R738: an ACP frame wakes the module from its idle depth; when it has been served, the module chooses a depth again.
No frame is served in OFF and STANDBY, nor while the mailbox takes none (R616). -/
def serve (r : Req) (op idx sub : Nat) (act : Session → State → List Answer × State) (s : State) : State :=
  if decide (s.pwr.mode < 2) || !(carrierTakes s r.carrier) then s
  else chooseDepth (serveAwake r op idx sub act (wakeDepth s))

/-- What a write's handler does: the chapter's own checks and the effect; session number first. -/
abbrev WriteFn := Nat → State → Status × State

/-- Refuse, leaving the state as it is (R567). -/
def refuse (st : Status) (s : State) : Status × State := (st, s)

/-- What the defining chapter says of the length of a write, for a session: true refuses it. -/
abbrev LengthFn := Nat → State → Bool

/-- Serve a WRITE of an object whose chapter checks the length: the checks of Table 9-4, then the handler. -/
def serveRun (r : Req) (idx sub : Nat) (v : WVal) (long : LengthFn) (h : WriteFn) (s : State) : State :=
  serve r 6 idx sub (fun x s =>
    match checkWrite s x idx sub v (long x.id s) with
    | some st => ([{ status := st }], s)
    | none =>
      let (st, s) := h x.id s
      ([{ status := st }], s)) s

/-- Serve a WRITE: the checks of Table 9-4, then the handler. -/
def serveWrite (r : Req) (idx sub : Nat) (v : WVal) (h : WriteFn) (s : State) : State :=
  serveRun r idx sub v (fun _ _ => false) h s

/-- Serve a WRITE whose accepted operation is answered later when the handler says so (second component). -/
def serveWriteLater (r : Req) (idx sub : Nat) (v : WVal) (h : Nat → State → Option Status × State) (s : State) : State :=
  serve r 6 idx sub (fun x s =>
    match checkWrite s x idx sub v false with
    | some st => ([{ status := st }], s)
    | none =>
      match h x.id s with
      | (some st, s) => ([{ status := st }], s)
      | (none, s) => ([], s)) s

/-- Answer an operation of session n, SEQ q, that was left waiting, in parts. -/
def answerParts (n q : Nat) (as_ : List Answer) (s : State) : State :=
  match s.sess n with
  | none => s
  | some x =>
    match x.waiting.find? (fun w => w.seq == q) with
    | none => s
    | some w =>
      let s := s.modSess n (fun y => { y with waiting := y.waiting.filter (fun v => v.seq != q) })
      answer { session := n, seq := q, tag := w.tag, carrier := x.carrier, src := x.src, srcPort := x.srcPort }
        w.op w.idx w.sub as_ s

/-- Answer an operation of session n, SEQ q, that was left waiting, with a status alone. -/
def answerWaiting (n q : Nat) (st : Status) (s : State) : State := answerParts n q [{ status := st }] s

/-- Answer every operation that waits on object idx:sub. -/
def answerAllWaiting (idx sub : Nat) (st : Status) (s : State) : State :=
  s.acp.sessions.foldl (fun s x =>
    (x.waiting.filter (fun w => w.idx == idx && w.sub == sub)).foldl (fun s w => answerWaiting x.id w.seq st s) s) s

/-- Table 9-10: start selector, octets per element, chunk limit, number of START units per element, of a block
object. -/
def blockInfo (idx sub : Nat) : Option (Nat × Nat × Nat × Nat) :=
  match idx, sub with
  | 0x3010, 4 => some (2, 16, 4096, 1)
  | 0x3100, 5 => some (3, 8, 4096, 1)
  | 0x3810, 5 => some (3, 384, 6144, 1)
  | 0x4200, 5 => some (3, 8, 4096, 1)
  | 0x4210, 3 => some (1, 8, 4096, 1)
  | 0x5100, 3 => some (1, 4, 4096, 1)
  | 0x5B00, 3 => some (2, 8, 4096, 1)
  | 0x6030, 2 => some (1, 1, 4096, 1)
  | 0x6100, 3 => some (8, 1, 4096, 1)
  | 0x6810, 3 => some (1, 32, 4096, 1)
  | 0x6828, 3 => some (1, 2, 4096, 1)
  | 0x6880, 2 => some (1, 1, 4096, 1)
  | _, _ => none

/-- Length check of a write of octets `d` through a block object that ends after `total` elements (R100, R273, R323, R499,
Table 9-10): whole elements, no more than one chunk, none past the last. -/
def blockTooLong (idx sub total : Nat) (d : List Octet) (n : Nat) (s : State) : Bool :=
  match blockInfo idx sub with
  | none => false
  | some (sel, el, limit, _) =>
    let start := if isSelector idx sel then selOf s n idx sel else s.o idx sel
    d.length % el != 0 || decide (limit < d.length) || decide (total < start + d.length / el)

/-- Write a start selector, wherever it is held: 6030h:01 is shared, the others are per session. -/
def setStart (n idx sel v : Nat) (s : State) : State :=
  if isSelector idx sel then setSel n idx sel v s else s.setO idx sel v

/-- Serve a WRITE_BLOCK (R589, R592, R593): START to the selector, then the data through the block object. -/
def serveBlock (r : Req) (idx sub start : Nat) (data : List Octet) (long : List Octet → LengthFn) (h : List Octet → WriteFn)
    (s : State) : State :=
  serve r 8 idx sub (fun x s =>
    if !x.negotiated || !(bitOf x.agreed 1) then ([{ status := .notAgreed }], s)
    else match blockInfo idx sub with
    | none => ([{ status := .badIndex }], s)
    | some (sel, el, _, _) =>
      let s1 := setStart x.id idx sel start s
      match checkWrite s1 x idx sub { ty := 11, data } (long data x.id s1) with
      | some st => ([{ status := st }], s)
      | none =>
        match h data x.id s1 with
        | (st, s2) =>
          if st.done then ([{ status := st }], setStart x.id idx sel (start + data.length / el) s2)
          else ([{ status := st }], s)) s

/-- Serve a row that stores elements, in whichever form it came: element object `sub1`, block object `sub2`. -/
def serveForm (r : Req) (idx sub1 sub2 : Nat) (w : WForm) (long : List Octet → LengthFn) (one : List Octet → WriteFn)
    (many : List Octet → WriteFn) (s : State) : State :=
  match w with
  | .word v => serveRun r idx sub1 v (fun n s => sub1 == sub2 && long v.data n s) (one v.data) s
  | .run v => serveRun r idx sub2 v (long v.data) (many v.data) s
  | .block start data => serveBlock r idx sub2 start data long many s

/-! ### Commands that name a unit -/

/-- Carry out a command on unit n of `count`; a unit the module does not have stops the machine by name. -/
def onUnit (n count : Nat) (f : State) : Host.Outcome State Fault Refusal :=
  if n < count then .next f else .fault .absentUnit

/-- Serve a row that writes sub of object `base` + n, of which the module has `count`: a frame with a number beyond them
names no object (R15), which check 2 of Table 9-4 finds after check 1. -/
def onObject (r : Req) (n count base sub : Nat) (f : State → State) (s : State) : Host.Outcome State Fault Refusal :=
  .next (if n < count then f s
    else serve r 6 (base + n) sub (fun x s => ([{ status := if x.negotiated then .badIndex else .notAgreed }], s)) s)

/-! ### Protection -/

/-- Whether a session may see protected contents: the image is not PROTECTED, or the session is a Custodian's that has
presented the owner token (R99, R274, R324, R333, R447). -/
def mayRead (s : State) (n : Nat) : Bool :=
  !s.img.prot || (match s.sess n with | some x => x.level == 3 && x.token | none => false)

/-- Whether the run state is one in which sweeps run (R50, R295). -/
def inRun (s : State) : Bool :=
  match s.run.state with
  | .running | .stepping | .stopping | .waiting | .recovering => true
  | _ => false

/-- The answer of R102 and R220 to a write of an active bank. -/
def activeAnswer (s : State) : Option Status := lockAnswer s.run.state

end Sys2Proof.Machine
end

