-- ==== Sys2Proof/Machine/Store.lean ====
section
/-! DEFINITION. The stores of the module: local bit store, instruction words, dictionaries, exchange schedules,
memory banks and DRAM, each read and written in one place; and the writes that take part in copy-on-write. -/

namespace Sys2Proof.Machine

/-! ### Event payload items (R594) -/

/-- An item of one octet. -/
def pU8 (n : Nat) : List Octet := octetsBE 1 n
/-- An item of two octets; BITS(16) is least significant octet first and stands in `pBits16`. -/
def pU16 (n : Nat) : List Octet := octetsBE 2 n
/-- An item of four octets: a number, a tile, cluster or lane. -/
def pU32 (n : Nat) : List Octet := octetsBE 4 n
/-- An item of eight octets: a design cycle, a 64-bit object. -/
def pU64 (n : Nat) : List Octet := octetsBE 8 n
/-- A set of counter bits, BITS(16). -/
def pBits16 (n : Nat) : List Octet := octetsLE 2 n
/-- The design cycle that the counter names. -/
def pCycle (s : State) : List Octet := pU64 s.run.cycle.toNat

/-! ### Logical and physical clusters (R97, R210, R276, R402) -/

/-- Physical cluster that carries logical cluster c of a tile. -/
def physCluster (s : State) (tile c : Nat) : Nat :=
  if c < 16 && Sparse.get0 s.rew.spares tile == 1 + c then 17 * tile + 16 else 17 * tile + c

/-- Physical lane of a logical lane number (16·tile + cluster)·64 + lane. -/
def physLane (s : State) (ll : Nat) : Nat :=
  64 * physCluster s (ll / 1024) (ll / 64 % 16) + ll % 64

/-- Logical cluster (16·tile + c) that a physical cluster carries; none for a free spare and for a replaced cluster. -/
def logicalCluster (s : State) (pc : Nat) : Option Nat :=
  let tile := pc / 17
  let sp := Sparse.get0 s.rew.spares tile
  if pc % 17 = 16 then (if 1 ≤ sp && sp ≤ 16 then some (16 * tile + (sp - 1)) else none)
  else if sp = 1 + pc % 17 then none else some (16 * tile + pc % 17)

/-- Logical lane number that a physical lane carries. -/
def logicalLane (s : State) (p : Nat) : Option Nat := (logicalCluster s (p / 64)).map (fun c => 64 * c + p % 64)

/-- Lane address of a logical lane number. -/
def llAddr (ll : Nat) : Nat := laneAddr (ll / 1024) (ll / 64 % 16) (ll % 64)

/-- Lane address under which a physical lane is reported: its logical number, or its own place when it carries none. -/
def physAddr (s : State) (p : Nat) : Nat :=
  match logicalLane s p with
  | some ll => llAddr ll
  | none => laneAddr (p / 64 / 17) (p / 64 % 17) (p % 64)

/-- R97, R98: the physical lane that a lane address names, if the module accepts it. -/
def addrLane (s : State) (a : Nat) : Option Nat :=
  if 2 ^ 18 ≤ a then none
  else if laCluster a < 16 then some (64 * physCluster s (laTile a) (laCluster a) + laLane a)
  else if laCluster a = 16 && !(1 ≤ Sparse.get0 s.rew.spares (laTile a) && Sparse.get0 s.rew.spares (laTile a) ≤ 16) then
    some (64 * (17 * laTile a + 16) + laLane a)
  else none

/-! ### Local bit store -/

/-- One lane's store. -/
def State.lane (s : State) (p : Nat) : LaneRec := Sparse.get (fun _ => {}) s.lanes.lbs p

/-- Replace one lane's store. -/
def State.setLane (s : State) (p : Nat) (r : LaneRec) : State :=
  { s with lanes := { s.lanes with lbs := Sparse.set (fun _ => {}) s.lanes.lbs p r } }

/-- A transparent write of one bit (R22, R60): both planes for a state address, the temporary otherwise. A write of one bit
leaves the parity of its group as good or bad as it was (log 15). -/
def LaneRec.write (r : LaneRec) (addr : Nat) (b : Bool) : LaneRec :=
  if addr < 384 then { r with cur := putBv r.cur addr b, nxt := putBv r.nxt addr b }
  else if addr < 1008 then { r with tmp := putBv r.tmp (addr - 384) b }
  else r

/-- A write of the next plane only (R21). -/
def LaneRec.writeNext (r : LaneRec) (addr : Nat) (b : Bool) : LaneRec :=
  if addr < 384 then { r with nxt := putBv r.nxt addr b } else r

/-- Apply a write whose two-step distance has passed. -/
def applyWrite (s : State) (w : LbsWrite) : State :=
  let r := s.lane w.lane
  s.setLane w.lane
    (match w.plane with
     | 0 => { r with cur := putBv r.cur w.addr w.bit, nxt := putBv r.nxt w.addr w.bit }
     | 1 => { r with nxt := putBv r.nxt w.addr w.bit }
     | 2 => { r with tmp := putBv r.tmp (w.addr - 384) w.bit }
     | _ => { r with imp := w.bit })

/-! ### Instruction words -/

/-- Payload of word w of a physical lane. -/
def State.imWord (s : State) (p w : Nat) : BitVec 128 := Sparse.get (fun _ => nullWord) s.lanes.im (2048 * p + w)

/-- Store a payload; new check bits leave no error in the codeword. -/
def State.setIm (s : State) (p w : Nat) (v : BitVec 128) : State :=
  { s with lanes := { s.lanes with
      im := Sparse.set (fun _ => nullWord) s.lanes.im (2048 * p + w) v
      imErr := Sparse.erase s.lanes.imErr (2048 * p + w)
      imFixed := s.lanes.imFixed.filter (fun k => k != 2048 * p + w) } }

/-! ### Function dictionaries -/

/-- Key of a dictionary entry of a physical cluster and physical bank. -/
def dictKey (pc bank e : Nat) : Nat := 1024 * (2 * pc + bank) + e

/-- Physical bank that is active in a physical cluster. -/
def dictActive (s : State) (pc : Nat) : Nat := Sparse.get0 s.lanes.dictActive pc

/-- Truth table of an entry (R42, R43). -/
def State.dictEntry (s : State) (pc bank e : Nat) : Word64 :=
  if e < 16 then fixedEntry e else Sparse.get (fun _ => 0) s.lanes.dict (dictKey pc bank e)

/-- Store a loadable entry. -/
def State.setDict (s : State) (pc bank e : Nat) (v : Word64) : State :=
  if e < 16 then s else
  { s with lanes := { s.lanes with
      dict := Sparse.set (fun _ => 0) s.lanes.dict (dictKey pc bank e) v
      dictErr := Sparse.erase s.lanes.dictErr (dictKey pc bank e) } }

/-- R44: count the entries of a dictionary bank that a read of the whole bank finds with a single-bit error. -/
def countDictReads (pc bank : Nat) (s : State) : State :=
  s.incO 0x3040 1 ((s.lanes.dictErr.filter (fun p => p.1 / 1024 == 2 * pc + bank && p.2 == 1)).length)

/-- CRC of a dictionary bank (R48): entries 16 to 1023, most significant octet first. An entry with an uncorrectable error
counts with the value it held before the error (log 16). -/
def dictCrc (s : State) (pc bank : Nat) : Nat :=
  crc32 ((List.range 1008).flatMap (fun i => octetsBE 8 (s.dictEntry pc bank (16 + i)).toNat))

/-! ### Exchange schedules -/

/-- Key of an exchange-schedule entry. -/
def exsKey (tile bank e : Nat) : Nat := 2048 * (2 * tile + bank) + e

/-- An entry of selects 511. -/
def exsNone : BitVec 3072 := BitVec.ofNat 3072 (2 ^ 3024 - 1)

/-- Physical bank that is active in a tile. -/
def exsActive (s : State) (tile : Nat) : Nat := Sparse.get0 s.ex.active tile

/-- An entry (Table 3-4). -/
def State.exsEntry (s : State) (tile bank e : Nat) : BitVec 3072 :=
  Sparse.get (fun _ => exsNone) s.ex.bank (exsKey tile bank e)

/-- What the check bits of an entry's 64-bit groups say (R214): 0 no error, 1 a single-bit error in some groups, all of them
correctable, 2 a group with more flipped bits. -/
def exsError (s : State) (key : Nat) : Nat :=
  (s.ex.bankErr.filter (fun p => p.1 / 48 == key)).foldl (fun m p => max m (min 2 p.2)) 0

/-- Store an entry; new check bits leave no error in it. -/
def State.setExs (s : State) (tile bank e : Nat) (v : BitVec 3072) : State :=
  { s with ex := { s.ex with
      bank := Sparse.set (fun _ => exsNone) s.ex.bank (exsKey tile bank e) v
      bankErr := s.ex.bankErr.filter (fun p => p.1 / 48 != exsKey tile bank e) } }

/-- R214: count the entries of an exchange bank that a read of the whole bank finds with a single-bit error. -/
def countExsReads (tile bank : Nat) (s : State) : State :=
  let ks := nsOf ((s.ex.bankErr.filter (fun p => p.1 / 48 / 2048 == 2 * tile + bank)).map (fun p => p.1 / 48))
  s.incO 0x3820 1 ((ks.filter (fun k => exsError s k == 1)).length)

/-- SEL_o of an entry. -/
def selectOf (v : BitVec 3072) (o : Nat) : Nat := fld v.toNat (9 * o) 9

/-- R213: whether every select of an entry is valid. -/
def exsValid (v : BitVec 3072) : Bool :=
  (List.range 336).all (fun o => selectOf v o < 336 || selectOf v o == 511)

/-- CRC of an exchange bank (R218): entries 0 to 2047, 384 octets each, octet 0 first. -/
def exsCrc (s : State) (tile bank : Nat) : Nat :=
  crc32 ((List.range 2048).flatMap (fun i => octetsBE 384 (s.exsEntry tile bank i).toNat))

/-! ### Banks -/

/-- Key of a bank word: bank number 4·tile + b. -/
def bankKey (bank w : Nat) : Nat := 65536 * bank + w

/-- A stored bank word. -/
def State.bankWord (s : State) (k : Nat) : Word64 := Sparse.get (fun _ => 0) s.mem.bank k

/-- Store a bank word with new check bits (a write drops a waiting write-back, R301). -/
def State.setBank (s : State) (k : Nat) (v : Word64) : State :=
  { s with mem := { s.mem with
      bank := Sparse.set (fun _ => 0) s.mem.bank k v
      bankErr := Sparse.erase s.mem.bankErr k
      fixed := s.mem.fixed.filter (fun x => x.1 != k) } }

/-! ### DRAM (R316) -/

/-- Size of a region in octets. -/
def regionSize (s : State) (code : Nat) : Nat := 2 ^ 30 * (regionUnits s code).length

/-- Physical octet of a region's octet. -/
def regionPlace (us : List Nat) (a : Nat) : Nat :=
  let g := a / 4096
  us.getD (g % us.length) 0 * 2 ^ 30 + g / us.length * 4096 + a % 4096

/-- What an octet of DRAM that nothing has written reads as (log 2). -/
def dramDflt (_ : Nat) : Octet := 0

/-- The canonical form of the DRAM: addresses strictly rising, and no entry equal to what an unlisted address reads as. -/
def Memory.wf (m : List Host.Cell) : Bool := Sparse.wf dramDflt m

/-- One octet of DRAM. -/
def State.dramGet (s : State) (a : Nat) : Octet := Sparse.get dramDflt s.mem.dram a

/-- Write one octet of DRAM. -/
def State.dramSet (s : State) (a : Nat) (v : Octet) : State :=
  { s with mem := { s.mem with dram := Sparse.set dramDflt s.mem.dram a v } }

/-- n octets of a region from octet a. -/
def regionRead (s : State) (code a n : Nat) : List Octet :=
  let us := regionUnits s code
  (List.range n).map (fun i => s.dramGet (regionPlace us (a + i)))

/-- Write octets into a region from octet a. -/
def regionWrite (code a : Nat) (l : List Octet) (s : State) : State :=
  let us := regionUnits s code
  (l.zipIdx).foldl (fun s p => s.dramSet (regionPlace us (a + p.2)) p.1) s

/-- Set every octet of the listed units to 0. -/
def dramZero (units : List Nat) (s : State) : State :=
  { s with mem := { s.mem with dram := s.mem.dram.filter (fun c => !(units.contains (c.1 / 2 ^ 30))) } }

/-- Size of the far region in words. -/
def farSize (s : State) : Nat := regionSize s 4 / 8

/-- A far word; byte j of word w lies at octet 8w + j of the region. -/
def State.farWord (s : State) (w : Nat) : Word64 := BitVec.ofNat 64 (natLE (regionRead s 4 (8 * w) 8))

/-- Store a far word. -/
def State.setFar (s : State) (w : Nat) (v : Word64) : State :=
  let s := regionWrite 4 (8 * w) (octetsLE 8 v.toNat) s
  { s with mem := { s.mem with farErr := s.mem.farErr.filter (fun x => x != w) } }

/-! ### Copy-on-write (R409-R418, R839) -/

/-- Key of a block in the list of copied blocks. -/
def blockKey (far : Bool) (b : Nat) : Nat := if far then 2 ^ 40 + b else b

/-- The content of a block. -/
def blockWords (s : State) (far : Bool) (b : Nat) : List Word64 :=
  (List.range 32).map (fun i => if far then s.farWord (32 * b + i) else s.bankWord (32 * b + i))

/-- Checkpoints that are not withdrawn. -/
def liveCkpts (s : State) : List Ckpt := s.rew.ckpts.filter (fun c => c.state != 3)

/-- Checkpoints that pre-images may enter: those not withdrawn, without the one taken in this commit while SYNC has
not yet been sampled high (R401: its blocks become uncopied only then). -/
def preCkpts (s : State) : List Ckpt := (liveCkpts s).filter (fun c => !c.fresh)

/-- Change the first checkpoint of a list that p selects. -/
def modFirst (p : Ckpt → Bool) (f : Ckpt → Ckpt) : List Ckpt → List Ckpt
  | [] => []
  | c :: t => if p c then f c :: t else c :: modFirst p f t

/-- Change the newest checkpoint that p selects. -/
def modLast (p : Ckpt → Bool) (f : Ckpt → Ckpt) (s : State) : State :=
  { s with rew := { s.rew with ckpts := (modFirst p f s.rew.ckpts.reverse).reverse } }

/-- Change the checkpoint that takes pre-images now. -/
def modPre (f : Ckpt → Ckpt) (s : State) : State := modLast (fun c => c.state != 3 && !c.fresh) f s

/-- Change the newest checkpoint that is not withdrawn. -/
def modNewest (f : Ckpt → Ckpt) (s : State) : State := modLast (fun c => c.state != 3) f s

/-- Ring blocks that a checkpoint uses (Table 6-2). -/
def ringBlocks (c : Ckpt) : Nat := if c.state = 3 then 0 else 1729 + (c.pre.length + 14) / 15

/-- Ring blocks of the CHECKPOINT region (R405). -/
def ringTotal (s : State) : Nat := regionSize s 3 / 16 * 15 / 4096

/-- Free ring blocks. -/
def ringFree (s : State) : Nat := ringTotal s - (s.rew.ckpts.map ringBlocks).sum

/-- Withdraw the checkpoints that p selects, with a reason; their blocks become free (R407). -/
def withdrawIf (p : Ckpt → Bool) (reason : Nat) (s : State) : State :=
  { s with rew := { s.rew with
      ckpts := s.rew.ckpts.map (fun c => if c.state != 3 && p c then { c with state := 3, by_ := reason, pre := [] } else c) } }

/-- Free ring space for the newest checkpoint by withdrawing the oldest, one at a time (reason 1). -/
def freeRing (need : Nat) : Nat → State → State
  | 0, s => s
  | fuel + 1, s =>
    if need ≤ ringFree s then s
    else match liveCkpts s with
    | c :: _ :: _ => freeRing need fuel (withdrawIf (fun d => d == c) 1 s)
    | _ => s

/-- The newest checkpoint becomes incomplete, and stays so (R416, R417); the restart of R418 is due. -/
def markRestart (unit cause : Nat) (s : State) : State :=
  let s := modPre (fun c => { c with state := 1, drained := true, guardOk := true }) s
  if s.rew.restart.isSome then s else { s with rew := { s.rew with restart := some (unit, cause) } }

/-- R411: after an executed step the copy stores have drained by a number of entries that the manual does not give (log 28). -/
def drainStores (k e : Nat) (s : State) : State :=
  { s with rew := { s.rew with storeUsed := s.rew.storeUsed.foldl (fun m p =>
      Sparse.set0 m p.1 (p.2 - Config.copyDrain k e p.1)) s.rew.storeUsed } }

/-- Add the pre-image of a block to the newest checkpoint, before its first write (R409, R410, R839). `tile` is the
tile whose copy store takes it, none for a far block; `sched` says that the schedule writes. A checkpoint that already holds
a pre-image of the block keeps the older one (R852). While no sweeps run, the copy stores drain before the next write (log 28). -/
def preImage (far : Bool) (b : Nat) (tile : Option Nat) (sched : Bool) (s : State) : State :=
  if s.run.state = .noDesign then s
  else if s.rew.copied.contains (blockKey far b) then s
  else if (preCkpts s).isEmpty then s
  else if (match (preCkpts s).getLast? with | some c => c.pre.any (fun y => y.far == far && y.block == b) | none => false) then
    { s with rew := { s.rew with copied := nsAdd (blockKey far b) s.rew.copied } }
  else
    let full := match tile with
      | some t => sched && decide (2048 ≤ Sparse.get0 s.rew.storeUsed t)
      | none => false
    if full then markRestart (laneAddr (tile.getD 0) 0 0) 1 s
    else
      let words := blockWords s far b
      let grow := match (preCkpts s).getLast? with | some c => c.pre.length % 15 == 0 | none => false
      let s := if grow then freeRing 1 64 s else s
      if grow && ringFree s == 0 then markRestart (2 ^ 32 - 1) 2 s
      else
        let s := modPre (fun c => { c with pre := c.pre ++ [{ far, block := b, words }] }) s
        let s := { s with rew := { s.rew with
          copied := nsAdd (blockKey far b) s.rew.copied
          storeUsed := (match tile with
            | some t => if inRun s then Sparse.set0 s.rew.storeUsed t (Sparse.get0 s.rew.storeUsed t + 1) else s.rew.storeUsed
            | none => s.rew.storeUsed)
          farCopies := s.rew.farCopies + (if far && inRun s then 1 else 0) } }
        s.incO 0x4810 6 1

/-- Mark every block uncopied (R401, R427, R851): from now on pre-images go to the newest checkpoint. -/
def uncopyAll (s : State) : State :=
  { s with rew := { s.rew with
      copied := [], uncopyDue := false
      ckpts := s.rew.ckpts.map (fun c => { c with fresh := false }) } }

/-! ### Data of whole lanes, clusters and tiles -/

/-- Remove every key in [lo, hi) of a sparse map. -/
def Sparse.clear {α : Type} (m : Sparse α) (lo hi : Nat) : Sparse α := m.filter (fun p => !(lo ≤ p.1 && p.1 < hi))

/-- The state section of a checkpoint: the shadow planes of the carried clusters by logical lane (R402, Table 6-2). -/
def statePlanes (s : State) : Sparse (BitVec 384) :=
  (s.lanes.lbs.filterMap (fun p => (logicalLane s p.1).map (fun ll => (ll, p.2.sh)))).foldl
    (fun m p => Sparse.set (fun _ => 0) m p.1 p.2) []

/-- Load planes by logical lane into the current and next planes of every carried lane; `keep` selects the lanes
that are written. -/
def loadPlanes (planes : Sparse (BitVec 384)) (keep : Nat → Bool) (s : State) : State :=
  let s := mapLanes (fun p r => match logicalLane s p with
    | some ll => if keep ll then { r with cur := 0, nxt := 0, badCur := 0, badNxt := 0 } else r
    | none => r) s
  planes.foldl (fun s q => if keep q.1 then
    let p := physLane s q.1
    s.setLane p { s.lane p with cur := q.2, nxt := q.2 } else s) s

/-- Clear temporaries, locations 1010, 1011, 1015, result registers and everything in flight; what an unfinished sweep counted raises
no event of a later cycle (R856). -/
def clearSweep (s : State) : State :=
  let s := mapLanes (fun _ r => { r with tmp := 0, badTmp := 0, rd := false, ind := false, imp := false }) s
  { s with
    lanes := { s.lanes with res1 := [], res2 := [], flight := [], deliveries := [] }
    ex := { s.ex with inputs := [], imp1 := [], imp2 := [], bridge := [], ports := s.ex.ports.map (fun p => { p with rx := [], dead := false }) }
    mem := { s.mem with last := [] }
    run := { s.run with guardAcc := 0, ruleBits := 0, dmBits := 0 } }

/-- Session's tile selector given as a lane address with CLUSTER and LANE 0; none when it names no tile. -/
def addrTile (a : Nat) : Option Nat := if a < 2 ^ 18 && a % 2048 == 0 then some (laTile a) else none

/-- Tiles of the module. -/
def allTiles : List Nat := List.range 128

/-- Quadrant of a tile. -/
def tileQuad (t : Nat) : Nat := t / 32

/-- Tiles of an image's region: those of TILE_MASK and every tile of each quadrant of QUAD_MASK (Table 8-10). -/
def regionTiles (h : ImgHdr) : List Nat :=
  allTiles.filter (fun t => bitOf h.tileMask t || bitOf h.quadMask (tileQuad t))

/-- Tiles whose region is in reset (R481, R533). -/
def resetTiles (s : State) : List Nat :=
  match s.img.applying with
  | some a => if a.inReset then regionTiles a.hdr else []
  | none => []

end Sys2Proof.Machine
end

