-- ==== Sys2Proof/Machine/Trace.lean ====
section
/-! DEFINITION. Flow trace (chapter 14): records, frames, sinks, suppression and overflow, and the commands of its
rows. -/

namespace Sys2Proof.Machine

/-- Words of the record buffer: 1 MiB (8800h:01). -/
def traceRoomWords : Nat := 131072

/-- A sink is enabled. -/
def traceOn (s : State) : Bool := s.o 0x8830 1 != 0

/-- Suppression in effect (R796): the applied image is PROTECTED and no session has lifted it. -/
def traceSuppressed (s : State) : Bool := s.img.prot && s.trace.lifted.isNone

/-- The word that stamps a record: ERA and TIME32. -/
def stampBody (now : Nat) : Nat := now / 2 ^ 32 % 65536 * 2 ^ 32 + now % 2 ^ 32

/-- Header word of a trace record (Table 14-1). -/
def trcHeader (typ src len body : Nat) : Nat := typ * 2 ^ 60 + src * 2 ^ 56 + len * 2 ^ 48 + body % 2 ^ 48

/-- One word on the parallel sink: four beats, the most significant first (R802). While bank 9 is in high impedance (R494) no beat
reaches the lands. -/
def parallelWord (w : Nat) (s : State) : State :=
  if s.o (0x6850 + 9) 2 != 2 then s else s.emit (.traceBeats [fld w 48 16, fld w 32 16, fld w 16 16, fld w 0 16])

/-- Pass one word to the sink: on the serial sink word j goes to lane j mod 4, word 0 of a frame in a start block (R801); on the parallel
sink a MARKER precedes each frame (R802); in DRAM the ring goes on (R803). -/
def sinkWord (w : Nat) (s : State) : State :=
  let j := s.trace.sent
  let s := { s with trace := { s.trace with sent := (j + 1) % 2048 } }
  match s.o 0x8830 1 with
  | 1 => s.emit (.traceSerial (j % 4) (j % 512 == 0) w)
  | 2 => parallelWord w (if j % 512 = 0 then parallelWord (2 ^ 64 - 1) s else s)
  | 3 =>
    let size := regionSize s 6
    if size = 0 then s
    else
      let off := s.o 0x8830 4
      let s := regionWrite 6 off (octetsLE 8 w) s
      let s := s.setO 0x8830 4 ((off + 8) % size)
      if off + 8 = size then s.setO 0x8830 5 1 else s
  | _ => s

/-- Records that a run of words holds, from a header on: LEN of a header says how many words follow it. -/
def recordsIn (ws : List Nat) : Nat :=
  (ws.foldl (fun (x : Nat × Nat) w => if x.1 = 0 then (fld w 48 8, x.2 + 1) else (x.1 - 1, x.2)) (0, 0)).2

/-- Pass everything that is buffered to the sink, and count its records (8840h:01). -/
def traceFlush (s : State) : State :=
  let ws := s.trace.buf
  (ws.foldl (fun s w => sinkWord w s) { s with trace := { s.trace with buf := [] } }).incO 0x8840 1 (recordsIn ws)

/-- The DRAM sink takes what is buffered, while its DRAM is awake, before D4 puts it into self-refresh. -/
def traceSettle (s : State) : State :=
  if s.pwr.mode = 3 && s.o 0x8830 1 == 3 && decide (s.pwr.depth < 4) then traceFlush s else s

/-- Append words to the buffer. In IDLE the DRAM sink takes them at once (log 46). -/
def tracePush (ws : List Nat) (s : State) : State :=
  let b := s.trace.buf ++ ws
  let s := { s with trace := { s.trace with buf := b, pos := (s.trace.pos + ws.length) % 512 } }
  traceSettle (s.maxO 0x8840 4 (8 * b.length))

/-- Whether a record finds no room: with DROP the buffer is full, or records are being dropped (R807, R808); with STALL that holds of core
records only, which also need 256 KiB free (R806). -/
def traceDrops (ws : List Nat) (s : State) : Bool :=
  let n := s.trace.buf.length
  let core := fld (ws.headD 0) 56 4 != 0
  decide (traceRoomWords < n + ws.length) ||
  (if s.o 0x8830 2 = 1 then core && (s.trace.dropping || decide (traceRoomWords < n + 32768)) else s.trace.dropping)

/-- Write one record as it stands, or drop it (R806, R807). -/
def traceRaw (ws : List Nat) (s : State) : State :=
  if traceDrops ws s then
    { s with trace := { s.trace with
        dropped := s.trace.dropped + 1
        dropCycle := if s.trace.dropping then s.trace.dropCycle else s.run.cycle.toNat
        dropping := true } }
  else tracePush ws s

/-- Pad the current frame to its end with one PAD record (R787, R789). -/
def padFrame (s : State) : State :=
  if s.trace.pos = 0 then s
  else
    let rest := 512 - s.trace.pos
    -- a PAD record carries at most 255 words after its header; each LEN 0 word is a PAD record too
    if rest ≤ 256 then traceRaw (trcHeader 0 0 (rest - 1) 0 :: List.replicate (rest - 1) 0) s
    else traceRaw (List.replicate rest 0) s

/-- Cycle of the next CYC record. -/
def nextCyc (s : State) : Nat := s.run.cycle.toNat

/-- Write a TIME record (R788). -/
def timeRec (next : Nat) (s : State) : State :=
  let s := traceRaw [trcHeader 2 0 1 (stampBody s.now), next] s
  { s with trace := { s.trace with lastTime := some s.now } }

/-- Room for n words in the current frame; a frame without it is padded, and a frame starts with TIME (R787, R788). -/
def traceFit (next n : Nat) (s : State) : State :=
  let s := if 512 < s.trace.pos + n then padFrame s else s
  if s.trace.pos = 0 then timeRec next s else s

/-- The SUPPRESSED record that stands before TIME and STOP (R796). At the very start of a frame, whose word 0 is TIME, it follows that
TIME (log 46). -/
def suppressedRec (next : Nat) (s : State) : State :=
  if s.trace.suppressed = 0 then s
  else
    let s := traceRaw [trcHeader 7 0 1 (s.trace.suppressed % 2 ^ 32), s.trace.lastSupp] (traceFit next 2 s)
    { s with trace := { s.trace with suppressed := 0 } }

/-- Whether the last TIME record is 1 µs old or more (R788). -/
def timeLate (s : State) : Bool :=
  match s.trace.lastTime with | some t => decide (t + s.o 0x8800 3 ≤ s.now) | none => true

/-- Write a record, with the frame and TIME rules of R787 and R788, and SUPPRESSED before a TIME (R796). `next` is the cycle of the next
CYC. -/
def traceRecord (next : Nat) (ws : List Nat) (s : State) : State :=
  if !(traceOn s) then s
  else
    let s := if timeLate s || decide (512 < s.trace.pos + ws.length) then suppressedRec next s else s
    let s := if !(timeLate s) || s.trace.pos == 0 then s
      else if 512 < s.trace.pos + 2 + ws.length then padFrame s else timeRec next s
    traceRaw ws (traceFit next ws.length s)

/-- Write a SYNC record with a reason (Table 14-3), then CORE_SYNC for each traced core. -/
def syncRec (next variant reason : Nat) (s : State) : State :=
  if !(traceOn s) then s
  else
    let sup := traceSuppressed s
    let info := sup.toNat * 2 ^ 63 + (if sup then 0 else variant) * 2 ^ 8 + reason
    let s := traceRecord next [trcHeader 3 0 2 (stampBody s.now), next, info] s
    let s := (ones 4 (s.o 0x8820 2)).foldl (fun s c =>
      let (pc, s) := s.takeNat (2 ^ 48)
      traceRecord next [trcHeader 0xB (c + 1) 0 pc] s) s
    { s with trace := { s.trace with lastSync := s.now } }

/-- Write the TIMEMAP record that a step of system time left due (R795). -/
def timeMapRec (s : State) : State :=
  match s.trace.timeMap with
  | none => s
  | some (f, t, n) =>
    let s := { s with trace := { s.trace with timeMap := none } }
    traceRecord (nextCyc s) [trcHeader 8 0 2 (n % 2 ^ 32), f, t % 2 ^ 64] s

/-- Write a STOP record of source `src`, close the frame and pass it to the sink (R789, R792). -/
def stopRec (src mode cause : Nat) (s : State) : State :=
  if !(traceOn s) || (src == 0 && s.o 0x8810 1 == 0) then s
  else
    let s := suppressedRec (nextCyc s) s
    traceFlush (padFrame (traceRecord (nextCyc s)
      [trcHeader 4 src 2 (stampBody s.now), nextCyc s, mode * 256 + cause] s))

/-- Write END, close the frame and flush (R805, R809). -/
def endRec (cause : Nat) (s : State) : State :=
  if !(traceOn s) then s
  else
    let s := traceRecord (nextCyc s) [trcHeader 5 0 2 (stampBody s.now), nextCyc s, cause] s
    traceFlush (padFrame s)

/-- END before PD2 powers down (R809). -/
def tracePowerDown (cause : Nat) (s : State) : State :=
  if !(traceOn s) then s
  else
    let s := (endRec cause s).setO 0x8830 3 2
    raise 0x8802 (pU8 cause ++ pU64 (s.o 0x8840 1)) s

/-- Start the stream on the sink now selected (R805); the ring of the DRAM sink starts at octet 0 (R803). -/
def startStream (s : State) : State :=
  let s := { s with trace := { s.trace with pos := 0, sent := 0, lastTime := none, dropping := false, dropped := 0 } }
  if traceOn s then
    let s := if s.o 0x8830 1 = 3 then (s.setO 0x8830 4 0).setO 0x8830 5 0 else s
    let s := s.setO 0x8830 3 1
    syncRec (nextCyc s) s.run.variant 0 s
  else s.setO 0x8830 3 0

/-- Traced segments of the variant that ran (Sequencer trace): the entries in 8810h:02 with ALWAYS = 0. -/
def tracedSegments (s : State) (v : Nat) : List Nat :=
  (List.range (s.o (0x3500 + 16 * v) 1)).filter (fun i =>
    bitOf (s.o 0x8810 2) i && !(bitOf (s.o (0x3500 + 16 * v) (0x10 + i)) 7))

/-- Words of the CYC record of the cycle that ran variant v under governing vector g (R790). -/
def cycWords (s : State) (v g : Nat) (replayed fallback : Bool) : List Nat :=
  let segs := tracedSegments s v
  let bits := ofOnes ((segs.zipIdx).filterMap (fun p =>
    if bitOf g (fld (s.o (0x3500 + 16 * v) (0x10 + p.1)) 0 6) then some p.2 else none))
  let nb := segs.length
  let body := v * 2 ^ 46 + replayed.toNat * 2 ^ 45 + fallback.toNat * 2 ^ 44 + nb * 2 ^ 37 + bits % 2 ^ 32
  trcHeader 1 0 (if 32 < nb then 1 else 0) body :: (if 32 < nb then [bits / 2 ^ 32] else [])

/-- The trace unit's work at C1 of the commit of cycle k (R790-R798). -/
def traceCycle (k v g : Nat) (fallback : Bool) (s : State) : State :=
  let s := match s.trace.liftDue with
    | none => s
    | some x =>
      let t := { s with trace := { s.trace with liftDue := none, lifted := x } }
      let s := if x.isSome then t else raise 0x8803 (pU8 0 ++ pU32 (s.trace.lifted.getD 0) ++ pCycle t) t
      if s.o 0x8810 1 == 1 then syncRec k v 5 s else s
  if s.o 0x8810 1 != 1 || !(traceOn s) then timeMapRec { s with trace := { s.trace with swapped := replaying s } }
  else
    let rep := replaying s
    let s := if rep != s.trace.swapped then
        let s := syncRec k v 3 s
        { s with trace := { s.trace with swapped := rep } }
      else s
    let s := match s.trace.syncDue with
      | some r => syncRec k v r { s with trace := { s.trace with syncDue := none } }
      | none => if s.trace.lastSync + 1000000 ≤ s.now then syncRec k v 4 s else s
    let s := timeMapRec s
    if traceSuppressed s then
      let s := s.incO 0x8810 5 1
      { s with trace := { s.trace with suppressed := s.trace.suppressed + 1, lastSupp := k } }
    else traceRecord k (cycWords s v g rep fallback) s

/-- Whether the buffer keeps the STALL condition at C8 or W8 (R806). -/
def traceStall (s : State) : Bool :=
  traceOn s && s.o 0x8830 2 == 1 && decide (traceRoomWords - s.trace.buf.length < 8192)

/-- The sink takes what is buffered when it keeps up. -/
def traceDrain (room : Bool) (s : State) : State := if room then traceFlush s else s

/-- SINK_WRITE: 8830h:01 (R804, R805; R496 takes the parallel sink's lands from the fabric). -/
def execSinkWrite (r : Req) (v : WVal) (s : State) : Host.Outcome State Fault Refusal :=
  .next (serveWrite r 0x8830 1 v (fun _ s =>
    let n := natBE v.data
    if 3 < n then (.badValue, s)
    else if n = 2 && s.o (0x6850 + 9) 1 == 0 then (.badValue, s)
    else if n = 3 && (regionUnits s 6).isEmpty then (.badValue, s)
    else if n = s.o 0x8830 1 then (.ok, s)
    else (.ok, startStream ((endRec 0 s).setO 0x8830 1 n))) s)

/-- The session that lifts suppression, or none when it returns at the next commit. -/
def liftedBy (s : State) : Option Nat :=
  match s.trace.liftDue with | some x => x | none => s.trace.lifted

/-- Lift suppression, which the SYNC and CYC records follow from the next commit on (R797), or have it return at the next commit (R798). -/
def setLifted (by_ : Option Nat) (s : State) : State :=
  if liftedBy s = by_ then s
  else
    let s := { s with trace := { s.trace with liftDue := some by_ } }
    match by_ with
    | none => s
    | some n => raise 0x8803 (pU8 1 ++ pU32 n ++ pCycle s) { s with trace := { s.trace with lifted := by_ } }

/-- SEQ_UNSUPPRESS: 8810h:03. -/
def execSeqUnsuppress (r : Req) (v : WVal) (s : State) : Host.Outcome State Fault Refusal :=
  .next (serveWrite r 0x8810 3 v (fun n s =>
    let tok := match s.sess n with | some x => x.level == 3 && x.token | none => false
    if !tok then (.denied, s)
    else
      let on := natBE v.data == 1
      (.ok, setLifted (if on then some n else none) (s.setO 0x8810 3 on.toNat))) s)

/-- Stop the trace of cores, with a STOP record for each (Table 14-4). -/
def stopCores (cores cause : Nat) (s : State) : State :=
  let act := s.o 0x8820 2
  let s := (ones 4 (cores &&& act)).foldl (fun s c => stopRec (c + 1) s.pwr.mode cause s) s
  s.setO 0x8820 2 (ofOnes ((ones 4 act).filter (fun c => !(bitOf cores c))))

/-- R585, R586: a session closes for a cause. Suppression that it lifted returns (R798); core trace that it authorised on
a secure firmware ends (R799). -/
def closeSession (n cause : Nat) (s : State) : State :=
  match s.sess n with
  | none => s
  | some _ =>
    let s := { s with acp := { s.acp with sessions := s.acp.sessions.filter (fun x => x.id != n) } }
    let s := if liftedBy s = some n then setLifted none (s.setO 0x8810 3 0) else s
    let s := if s.trace.coreBy = some n && s.o 0x8800 5 == 1 then
        let s := (stopCores 15 1 s).setO 0x8820 1 0
        { s with trace := { s.trace with coreBy := none } }
      else s
    raise 0x1102 (pU32 n ++ pU8 cause) s

/-- Cores that write no record though enabled: those gated by force (R800). -/
def gatedCores (s : State) : Nat := if bitOf (s.o 0x2030 2) 11 then 14 else 0

/-- CORE_SYNC of some cores as their trace starts or goes on. -/
def coreStart (cores : Nat) (s : State) : State :=
  (ones 4 cores).foldl (fun s c =>
    let (pc, s) := s.takeNat (2 ^ 48)
    traceRecord (nextCyc s) [trcHeader 0xB (c + 1) 0 pc] s) (s.setO 0x8820 2 (s.o 0x8820 2 ||| cores))

/-- CORE_TRACE_WRITE: 8820h:01 (R799); a core that is gated by force starts when it runs again (R800). -/
def execCoreTraceWrite (r : Req) (v : WVal) (s : State) : Host.Outcome State Fault Refusal :=
  .next (serveWrite r 0x8820 1 v (fun n s =>
    let m := natLE v.data
    let cust := match s.sess n with | some x => x.level == 3 | none => false
    if m != 0 && s.o 0x8800 5 == 1 && !cust then (.denied, s)
    else
      let old := s.o 0x8820 1
      let s := stopCores (old &&& (15 ^^^ m)) 0 s
      let s := s.setO 0x8820 1 m
      let s := coreStart (m &&& (15 ^^^ old) &&& (15 ^^^ gatedCores s)) s
      (.ok, { s with trace := { s.trace with coreBy := if m = 0 then none else some n } })) s)

/-- TRACE_OVERFLOW: 512 KiB are free again after dropping (R808). -/
def execTraceOverflow (s : State) : Host.Outcome State Fault Refusal :=
  .next (if !s.trace.dropping || decide (traceRoomWords - s.trace.buf.length < 65536) then s
  else
    let n := s.trace.dropped
    let c := s.trace.dropCycle
    let s := { s with trace := { s.trace with dropping := false, dropped := 0 } }
    let s := traceRecord (nextCyc s) [trcHeader 6 0 1 (min n (2 ^ 32 - 1)), c] s
    let s := syncRec (nextCyc s) s.run.variant 2 s
    let s := (s.incO 0x8840 2 n).incO 0x8840 3 1
    raise 0x8801 (pU32 (min n (2 ^ 32 - 1)) ++ pCycle s) s)

end Sys2Proof.Machine
end

