-- ==== Sys2Proof/Machine/RunOps.lean ====
section
/-! DEFINITION. Shared operations of run control: modes and run states, stop causes, failures, lockstep faults, the
health-map writes that a failure makes. -/

namespace Sys2Proof.Machine

/-- The stacks, the ports and the compute domains are on, in the order of Table 12-7 (Table 12-8), and the step roots of the quadrants
start (R714). -/
def modeOn (s : State) : State :=
  let s := (List.range 4).foldl (fun s q => wakeDomain (13 + q) s) s
  let s := restDomain 18 2 0 (restDomain 17 2 0 s)
  let s := (List.range 4).foldl (fun s q => restDomain (5 + q) 2 0 (restDomain (9 + q) 2 0 s)) s
  let s := if s.clk.ramp.isSome || !(stepPllsRun s) then s else startRoots 4 s
  (List.range 8).foldl (fun s p => startTraining p s) s

/-- ANALYZER and SERVICE (Table 12-8, R731): no compute domain, no port, off in the reverse order of Table 12-7; a PARKED design keeps what
depth D2 keeps. -/
def modeOff (m : Nat) (s : State) : State :=
  let keep := m == 8 && s.run.state == .parked
  let s := loseCompute ([3, 2, 1, 0].foldl (fun s q => setDomain (9 + q) (if keep then 3 else 0) 2 (setDomain (5 + q) 0 2 s)) s)
  let s := if keep then s else loseTier s
  let s := (List.range 8).foldl (fun s p => portOff p s) s
  setDomain 17 0 2 (setDomain 18 0 2 s)

/-- The domains that a change of mode switches (Table 12-8): the modes that run or idle need all of them. -/
def modeDomains (m : Nat) (s : State) : State :=
  if m = 8 || m = 11 then modeOff m s
  else if (s.pwr.mode == 8 || s.pwr.mode == 11) && (decide (3 ≤ m ∧ m ≤ 7) || m == 9) then modeOn s
  else s

/-- R729: a change of mode raises 2001h with the former and the new mode. Entry into IDLE writes a sequencer STOP record
(R792), and the DRAM sink takes what is buffered. -/
def setMode (m : Nat) (s : State) : State :=
  if s.pwr.mode = m then s
  else
    let old := s.pwr.mode
    let s := (modeDomains m s).setO 0x2000 6 old
    let s := raise 0x2001 (pU8 old ++ pU8 m) { s with pwr := { s.pwr with mode := m } }
    if m = 3 then traceSettle (stopRec 0 3 (s.o 0x3400 5) s) else s

/-- Mode of RUNNING by run flavour (Table 2-8). -/
def flavourMode (s : State) : Nat := match s.o 0x3400 6 with | 1 => 6 | 2 => 7 | _ => 4

/-- Code of a run state (Table 2-8). -/
def RunState.code : RunState → Nat
  | .noDesign => 0 | .stopped => 1 | .running => 2 | .stepping => 3 | .stopping => 4 | .waiting => 5
  | .recovering => 6 | .faulted => 7 | .parked => 8

/-- Enter a run state and the mode that Table 2-8 reports for it. -/
def setRunState (st : RunState) (s : State) : State :=
  let s := { s with run := { s.run with state := st } }
  match st with
  | .noDesign | .parked => setMode 3 s
  | .stopped | .stepping | .faulted => setMode 5 s
  | .running => setMode (flavourMode s) s
  | .recovering => setMode 9 s
  | .stopping | .waiting => s

/-- Post a stop cause that falls due at the next C8 (Table 2-9). -/
def addCause (c : Nat) (s : State) : State := { s with run := { s.run with causes := nsAdd c s.run.causes } }

/-- State after a stop by its cause (R164, Table 2-9); ABORT is set by R171 and R172 apart. -/
def causeState (c : Nat) : RunState := if 7 ≤ c ∧ c ≤ 9 then .faulted else .stopped

/-- Raise 3401h and record the stop (R177, R178). The run state has already been entered by the caller's order. -/
def recordStop (causes : List Nat) (st : RunState) (s : State) : State :=
  let code := causes.foldl max 0
  let bits := ofOnes (causes.map (fun c => c - 1))
  let s := s.setO 0x3400 5 code
  let s := s.setO 0x3400 9 bits
  let s := s.setO 0x3400 8 s.run.cycle.toNat
  let s := { s with run := { s.run with holdStop := true, causes := [], stepLeft := 0, runTo := none } }
  let s := setRunState st s
  let s := stopRec 0 s.pwr.mode code s
  raise 0x3401 (pCycle s ++ pU8 code ++ pBits16 bits) s

/-! ### Health map writes (R762) -/

/-- Serial of the copy that a write replaces: the older of the two, or the one that is not valid. -/
def olderCopy (s : State) : Nat :=
  let a := s.test.copies.getD 0 {}
  let b := s.test.copies.getD 1 {}
  if !a.ok then 0 else if !b.ok then 1 else if a.gen ≤ b.gen then 0 else 1

/-- GENERATION of the next copy to be written: one above the newest valid copy's, or the one in force. -/
def nextGen (s : State) : Nat := ((s.test.copies.filter (fun c => c.ok)).map (fun c => c.gen)).foldl max s.test.force.gen + 1

/-- Write a health-map copy that changes the map in force by f and raises GENERATION. -/
def writeHealth (f : Health → Health) (s : State) : State :=
  let h := { f s.test.force with ok := true, gen := nextGen s }
  let s := { s with test := { s.test with force := h, copies := s.test.copies.set (olderCopy s) h } }
  s.setO 0x8000 2 (h.gen % 2 ^ 32)

/-- Set the suspect bit of a physical cluster (R762). -/
def suspectCluster (pc : Nat) (s : State) : State :=
  writeHealth (fun h => { h with suspects := nsAdd pc h.suspects }) s

/-- Lanes of a port's direction, 0 receive and 1 transmit, that the health map in force has as failed (Table 13-3). -/
def failedLanesOf (s : State) (p d : Nat) : List Nat := (s.test.force.lanes.filter (fun l => l / 9 == 2 * p + d)).map (fun l => l % 9)

/-- Set the suspect bit of an Ilyan lane (R762): 18·port + 9·direction + lane. -/
def suspectLane (i : Nat) (s : State) : State :=
  writeHealth (fun h => { h with suspectLanes := nsAdd i h.suspectLanes }) s

/-! ### Failures -/

/-- Fail the cluster that a physical cluster carries (R93): remembered until the end of the commit. A cluster that a spare has
replaced has failed already, and no run halts for it again (log 14). -/
def failCluster (pc : Nat) (s : State) : State :=
  let fail (f : Nat × Nat) : State :=
    if s.run.failed.contains f then s else { s with run := { s.run with failed := s.run.failed ++ [f] } }
  match logicalCluster s pc with
  | some c => fail (c / 16, c % 16)
  | none => if pc % 17 = 16 then fail (pc / 17, 16) else s

/-- R91: an uncorrectable codeword of physical lane p, word w. -/
def imFailure (p w : Nat) (s : State) : State :=
  let s := s.incO 0x3020 3 1
  let s := s.setO 0x3020 4 (physAddr s p)
  let s := s.setO 0x3020 5 w
  let s := s.setO 0x3020 6 s.run.cycle.toNat
  let s := raise 0x3021 (pU32 (physAddr s p) ++ pU32 w ++ pCycle s) s
  failCluster (p / 64) s

/-- R95: an LBS parity error of physical lane p at a group address of a plane. -/
def lbsFailure (p addr plane : Nat) (s : State) : State :=
  let s := s.incO 0x3030 1 1
  let s := s.setO 0x3030 2 (physAddr s p)
  let s := s.setO 0x3030 3 addr
  let s := s.setO 0x3030 4 s.run.cycle.toNat
  let s := raise 0x3031 (pU32 (physAddr s p) ++ pU32 addr ++ pU8 plane ++ pCycle s) s
  failCluster (p / 64) s

/-- R96: an uncorrectable entry of the active bank of physical cluster pc. -/
def dictFailure (pc e : Nat) (s : State) : State :=
  let s := s.incO 0x3040 2 1
  let s := s.setO 0x3040 3 (physAddr s (64 * pc))
  let s := s.setO 0x3040 4 e
  let s := raise 0x3041 (pU32 (physAddr s (64 * pc)) ++ pU32 e ++ pU8 1 ++ pCycle s) s
  failCluster pc s

/-- R215, R216: an uncorrectable active exchange entry. -/
def exsFailure (tile e : Nat) (s : State) : State :=
  let s := s.incO 0x3820 2 1
  let s := s.setO 0x3820 3 (laneAddr tile 0 0)
  let s := s.setO 0x3820 4 e
  let s := s.setO 0x3820 5 s.run.cycle.toNat
  let s := raise 0x3821 (pU32 (laneAddr tile 0 0) ++ pU32 e ++ pU8 1 ++ pCycle s) s
  addCause 9 s

/-- R302, R305: an uncorrectable bank word; source 0 schedule, 1 host. A host read is recorded in 4040h:02-06 too (log 79). -/
def bankFailure (k source : Nat) (s : State) : State :=
  let b := k / 65536
  let s := s.incO 0x4040 2 1
  let s := s.setO 0x4040 3 (laneAddr (b / 4) 0 0)
  let s := s.setO 0x4040 4 (b % 4)
  let s := s.setO 0x4040 5 (k % 65536)
  let s := s.setO 0x4040 6 s.run.cycle.toNat
  let s := raise 0x4041 (pU32 (laneAddr (b / 4) 0 0) ++ pU8 (b % 4) ++ pU32 (k % 65536) ++ pU8 source ++ pCycle s) s
  if source = 0 then addCause 9 s else s

/-- R314: an uncorrectable far read. -/
def farFailure (addr tile : Nat) (s : State) : State :=
  let s := s.incO 0x4040 7 1
  let s := s.setO 0x4040 8 addr
  let s := raise 0x4042 (pU64 addr ++ pU32 (laneAddr tile 0 0) ++ pCycle s) s
  addCause 9 s

/-- R301: a read through a port (0 A, 1 B) finds a single-bit error: it is corrected, counted, and written back through that port,
later in a run and at once otherwise (R299). -/
def correctBank (port k : Nat) (s : State) : State :=
  let s := s.incO 0x4040 1 1
  if s.mem.fixed.any (fun x => x.1 == k) then s
  else if inRun s then { s with mem := { s.mem with fixed := s.mem.fixed ++ [(k, port)] } }
  else { s with mem := { s.mem with bankErr := Sparse.erase s.mem.bankErr k } }

/-- A read of a bank word through a port by the schedule (source 0) or the host (source 1): R301, R302, R305. -/
def readBank (port k source : Nat) (s : State) : Word64 × State :=
  match Sparse.get0 s.mem.bankErr k with
  | 0 => (s.bankWord k, s)
  | 1 => (s.bankWord k, correctBank port k s)
  | _ => (s.bankWord k, bankFailure k source s)

/-! ### Control messages and lockstep faults -/

/-- Ports in EXCHANGE. -/
def exchangePorts (s : State) : List Nat :=
  (List.range 8).filter (fun p => decide ((s.ex.ports.getD p {}).state = .exchange))

/-- Put a control message of a type on the queue of a port (Table 3-8, R237). -/
def sendCtl (p typ arg : Nat) (s : State) : State :=
  modPort p (fun q => { q with ctl := q.ctl ++ [typ % 16 * 1024 + arg % 1024] }) s

/-- The payloads of the words of a channel in a list of slots. -/
def sideOf (channel : Nat) (l : List TxSlot) : List Nat :=
  (l.filter (fun x => x.side / 16384 == channel)).map (fun x => x.side % 16384)

/-- The step clock stops or starts anew: the slots of a superframe not yet complete do not leave. Their control and management
words go back to the front of their queues, and no guard message goes on (log 66). -/
def dropTx (s : State) : State :=
  { s with ex := { s.ex with guardNow := none, ports := s.ex.ports.map (fun q => { q with
      tx := [], gtx := none, ctl := sideOf 2 q.tx ++ q.ctl, mg := sideOf 3 q.tx ++ q.mg }) } }

/-- A commit window begins: nothing of the former one has been heard or forwarded in it (R148, R240, R270). -/
def newWindow (s : State) : State :=
  { s with ex := { s.ex with stopFwd := [], faultFwd := [], stopSeen := [], faultSeen := [] } }

/-- Send FAULT_FWD or STOPPED_FWD for an origin on every port in EXCHANGE but the one of its arrival, at most once per
origin and commit window (R240). -/
def forwardOrigin (fault : Bool) (origin : Nat) (except_ : Option Nat) (s : State) : State :=
  if (if fault then s.ex.faultFwd else s.ex.stopFwd).contains origin then s
  else
    let s := { s with ex := if fault then { s.ex with faultFwd := nsAdd origin s.ex.faultFwd }
      else { s.ex with stopFwd := nsAdd origin s.ex.stopFwd } }
    (exchangePorts s).foldl (fun s p => if except_ == some p then s else sendCtl p (if fault then 3 else 2) origin s) s

/-- The cycle in which a lockstep fault is detected (R267): that of the sweep in progress, or, in a commit window, that of
the slots due in it, which after C8 is the cycle before the one that the counter names. -/
def faultCycle (s : State) : Nat :=
  if s.run.phase = .sweep || (s.run.phase = .commit && !s.run.settled) then s.run.cycle.toNat else s.run.cycle.toNat - 1

/-- R267, R268: a lockstep fault of a kind on a port (255 for kind 4). The inputs of the port read 0 for the rest of a sweep
in progress, and a run stops. -/
def lockstepFault (kind port : Nat) (s : State) : State :=
  let s := s.incO 0x3F00 1 1
  let s := s.setO 0x3F00 2 kind
  let s := s.setO 0x3F00 3 port
  let s := s.setO 0x3F00 4 (faultCycle s)
  let s := s.setO 0x3F00 5 s.run.e
  let s := if port < 8 && s.run.phase = .sweep then modPort port (fun q => { q with dead := true }) s else s
  let s := if s.ex.lfDone then s
    else raise (0x3F00 + kind) (pU8 kind ++ pU8 port ++ pU64 (faultCycle s) ++ pU32 s.run.e) s
  let s := { s with ex := { s.ex with lfDone := true } }
  forwardOrigin true s.moduleId none (if inRun s then addCause 8 s else s)

/-! ### Frequency -/

/-- Whether a change of the step frequency or a Taper ramp is in progress (hold cause CLOCK_CHANGE, Table 2-5). -/
def clockChanging (s : State) : Bool := s.clk.ramp.isSome

end Sys2Proof.Machine
end

