-- ==== Sys2Proof/Machine/Flags.lean ====
section
/-! DEFINITION. The counters that a cycle's rules raise, with the bits that 3062h and 4031h report (R856), and which
cluster owns which design-memory port. -/

namespace Sys2Proof.Machine

/-- Add n to 3060h:i and remember it for 3062h of this cycle (R856). -/
def ruleCount (i n : Nat) (s : State) : State :=
  if n = 0 then s
  else
    let s := s.incO 0x3060 i n
    { s with run := { s.run with ruleBits := s.run.ruleBits ||| (1 <<< (i - 1)) } }

/-- Add 1 to 4030h:i and remember it for 4031h of this cycle (R856). -/
def dmCount (i : Nat) (s : State) : State :=
  let s := s.incO 0x4030 i 1
  { s with run := { s.run with dmBits := s.run.dmBits ||| (1 <<< (i - 1)) } }

/-- R28, R276: the port of a tile that logical cluster c owns: 0-7 MB0A..MB3B, 8 far. -/
def ownedPort (s : State) (tile c : Nat) : Option Nat :=
  (List.range 9).find? (fun p => Sparse.get0 s.mem.owner (9 * tile + p) == 1 + c)

/-- The logical cluster that owns a port. -/
def portOwner (s : State) (tile p : Nat) : Option Nat :=
  let v := Sparse.get0 s.mem.owner (9 * tile + p)
  if v = 0 then none else some (v - 1)

/-- R145, Table 2-5: hold cause bits 0 to 9 as 3440h:02 shows them. -/
def holdBits (far cow ckpt log cap trc therm clk stop rec_ : Bool) : Nat :=
  far.toNat + 2 * cow.toNat + 4 * ckpt.toNat + 8 * log.toNat + 16 * cap.toNat + 32 * trc.toNat + 64 * therm.toNat +
  128 * clk.toNat + 256 * stop.toNat + 512 * rec_.toNat

end Sys2Proof.Machine
end

