-- ==== Sys2Proof/Machine/Lantern.lean ====
section
/-! DEFINITION. Lantern (chapter 5): probe groups, comparators, counters, the sequencer, segments and records, the
min/max reduction and the external channels, and the commands of its rows. -/

namespace Sys2Proof.Machine

/-! ### Probe groups -/

/-- VALID of a probe-map entry. -/
def pmValid (e : Nat) : Bool := bitOf e 31
/-- PUBLIC. -/
def pmPublic (e : Nat) : Bool := bitOf e 30
/-- GROUP. -/
def pmGroup (e : Nat) : Nat := fld e 6 16
/-- BIT. -/
def pmBit (e : Nat) : Nat := fld e 0 6

/-- Entries that name a group. -/
def groupEntries (s : State) (g : Nat) : List (Nat × Nat) :=
  s.lan.probeMap.filter (fun p => pmValid p.2 && pmGroup p.2 == g)

/-- R328: width of a group. -/
def groupWidth (s : State) (g : Nat) : Nat := (groupEntries s g).foldl (fun w p => max w (pmBit p.2 + 1)) 0

/-- R330: whether a group is public. -/
def groupPublic (s : State) (g : Nat) : Bool := (groupEntries s g).all (fun p => pmPublic p.2)

/-- R331: value of a group from the held probe values. -/
def groupValue (s : State) (g : Nat) : Nat :=
  ofOnes (((groupEntries s g).filter (fun p => s.lan.held.contains p.1)).map (fun p => pmBit p.2))

/-- Selected groups, ascending: those of 5100h:08 that a valid entry names. -/
def selectedGroups (s : State) : List Nat :=
  (nsOf ((s.lan.probeMap.filter (fun p => pmValid p.2)).map (fun p => pmGroup p.2))).filter
    (fun g => bitOf (s.o 0x5100 8) g)

/-- B, the selected probe bits. -/
def selectedBits (s : State) : Nat := ((selectedGroups s).map (groupWidth s)).sum

/-- R, the length of a RAW record in words. -/
def rawWords (s : State) : Nat := 2 + (selectedBits s + 63) / 64

/-- R325: probe index. -/
def probeIndex (step tile slot : Nat) : Nat := 2048 * step + 16 * tile + slot

/-- R326, R327: the held values after the probe bits of one executed step. -/
def holdProbes (step : Nat) (high : List Nat) (s : State) : State :=
  let rest := s.lan.held.filter (fun p => p / 2048 != step)
  { s with lan := { s.lan with held := high.foldl (fun l p => nsAdd p l) rest } }

/-! ### Segments, blocks and records (Tables 5-2 to 5-4) -/

/-- Writer state of a segment, by its default from the segment table. -/
def segOf (s : State) (g : Nat) : SegSt := Sparse.get (fun _ => {}) s.lan.ctx.segs g

/-- Replace a segment's writer state. -/
def setSeg (g : Nat) (v : SegSt) (s : State) : State :=
  { s with lan := { s.lan with ctx := { s.lan.ctx with segs := Sparse.set (fun _ => {}) s.lan.ctx.segs g v } } }

/-- KIND of a segment: 2 external, 1 reduction, 0 probe. -/
def segKind (s : State) (g : Nat) : Nat :=
  if s.pwr.mode = 8 then 2
  else if s.o 0x5800 1 ≠ 0 ∧ s.o 0x5800 3 = g then 2
  else if s.o 0x5700 2 ≠ 0 ∧ s.o 0x5700 3 = g then 1 else 0

/-- Record words that a segment holds (W). -/
def segWords (v : SegSt) : Nat := 508 * v.blocks

/-- Region octet of word w of block b of a segment. -/
def segPlace (v : SegSt) (b w : Nat) : Nat := 4096 * (v.start + b) + 8 * w

/-- Word offset in the segment of a stream position. -/
def segOffset (v : SegSt) (pos : Nat) : Nat := pos / 508 % (max 1 v.blocks) * 512 + 4 + pos % 508

/-- A word of the CAPTURE region. -/
def capGet (s : State) (a : Nat) : Nat := natLE (regionRead s 1 a 8)
/-- Write a word of the CAPTURE region (R336). -/
def capPut (a v : Nat) (s : State) : State := regionWrite 1 a (octetsLE 8 v) s

/-- Open the block at the writer's position: write its header (Table 5-2). -/
def openBlock (g cycle : Nat) (s : State) : State :=
  let v := segOf s g
  let q := v.pos / 508
  let a := segPlace v (q % (max 1 v.blocks)) 0
  let wrapped := decide (v.blocks ≤ q)
  let s := capPut (a + 24) (0x7C4B * 2 ^ 48 + g * 2 ^ 38 + segKind s g * 2 ^ 36 + wrapped.toNat * 2 ^ 34 + q % 2 ^ 32) s
  let s := capPut (a + 16) cycle s
  let s := capPut (a + 8) (s.now % 2 ^ 32 * 2 ^ 32 + s.now / 2 ^ 32 % 65536 * 2 ^ 16 + s.moduleId * 2 ^ 9) s
  let s := capPut a 0 s
  setSeg g { v with seq := q, firstRec := false, wrapped := v.wrapped || wrapped } s

/-- Complete the block that lies before a stream position: COMPLETE and CRC. -/
def completeBlock (g q : Nat) (s : State) : State :=
  let v := segOf s g
  let a := segPlace v (q % (max 1 v.blocks)) 0
  let s := capPut a 0 (capPut (a + 24) (putBit (capGet s (a + 24)) 35 true) s)
  let c := crc32 (regionRead s 1 a 4096)
  capPut a c s

/-- Enter again the block at a writer's position after a spare recovery: it is not complete, and FIRST_REC names no record that the
restored position has not reached (R337, R382). -/
def reopenBlock (g : Nat) (s : State) : State :=
  let v := segOf s g
  if v.pos % 508 = 0 || v.blocks = 0 then s
  else
    let q := v.pos / 508
    let a := segPlace v (q % v.blocks) 0
    let s := capPut (a + 24) (0x7C4B * 2 ^ 48 + g * 2 ^ 38 + segKind s g * 2 ^ 36 + (decide (v.blocks ≤ q)).toNat * 2 ^ 34 + q % 2 ^ 32) s
    let s := if v.firstRec then s else capPut (a + 8) (capGet s (a + 8) / 512 * 512) s
    capPut a 0 s

/-- Write one record word; `head` marks a record header. -/
def putWord (g cycle : Nat) (head : Bool) (w : Nat) (s : State) : State :=
  let s := if (segOf s g).pos % 508 = 0 then openBlock g cycle s else s
  let v := segOf s g
  let a := segPlace v (v.pos / 508 % (max 1 v.blocks)) 0
  let s := if head && !v.firstRec then capPut (a + 8) (capGet s (a + 8) + (4 + v.pos % 508)) s else s
  let s := capPut (a + 8 * (4 + v.pos % 508)) w s
  let s := setSeg g { v with pos := v.pos + 1, firstRec := v.firstRec || head, stamp := s.now } s
  if (v.pos + 1) % 508 = 0 then completeBlock g (v.pos / 508) s else s

/-- Record header (Table 5-3). -/
def recHeader (typ : Nat) (replayed f : Bool) (len time : Nat) : Nat :=
  typ * 2 ^ 60 + replayed.toNat * 2 ^ 59 + f.toNat * 2 ^ 58 + len % 2 ^ 26 * 2 ^ 32 + time % 2 ^ 32

/-- Write a record: header, then its words. A segment of no blocks takes nothing. -/
def putRecord (g typ : Nat) (f : Bool) (time cycle : Nat) (ws : List Nat) (s : State) : State :=
  if (segOf s g).blocks = 0 then s
  else
    let s := putWord g cycle true (recHeader typ s.lan.rewriting f ws.length time) s
    ws.foldl (fun s w => putWord g cycle false w s) s

/-- Close the open block of a segment (R339). -/
def padSegment (g : Nat) (s : State) : State :=
  let v := segOf s g
  let used := v.pos % 508
  if used = 0 || v.blocks = 0 then s
  else
    let rest := 508 - used
    let s := putWord g 0 true (recHeader 0 false false (rest - 1) 0) s
    (List.range (rest - 1)).foldl (fun s _ => putWord g 0 false 0 s) s

/-- Packed payload words of values with widths (R340). -/
def packWords (vs : List (Nat × Nat)) : List Nat :=
  let tot := vs.foldl (fun (acc : Nat × Nat) v => (acc.1 + v.1 * 2 ^ acc.2, acc.2 + v.2)) (0, 0)
  (List.range ((tot.2 + 63) / 64)).map (fun i => fld tot.1 (64 * i) 64)

/-- What a CYCLE field carries now: the counter, and in ANALYZER the sample number since arming (R389). -/
def cycleField (s : State) : Nat := if s.pwr.mode = 8 then s.lan.sampleNo else s.run.cycle.toNat

/-- Acquisition states in which a probe segment is being written. -/
def storing (a : AcqState) : Bool :=
  match a with
  | .filling | .ready | .post | .rearm => true
  | _ => false

/-- Code of an acquisition state (Table 5-5). -/
def AcqState.code : AcqState → Nat
  | .disarmed => 0 | .calibrating => 1 | .filling => 2 | .ready => 3 | .post => 4 | .rearm => 5 | .done => 6

/-- Change the Lantern context. -/
def modCtx (f : LanCtx → LanCtx) (s : State) : State := { s with lan := { s.lan with ctx := f s.lan.ctx } }

/-- Capacity C of a segment of n blocks under the current settings. -/
def segCapacity (s : State) (blocks : Nat) : Nat :=
  let w := 508 * blocks
  if s.pwr.mode = 8 then
    let nch := popcount 320 (s.o 0x5800 1)
    w / (64 * nch + 19) * 4096
  else if s.o 0x5200 3 = 1 then w / (2 * (rawWords s + 16)) else w / (rawWords s + 16)

/-- R341: entries of a CHANGE record. -/
def changeWords (s : State) (vals : List (Nat × Nat)) : List Nat :=
  vals.flatMap (fun p =>
    if Sparse.get0 s.lan.ctx.ref p.1 = p.2 then []
    else (p.1 * 2 ^ 48 + p.2 % 2 ^ 48) :: (if 48 < groupWidth s p.1 then [p.2 / 2 ^ 48] else []))

/-- Write the cycle record of a stored cycle (R340-R343). -/
def storeCycle (k : Nat) (s : State) : State :=
  let g := s.lan.ctx.cur
  let gs := selectedGroups s
  let vals := gs.map (fun x => (x, groupValue s x))
  let raw := k :: packWords (gs.map (fun x => (groupValue s x, groupWidth s x)))
  let time := s.run.cycleFrc
  let v := segOf s g
  let change := s.o 0x5200 3 == 1
  let cw := changeWords s vals
  let words := if cw.isEmpty then 0 else 2 + cw.length
  let key := s.lan.ctx.needKey || decide (rawWords s < words) || decide (segWords v < 2 * (v.pos - v.keyPos + words))
  let note (isKey : Bool) (s : State) : State :=
    let u := segOf s g
    let recs := (u.recs ++ [(k, v.pos, isKey)]).filter (fun r => decide (u.pos ≤ r.2.1 + segWords u))
    let from_ := if s.lan.rewriting && u.replayed == 0 then k else u.replayed
    setSeg g { u with last := k, recs := recs, replayed := from_ } s
  let s :=
    if !change then note true (putRecord g 1 false time k raw s)
    else if key then
      let s := note true (putRecord g 1 true time k raw s)
      let u := segOf s g
      modCtx (fun c => { c with needKey := false }) (setSeg g { u with keyPos := v.pos } s)
    else if cw.isEmpty then setSeg g { v with last := k, recs := v.recs ++ [(k, v.pos, false)] } s
    else note false (putRecord g 2 false time k (k :: cw) s)
  modCtx (fun c => { c with stored := c.stored + 1
                            ref := vals.foldl (fun m p => Sparse.set0 m p.1 p.2) [] }) s

/-- R392, 5300h:0A: where decoding of a segment starts, and the first decodable cycle. The PAD record that
closes the last block (R339) overwrites what an earlier pass left in the rest of it. The depth P counts stored cycles, each
of which has an entry in `recs`. -/
def closeMarks (s : State) (v : SegSt) (cut : Bool) : SegSt :=
  let padded := (v.pos + 507) / 508 * 508
  let whole := v.recs.filter (fun r => decide (padded ≤ r.2.1 + segWords v))
  let depth := s.o 0x5200 4
  let pre := (v.recs.filter (fun r => r.1 < v.trigger)).map (fun r => r.1)
  let want := if depth = 0 then v.trigger else ((pre.reverse)[depth - 1]?).getD 0
  let starts := if s.o 0x5200 3 = 1 then whole.filter (fun r => r.2.2) else whole
  let before := starts.filter (fun r => r.1 ≤ want)
  let pick := if s.o 0x5200 3 = 1 then (before.getLast?).orElse (fun _ => starts.head?)
    else (starts.find? (fun r => decide (want ≤ r.1)))
  { v with
    readStart := match pick with | some r => segOffset v r.2.1 | none => 4
    writeEnd := segOffset v v.pos
    first := match starts.head? with | some r => r.1 | none => 0 }

/-- Close a segment: pad its block, fix its marks, raise 5203h (R355, R359). -/
def closeSegment (g : Nat) (cut : Bool) (s : State) : State :=
  let v := closeMarks s (segOf s g) cut
  let s := setSeg g { v with state := if cut then 3 else 2 } s
  let s := padSegment g s
  let s := modCtx (fun c => { c with closed := c.closed + 1 }) s
  raise 0x5203 (pU32 g ++ pU8 (if cut then 3 else 2) ++ pU64 v.first ++ pU64 v.last ++ pU64 v.trigger) s

/-- Clear the status fields of a segment (R350). -/
def clearSegment (g : Nat) (s : State) : State :=
  setSeg g { (segOf s g) with
    state := 0, pos := 0, seq := 0, firstRec := false, wrapped := false, trigger := 0, first := 0, last := 0
    replayed := 0, readStart := 0, writeEnd := 0, keyPos := 0, stamp := s.now, timed := 0, recs := [] } s

/-- Start writing a segment. -/
def beginSegment (g : Nat) (s : State) : State :=
  let s := clearSegment g s
  setSeg g { (segOf s g) with state := 1 } s

/-- Note where a record starts that carries a cycle or sample; records that the ring has overwritten leave. -/
def noteRecords (g : Nat) (l : List (Nat × Nat × Bool)) (s : State) : State :=
  let v := segOf s g
  setSeg g { v with recs := (v.recs ++ l).filter (fun r => decide (v.pos ≤ r.2.1 + segWords v)) } s

/-- Reduction entries in use. -/
def reduction (s : State) : List Nat := (List.range (s.o 0x5700 2)).map (fun e => Sparse.get0 s.lan.minmax e)

/-- Value of a group as a reduction entry reads it (R376). -/
def reduceValue (s : State) (e : Nat) : Int :=
  let g := fld e 0 16
  let w := groupWidth s g
  if bitOf e 16 && w != 0 then toSigned w (groupValue s g) else (groupValue s g : Nat)

/-- Write the MINMAX record of the open interval, if it included a cycle (R378). -/
def flushMinMax (s : State) : State :=
  let c := s.lan.ctx
  if c.mmCount = 0 then s
  else
    let ws := [c.mmFirst, c.mmCount] ++ c.mmVals.flatMap (fun p => [ofSigned 64 p.1, ofSigned 64 p.2])
    let g := s.o 0x5700 3
    let pos := (segOf s g).pos
    let s := noteRecords g [(c.mmFirst, pos, true)] (putRecord g 3 false s.run.cycleFrc c.mmFirst ws s)
    modCtx (fun c => { c with mmCount := 0, mmVals := [] }) s

/-- Include cycle k in the reduction (R376-R378). -/
def reduceCycle (k : Nat) (s : State) : State :=
  if s.o 0x5700 2 = 0 then s
  else
    let s :=
      if s.lan.ctx.gate then
        let vs := (reduction s).map (reduceValue s)
        modCtx (fun c =>
          if c.mmCount = 0 then { c with mmCount := 1, mmFirst := k, mmVals := vs.map (fun v => (v, v)) }
          else { c with mmCount := c.mmCount + 1
                        mmVals := (c.mmVals.zip vs).map (fun p => (min p.1.1 p.2, max p.1.2 p.2)) }) s
      else s
    if k % s.o 0x5700 1 = s.o 0x5700 1 - 1 then flushMinMax s else s

/-- Write the EXT record under construction (R383, R390). In ANALYZER its block carries the number of its first sample (R337),
and each of its samples is a stored one of the segment (R392). -/
def flushExt (s : State) : State :=
  match s.lan.ext with
  | none => s
  | some x =>
    let g := x.seg
    let ana := decide (x.cycle = 2 ^ 64 - 1)
    let pos := (segOf s g).pos
    let chans := ones 320 (s.o 0x5800 1)
    let info := x.samples.length * 2 ^ 32 + s.o 0x5800 2 * 2 ^ 29 + x.frac * 2 ^ 20 + x.nch
    let bits := x.samples.map (fun high =>
      (ofOnes ((chans.zipIdx).filterMap (fun p => if high.contains p.1 then some p.2 else none)), x.nch))
    let s := putRecord g 9 false x.time (if ana then x.sample else x.cycle) ([x.cycle, info] ++ packWords bits) s
    let s := if ana then
        noteRecords g ((List.range x.samples.length).map (fun i => (x.sample + i, pos, true)))
          (setSeg g { (segOf s g) with last := x.sample + x.samples.length - 1 } s)
      else noteRecords g [(x.cycle, pos, true)] s
    { s with lan := { s.lan with ext := none } }

/-- Disarming takes effect (R359). -/
def disarmNow (s : State) : State :=
  if s.lan.ctx.acq = .disarmed then { s with lan := { s.lan with disarmDue := false } }
  else
    let s := flushMinMax (flushExt s)
    let s := if storing s.lan.ctx.acq || s.lan.ctx.acq = .calibrating then closeSegment s.lan.ctx.cur true s else s
    let closeRing (g : Nat) (on : Bool) (s : State) : State :=
      -- the external ring is open even when calibration has removed every channel
      if on && (segOf s g).state == 1 then
        padSegment g (setSeg g { (closeMarks s (segOf s g) true) with state := 2 } s) else s
    let s := closeRing (s.o 0x5700 3) (s.o 0x5700 2 != 0) s
    let s := closeRing (s.o 0x5800 3) (s.pwr.mode != 8) s
    { s with lan := { s.lan with ctx := { s.lan.ctx with acq := .disarmed }, disarmDue := false, force := false, ext := none } }

/-! ### Comparators, counters, sequencer -/

/-- Whether a comparator is in agreement (R363). -/
def agrees (s : State) (n x : Nat) : Bool :=
  ((x ^^^ s.o (0x5400 + n) 2) &&& s.o (0x5400 + n) 3) == 0

/-- R364, R365: match before INVERT, from X(k) and X(k-1). -/
def cmpMatch (s : State) (n x prev : Nat) : Bool :=
  match s.o (0x5400 + n) 4 % 4 with
  | 0 => agrees s n x
  | 1 => agrees s n x && !(agrees s n prev)
  | 2 => !(agrees s n x) && agrees s n prev
  | _ => ((x ^^^ prev) &&& s.o (0x5400 + n) 3) != 0

/-- SOURCE of comparator n. -/
def cmpSource (s : State) (n : Nat) : Nat := s.o (0x5400 + n) 1

/-- X of comparator n for the cycle in hand. -/
def cmpValue (s : State) (n : Nat) : Nat :=
  let src := cmpSource s n
  if src < 0x10000 then groupValue s src else if src = 0x10000 then s.lan.taps else s.lan.extVec

/-- Whether comparator n matches after INVERT. In ANALYZER only external-vector comparators can match (R389);
alongside a run those match by the samples of the cycle (R388). -/
def cmpFinal (s : State) (ana : Bool) (n : Nat) : Bool :=
  let inv := bitOf (s.o (0x5400 + n) 4) 2
  let ext := cmpSource s n == 0x10001
  let x := cmpValue s n
  let prev := s.lan.ctx.prevX.getD n x
  if ana then ext && (cmpMatch s n x prev != inv)
  else if ext then bitOf s.lan.extMatch n != inv
  else cmpMatch s n x prev != inv

/-- R367: terminal flag of counter c. -/
def cntTerminal (s : State) (c : Nat) : Bool := decide (s.o (0x5500 + c) 1 ≤ s.lan.ctx.counters.getD c 0)

/-- R369: condition of a branch register. -/
def branchHolds (s : State) (matches_ br : Nat) : Bool :=
  let m := fld br 48 16
  bitOf br 42 &&
  (m == 0 || (if bitOf br 47 then (matches_ &&& m) == m else (matches_ &&& m) != 0)) &&
  (List.range 4).all (fun c => !(bitOf br (43 + c)) || cntTerminal s c)

/-- Counter after an operation code (R368). -/
def cntApply (op v : Nat) : Nat := if op = 1 then min (2 ^ 48 - 1) (v + 1) else if op = 2 then 0 else v

/-- What one evaluation decided. -/
structure LanDecision where
  matched : Nat
  branch : Option (Nat × Nat)        -- branch number, branch register
  left : Nat                         -- state left

/-- C6: comparators, the branch taken, counter operations (R363-R371). -/
def lanDecide (ana : Bool) (s : State) : LanDecision × State :=
  let ms := ofOnes ((List.range 16).filter (cmpFinal s ana))
  let st := s.lan.ctx.seqState
  let b0 := s.o (0x5600 + 16 * st) 1
  let b1 := s.o (0x5600 + 16 * st) 2
  let br := if branchHolds s ms b0 then some (0, b0) else if branchHolds s ms b1 then some (1, b1) else none
  let stateOps := s.o (0x5600 + 16 * st) 3
  let brOps := match br with | some p => fld p.2 22 8 | none => 0
  let op (c : Nat) : Nat := if fld brOps (2 * c) 2 = 0 then fld stateOps (2 * c) 2 else fld brOps (2 * c) 2
  let s := (List.range 16).foldl (fun s n => if bitOf ms n then s.incO (0x5400 + n) 5 1 else s) s
  let xs := (List.range 16).map (cmpValue s)
  let s := modCtx (fun c => { c with
    counters := (List.range 4).map (fun i => cntApply (op i) (c.counters.getD i 0))
    prevX := xs
    seqState := match br with | some p => fld p.2 39 3 | none => c.seqState }) s
  ({ matched := ms, branch := br, left := st }, s)

/-- Count an ignored trigger; 5211h reports it at C8 of its commit, and in ANALYZER there is none (R358). -/
def ignoreTrigger (sub : Nat) (s : State) : State :=
  let s := s.incO 0x5210 sub 1
  if s.pwr.mode = 8 then s else { s with lan := { s.lan with ignBits := s.lan.ignBits ||| (1 <<< (sub - 1)) } }

/-- Stamp of a record of the cycle or sample in hand: step 0 of the cycle, in ANALYZER the time of the sample (Table 5-3). -/
def recordTime (s : State) : Nat := if s.pwr.mode = 8 then s.now else s.run.cycleFrc

/-- R366: FIRST_TAP_STEP. -/
def firstTapStep (s : State) (ms : Nat) : Nat :=
  ((List.range 16).filter (fun n => bitOf ms n && cmpSource s n == 0x10000)).foldl (fun m n =>
    (List.range 64).foldl (fun m t =>
      let f := Sparse.get0 s.lan.tapFirst t
      if bitOf (s.o (0x5400 + n) 3) t && f != 0 then min m (f - 1) else m) m) 0xFFF

/-- A trigger raised for cycle (or sample) k (R351, R352, R354, R356, R357). `before` is the number of stored cycles
of the segment before k. -/
def trigger (k before : Nat) (d : LanDecision) (s : State) : State :=
  let c := s.lan.ctx
  match c.acq with
  | .filling | .ready =>
    if before < s.o 0x5200 4 then ignoreTrigger 1 s
    else
      let info := d.matched * 2 ^ 48 + d.left * 2 ^ 45 +
        (match d.branch with | some p => p.1 | none => 0) * 2 ^ 44 + firstTapStep s d.matched * 2 ^ 32
      let s := putRecord c.cur 5 false (recordTime s) k [k, info] s
      let s := setSeg c.cur { (segOf s c.cur) with trigger := k } s
      let s := raise 0x5202 (pU32 c.cur ++ pU64 k ++ pU8 d.left) s
      modCtx (fun c => { c with acq := .post, postLeft := s.o 0x5200 5 - (c.stored - before) }) s
  | .post => ignoreTrigger 4 s
  | .rearm => ignoreTrigger 2 s
  | .done => ignoreTrigger 3 s
  | _ => s

/-- Whether the trigger of this evaluation falls while storing is under way. -/
def raisesTrigger (d : LanDecision) : Bool := match d.branch with | some p => bitOf p.2 32 | none => false

/-- The other actions of a branch (R372-R374): mark, store gate, feedback, halt, notify. A change of the gate closes the EXT record
under construction, which goes ahead of the STORE record (R379, R390). -/
def branchActions (k : Nat) (ana : Bool) (d : LanDecision) (s : State) : State :=
  match d.branch with
  | none => s
  | some (b, br) =>
    let g := s.lan.ctx.cur
    let on := storing s.lan.ctx.acq
    let time := recordTime s
    let s := if bitOf br 35 then
        let s := s.incO 0x5690 2 1
        if on then putRecord g 4 false time k [k, d.left * 2 ^ 57] s else s
      else s
    let s := if bitOf br 33 != bitOf br 34 && bitOf br 33 != s.lan.ctx.gate then
        let s := modCtx (fun c => { c with gate := bitOf br 33, needKey := c.needKey || bitOf br 33 }) s
        let s := if ana then flushExt s else s
        if on then putRecord g 6 (bitOf br 33) time (k + 1) [k + 1] s else s
      else s
    let fb : Bool → Bool := fun b => match fld br 30 2 with | 1 => false | 2 => true | 3 => !b | _ => b
    let s := if ana then s else modCtx (fun c => { c with feedback := fb c.feedback }) s
    let s := if bitOf br 36 then s.incO 0x5690 3 1 else s
    let s := if bitOf br 36 && !ana && s.o 0x3400 7 == 1 then
        { s with run := { s.run with causes := nsAdd 5 s.run.causes } } else s
    if bitOf br 37 then
      raise 0x5601 (pU64 k ++ pU8 d.left ++ pU32 b ++ pU8 (replaying s).toNat) (s.incO 0x5690 4 1)
    else s

/-- After the records of cycle k: count the post part, close, re-arm, become ready (R353-R357). In ANALYZER the samples of the
closing segment reach it first (R381). -/
def acqAdvance (storedNow : Bool) (wasPost : Bool) (s : State) : State :=
  let c := s.lan.ctx
  match c.acq with
  | .filling | .ready =>
    modCtx (fun c => { c with acq := if s.o 0x5200 4 ≤ c.stored then .ready else .filling }) s
  | .post =>
    let left := if wasPost && storedNow then c.postLeft - 1 else c.postLeft
    if left = 0 then
      let s := closeSegment c.cur false (if s.pwr.mode = 8 then flushExt s else s)
      if c.cur < s.o 0x5200 7 then
        let s := beginSegment (c.cur + 1) s
        modCtx (fun c => { c with acq := .rearm, cur := c.cur + 1, stored := 0, rearmLeft := 2, needKey := true, ref := [] }) s
      else
        raise 0x5204 (pU32 s.lan.ctx.closed) (modCtx (fun c => { c with acq := .done }) s)
    else modCtx (fun c => { c with postLeft := left }) s
  | .rearm =>
    modCtx (fun c => { c with
      rearmLeft := c.rearmLeft - 1
      acq := if c.rearmLeft ≤ 1 then (if s.o 0x5200 4 ≤ c.stored then .ready else .filling) else .rearm }) s
  | _ => s

/-- Whether a segment already has a TIME or TIMEMAP record of cycle k (R344). -/
def timedIn (k : Nat) (s : State) (v : SegSt) : Bool := inRun s && v.timed == 1 + k

/-- Write the TIMEMAP record that a time step left due into every segment being written (R346, R656, R657). A cycle that already
has a TIME record keeps it for the next commit (R344, log 30). -/
def timeMapRecords (k : Nat) (s : State) : State :=
  let segs := if s.lan.ctx.acq = .disarmed then [] else s.lan.ctx.segs.filter (fun p => p.2.state == 1)
  match s.lan.timeMap with
  | none => s
  | some (f, sys, count) =>
    if segs.any (fun p => timedIn k s p.2) then s
    else
      let s := segs.foldl (fun s p =>
        let s := putRecord p.1 8 false f k [k, f, sys % 2 ^ 64, count] s
        setSeg p.1 { (segOf s p.1) with timed := 1 + k } s) s
      { s with lan := { s.lan with timeMap := none } }

/-- Lantern's work in the commit of cycle k, C4 to C7 (Table 5-7). -/
def lanternCommit (k : Nat) (s : State) : State :=
  let c := s.lan.ctx
  let s := timeMapRecords k (flushExt s)
  let marked (s : State) : State :=
    match s.lan.hostMark with
    | none => s
    | some t =>
      let s := if storing s.lan.ctx.acq && decide (c.from_ ≤ k) then
          putRecord s.lan.ctx.cur 4 false s.run.cycleFrc k [k, 2 ^ 60 + s.lan.ctx.seqState * 2 ^ 57 + t] s else s
      { s with lan := { s.lan with hostMark := none } }
  let s :=
    if c.acq = .disarmed || c.acq = .calibrating || k < c.from_ then marked s
    else
      let (d, s) := lanDecide false s
      let before := s.lan.ctx.stored
      let wasPost := decide (c.acq = .post)
      let storeIt := storing c.acq && c.gate && !(selectedGroups s).isEmpty
      let s := reduceCycle k s
      let s := if storeIt then storeCycle k s else s
      let trig := raisesTrigger d || s.lan.force
      let s := if raisesTrigger d then s.incO 0x5690 1 1 else s
      let s := if trig then trigger k before d s else s
      let s := branchActions k false d s
      let s := marked s
      let s := acqAdvance storeIt wasPost s
      { s with lan := { s.lan with force := false } }
  let s := if s.lan.disarmDue then disarmNow s else s
  { s with lan := { s.lan with extMatch := 0 } }

/-! ### Commands -/

/-- Segments that an arm command uses: acquisition segments, the reduction and external segments. -/
def usedSegments (s : State) : List Nat :=
  let acq := (List.range (s.o 0x5200 7 + 1)).filter (fun g => decide (s.o 0x5200 6 ≤ g))
  let red := if s.o 0x5700 2 = 0 then [] else [s.o 0x5700 3]
  let ext := if s.o 0x5800 1 = 0 || s.pwr.mode == 8 then [] else [s.o 0x5800 3]
  acq ++ red ++ ext

/-- Whether two segments overlap in blocks. -/
def segsOverlap (s : State) (a b : Nat) : Bool :=
  let x := segOf s a; let y := segOf s b
  decide (x.start < y.start + y.blocks ∧ y.start < x.start + x.blocks)

/-- Whether the used segments are well placed (Table 5-6, second row). -/
def segmentsOk (s : State) : Bool :=
  let us := usedSegments s
  let inside := us.all (fun g => let v := segOf s g
    v.blocks != 0 && decide (4096 * (v.start + v.blocks) ≤ regionSize s 1))
  let disjoint := (us.zipIdx).all (fun p => (us.zipIdx).all (fun q => p.2 == q.2 || !(segsOverlap s p.1 q.1)))
  inside && disjoint

/-- Groups that the settings select, compare or reduce. A comparator compares its group when its MASK takes a bit of it, whether or
not a branch names its match (log 30). -/
def groupsUsed (s : State) : List Nat :=
  selectedGroups s ++ ((List.range 16).filter (fun n =>
    s.o (0x5400 + n) 3 != 0 && decide (cmpSource s n < 0x10000))).map (cmpSource s) ++ (reduction s).map (fun e => fld e 0 16)

/-- Table 5-6: the refusal of an arm command by session n. -/
def armRefusal (s : State) (n : Nat) : Option Status :=
  if s.run.state = .recovering || s.lan.ctx.acq != .disarmed then some .busy
  else if s.o 0x5200 7 < s.o 0x5200 6 || !(segmentsOk s) ||
      ((selectedGroups s).isEmpty && s.o 0x5700 2 == 0) then some .badValue
  else if !(mayRead s n) && (groupsUsed s).any (fun g => !(groupPublic s g)) then some .denied
  else if s.o 0x5200 5 == 0 || ((List.range (s.o 0x5200 7 + 1)).filter (fun g => decide (s.o 0x5200 6 ≤ g))).any
      (fun g => decide (segCapacity s (segOf s g).blocks < s.o 0x5200 4 + s.o 0x5200 5)) then some .badLength
  else none

/-- Whether arming must wait for a calibration (R385): channels are selected and none has been done. -/
def needsCalibration (s : State) : Bool := s.o 0x5800 1 != 0 && s.o 0x5800 4 == 1

/-- R348-R350. In the wait blocks that start a run, the counter names the cycle that follows (R862). -/
def armNow (n : Nat) (s : State) : Status × State :=
  match armRefusal s n with
  | some st => (st, s)
  | none =>
    let s := (usedSegments s).foldl (fun s g => clearSegment g s) s
    let acq := (List.range (s.o 0x5200 7 + 1)).filter (fun g => decide (s.o 0x5200 6 < g))
    let s := ((usedSegments s).filter (fun g => !(acq.contains g))).foldl (fun s g => beginSegment g s) s
    let k := if inRun s then s.run.cycle.toNat + (if s.run.settled || s.run.phase = .starting then 0 else 1) else s.run.cycle.toNat
    (.ok, { s with lan := { s.lan with sampleNo := 0, ext := none, extSeen := false, extMatch := 0, ctx := { s.lan.ctx with
      acq := if needsCalibration s then .calibrating else .filling
      gate := s.o 0x5200 0x0A == 1
      cur := s.o 0x5200 6, closed := 0, from_ := k, stored := 0, postLeft := 0, rearmLeft := 0
      seqState := s.o 0x5680 2 % 8, counters := [0, 0, 0, 0], prevX := [], mmCount := 0, mmVals := [], ref := []
      needKey := true } } })

/-- ARM. -/
def execArm (r : Req) (s : State) : Host.Outcome State Fault Refusal :=
  .next (serveWrite r 0x5200 1 { ty := 2, data := [1] } armNow s)

/-- DISARM (R359). -/
def execDisarm (r : Req) (s : State) : Host.Outcome State Fault Refusal :=
  .next (serveWrite r 0x5200 1 { ty := 2, data := [2] } (fun _ s =>
    if s.lan.ctx.acq = .disarmed then (.ok, s)
    else if inRun s then (.ok, { s with lan := { s.lan with disarmDue := true } })
    else (.ok, disarmNow s)) s)

/-- FORCE_TRIGGER (R360). -/
def execForceTrigger (r : Req) (s : State) : Host.Outcome State Fault Refusal :=
  .next (serveWrite r 0x5200 1 { ty := 2, data := [3] } (fun _ s =>
    (.ok, { s with lan := { s.lan with force := true } })) s)

/-- HOST_MARK (R393). -/
def execHostMark (r : Req) (v : WVal) (s : State) : Host.Outcome State Fault Refusal :=
  .next (serveWrite r 0x5A00 1 v (fun _ s =>
    if s.lan.hostMark.isSome then (.busy, s)
    else (.ok, { s with lan := { s.lan with hostMark := some (natBE v.data) } })) s)

/-- R329: whether the map after the writes gives one group bit to two probe indices. -/
def mapClash (m : Sparse Nat) : Bool :=
  let es := m.filter (fun p => pmValid p.2)
  es.any (fun p => es.any (fun q => p.1 != q.1 && pmGroup p.2 == pmGroup q.2 && pmBit p.2 == pmBit q.2))

/-- Write probe-map entries from index i (R328-R333, R361). -/
def writeProbeMap (n i : Nat) (es : List Nat) (s : State) : Status × State :=
  if !(mayRead s n) then (.denied, s)
  else if s.lan.ctx.acq != .disarmed then (.busy, s)
  else if es.any (fun e => fld e 22 8 != 0) then (.badValue, s)
  else
    let m := (es.zipIdx).foldl (fun m p => Sparse.set0 m (i + p.2) p.1) s.lan.probeMap
    if mapClash m then (.badValue, s) else (.ok, { s with lan := { s.lan with probeMap := m } })

/-- PROBE_MAP_WRITE: 5100h:02, 5100h:03. -/
def execProbeMapWrite (r : Req) (w : WForm) (s : State) : Host.Outcome State Fault Refusal :=
  .next (serveForm r 0x5100 2 3 w (blockTooLong 0x5100 3 4194304)
    (fun d n s => writeProbeMap n (selOf s n 0x5100 1) [natBE d] s)
    (fun d n s => writeProbeMap n (selOf s n 0x5100 1) ((chunks 4 d).map natBE) s) s)

/-- TIME_RECORD (R345): a segment that is being written and has had no stamp for 5900h:01 ms takes a TIME record. In a run a cycle
takes one TIME or TIMEMAP (R344). -/
def execTimeRecord (g : Nat) (s : State) : Host.Outcome State Fault Refusal :=
  let v := segOf s g
  .next (if v.state == 1 && s.lan.ctx.acq != .disarmed && decide (v.stamp + s.o 0x5900 1 * 1000000 ≤ s.now) &&
      !(timedIn s.run.cycle.toNat s v) && !(inRun s && s.lan.timeMap.isSome) then
    let s := putRecord g 7 false s.now (cycleField s) [cycleField s] s
    setSeg g { (segOf s g) with timed := 1 + s.run.cycle.toNat } s else s)

/-- CAPTURE_ACCEPT (R380): the buffer has room, and the CAPTURE hold ends. -/
def execCaptureAccept (s : State) : Host.Outcome State Fault Refusal :=
  .next { s with lan := { s.lan with capHold := false } }

/-- EXT_CALIBRATED (R386): the largest residual, and the channels that could not meet 25 ps. A channel whose delay line the health map
gives as failed takes no part in the calibration (R756). -/
def execExtCalibrated (residual : Nat) (failed : List Nat) (s : State) : Host.Outcome State Fault Refusal :=
  .next (if s.o 0x5800 4 != 1 then s else
    let bad (j : Nat) : Bool := failed.contains j && !(s.test.booted.delays.contains j)
    let keep := ofOnes ((ones 320 (s.o 0x5800 1)).filter (fun j => !(bad j)))
    let gone := ofOnes ((ones 320 (s.o 0x5800 1)).filter bad)
    -- a record under construction keeps the channels that it began with (R383)
    let s := if gone = 0 then s else flushExt s
    let s := s.setO 0x5800 1 keep
    let s := s.setO 0x5800 6 (residual % 256)
    let s := s.setO 0x5800 5 s.run.cycle.toNat
    let s := s.setO 0x5800 4 (if gone = 0 then 2 else 3)
    let s := modCtx (fun c => { c with acq := if c.acq = .calibrating then .filling else c.acq }) s
    let s := raise 0x5801 (pU32 (popcount 320 keep) ++ pU8 (residual % 256)) s
    if gone = 0 then s else raise 0x5802 (octetsLE 40 gone) s)

/-- R387: the external vector from the pads that are high. -/
def externalVector (s : State) (high : List Nat) : Nat :=
  ofOnes ((List.range 64).filter (fun j =>
    let c := s.o 0x5810 (j + 1)
    c != 0xFFFF && high.contains c))

/-- Add one sample to the EXT record under construction (R383, R390). -/
def addSample (sample cycle frac : Nat) (high : List Nat) (s : State) : State :=
  let nch := popcount 320 (s.o 0x5800 1)
  let x : ExtRec := match s.lan.ext with
    | some x => { x with samples := x.samples ++ [high] }
    | none => { seg := if s.pwr.mode = 8 then s.lan.ctx.cur else s.o 0x5800 3, sample, cycle, time := s.now
                frac := frac % 256, nch, samples := [high] }
  let s := { s with lan := { s.lan with ext := some x } }
  if 4096 ≤ x.samples.length then flushExt s else s

/-- Whether the EXT record under construction ends with this sample in ANALYZER: its branch changes the store gate, or its segment
closes. The record goes ahead of every other record of the sample (R379). -/
def sampleCloses (storeIt trig : Bool) (before : Nat) (d : LanDecision) (s : State) : Bool :=
  let gates := match d.branch with
    | some (_, br) => bitOf br 33 != bitOf br 34 && bitOf br 33 != s.lan.ctx.gate
    | none => false
  gates || (match s.lan.ctx.acq with
    | .post => decide (s.lan.ctx.postLeft ≤ storeIt.toNat)
    | .filling | .ready => trig && decide (s.o 0x5200 4 ≤ before ∧ s.o 0x5200 5 ≤ storeIt.toNat)
    | _ => false)

/-- One sample in ANALYZER (R389). -/
def analyzerSample (high : List Nat) (frac : Nat) (s : State) : State :=
  let k := s.lan.sampleNo
  let c := s.lan.ctx
  let s := { s with lan := { s.lan with sampleNo := k + 1, extVec := externalVector s high } }
  if c.acq = .disarmed || c.acq = .calibrating then s
  else
    let (d, s) := lanDecide true s
    let before := s.lan.ctx.stored
    let storeIt := storing c.acq && c.gate
    let s := if storeIt then
        modCtx (fun c => { c with stored := c.stored + 1 }) (addSample k (2 ^ 64 - 1) frac high s)
      else s
    let trig := raisesTrigger d || s.lan.force
    let s := if sampleCloses storeIt trig before d s then flushExt s else s
    let s := if raisesTrigger d then s.incO 0x5690 1 1 else s
    let s := if trig then trigger k before d s else s
    let s := branchActions k true d s
    let s := acqAdvance storeIt (decide (c.acq = .post)) s
    { s with lan := { s.lan with force := false } }

/-- One sample alongside a run (R388, R390). -/
def runSample (high : List Nat) (frac : Nat) (s : State) : State :=
  let prev := s.lan.extVec
  let x := externalVector s high
  let seen := s.lan.extSeen
  let hit := (List.range 16).filter (fun n => cmpSource s n == 0x10001 && cmpMatch s n x (if seen && !s.lan.ctx.prevX.isEmpty then prev else x))
  let s := { s with lan := { s.lan with extVec := x, extSeen := true, extMatch := s.lan.extMatch ||| ofOnes hit } }
  if s.lan.ctx.acq = .disarmed || s.lan.ctx.acq = .calibrating || !s.lan.ctx.gate || s.run.cycle.toNat < s.lan.ctx.from_ then s
  else addSample 0 s.run.cycle.toNat frac high s

/-- EXT_SAMPLE: one sample of the channels; `high` lists the lands that read 1. -/
def execExtSample (high : List Nat) (frac : Nat) (s : State) : Host.Outcome State Fault Refusal :=
  let high := (nsOf high).filter (fun j => bitOf (s.o 0x5800 1) j)
  .next (if s.o 0x5800 1 = 0 then s
    else if s.pwr.mode = 8 then analyzerSample high frac s
    else if inRun s then runSample high frac s
    else s)

/-- Records are being written of the cycles that run: probe records, and in DONE those of the reduction (R357, R380). -/
def capturing (s : State) : Bool := storing s.lan.ctx.acq || (s.lan.ctx.acq == .done && s.o 0x5700 2 != 0)

/-- Lantern as an image application of any type leaves it: disarmed, with the image's public flag of the tap vector (R334), and
with held probe values of 0 (R327). -/
def lanternImage (tapsPublic : Bool) (s : State) : State :=
  let s := (disarmNow s).setO 0x5100 0x0B tapsPublic.toNat
  { s with lan := { s.lan with held := [] } }

/-- R335: non-public groups leave the capture selection of a protected image. -/
def dropPrivate (s : State) : State :=
  if s.img.prot then
    s.setO 0x5100 8 (ofOnes ((ones 65536 (s.o 0x5100 8)).filter (groupPublic s)))
  else s

end Sys2Proof.Machine
end

