-- ==== Sys2Proof/Machine/Rewind.lean ====
section
/-! DEFINITION. Rewind (chapter 6): checkpoints and their withdrawal, the stimulus log, restore, the outcome of a
cluster failure, and the commands of its rows. -/

namespace Sys2Proof.Machine

/-- What an object reads when no such checkpoint or bound exists (R853). -/
def noCycle : Nat := 2 ^ 64 - 1

/-- Checkpoints that are complete. -/
def completeCkpts (s : State) : List Ckpt := s.rew.ckpts.filter (fun c => c.state == 2)

/-- 4800h:05: first cycle of the rewind window (R426). -/
def windowFirst (s : State) : Nat := match (completeCkpts s).head? with | some c => c.cycle | none => noCycle

/-- 4800h:06: last cycle whose record is closed (R426, R434). -/
def windowLast (s : State) : Nat :=
  match (s.rew.log.filter (fun r => !r.isOpen)).getLast? with | some r => r.cycle | none => noCycle

/-- 4800h:07. -/
def newestCkpt (s : State) : Nat := match (liveCkpts s).getLast? with | some c => c.cycle | none => noCycle

/-- Newest complete checkpoint at or before cycle f. -/
def newestAt (f : Nat) (s : State) : Option Ckpt := ((completeCkpts s).filter (fun c => c.cycle ≤ f)).getLast?

/-! ### Withdrawal (Table 6-4) -/

/-- Whether a reason raises 4811h. -/
def reasonReports (r : Nat) : Bool := 3 ≤ r && r ≤ 10

/-- R852: pass the pre-images of withdrawn checkpoints to the next older one that remains. Oldest first. -/
def passPre (p : Ckpt → Bool) (reason : Nat) : Option Ckpt → List Ckpt → List Ckpt
  | none, [] => []
  | some k, [] => [k]
  | keep, c :: t =>
    if c.state != 3 && p c then
      let gone := { c with state := 3, by_ := reason, pre := [] }
      match keep with
      | none => gone :: passPre p reason none t
      | some k =>
        let k' := { k with pre := k.pre ++ c.pre.filter (fun x => !(k.pre.any (fun y => y.far == x.far && y.block == x.block))) }
        match passPre p reason (some k') t with
        | k'' :: rest => k'' :: gone :: rest
        | [] => [k', gone]
    else if c.state == 3 then
      match keep with
      | none => c :: passPre p reason none t
      | some k =>
        match passPre p reason (some k) t with
        | k' :: rest => k' :: c :: rest
        | [] => [k, c]
    else
      match keep with
      | none => passPre p reason (some c) t
      | some k => k :: passPre p reason (some c) t

/-- Withdraw the checkpoints that p selects, with a reason of Table 6-4, and report it (R407, R408, R852). -/
def withdraw (p : Ckpt → Bool) (reason : Nat) (s : State) : State :=
  let n := ((liveCkpts s).filter p).length
  if n = 0 then s
  else
    let s := { s with rew := { s.rew with ckpts := passPre p reason none s.rew.ckpts } }
    if reasonReports reason then raise 0x4811 (pU8 reason ++ pU32 n ++ pU64 (windowFirst s)) s else s

/-- Withdraw every checkpoint. -/
def withdrawAll (reason : Nat) (s : State) : State := withdraw (fun _ => true) reason s

/-! ### Stimulus log -/

/-- A stimulus record without sections. -/
def emptyRec (k : Nat) : LogRec :=
  { cycle := k, fb := false, first := false, pat := none, bndN := 0, bnd := [], deps := [], hws := [], isOpen := true }

/-- The record of cycle k, if it is held. -/
def logRec (s : State) (k : Nat) : Option LogRec := s.rew.log.find? (fun r => r.cycle == k)

/-- Change the record of cycle k, opening it when the log does not hold it; nothing is logged in NO_DESIGN (R839). -/
def modRec (k : Nat) (f : LogRec → LogRec) (s : State) : State :=
  if s.run.state = .noDesign then s
  else if (logRec s k).isSome then
    { s with rew := { s.rew with log := s.rew.log.map (fun r => if r.cycle = k then f r else r) } }
  else { s with rew := { s.rew with log := s.rew.log ++ [f (emptyRec k)] } }

/-- Words of a record (Tables 6-5, 6-6). -/
def recWords (r : LogRec) : Nat :=
  2 + (if r.pat.isSome then 1 else 0) + (if r.bndN = 0 then 0 else 1 + (r.bndN + 63) / 64) +
  (if r.deps.isEmpty then 0 else 1 + r.deps.length) + (if r.hws.isEmpty then 0 else 1 + 2 * r.hws.length)

/-- Octets of the log part of the CHECKPOINT region (R405). -/
def logSize (s : State) : Nat := regionSize s 3 / 16

/-- Octets in use. -/
def logUsed (s : State) : Nat := 8 * (s.rew.log.map recWords).sum

/-- R425: make room by dropping the oldest records; a checkpoint that needs one is withdrawn first (reason 2). -/
def trimLog : Nat → State → State
  | 0, s => s
  | fuel + 1, s =>
    match s.rew.log with
    | r :: t =>
      if logSize s < logUsed s && !t.isEmpty then
        let s := withdraw (fun c => c.cycle ≤ r.cycle) 2 s
        trimLog fuel { s with rew := { s.rew with log := t } }
      else s
    | [] => s

/-- Open the record of cycle k with the values of 1013 and 1014 that it will read (R420, R421). -/
def openRecord (k : Nat) (fb first : Bool) (s : State) : State :=
  trimLog 4096 (modRec k (fun r => { r with fb, first, isOpen := true }) s)

/-- Close the record of cycle k (R421). -/
def closeRecord (k : Nat) (s : State) : State := modRec k (fun r => { r with isOpen := false }) s

/-- R434: discard the records after cycle k = t + 1; record k keeps what was applied, and opens with the values of 1013 and 1014 that
cycle k will read. -/
def discardAfter (k : Nat) (s : State) : State :=
  let kept := s.rew.log.filter (fun r => decide (r.cycle ≤ k))
  let log := kept.map (fun r => if r.cycle = k then
    { r with isOpen := true, pat := none, bndN := 0, bnd := [], fb := s.lanes.fbLatch, first := s.lanes.first } else r)
  { s with rew := { s.rew with log := log } }

/-- R434 outside a run: t + 1 is the cycle that the counter names. -/
def discardKept (s : State) : State := discardAfter s.run.cycle.toNat s

/-- Pattern frames that records in the window reference (R422). -/
def lockedFrames (s : State) : List Nat :=
  nsOf ((s.rew.log.filter (fun r => decide (windowFirst s ≤ r.cycle))).filterMap (fun r => r.pat))

/-- Octets of a log record as stored (4A00h:02). -/
def recordWords (r : LogRec) : List Nat :=
  let secs :=
    (match r.pat with | some o => [o] | none => []) ++
    (if r.bndN = 0 then [] else
      r.bndN :: (List.range ((r.bndN + 63) / 64)).map (fun i => fld (ofOnes r.bnd) (64 * i) 64)) ++
    (if r.deps.isEmpty then [] else
      r.deps.length :: r.deps.map (fun d => d.lane * 2 ^ 11 + d.addr * 2 ^ 2 + d.bit.toNat)) ++
    (if r.hws.isEmpty then [] else
      r.hws.length :: r.hws.flatMap (fun h =>
        let place := if h.far then h.addr else
          h.addr / 65536 / 4 * 2 ^ 33 + h.addr / 65536 % 4 * 2 ^ 16 + h.addr % 65536
        [h.far.toNat * 2 ^ 63 + h.be.toNat * 2 ^ 55 + place, h.data.toNat]))
  let flags := r.fb.toNat * 2 ^ 47 + r.first.toNat * 2 ^ 46 + r.pat.isSome.toNat * 2 ^ 45 +
    (decide (r.bndN ≠ 0)).toNat * 2 ^ 44 + (!r.deps.isEmpty).toNat * 2 ^ 43 + (!r.hws.isEmpty).toNat * 2 ^ 42 +
    r.isOpen.toNat * 2 ^ 41
  (0x5A17 * 2 ^ 48 + flags + (1 + secs.length)) :: r.cycle :: secs

/-! ### Checkpoints -/

/-- Whether a drain is in progress: a checkpoint that only waits for its guard vector has drained (R400, R403). -/
def draining (s : State) : Bool := s.rew.ckpts.any (fun c => c.state == 1 && !c.drained)

/-! ### Governing vectors (R123-R132) -/

/-- Guard lead. -/
def guardLead (s : State) : Nat := s.o 0x3420 1

/-- Governing vector with its variant (R130-R132). -/
def governed (s : State) (v : Nat) : Nat × Nat :=
  let sel := fld v 62 2
  if s.o 0x3430 1 / 2 % 8 != 0 && bitOf (s.o 0x3430 1) sel then (v, sel) else (v, 0)

/-- R132: whether a governing vector selects a variant that is not enabled. -/
def fellBack (s : State) (g : Nat) : Bool :=
  s.o 0x3430 1 / 2 % 8 != 0 && !(bitOf (s.o 0x3430 1) (fld g 62 2))

/-- The sum kept for a cycle. -/
def guardOf (s : State) (k : Nat) : Option GuardSum := s.ex.guards.find? (fun g => g.cycle == k)

/-- The complete combined vector of cycle k with a guard lead of 2, with its variant. -/
def combinedOf (s : State) (k : Nat) : Option (Nat × Nat) :=
  match guardOf s k with
  | some g => if guardLead s = 2 && g.doneAt.isSome then some (governed s g.vec) else none
  | none => none

/-- R403: enter the combined vector of cycle c - 1 in a checkpoint that begins cycle c. -/
def guardToCkpt (k : Nat) (gov : Nat × Nat) (s : State) : State :=
  { s with rew := { s.rew with ckpts := s.rew.ckpts.map (fun c =>
      if c.cycle = k + 1 && !c.guardOk && c.state == 1 then
        { c with gov := c.gov ++ [gov], guardOk := true, state := if c.drained then 2 else 1 } else c) } }

/-- Octet offset behind the pattern frame at an offset. -/
def afterFrame (s : State) (off : Nat) : Nat := off + 8 * (fld (natLE (regionRead s 2 off 8)) 0 32 + 1)

/-- Position of the pattern frame for the cycle that a checkpoint taken now begins: a frame already taken for it, or
the reader position (R489, R858); during replay, the frame that the records give. -/
def framePos (s : State) : Nat :=
  if replaying s then
    let c := if s.run.settled then s.run.cycle.toNat else s.run.cycle.toNat + 1
    match (logRec s c).bind (fun r => r.pat) with
    | some off => off
    | none =>
      match (logRec s (c - 1)).bind (fun r => r.pat) with
      | some off => afterFrame s off
      | none => s.tif.patPos
  else match s.run.frame with
  | some (off, _) => if s.run.phase = .commit && !s.run.settled then s.tif.patPos else off
  | none => s.tif.patPos

/-- Report every group of a lane that a mask marks as failing its parity check (R40, R95). -/
def failGroups (p plane mask : Nat) (s : State) : State := (ones 48 mask).foldl (fun s g => lbsFailure p (8 * g) plane s) s

/-- Take the snapshot of a checkpoint that begins cycle c (R399, Table 6-2): every lane copies its current plane into the
shadow plane, with the parity check of R40. `fresh` says that it is taken in a commit (R401). No recovery waits for the drain of a
restart (R419), or of the release of a region in a run (R539). -/
def snapshot (fresh : Bool) (c cause : Nat) (s : State) : State :=
  let bad := s.lanes.lbs.filter (fun p => p.2.badCur != 0)
  let s := bad.foldl (fun s p => failGroups p.1 0 p.2.badCur s) s
  let s := mapLanes (fun _ r => { r with sh := r.cur, badSh := r.badCur }) s
  let k : Ckpt := {
    cycle := c, state := 1, cause, by_ := 0, frc := s.now, planes := [], first := s.lanes.first, fb := s.lanes.fbLatch
    gov := s.run.gov, far := s.mem.farDel.map (fun d => (d.tile, d.cluster, d.data)), patPos := framePos s
    ctx := s.lan.ctx, held := s.lan.held, pre := [], drained := false
    guardOk := guardLead s != 2 || decide (2 ≤ s.run.gov.length), fresh
    lone := cause == 6 || (fresh && (match s.img.applying with | some a => a.inReset && a.written && !a.stopped | none => false)) }
  let k := match (if k.guardOk then none else combinedOf s (c - 1)) with
    | some gv => { k with gov := k.gov ++ [gv], guardOk := true }
    | none => k
  let live := s.rew.ckpts
  -- the directory holds 64 entries (R405): withdrawn entries leave first, then the oldest
  let live := if live.length < 64 then live
    else match live.find? (fun x => x.state == 3) with
    | some x => live.erase x
    | none => live.drop 1
  let s := { s with rew := { s.rew with ckpts := live ++ [k], uncopyDue := s.rew.uncopyDue || fresh } }
  freeRing 0 64 (if ringTotal s < (s.rew.ckpts.map ringBlocks).sum then freeRing 1 64 s else s)

/-- How long the drain in progress has lasted, in µs: what 4800h:09 shows of a drain that ends within a command (R437, R851, R860). -/
def drainMicros (s : State) : Nat :=
  match s.rew.ckpts.find? (fun c => c.state == 1 && !c.drained) with
  | some c => (s.now - c.frc) / 1000
  | none => 0

/-- Finish the drain in progress (R402-R404): the shadow planes of the carried clusters become the state section of its
checkpoint; a group of bad parity withdraws it and fails the lane's cluster. -/
def finishDrain (micros : Nat) (s : State) : State :=
  if !(draining s) then s
  else
    let bad := s.lanes.lbs.filter (fun p => p.2.badSh != 0 && (logicalLane s p.1).isSome)
    let s := s.setO 0x4800 9 (micros % 2 ^ 32)
    match bad with
    | [] =>
      let planes := statePlanes s
      { s with rew := { s.rew with ckpts := s.rew.ckpts.map (fun c =>
          if c.state = 1 && !c.drained then { c with planes, drained := true, state := if c.guardOk then 2 else 1 } else c) } }
    | _ =>
      let s := withdraw (fun c => c.state == 1 && !c.drained) 9 s
      let s := bad.foldl (fun s p => failGroups p.1 2 p.2.badSh s) s
      mapLanes (fun _ r => { r with badSh := 0 }) s

/-- The context of a checkpoint taken in the commit of cycle k holds what Lantern settled at C7 of that commit (R36, R382,
R403: it is written after the snapshot). -/
def settleContext (k : Nat) (s : State) : State :=
  { s with rew := { s.rew with ckpts := s.rew.ckpts.map (fun c =>
      if c.fresh && c.cycle == k + 1 && c.state == 1 then { c with ctx := s.lan.ctx, held := s.lan.held } else c) } }

/-- Withdraw what a checkpoint of cause 1 (swap), 2 or 3 withdraws: everything older than the newest. -/
def withdrawOlder (reason : Nat) (s : State) : State :=
  match (liveCkpts s).getLast? with
  | none => s
  | some k => withdraw (fun c => c != k) reason s

/-- R851: a checkpoint taken at once: the previous drain finishes, then the snapshot is taken; every block becomes
uncopied, and kept records are discarded (R434). NO_DESIGN takes none (R56). -/
def checkpointNow (cause : Nat) (s : State) : State :=
  if s.run.state = .noDesign then s
  else
    let s := finishDrain (drainMicros s) s
    uncopyAll (snapshot false s.run.cycle.toNat cause (discardKept s))

/-- A checkpoint taken at once that withdraws every older one (R57, R174, R175). -/
def checkpointFresh (cause reason : Nat) (s : State) : State :=
  if s.run.state = .noDesign then s else withdrawOlder reason (checkpointNow cause s)

/-! ### Restore (R427) -/

/-- Apply the pre-images of one checkpoint. -/
def applyPre (c : Ckpt) (s : State) : State :=
  c.pre.foldl (fun s x => (x.words.zipIdx).foldl (fun s w =>
    if x.far then s.setFar (32 * x.block + w.2) w.1 else s.setBank (32 * x.block + w.2) w.1) s) s

/-- What a restore does to the links: cycles that run again send and combine their guard vectors anew (R261, R263), and their
lockstep faults raise their events (R268). -/
def linkRestart (s : State) : State :=
  let s := newWindow (dropTx s)
  { s with ex := { s.ex with guards := [], lfDone := false } }

/-- The context with the external segment as it stands: its records are not rewound (R382). -/
def ctxOf (c : Ckpt) (s : State) : LanCtx :=
  let ext := s.lan.ctx.segs.filter (fun p => segKind s p.1 == 2)
  { c.ctx with segs := ext.foldl (fun m p => Sparse.set (fun _ => {}) m p.1 p.2) c.ctx.segs }

/-- Lantern context of a restore: whole in a spare recovery or after PARK, only the feedback bit otherwise. The
segment table is settings and stays. -/
def restoreCtx (whole : Bool) (c : Ckpt) (s : State) : State :=
  if whole then modCtx (fun _ => ctxOf c s) s
  else modCtx (fun x => { x with feedback := c.ctx.feedback }) (disarmNow s)

/-- R427, steps 1 to 6; `undo` false is the restore of R176, steps 3 to 5 only, which takes back what the host wrote to temporaries or
disarmed while PARKED (R860, log 81). -/
def restoreTo (c : Ckpt) (whole undo : Bool) (s : State) : State :=
  let since := s.rew.ckpts.dropWhile (fun k => k != c)
  let s := if undo then (since.reverse.filter (fun k => k.state != 3)).foldl (fun s k => applyPre k s) s else s
  let s := loadPlanes c.planes (fun _ => true) s
  let s := { s with lan := { s.lan with held := c.held } }
  let s := restoreCtx whole c s
  let s := linkRestart (clearSweep s)
  let s := { s with
    lanes := { s.lanes with first := c.first, fbLatch := c.fb }
    run := { s.run with cycle := BitVec.ofNat 64 c.cycle, gov := c.gov, failed := [], causes := [] } }
  let s := if undo then { s with run := { s.run with frame := none }, tif := { s.tif with patPos := c.patPos } } else s
  -- R312: the far deliveries with which cycle c begins
  let s := { s with mem := { s.mem with
    farWrites := [], farWait := []
    farDel := c.far.map (fun d => { tile := d.1, cluster := d.2.1, addr := 0, data := d.2.2, ready := true, done := true, failed := false }) } }
  let s := c.far.foldl (fun s d =>
    (List.range 64).foldl (fun s l =>
      let p := 64 * physCluster s d.1 d.2.1 + l
      let r := s.lane p
      s.setLane p (match d.2.2 with
        | some w => { r with rd := w.getLsbD l, ind := false }
        | none => { r with ind := false })) s) s
  if undo then
    let s := uncopyAll (withdraw (fun k => (since.drop 1).contains k) 7 { s with rew := { s.rew with storeUsed := [], farCopies := 0 } })
    -- the pre-images of the newer ones have been applied: none passes to c, which is the newest now
    modNewest (fun k => { k with pre := [] }) s
  else s

/-- The newest checkpoint taken since PARK that is not withdrawn (R860): none but those from the PARK checkpoint (cause 4) on. -/
def sincePark (s : State) : Option Ckpt :=
  let l := s.rew.ckpts.reverse
  (l.take (l.findIdx (fun c => c.cause == 4) + 1)).find? (fun c => c.state != 3)

/-- The restore that R176 and R860 ask for before the next run from PARKED. When every checkpoint since PARK has been withdrawn there is
none to restore (log 81). -/
def parkRestore (s : State) : State :=
  if !s.rew.parkRestore then s
  else
    let s := finishDrain (drainMicros s) { s with rew := { s.rew with parkRestore := false } }
    match sincePark s with
    | some c => restoreTo c true false s
    | none => s

/-! ### Commands -/

/-- CHECKPOINT_COMMAND: 4800h:08 = 1 (R396, R397). -/
def execCheckpointCommand (r : Req) (s : State) : Host.Outcome State Fault Refusal :=
  .next (serveWrite r 0x4800 8 { ty := 2, data := [1] } (fun _ s =>
    -- the checkpoint would begin the cycle after the next commit
    let k := s.run.cycle.toNat + 1
    let near := match (completeCkpts s).getLast? with
      | some c => decide (k < c.cycle + 1024)
      | none => false
    if near then (.busy, s) else (.ok, { s with rew := { s.rew with cmdDue := true } })) s)

/-- DEFERRED_SNAPSHOT: step 3 of the first wait block at whose step 0 the drain is complete (R400). -/
def execDeferredSnapshot (s : State) : Host.Outcome State Fault Refusal :=
  .next (if s.rew.deferred && !(draining s) then
    let s := snapshot true s.run.cycle.toNat (s.rew.dueCause.getD 0) s
    { s with rew := { s.rew with deferred := false, dueCause := none } }
  else s)

/-- Flip one stored bit of a lane: the parity of its group no longer fits, unless another bit of it was flipped before. -/
def upsetLbs (lane addr plane : Nat) (s : State) : State :=
  let r := s.lane lane
  let m := 1 <<< (addr % 1024 / 8)
  let flip (v : BitVec 384) : BitVec 384 := v ^^^ BitVec.ofNat 384 (1 <<< (addr % 1024))
  s.setLane lane (match plane with
    | 0 => if addr < 384 then { r with cur := flip r.cur, badCur := r.badCur ^^^ m } else r
    | 1 => if addr < 384 then { r with nxt := flip r.nxt, badNxt := r.badNxt ^^^ m } else r
    | 2 => if addr < 384 then { r with sh := flip r.sh, badSh := r.badSh ^^^ m } else r
    | _ =>
      if 384 ≤ addr && addr < 1008 then
        { r with tmp := r.tmp ^^^ BitVec.ofNat 624 (1 <<< (addr - 384)), badTmp := r.badTmp ^^^ m }
      else r)

/-- An error in a stored bank word: a single-bit error leaves the word recoverable; more leave stored bits of which the
manual says nothing (log 3). -/
def upsetBank (k n : Nat) (s : State) : State :=
  let mark (s : State) : State := { s with mem := { s.mem with bankErr := Sparse.set0 s.mem.bankErr k (min n 2) } }
  if n ≤ 1 then mark s
  else
    let (m, s) := s.takeNat (2 ^ 64)
    mark { s with mem := { s.mem with
      bank := Sparse.set (fun _ => 0) s.mem.bank k (s.bankWord k ^^^ BitVec.ofNat 64 m) } }

/-- An error in a stored dictionary entry. The fixed entries 0-15 are no stored words (R42, log 15). -/
def upsetDict (c b e n : Nat) (s : State) : State :=
  if e < 16 then s else { s with lanes := { s.lanes with dictErr := Sparse.set0 s.lanes.dictErr (dictKey c b e) n } }

/-- Flip stored bits of a cell word; a bit flipped twice is as it was. -/
def flipCell (c : Nat) (bits : List Nat) (s : State) : State :=
  { s with tif := { s.tif with cellErr := (bits.filter (fun b => decide (b < 288))).foldl (fun l b =>
      if l.contains (288 * c + b) then l.filter (fun e => e != 288 * c + b) else nsAdd (288 * c + b) l) s.tif.cellErr } }

/-- Place the storage errors of an environment. -/
def placeUpset (s : State) : Upset → State
  | .codeword p w n => { s with lanes := { s.lanes with imErr := Sparse.set0 s.lanes.imErr (2048 * p + w) n } }
  | .lbs p a pl => upsetLbs p a pl s
  | .dict c b e n => upsetDict c b e n s
  | .exs t b e g n => { s with ex := { s.ex with bankErr := Sparse.set0 s.ex.bankErr (48 * exsKey t b e + g % 48) n } }
  | .bank b w n => upsetBank (bankKey b w) n s
  | .far w => { s with mem := { s.mem with farErr := nsAdd w s.mem.farErr } }
  | .tifWord c bits => if 8192 ≤ c then s else flipCell c bits s

/-- Place every storage error of a list. -/
def placeUpsets (l : List Upset) (s : State) : State := l.foldl placeUpset s

/-- DRAIN_COMPLETE (R402-R404). -/
def execDrainComplete (upsets : List Upset) (micros : Nat) (s : State) : Host.Outcome State Fault Refusal :=
  .next (finishDrain micros (placeUpsets upsets s))

/-- STIMULUS_RECORD_ACCEPTED: the STIMULUS_LOG hold ends (R421). -/
def execStimulusRecordAccepted (s : State) : Host.Outcome State Fault Refusal :=
  .next { s with rew := { s.rew with logHold := false } }

/-! ### Cluster failure (R436-R445) -/

/-- Report a tile as degraded (R445): its flag. The map in force is suspectFailed's. -/
def degrade (tile : Nat) (s : State) : State :=
  { s with rew := { s.rew with degraded := nsAdd tile s.rew.degraded } }

/-- R439: whether the failed cluster's words and entries can be rebuilt. -/
def rebuildable (s : State) (pc : Nat) : Bool :=
  let badIm := (s.lanes.imErr.filter (fun p => p.1 / 2048 / 64 == pc && 3 ≤ p.2)).map (fun p => p.1)
  let badDict := (s.lanes.dictErr.filter (fun p => p.1 / 2048 == pc && 2 ≤ p.2)).map (fun p => p.1)
  (badIm.isEmpty && badDict.isEmpty) ||
  (s.o 0x6100 6 == 1 && badIm.all (fun k => !(s.lanes.imHost.contains k)) &&
    badDict.all (fun k => !(s.lanes.dictHost.contains k)))

/-- R437: a checkpoint at or before f whose drain is in progress, which the module lets finish. A drain that a checkpoint
restart or the release of a region began does not count (R419, R539), nor does an incomplete checkpoint (R416). -/
def drainsFor (f : Nat) (s : State) : Bool :=
  s.rew.ckpts.any (fun c => c.state == 1 && !(c.drained && c.guardOk) && decide (c.cycle ≤ f) && !c.lone)

/-- Table 6-9: the reason for which no recovery is performed, checked in order; none when it is performed. -/
def recoveryRefusal (s : State) (tile c f : Nat) : Option Nat :=
  let sp := Sparse.get0 s.rew.spares tile
  if c = 16 || (1 ≤ sp && sp ≤ 16) then some 1
  else if sp = 100 then some 2
  else if !(rebuildable s (physCluster s tile c)) then some 3
  else if s.o 0x3400 6 = 2 then some 4
  else if s.img.portMask != 0 then some 5
  else if s.o 0x4800 0x0C = 0 then some 6
  else if (newestAt f s).isNone && !(drainsFor f s) then some 7
  else none

/-- Write a failed cluster's instruction words and both dictionary banks into the tile's spare, corrected, and redirect (R438).
A dictionary entry corrected on the way is counted (R44); the seal of the shadow bank goes with its content (log 16). -/
def substitute (tile c : Nat) (s : State) : State :=
  let src := 17 * tile + c
  let dst := 17 * tile + 16
  let s := countDictReads src 0 (countDictReads src 1 s)
  let im (m : Sparse (BitVec 128)) : Sparse (BitVec 128) := (m.filter (fun p => p.1 / 2048 / 64 == src)).foldl (fun m p =>
    Sparse.set (fun _ => nullWord) m (p.1 + 2048 * 64 * (dst - src)) p.2) (Sparse.clear m (2048 * 64 * dst) (2048 * 64 * (dst + 1)))
  let dict (m : Sparse Word64) : Sparse Word64 := (m.filter (fun p => p.1 / 2048 == src)).foldl (fun m p =>
    Sparse.set (fun _ => 0) m (p.1 + 2048 * (dst - src)) p.2) (Sparse.clear m (2048 * dst) (2048 * (dst + 1)))
  let l := s.lanes
  let l := { l with
    im := im l.im
    imErr := Sparse.clear l.imErr (2048 * 64 * dst) (2048 * 64 * (dst + 1))
    imFixed := l.imFixed.filter (fun k => k / 2048 / 64 != dst)
    dictErr := Sparse.clear l.dictErr (2048 * dst) (2048 * (dst + 1))
    dict := dict l.dict
    dictActive := Sparse.set0 l.dictActive dst (Sparse.get0 l.dictActive src)
    dictSealed := if l.dictSealed.contains src then nsAdd dst l.dictSealed else l.dictSealed.filter (fun x => x != dst)
    imHost := l.imHost.filter (fun k => k / 2048 / 64 != dst) ++
      (l.imHost.filter (fun k => k / 2048 / 64 == src)).map (fun k => k + 2048 * 64 * (dst - src))
    dictHost := l.dictHost.filter (fun k => k / 2048 != dst) ++
      (l.dictHost.filter (fun k => k / 2048 == src)).map (fun k => k + 2048 * (dst - src)) }
  let s := { s with lanes := l, img := { s.img with tierIm := im s.img.tierIm, tierDict := dict s.img.tierDict } }
  let s := { s with rew := { s.rew with spares := Sparse.set0 s.rew.spares tile (1 + c) } }
  raise 0x4883 (pU32 (laneAddr tile 0 0) ++ pU32 (laneAddr tile c 0) ++ pU64 (s.run.cycle.toNat - 1)) s

/-- R444: record a recovery that fails: 4882h. The caller forms the stop of cause 9. -/
def reportFailed (reason tile c f : Nat) (s : State) : State :=
  let s := s.setO 0x4C00 2 (laneAddr tile 0 0)
  let s := s.setO 0x4C00 3 c
  let s := s.setO 0x4C00 5 f
  let s := s.setO 0x4C00 7 2
  let s := s.setO 0x4C00 8 reason
  let best := match newestAt f s with | some k => k.cycle | none => noCycle
  let s := s.setO 0x4C00 4 best
  raise 0x4882 (pU8 reason ++ pU32 (laneAddr tile 0 0) ++ pU32 (laneAddr tile c 0) ++ pU64 f ++ pU64 best) s

/-- R444, R445: no recovery: the tile is recorded as degraded (reasons 1 and 2) or the spare substituted (4 to 7), and the
failure reported. -/
def recoveryFailed (reason tile c f : Nat) (s : State) : State :=
  let s := if reason ≤ 2 then degrade tile s else s
  reportFailed reason tile c f (if 4 ≤ reason then substitute tile c s else s)

/-- REWIND records of step 2 of the recovery sequence (R382), and REPLAYED from there on. -/
def rewindRecords (first last : Nat) (s : State) : State :=
  let segs := s.lan.ctx.segs.filter (fun p => p.2.state == 1 && segKind s p.1 != 2)
  let s := { s with lan := { s.lan with rewriting := true, rewound := segs.map (fun p => p.1) } }
  let s := segs.foldl (fun s p =>
    putRecord p.1 10 false s.now first [first, last] (reopenBlock p.1 s)) s
  modCtx (fun c => { c with needKey := true }) s

/-- Start the replay of cycles c to last after the restore of checkpoint k. A host-commanded restore holds SYNC under RECOVERY until the
first wait block after it (R428, log 81). -/
def startReplay (k : Ckpt) (r : Replay) (whole : Bool) (s : State) : State :=
  let causes := s.run.causes
  let s := restoreTo k whole true s
  let rp : Replay := { r with first := k.cycle, finished := decide (r.last < k.cycle) }
  let s := { s with run := { s.run with
    replay := some rp
    phase := .starting
    todo := []
    released := false
    settled := false
    blocks := 0
    heldNow := 0
    timedOut := false
    lowSince := none
    holdRecovery := rp.host && !rp.finished
    holdStop := false
    causes
    failed := [] } }
  if whole then rewindRecords k.cycle r.last s else s

end Sys2Proof.Machine
end

