-- ==== Sys2Proof/Machine/Lanes.lean ====
section
/-! DEFINITION. Lanes (chapter 1): the lane step with its reads, evaluation, writes and taps, and the commands that
write instruction words, dictionary entries, local bits and deposits. -/

namespace Sys2Proof.Machine

/-! ### The lane step (Table 1-1) -/

/-- What one executed step of all lanes produced. -/
structure LaneOut where
  res : List Nat := []                 -- logical lanes whose result is 1, ascending
  writes : List LbsWrite := []         -- in the order of Table 1-9
  exports : List (Nat × Bool) := []    -- export wire 128·tile + 8·cluster + wire, with the result
  strobes : List Nat := []             -- logical clusters 16·tile + c that strobe
  taps : Nat := 0                      -- trigger tap vector of the step (R71)
  slots : Sparse Nat := []             -- probe-collector slots taken per tile
  probes : List Nat := []              -- probe indices whose PRB result is 1

/-- The bit that a read of an address returns to a lane (Tables 1-2, 1-3, R20). `inj` lists the logical clusters with
a 1 injected at this step. -/
def readBit (s : State) (inj : List Nat) (ll : Nat) (r : LaneRec) (a : Nat) : Bool :=
  if a < 384 then r.cur.getLsbD a
  else if a < 1008 then r.tmp.getLsbD (a - 384)
  else match a with
    | 1009 => true
    | 1010 => r.rd
    | 1011 => r.ind
    | 1012 => inj.contains (ll / 64)
    | 1013 => s.lanes.first
    | 1014 => s.lanes.fbLatch
    | 1015 => r.imp
    | _ => false

/-- R40, R41: the parity check of one operand read; the stored bit is returned whatever it finds. -/
def checkOperand (p : Nat) (r : LaneRec) (a : Nat) (s : State) : State :=
  if a < 384 then (if r.badCur.testBit (a / 8) then lbsFailure p (8 * (a / 8)) 0 s else s)
  else if a < 1008 then (if r.badTmp.testBit (a / 8) then lbsFailure p (8 * (a / 8)) 3 s else s)
  else s

/-- R16: bit of the truth table at the index that the six operand bits form. -/
def evalTable (tt : Word64) (bits : List Bool) : Bool :=
  tt.getLsbD ((bits.zipIdx).foldl (fun i b => i + (if b.1 then 2 ^ b.2 else 0)) 0)

/-- R89-R91: fetch of a codeword. none: an uncorrectable error, and the null word is executed in its place. -/
def fetchWord (p w : Nat) (s : State) : Option (BitVec 128) × State :=
  match Sparse.get0 s.lanes.imErr (2048 * p + w) with
  | 0 => (some (s.imWord p w), s)
  | 1 => (some (s.imWord p w),
      ({ s with lanes := { s.lanes with imFixed := nsAdd (2048 * p + w) s.lanes.imFixed } }).incO 0x3020 1 1)
  | 2 => (some (s.imWord p w),
      ({ s with lanes := { s.lanes with imFixed := nsAdd (2048 * p + w) s.lanes.imFixed } }).incO 0x3020 2 1)
  | _ => (none, imFailure p w s)

/-- R44, R45: read of an entry of the active bank. none: uncorrectable. -/
def fetchEntry (pc fn : Nat) (s : State) : Option Word64 × State :=
  let b := dictActive s pc
  if fn < 16 then (some (fixedEntry fn), s)
  else match Sparse.get0 s.lanes.dictErr (dictKey pc b fn) with
    | 0 => (some (s.dictEntry pc b fn), s)
    | 1 => (some (s.dictEntry pc b fn), s.incO 0x3040 1 1)
    | _ => (none, dictFailure pc fn s)

/-- The writes of a word (Table 1-9, R60-R63, R66, R78): result r, captured bit cap, imported bit imp. -/
def wordWrites (p : Nat) (w : BitVec 128) (r cap imp : Bool) : List LbsWrite :=
  let plane (a : Nat) : Nat := if a < 384 then 0 else 2
  (if wNop w || 1008 ≤ wDst w then []
   else if wSt w then (if wDst w < 384 then [{ lane := p, plane := 1, addr := wDst w, bit := r }] else [])
   else [{ lane := p, plane := plane (wDst w), addr := wDst w, bit := r }]) ++
  (if wCapAddr w < 1008 then [{ lane := p, plane := plane (wCapAddr w), addr := wCapAddr w, bit := cap }] else []) ++
  (if wImp w then
    (if wIaddr w < 1008 then [{ lane := p, plane := plane (wIaddr w), addr := wIaddr w, bit := imp }] else []) ++
    [{ lane := p, plane := 3, addr := 1015, bit := imp }]
   else [])

/-- R74-R77: the probe-collector slot of a word with PRB or BND at schedule step `step`. -/
def takeSlot (step tile : Nat) (bnd r : Bool) (o : LaneOut) (s : State) : LaneOut × State :=
  let n := Sparse.get0 o.slots tile
  let o := { o with slots := Sparse.set0 o.slots tile (n + 1) }
  if 16 ≤ n then (o, ruleCount 3 1 s)
  else
    let i := probeIndex step tile n
    if bnd then
      if s.tif.bndCount < 1024 then
        (o, { s with tif := { s.tif with bnd := s.tif.bnd ++ [(i, r)], bndCount := s.tif.bndCount + 1 } })
      else (o, ruleCount 4 1 { s with tif := { s.tif with dropped := s.tif.dropped ++ [i] } })
    else (if r then { o with probes := o.probes ++ [i] } else o, s)

/-- One lane at one executed step: schedule step `step`, word `word`, imported bits `imps` (the import wires that
carry 1). -/
def laneWord (step word : Nat) (inj imps : List Nat) (ll : Nat) (acc : LaneOut × State) : LaneOut × State :=
  let (o, s) := acc
  let p := physLane s ll
  let cl := ll / 64
  match fetchWord p word s with
  | (none, s) => (o, s)
  | (some w, s) =>
    let rec_ := s.lane p
    let as_ := (List.range 6).map (wA w)
    let s := as_.foldl (fun s a => checkOperand p rec_ a s) s
    match fetchEntry (p / 64) (wFn w) s with
    | (none, s) => (o, s)
    | (some tt, s) =>
      let r := evalTable tt (as_.map (readBit s inj ll rec_))
      let cap := s.lanes.res1.contains (64 * cl + wCapSrc w)
      let imp := imps.contains (8 * cl + wIw w)
      let s := if wSt w && !(wNop w) && decide (384 ≤ wDst w ∧ wDst w < 1008) then ruleCount 1 1 s else s
      let s := if wConflict w then ruleCount 5 1 s else s
      let tapped := !(wConflict w)
      let s := if wGrd w && tapped && r then
          { s with run := { s.run with guardAcc := s.run.guardAcc ||| (1 <<< wTap w) } } else s
      let owns := (ownedPort s (cl / 16) (cl % 16)).isSome
      let s := if wMem w && !owns then ruleCount 6 1 s else s
      let o := { o with
        res := if r then o.res ++ [ll] else o.res
        writes := o.writes ++ wordWrites p w r cap imp
        exports := if wExp w then o.exports ++ [(8 * cl + wEw w, r)] else o.exports
        strobes := if wMem w && owns && r then nsAdd cl o.strobes else o.strobes
        taps := if wTrg w && tapped && r then o.taps ||| (1 <<< wTap w) else o.taps }
      if wPrb w || wBnd w then takeSlot step (cl / 16) (wBnd w) r o s else (o, s)

/-- Logical lanes that hold something other than an error-free null word at a word address, ascending. A lane with
the null word computes 0 and does nothing (Table 1-5); a replaced cluster and a free spare execute nothing (R438), and
the lanes of a region in reset fetch nothing (R533). The order is the
model's choice: of several uncorrectable words of one step the highest lane's stands in 3020h:04-06 (R91, log 79). -/
def activeLanes (s : State) (word : Nat) : List Nat :=
  let at_ (ks : List Nat) := (ks.filter (fun k => k % 2048 == word)).filterMap (fun k => logicalLane s (k / 2048))
  let off := resetTiles s
  (nsOf (at_ (s.lanes.im.map (fun p => p.1)) ++ at_ (s.lanes.imErr.map (fun p => p.1)))).filter
    (fun ll => !(off.contains (ll / 1024)))

/-- R65: count the sharing of export wires. -/
def countSharing (exports : List (Nat × Bool)) (s : State) : State :=
  let wires := nsOf (exports.map (fun p => p.1))
  ruleCount 2 (exports.length - wires.length) s

/-- All lanes at one executed step. The writes of the step before become visible after this step's reads (R80). -/
def lanesStep (step word : Nat) (inj imps : List Nat) (s : State) : LaneOut × State :=
  let (o, s) := (activeLanes s word).foldl (fun acc ll => laneWord step word inj imps ll acc) ({}, s)
  let s := s.lanes.flight.foldl applyWrite s
  let s := countSharing o.exports s
  (o, { s with lanes := { s.lanes with flight := o.writes, res2 := s.lanes.res1, res1 := o.res } })

/-! ### The commit window's work on lanes -/

/-- C0 (R19, R23, R25, R840): the writes under way land, the next plane is copied with its parity, and the temporaries,
the special locations and the result registers are cleared. -/
def lanesC0 (s : State) : State :=
  let s := s.lanes.flight.foldl applyWrite s
  let s := mapLanes (fun _ r => { r with
    cur := r.nxt, badCur := r.badNxt, tmp := 0, badTmp := 0, rd := false, ind := false, imp := false }) s
  { s with lanes := { s.lanes with flight := [], res1 := [], res2 := [], deliveries := [], first := false } }

/-- R89: corrected codewords are written back. -/
def imWriteBack (s : State) : State :=
  { s with lanes := { s.lanes with
      imErr := s.lanes.imFixed.foldl (fun m k => Sparse.erase m k) s.lanes.imErr
      imFixed := [] } }

/-- R87: apply a deposit to both planes. One queued for a spare that has been substituted since is applied nowhere (R107, log 80). -/
def applyDeposit (s : State) (d : Deposit) : State :=
  match addrLane s d.lane with
  | some p => s.setLane p ((s.lane p).write d.addr d.bit)
  | none => s

/-- R860: write a state bit into the state section of the newest checkpoint taken since PARK, while PARKED, once it has drained. -/
def patchPark (a addr : Nat) (b : Bool) (s : State) : State :=
  if s.run.state = .parked then
    let s := finishDrain (drainMicros s) s
    match addrLane s a with
    | some p =>
      match logicalLane s p with
      | some ll => modLast (fun c => some c == sincePark s) (fun c => { c with
          planes := Sparse.set (fun _ => 0) c.planes ll (putBv (Sparse.get (fun _ => 0) c.planes ll) addr b) }) s
      | none => s
    | none => s
  else s

/-! ### Commands -/

/-- Store instruction words from word w of the session's lane (R79, R100). -/
def writeIm (n : Nat) (d : List Octet) (s : State) : Status × State :=
  let w := selOf s n 0x3010 2
  let ws := (chunks 16 d).map (fun o => BitVec.ofNat 128 (natBE o))
  match addrLane s (selOf s n 0x3010 1) with
  | none => (.badValue, s)
  | some p =>
    if ws.any wReserved then (.badValue, s)
    else
      let s := (ws.zipIdx).foldl (fun s x =>
        let s := s.setIm p (w + x.2) x.1
        { s with lanes := { s.lanes with imHost := nsAdd (2048 * p + w + x.2) s.lanes.imHost } }) s
      (.ok, { s with img := { s.img with touched := true } })

/-- IM_WORD_WRITE: 3010h:03, 3010h:04. -/
def execImWordWrite (r : Req) (w : WForm) (s : State) : Host.Outcome State Fault Refusal :=
  .next (serveForm r 0x3010 3 4 w (blockTooLong 0x3010 4 2048) (fun d n s => writeIm n d s) (fun d n s => writeIm n d s) s)

/-- Physical cluster that a cluster selector names: a lane address with LANE 0. -/
def addrCluster (s : State) (a : Nat) : Option Nat := if a % 64 = 0 then (addrLane s a).map (· / 64) else none

/-- R541: whether the shadow bank of a tile is in the masks of a SHADOW image that is being applied. -/
def shadowLocked (exch : Bool) (tile : Nat) (s : State) : Bool :=
  match s.img.applying with
  | some a => a.hdr.typ == 2 && bitOf (if exch then a.hdr.exchMask else a.hdr.dictMask) tile
  | none => false

/-- Store dictionary entries from the selected one (R47, R100-R102). -/
def writeDict (n : Nat) (d : List Octet) (s : State) : Status × State :=
  let e := selOf s n 0x3100 3
  let active := selOf s n 0x3100 2 == 1
  match addrCluster s (selOf s n 0x3100 1) with
  | none => (.badValue, s)
  | some pc =>
    match (if e < 16 then some .badValue else if active then activeAnswer s else none) with
    | some st => (st, s)
    | none =>
      if !active && shadowLocked false (pc / 17) s then (.busy, s)
      else
        let b := if active then dictActive s pc else 1 - dictActive s pc
        let s := (((chunks 8 d).map natBE).zipIdx).foldl (fun s x =>
          let s := s.setDict pc b (e + x.2) (BitVec.ofNat 64 x.1)
          { s with lanes := { s.lanes with dictHost := nsAdd (dictKey pc b (e + x.2)) s.lanes.dictHost } }) s
        let s := { s with img := { s.img with touched := true } }
        if active then (.ok, checkpointFresh 1 4 s)
        else (.ok, { s with lanes := { s.lanes with dictSealed := s.lanes.dictSealed.filter (fun x => x != pc) } })

/-- DICT_ENTRY_WRITE: 3100h:04, 3100h:05. -/
def execDictEntryWrite (r : Req) (w : WForm) (s : State) : Host.Outcome State Fault Refusal :=
  .next (serveForm r 0x3100 4 5 w (blockTooLong 0x3100 5 1024) (fun d n s => writeDict n d s) (fun d n s => writeDict n d s) s)

/-- Store bits of a lane's planes and temporaries (R103, R104, R860). -/
def writeLbs (n : Nat) (bits : List (Nat × Bool)) (whole : Bool) (s : State) : Status × State :=
  let plane := selOf s n 0x3200 3
  let a := selOf s n 0x3200 1
  match addrLane s a with
  | none => (.badValue, s)
  | some p =>
    if plane = 2 || bits.any (fun b => decide (1008 ≤ b.1)) then (.badValue, s)
    else
      let r := bits.foldl (fun r b => if plane = 1 && decide (b.1 < 384) then r.writeNext b.1 b.2 else r.write b.1 b.2)
        (s.lane p)
      let r := if whole then { r with badCur := if plane = 0 then 0 else r.badCur, badNxt := 0, badTmp := 0 } else r
      let s := s.setLane p r
      (.ok, bits.foldl (fun s b => if b.1 < 384 then patchPark a b.1 b.2 s else s) s)

/-- LBS_WRITE: 3200h:04, 3200h:05. -/
def execLbsWrite (r : Req) (w : WForm) (s : State) : Host.Outcome State Fault Refusal :=
  .next (serveForm r 0x3200 4 5 w (fun _ _ _ => false)
    (fun d n s => writeLbs n [(selOf s n 0x3200 2, natBE d == 1)] false s)
    (fun d n s => writeLbs n ((List.range 1008).map (fun i => (i, (natLE d).testBit i))) true s) s)

/-- R535: whether a queued deposit waits for the STATE frames of a region in reset. -/
def depositWaits (s : State) (d : Deposit) : Bool :=
  match s.img.applying with
  | some a => a.inReset && !a.written && (regionTiles a.hdr).contains (laTile d.lane)
  | none => false

/-- Apply a deposit and log it in the record of cycle c (R87, R88, R107). -/
def depositAt (c : Nat) (s : State) (d : Deposit) : State :=
  modRec c (fun r => { r with deps := r.deps ++ [d] }) (applyDeposit s d)

/-- DEPOSIT: 3210h:03 (R105-R108). -/
def execDeposit (r : Req) (v : WVal) (s : State) : Host.Outcome State Fault Refusal :=
  .next (serveWrite r 0x3210 3 v (fun n s =>
    let d : Deposit := { lane := selOf s n 0x3210 1, addr := selOf s n 0x3210 2, bit := natBE v.data == 1 }
    if (addrLane s d.lane).isNone then (.badValue, s)
    else if !(mayRead s n) then (.denied, s)
    else if 256 ≤ s.lanes.deposits.length then (.busy, s)
    else if 383 < d.addr then (.badValue, s)
    else if inRun s then (.ok, { s with lanes := { s.lanes with deposits := s.lanes.deposits ++ [d] } })
    else
      let s := depositAt s.run.cycle.toNat (discardKept s) d
      (.ok, patchPark d.lane d.addr d.bit s)) s)

end Sys2Proof.Machine
end

