-- ==== Sys2Proof/Machine/Swaps.lean ====
section
/-! DEFINITION. Sealing and swapping of dictionary banks and exchange-schedule banks (R46-R57, R217-R224, R842), and
the writes of exchange entries. -/

namespace Sys2Proof.Machine

/-! ### Seals -/

/-- Physical clusters whose dictionaries a scope takes (R55). -/
def scopeClusters (s : State) (scope : Nat) : List Nat :=
  (ones 128 scope).flatMap (fun t => (List.range 16).map (fun c => physCluster s t c))

/-- Clusters of a scope with an unsealed shadow bank. -/
def unsealedDict (s : State) (scope : Nat) : Nat :=
  ((scopeClusters s scope).filter (fun pc => !(s.lanes.dictSealed.contains pc))).length

/-- Tiles of a scope with an unsealed shadow bank. -/
def unsealedExs (s : State) (scope : Nat) : Nat :=
  ((ones 128 scope).filter (fun t => !(s.ex.sealed.contains t))).length

/-- Whether a swap is pending or due. -/
def Swap.waiting (w : Swap) : Bool := w.state == 1 || w.state == 2

/-- Whether the dictionary side of a pending swap finds every shadow bank in scope sealed. -/
def dictReady (s : State) : Bool := s.dswap.waiting && unsealedDict s s.dswap.scope == 0
/-- The same of the exchange side. -/
def exsReady (s : State) : Bool := s.xswap.waiting && unsealedExs s s.xswap.scope == 0

/-! ### Carrying a swap out -/

/-- Exchange the roles of the dictionary banks in scope; the former active banks are sealed shadow banks (R50). -/
def swapDict (s : State) : State :=
  let pcs := scopeClusters s s.dswap.scope
  let s := { s with
    lanes := { s.lanes with
      dictActive := pcs.foldl (fun m pc => Sparse.set0 m pc (1 - Sparse.get0 m pc)) s.lanes.dictActive
      dictSealed := pcs.foldl (fun l pc => nsAdd pc l) s.lanes.dictSealed }
    dswap := { s.dswap with state := 3, joined := false, late := false } }
  let s := s.setO 0x3110 4 s.run.cycle.toNat
  raise 0x3111 (pCycle s ++ pU32 pcs.length) s

/-- Exchange the roles of the exchange-schedule banks in scope (R219). -/
def swapExs (s : State) : State :=
  let ts := ones 128 s.xswap.scope
  let s := { s with
    ex := { s.ex with
      active := ts.foldl (fun m t => Sparse.set0 m t (1 - Sparse.get0 m t)) s.ex.active
      sealed := ts.foldl (fun l t => nsAdd t l) s.ex.sealed }
    xswap := { s.xswap with state := 3, joined := false, late := false } }
  let s := s.setO 0x3900 4 s.run.cycle.toNat
  raise 0x3901 (pCycle s ++ pU32 ts.length) s

/-- Carry out every pending swap whose scope is sealed; a joined one only whole (R53, R221, R224). `commit` says that this
happens at a commit: a swap sealed in a replay waits for one (R51). The answer says whether a bank swapped. -/
def carrySwaps (commit : Bool) (s : State) : Bool × State :=
  if s.dswap.joined || s.xswap.joined then
    if dictReady s && exsReady s && (commit || !(s.dswap.late || s.xswap.late)) then (true, swapExs (swapDict s)) else (false, s)
  else
    let d := dictReady s && (commit || !s.dswap.late)
    let x := exsReady s && (commit || !s.xswap.late)
    let s := if d then swapDict s else s
    let s := if x then swapExs s else s
    (d || x, s)

/-- R51, R56, R57: outside a run a swap takes effect as soon as its scope is sealed, with a checkpoint at once. -/
def settleSwaps (s : State) : State :=
  if inRun s then s
  else
    match carrySwaps false s with
    | (true, s) => checkpointFresh 1 4 s
    | (false, s) => s

/-- Request a swap: kind 0 dictionary, 1 exchange, 2 joined; the scopes are fixed now (R52, R53, R221-R223, R842). A single
request is BUSY beside a joined swap that is pending, and also beside one that is due at the next commit (log 16). -/
def requestSwap (kind dscope xscope : Nat) (s : State) : Status × State :=
  if s.run.state = .recovering then (.busy, s)
  else if kind != 2 && (s.dswap.joined || s.xswap.joined) then (.busy, s)
  else
    let s := match kind with
      | 0 => { s with dswap := { state := 2, scope := dscope, joined := false } }
      | 1 => { s with xswap := { state := 2, scope := xscope, joined := false } }
      | _ => { s with dswap := { state := 2, scope := dscope, joined := true }
                      xswap := { state := 2, scope := xscope, joined := true } }
    let ready := match kind with
      | 0 => dictReady s
      | 1 => exsReady s
      | _ => dictReady s && exsReady s
    (if ready then .ok else .pending, settleSwaps s)

/-- Cancel a pending swap of a kind; a cancel of either kind cancels a joined swap whole (R54, R223). A swap due at the next commit
is cancelled too, and with none waiting nothing happens (log 16). -/
def cancelSwap (dict : Bool) (s : State) : State :=
  let off (w : Swap) : Swap := if w.waiting then {} else w
  if s.dswap.joined || s.xswap.joined then { s with dswap := off s.dswap, xswap := off s.xswap }
  else if dict then { s with dswap := off s.dswap } else { s with xswap := off s.xswap }

/-- 3110h:03 and 3900h:03: a swap whose whole scope is sealed takes effect at the next commit. -/
def swapState (s : State) (dict : Bool) : Nat :=
  let w := if dict then s.dswap else s.xswap
  if w.waiting then
    let ready := if w.joined then dictReady s && exsReady s else if dict then dictReady s else exsReady s
    if ready && s.run.state != .recovering then 1 else 2
  else w.state

/-- 3110h:05 and 3900h:05 (R842). -/
def swapUnsealed (s : State) (dict : Bool) : Nat :=
  if dict then unsealedDict s (if s.dswap.waiting then s.dswap.scope else s.o 0x3110 1)
  else unsealedExs s (if s.xswap.waiting then s.xswap.scope else s.o 0x3900 1)

/-! ### Commands -/

/-- DICT_SEAL: 3100h:06 (R49). -/
def execDictSeal (r : Req) (v : WVal) (s : State) : Host.Outcome State Fault Refusal :=
  .next (serveWrite r 0x3100 6 v (fun n s =>
    match addrCluster s (selOf s n 0x3100 1) with
    | none => (.badValue, s)
    | some pc =>
      let s := countDictReads pc (1 - dictActive s pc) s
      if natBE v.data = dictCrc s pc (1 - dictActive s pc) then
        (.ok, settleSwaps { s with lanes := { s.lanes with dictSealed := nsAdd pc s.lanes.dictSealed } })
      else (.badValue, s)) s)

/-- DICT_SWAP_REQUEST: 3110h:02 = 1. -/
def execDictSwapRequest (r : Req) (s : State) : Host.Outcome State Fault Refusal :=
  .next (serveWrite r 0x3110 2 { ty := 2, data := [1] } (fun _ s =>
    requestSwap 0 (s.o 0x3110 1) (s.o 0x3900 1) s) s)

/-- DICT_SWAP_CANCEL: 3110h:02 = 2. -/
def execDictSwapCancel (r : Req) (s : State) : Host.Outcome State Fault Refusal :=
  .next (serveWrite r 0x3110 2 { ty := 2, data := [2] } (fun _ s => (.ok, cancelSwap true s)) s)

/-- XSWAP_REQUEST: 3900h:02 = 1. -/
def execXswapRequest (r : Req) (s : State) : Host.Outcome State Fault Refusal :=
  .next (serveWrite r 0x3900 2 { ty := 2, data := [1] } (fun _ s =>
    requestSwap 1 (s.o 0x3110 1) (s.o 0x3900 1) s) s)

/-- XSWAP_CANCEL: 3900h:02 = 2. -/
def execXswapCancel (r : Req) (s : State) : Host.Outcome State Fault Refusal :=
  .next (serveWrite r 0x3900 2 { ty := 2, data := [2] } (fun _ s => (.ok, cancelSwap false s)) s)

/-- JOINED_SWAP_REQUEST: 3900h:02 = 3. -/
def execJoinedSwapRequest (r : Req) (s : State) : Host.Outcome State Fault Refusal :=
  .next (serveWrite r 0x3900 2 { ty := 2, data := [3] } (fun _ s =>
    requestSwap 2 (s.o 0x3110 1) (s.o 0x3900 1) s) s)

/-- Store exchange entries from the selected one (R213, R218, R220, R273). An entry with a reserved bit set is refused
(R13). -/
def writeExs (n : Nat) (d : List Octet) (s : State) : Status × State :=
  let e := selOf s n 0x3810 3
  let active := selOf s n 0x3810 2 == 1
  match (if active then activeAnswer s else none) with
  | some st => (st, s)
  | none =>
    let vs := (chunks 384 d).map (fun o => BitVec.ofNat 3072 (natBE o))
    match addrTile (selOf s n 0x3810 1) with
    | none => (.badValue, s)
    | some t =>
      if vs.any (fun v => decide (2 ^ 3024 ≤ v.toNat) || !(exsValid v)) then (.badValue, s)
      else if !active && shadowLocked true t s then (.busy, s)
      else
        let b := if active then exsActive s t else 1 - exsActive s t
        let s := (vs.zipIdx).foldl (fun s x => s.setExs t b (e + x.2) x.1) s
        let s := { s with img := { s.img with touched := true } }
        if active then (.ok, checkpointFresh 1 4 s)
        else (.ok, { s with ex := { s.ex with sealed := s.ex.sealed.filter (fun x => x != t) } })

/-- EXS_ENTRY_WRITE: 3810h:04, 3810h:05. -/
def execExsEntryWrite (r : Req) (w : WForm) (s : State) : Host.Outcome State Fault Refusal :=
  .next (serveForm r 0x3810 4 5 w (blockTooLong 0x3810 5 2048) (fun d n s => writeExs n d s) (fun d n s => writeExs n d s) s)

/-- EXS_SEAL: 3810h:06 (R218). -/
def execExsSeal (r : Req) (v : WVal) (s : State) : Host.Outcome State Fault Refusal :=
  .next (serveWrite r 0x3810 6 v (fun n s =>
    match addrTile (selOf s n 0x3810 1) with
    | none => (.badValue, s)
    | some t =>
      let s := countExsReads t (1 - exsActive s t) s
      if natBE v.data = exsCrc s t (1 - exsActive s t) then
        (.ok, settleSwaps { s with ex := { s.ex with sealed := nsAdd t s.ex.sealed } })
      else (.badValue, s)) s)

end Sys2Proof.Machine
end

