-- ==== Sys2Proof/Machine/Fabric.lean ====
section
/-! DEFINITION. The target interface fabric (chapter 7): cells, routing and pads as one combinational evaluation, the
clocked parts, the boundary registers, injection, pattern frames, the hard blocks, and the commands of its rows. -/

namespace Sys2Proof.Machine

/-! ### Cells -/

/-- Configuration word of a cell that nothing has configured (Table 7-1, Reset). -/
def cellDflt (_ : Nat) : BitVec 256 :=
  BitVec.ofNat 256 ((List.range 12).foldl (fun a k => a ||| (21 <<< (5 * k + 101))) 0 |||
    (List.range 16).foldl (fun a d => a ||| (21 <<< (5 * d + 21))) 0 ||| (15 <<< 15) ||| (15 <<< 6))

/-- Configuration word of cell c. -/
def State.cell (s : State) (c : Nat) : Nat := (Sparse.get cellDflt s.tif.cells c).toNat

/-- Mode of a cell (R454): 0 logic, 1 wide multiplexer, 2 RAM. -/
def cellMode (s : State) (c : Nat) : Nat :=
  let m (c : Nat) : Nat := match fld (s.cell c) 196 2 with | 3 => 0 | n => n
  if c % 2 = 1 && m c == 2 && m (c - 1) != 2 then 0 else m c

/-- The 32 stored bits of a cell: TT0 below TT1. -/
def cellTables (w : Nat) : Nat := fld w 161 32

/-- LUT tables in force: the current contents in RAM mode, the configuration's otherwise (R452). -/
def lutTables (s : State) (c : Nat) : Nat :=
  if cellMode s c = 2 then Sparse.get0 s.tif.ram c else cellTables (s.cell c)

/-- Flip-flop n of a cell. -/
def cellFf (s : State) (c n : Nat) : Bool := (Sparse.get0 s.tif.ff c).testBit n

/-- A node of the fabric's combinational network. -/
inductive TNode where
  | inp (c k : Nat)                    -- input k of a cell: I0-I7, X0-X3
  | wire (c d : Nat)                   -- outgoing wire d
  | lut (c n : Nat)
  | f5 (c : Nat)
  | f6 (c : Nat)
  | f7 (c : Nat)
  | f8 (c : Nat)
  | casc (c : Nat)
  | pad (j : Nat)                      -- what the fabric reads at TIOj
  deriving DecidableEq, Repr

/-- Table lookup with inputs that may be undefined: defined when every completion agrees. -/
def ternLut (tt : Nat) (ins : List (Option Bool)) : Option Bool :=
  let idx := (ins.zipIdx).foldl (fun l p =>
    match p.1 with
    | some b => l.map (fun i => if b then i + 2 ^ p.2 else i)
    | none => l ++ l.map (fun i => i + 2 ^ p.2)) [0]
  let vs := idx.map (fun i => tt.testBit i)
  if vs.all id then some true else if vs.any id then none else some false

/-- Two-way selection with values that may be undefined. -/
def ternMux (sel a b : Option Bool) : Option Bool :=
  match sel with
  | some true => a
  | some false => b
  | none => if a = b then a else none

/-- Cell and wire of the output value of pad j (Table 7-4); the enable is the next wire. -/
def padWire (j : Nat) : Nat × Nat := if j < 256 then (j / 2, 8 + 2 * (j % 2)) else (128 * (j - 256), 12)

/-- Pull of a land: 1 down, 2 up. -/
def padPull (s : State) (j : Nat) : Nat := fld (Sparse.get0 s.tif.pins j) 8 2

/-- R496: whether a land carries trace, so that the fabric's own output of its pad is ignored. -/
def padTrace (s : State) (j : Nat) : Bool := s.o 0x8830 1 == 2 && decide (288 ≤ j ∧ j ≤ 304)

/-- What the module drives at a land that would carry `own`: nothing while the bank's pads are in high impedance (R494),
and trace, whose level no rule states, on the lands of the parallel sink (R496). -/
def padOwn (s : State) (j : Nat) (own : Option (Option Bool)) : Option (Option Bool) :=
  if s.o (0x6850 + j / 32) 2 != 2 then none else if padTrace s j then some none else own

/-- Level at a land that the module drives with `own` (none: not driven; some none: driven, value undefined) and pulls by
`pull` (1 down, 2 up); none where R848 and R849 leave it undefined. -/
def padResolve (s : State) (j pull : Nat) (own : Option (Option Bool)) : Option Bool :=
  let target := (s.tif.target.find? (fun p => p.1 == j)).map (fun p => p.2)
  match own, target with
  | some v, none => v
  | some v, some t => if v = some t then v else none
  | none, some t => some t
  | none, none => match pull with | 1 => some false | 2 => some true | _ => none

/-- The safe state of a land (Table 8-3): what it drives, none for high impedance. -/
def safeDrive (s : State) (j : Nat) : Option (Option Bool) :=
  match Sparse.get0 s.tif.safe j % 128 with | 1 => some (some false) | 2 => some (some true) | _ => none

/-- Pull of a land in its safe state: PULL pulls a high-impedance pad of a powered bank down (Table 8-3), instead of the configured
pull. -/
def safePull (s : State) (j : Nat) : Nat :=
  if s.o (0x6850 + j / 32) 2 == 2 && bitOf (Sparse.get0 s.tif.safe j) 7 then 1 else padPull s j

/-- R776: whether an on-command test has isolated the bank of a land. -/
def bankIsolated (s : State) (j : Nat) : Bool := s.o 0x8200 4 != 0 && s.test.odKind == 2 && s.test.odTarget == j / 32

/-- Level at a land in its safe state. -/
def safeLevel (s : State) (j : Nat) : Option Bool := padResolve s j (safePull s j) (padOwn s j (safeDrive s j))

/-- R457: whether the select of outgoing wire d of cell c is corrupted: a stored bit of it is flipped. -/
def selectBad (s : State) (c d : Nat) : Bool :=
  s.tif.cellErr.any (fun e => e / 288 == c && decide (5 * d + 21 ≤ e % 288 ∧ e % 288 < 5 * d + 26))

/-- Flipped bits of 64-bit group g of a cell word, with its 8 check bits (R498). -/
def groupFlips (s : State) (c g : Nat) : Nat :=
  (s.tif.cellErr.filter (fun e => e / 288 == c && (if e % 288 < 256 then e % 288 / 64 else (e % 288 - 256) / 8) == g)).length

/-- Forget the flipped bits of a cell word. -/
def mendCell (c : Nat) (s : State) : State :=
  { s with tif := { s.tif with cellErr := s.tif.cellErr.filter (fun e => e / 288 != c) } }

/-- Incoming wire k of an edge cell that Table 7-4 names; false for any other. -/
def edgeIn (s : State) (c dir k : Nat) : Option Bool ⊕ TNode :=
  let x := c % 128
  let y := c / 128
  if dir = 2 && y = 0 && k % 2 = 0 then .inr (.pad (2 * x + k / 2))
  else if dir = 3 && x = 0 && k = 0 then .inr (.pad (256 + y))
  else if dir = 1 && x = 127 && y % 8 < 4 && k < 2 then
    -- the port's own output value and enable; no level is stated for them while a mode is set (log 3), but that an I2C port
    -- drives by its enable alone, and not between transactions (Table 7-7, R465)
    let port := y / 8
    .inl (if s.o (0x6C00 + port) 1 == 0 then some false
      else if s.o (0x6C00 + port) 1 == 3 && (k == 0 || (s.tif.ports.getD port {}).running == 0) then some false else none)
  else if dir = 0 && y = 63 && k = 0 && x < 8 then .inl (some (s.tif.ufData.getLsbD x && s.tif.ufValid))
  else if dir = 0 && y = 63 && k = 0 && x = 8 then .inl (some s.tif.ufValid)
  else .inl (some false)

/-- Source code of Table 7-2 at cell c: a value, or the node that gives it (R456-R458, R473). -/
def srcNode (s : State) (c code : Nat) : Option Bool ⊕ TNode :=
  let x := c % 128
  let y := c / 128
  match code with
  | 16 => .inr (.lut c 0)
  | 17 => .inr (.lut c 1)
  | 18 => .inl (some (cellFf s c 0))
  | 19 => .inl (some (cellFf s c 1))
  | 20 => .inr (.casc c)
  | 22 => .inl (some true)
  | 23 => .inl (some (decide (56 ≤ y) && s.tif.bo.getLsbD (128 * (y - 56) + x)))
  | n =>
    if n < 4 then (if y = 63 then edgeIn s c 0 n else .inr (.wire (c + 128) (8 + n)))
    else if n < 8 then (if x = 127 then edgeIn s c 1 (n - 4) else .inr (.wire (c + 1) (12 + (n - 4))))
    else if n < 12 then (if y = 0 then edgeIn s c 2 (n - 8) else .inr (.wire (c - 128) (n - 8)))
    else if n < 16 then (if x = 0 then edgeIn s c 3 (n - 12) else .inr (.wire (c - 1) (4 + (n - 12))))
    else .inl (some false)

/-- Value of a node; none where the manual leaves it undefined: a loop (R459), or an undefined pad (R848). The fuel
exceeds the number of nodes, so only a loop exhausts it. -/
def tval (s : State) : Nat → TNode → Option Bool
  | 0, _ => none
  | f + 1, n =>
    let src (c code : Nat) : Option Bool := match srcNode s c code with | .inl v => v | .inr m => tval s f m
    let inp (c k : Nat) : Option Bool := tval s f (.inp c k)
    match n with
    | .inp c k => src c (fld (s.cell c) (5 * k + 101) 5)
    | .wire c d => if selectBad s c d then some false else src c (fld (s.cell c) (5 * d + 21) 5)
    | .lut c n =>
      match cellMode s c with
      | 1 => ternMux (inp c 9) (ternMux (inp c 8) (inp c (4 * n + 3)) (inp c (4 * n + 2)))
              (ternMux (inp c 8) (inp c (4 * n + 1)) (inp c (4 * n)))
      | 2 => ternLut (fld (lutTables s c) (16 * n) 16) [inp c 0, inp c 1, inp c 2, inp c 3]
      | _ => ternLut (fld (lutTables s c) (16 * n) 16)
              [inp c (4 * n), inp c (4 * n + 1), inp c (4 * n + 2), inp c (4 * n + 3)]
    | .f5 c => ternMux (inp c 10) (tval s f (.lut c 1)) (tval s f (.lut c 0))
    | .f6 c => ternMux (inp c 11) (tval s f (.f5 c)) (tval s f (.f5 (c - 128)))
    | .f7 c => ternMux (inp (c - 128) 11) (tval s f (.f6 c)) (tval s f (.f6 (c - 256)))
    | .f8 c => ternMux (inp (c - 384) 11) (tval s f (.f7 c)) (tval s f (.f7 (c - 512)))
    | .casc c =>
      if cellMode s c = 0 then tval s f (.f5 c)
      else match c / 128 % 8 with
        | 1 | 5 => tval s f (.f6 c)
        | 3 => tval s f (.f7 c)
        | 7 => tval s f (.f8 c)
        | _ => tval s f (.f5 c)
    | .pad j =>
      let (c, d) := padWire j
      let val := tval s f (.wire c d)
      let en := if padTrace s j then some false else tval s f (.wire c (d + 1))
      if s.tif.live && bankIsolated s j then safeLevel s j
      else if s.tif.live then
        let level (e : Bool) : Option Bool := padResolve s j (padPull s j) (padOwn s j (if e then some val else none))
        ternMux en (level true) (level false)
      else ternMux en val (some false)

/-- Fuel of the combinational evaluation: more than the nodes of 8,192 cells. -/
def tifFuel : Nat := 1000000

/-- Sample a node: an undefined value resolves to a free bit (log 3). -/
def sample (n : TNode) (s : State) : Bool × State :=
  match tval s tifFuel n with
  | some b => (b, s)
  | none => s.takeBit

/-! ### Pads -/

/-- What the module drives at a land while TARGET_LIVE is 0: the outputs it holds, or the safe state (R484, R485). -/
def restDrive (s : State) (j : Nat) : Option (Option Bool) :=
  match s.tif.padHold with
  | some held => (held.find? (fun p => p.1 == j)).map (fun p => some p.2)
  | none => safeDrive s j

/-- Pull of a land while TARGET_LIVE is 0: PULL of its safe state pulls a high-impedance pad down (Table 8-3); otherwise, and while
outputs are held or the bank is in high impedance, the configured pull (log 3). -/
def restPull (s : State) (j : Nat) : Nat :=
  if s.tif.padHold.isNone then safePull s j else padPull s j

/-- R849: the level at a land as its input buffer resolves it; a bank under test holds its safe states (R776). -/
def landLevel (s : State) (j : Nat) : Option Bool :=
  if bankIsolated s j then safeLevel s j
  else if s.tif.live then tval s tifFuel (.pad j) else padResolve s j (restPull s j) (padOwn s j (restDrive s j))

/-- The output enables and values that the fabric gives the pads, as the pads that drive a level: an undefined one resolves
to a free bit (log 3). -/
def fabricOutputs (s : State) : List (Nat × Bool) × State :=
  (List.range 320).foldl (fun acc j =>
    let (c, d) := padWire j
    let (en, s) := sample (.wire c (d + 1)) acc.2
    if !en then (acc.1, s)
    else
      let (v, s) := sample (.wire c d) s
      (acc.1 ++ [(j, v)], s)) ([], s)

/-- The user flash's read port follows RD: when RD is 0 its outputs end (R463). -/
def flashFollow (s : State) : State :=
  if tval s tifFuel (.wire (128 * 63 + 19) 0) == some true then s
  else { s with tif := { s.tif with ufRd := false, ufValid := false, ufData := 0 } }

/-- R482, R485: TARGET_LIVE becomes 0; with PIN_HOLD the pads hold their last output value and output enable. -/
def targetOff (s : State) : State :=
  if !s.tif.live then s
  else if s.o 0x6830 2 == 1 then
    let (held, s) := fabricOutputs s
    flashFollow { s with tif := { s.tif with live := false, padHold := some held } }
  else flashFollow { s with tif := { s.tif with live := false, padHold := none } }

/-! ### Clocked parts -/

/-- Flip-flops of every cell at INIT (R460); the user flash follows RD. -/
def ffInit (s : State) : State :=
  flashFollow { s with tif := { s.tif with
      ff := s.tif.cells.foldl (fun m p => Sparse.set0 m p.1 (fld p.2.toNat 5 1 + 2 * fld p.2.toNat 14 1)) [] } }

/-- Whether the flip-flops run: configured and not held at INIT (Table 7-12). -/
def tifRuns (s : State) : Bool := s.tif.state == 1 && s.pwr.mode != 10 && s.pwr.mode != 11

/-- New value of flip-flop n of cell c at an edge of its clock. -/
def ffNext (c n : Nat) (s : State) : Bool × State :=
  let w := s.cell c
  let ceCode := if n = 0 then fld w 3 2 else fld w 12 2
  let dCode := if n = 0 then fld w 10 2 else fld w 19 2
  let (en, s) := match ceCode with
    | 0 => (true, s)
    | 1 => sample (.inp c 8) s
    | 2 => sample (.inp c 9) s
    | _ => sample (.inp c 11) s
  if !en then (cellFf s c n, s)
  else match dCode with
    | 0 => sample (.lut c n) s
    | 1 => sample (.casc c) s
    | 2 => sample (.inp c (8 + n)) s
    | _ => (cellFf s c (1 - n), s)

/-- R452, R453: the write of a RAM pair at an edge of W's clock: address and bit. -/
def ramWrite (c : Nat) (s : State) : Option (Nat × Bool) × State :=
  let (we, s) := sample (.inp c 9) s
  if !we then (none, s)
  else
    let (b, s) := sample (.inp c 8) s
    let (a, s) := ([0, 1, 2, 3, 10].zipIdx).foldl (fun (acc : Nat × State) k =>
      let (v, s) := sample (.inp c k.1) acc.2
      (if v then acc.1 + 2 ^ k.2 else acc.1, s)) (0, s)
    (some (a, b), s)

/-- A rising edge of clock code `k` (Table 7-5): every flip-flop it clocks takes its data and every RAM pair it clocks
writes, all from the values before the edge. -/
def clockEdge (k : Nat) (s : State) : State :=
  if !(tifRuns s) then s
  else
    let step (acc : (Sparse Nat × Sparse Nat) × State) (p : Nat × BitVec 256) : (Sparse Nat × Sparse Nat) × State :=
      let c := p.1
      let w := p.2.toNat
      let ((ff, ram), s) := acc
      let (a, s) := if fld w 6 4 = k then ffNext c 0 s else (cellFf s c 0, s)
      let (b, s) := if fld w 15 4 = k then ffNext c 1 s else (cellFf s c 1, s)
      let (wr, s) := if fld w 6 4 = k && cellMode s c == 2 && c % 2 == 0 then ramWrite c s else (none, s)
      let ram := match wr with
        | some (ad, v) =>
          let ram := Sparse.set0 ram c (putBit (Sparse.get0 ram c) ad v)
          if cellMode s (c + 1) = 2 then Sparse.set0 ram (c + 1) (putBit (Sparse.get0 ram (c + 1)) ad v) else ram
        | none => ram
      ((Sparse.set0 ff c (a.toNat + 2 * b.toNat), ram), s)
    let ((ff, ram), s) := s.tif.cells.foldl step ((s.tif.ff, s.tif.ram), s)
    { s with tif := { s.tif with ff, ram } }

/-! ### Boundary registers (R467-R476) -/

/-- Capture all boundary inputs into BI (R474, R475). -/
def captureBi (s : State) : State :=
    let (v, s) := (s.tif.cells.filter (fun p => decide (7168 ≤ p.1))).foldl (fun (acc : Nat × State) p =>
      let c := p.1
      let n := c - 7168
      let (b, s) : Bool × State := match fld p.2.toNat 193 3 with
        | 1 => sample (.lut c 0) acc.2
        | 2 => sample (.lut c 1) acc.2
        | 3 => (cellFf acc.2 c 0, acc.2)
        | 4 => (cellFf acc.2 c 1, acc.2)
        | 5 => sample (.casc c) acc.2
        | _ => (false, acc.2)
      (putBit acc.1 n b, s)) (0, s)
    { s with tif := { s.tif with bi := BitVec.ofNat 1024 v } }

/-- BO after the CS edge of a cycle (R467-R470). Cycle a is the first whose results a region in reset withholds (R481). -/
def nextBo (s : State) : BitVec 1024 :=
  let off := match s.img.applying with
    | some a => if a.from_ < s.run.cycle.toNat then resetTiles s else []
    | none => []
  BitVec.ofNat 1024 (s.tif.omap.foldl (fun v p =>
    if !(bitOf p.2 31) then v
    else
      let i := fld p.2 0 22
      if !(s.tif.executed.contains (i / 2048)) || s.tif.dropped.contains i || off.contains (i / 16 % 128) then v
      else putBit v p.1 (match s.tif.bnd.find? (fun b => b.1 == i) with | some b => b.2 | none => false)) s.tif.bo.toNat)

/-- Count the accepted BND results that no entry names (R467). -/
def countUnmapped (s : State) : State :=
  let named := (s.tif.omap.filter (fun p => bitOf p.2 31)).map (fun p => fld p.2 0 22)
  s.incO 0x6820 5 ((s.tif.bnd.filter (fun b => !(named.contains b.1))).length)

/-- Forget the boundary outputs of a cycle. -/
def clearBnd (s : State) : State :=
  { s with tif := { s.tif with bnd := [], bndCount := 0, executed := [], dropped := [] } }

/-- C8 of a commit that is not replayed: BI captured, then the CS edge and BO (R461, R469, R474). -/
def csEdge (target : List (Nat × Bool)) (s : State) : State :=
  let s := { s with tif := { s.tif with target := target } }
  let s := captureBi s
  let bo := nextBo s
  let s := clockEdge 0 s
  flashFollow { s with tif := { s.tif with bo := bo } }

/-! ### Injection (R477-R481) and pattern frames (R488-R493, R858) -/

/-- Valid pattern entries, as injection indices, ascending. -/
def patEntries (s : State) : List Nat :=
  (s.tif.imap.filter (fun p => bitOf p.2 15 && !(bitOf p.2 14))).map (fun p => p.1)

/-- NP. -/
def patBits (s : State) : Nat := (patEntries s).length
/-- FW. -/
def frameWords (s : State) : Nat := (patBits s + 63) / 64

/-- N of a record's boundary section: one more than the highest input that a valid boundary entry names. -/
def boundaryN (s : State) : Nat :=
  (s.tif.imap.filter (fun p => bitOf p.2 15 && bitOf p.2 14)).foldl (fun n p => max n (fld p.2 0 10 + 1)) 0

/-- Boundary inputs of a record that were 1. -/
def boundaryOnes (s : State) : List Nat := ones (boundaryN s) s.tif.bi.toNat

/-- Logical clusters into which a 1 is injected at schedule step `step` of the cycle in hand. -/
def injected (s : State) (step : Nat) : List Nat :=
  let rec_ := if replaying s then logRec s s.run.cycle.toNat else none
  let bi (i : Nat) : Bool := if replaying s then (match rec_ with | some r => r.bnd.contains i | none => false)
    else s.tif.bi.getLsbD i
  let pats := patEntries s
  let bits := match s.run.frame with
    | some (_, b) => if replaying s || s.o 0x3400 6 == 1 then b else 0
    | none => 0
  let off := resetTiles s
  (s.tif.imap.filter (fun p => p.1 / 2048 == step && bitOf p.2 15)).filterMap (fun p =>
    let v := if bitOf p.2 14 then bi (fld p.2 0 10)
      else bits.testBit ((pats.filter (fun q => decide (q < p.1))).length)
    if v && !(off.contains (p.1 % 2048 / 16)) then some (p.1 % 2048) else none)

/-- Payload bits of the DATA frame at an octet offset of the PATTERN region. -/
def framePayload (s : State) (off : Nat) : Nat := natLE (regionRead s 2 (off + 8) (8 * frameWords s))

/-- Read on from an offset to the next frame: the frame's offset, or the reason of 6840h:04, with the position. -/
def findFrame (s : State) : Nat → Nat → Nat → (Option Nat × Nat × Nat)
  | 0, _, pos => (some 3, pos, pos)
  | fuel + 1, links, pos =>
    let size := regionSize s 2
    if size < pos + 8 then (some 4, pos, pos)
    else
      let h := natLE (regionRead s 2 pos 8)
      let len := fld h 0 32
      if fld h 48 16 != 0x3C96 then (some 2, pos, pos)
      else match fld h 44 4 with
        | 1 => if len != frameWords s then (some 2, pos, pos)
               else if size < pos + 8 * (len + 1) then (some 4, pos, pos)
               else (none, pos, pos + 8 * (len + 1))
        | 2 => if len != 0 then (some 2, pos, pos) else (some 1, pos, pos)
        | 3 =>
          if len != 1 then (some 2, pos, pos)
          else if size < pos + 16 then (some 4, pos, pos)
          else
            let goal := natLE (regionRead s 2 (pos + 8) 8)
            if goal % 8 != 0 then (some 2, pos, pos)
            else if links = 4 then (some 3, pos, pos)
            else findFrame s fuel (links + 1) goal
        | _ => (some 2, pos, pos)

/-- Take the frame at the reader position for the coming cycle; false when the reader meets a condition of R491. -/
def takeFrame (s : State) : Bool × State :=
  match findFrame s 6 0 s.tif.patPos with
  | (none, off, next) =>
    let s := { s with tif := { s.tif with patPos := next }, run := { s.run with frame := some (off, framePayload s off) } }
    (true, s.incO 0x6840 3 1)
  | (some reason, pos, _) =>
    let s := { s with tif := { s.tif with patPos := pos }, run := { s.run with frame := none } }
    let s := s.setO 0x6840 4 reason
    (false, raise 0x6841 (pU8 reason ++ pU64 pos ++ pCycle s) s)

/-- R492: whether a pattern entry lies where a variant's sweep may not execute its step. -/
def patternMisplaced (s : State) : Bool :=
  let vs := (List.range 4).filter (fun v => bitOf (s.o 0x3430 1) v)
  (patEntries s).any (fun i =>
    let step := i / 2048
    vs.any (fun v =>
      let l := s.o 0x3430 (6 + v)
      let ix := 0x3500 + 16 * v
      let segs := (List.range (s.o ix 1)).map (fun g => s.o ix (0x10 + g))
      let hit := segs.foldl (fun (acc : Nat × Bool) d =>
        let n := 16 * fld d 16 11
        (acc.1 + n, acc.2 || (decide (acc.1 ≤ step ∧ step < acc.1 + n) && !(bitOf d 7)))) (0, false)
      decide (l ≤ step) || hit.2))

/-! ### Configuration -/

/-- Load a cell's word as configuration or a write does (R454, R846): reserved bits read 0, and the word of a W cell in
RAM mode loads the pair's tables. -/
def loadCell (c : Nat) (w : BitVec 256) (s : State) : State :=
  let w := BitVec.ofNat 256 (fld w.toNat 3 195 * 8)
  let s := { s with tif := { s.tif with
    cells := Sparse.set cellDflt s.tif.cells c w } }
  let s := mendCell c s
  if c % 2 = 0 && fld w.toNat 196 2 == 2 then
    let t := cellTables w.toNat
    { s with tif := { s.tif with ram := Sparse.set0 (Sparse.set0 s.tif.ram c t) (c + 1) t } }
  else s

/-- Configuration word as 6810h:02 reads it: RAM cells show their current tables. -/
def cellReadWord (s : State) (c : Nat) : Nat :=
  let w := s.cell c
  if cellMode s c = 2 then w - cellTables w * 2 ^ 161 + Sparse.get0 s.tif.ram c * 2 ^ 161 else w

/-- 6810h:05 (R847). -/
def configCrc (s : State) : Nat := crc32 ((List.range 8192).flatMap (fun c => octetsBE 32 (s.cell c)))

/-- Whether a configuration word has a reserved bit set (Table 7-1). -/
def cellReserved (w : Nat) : Bool := fld w 0 3 != 0 || fld w 198 58 != 0

/-- Write cells from the selected one (R499); reserved bits are refused (R13). -/
def writeCells (n : Nat) (d : List Octet) (s : State) : Status × State :=
  let c := selOf s n 0x6810 1
  if (chunks 32 d).any (fun o => cellReserved (natBE o)) then (.badValue, s)
  else
    (.ok, flashFollow ((((chunks 32 d).map natBE).zipIdx).foldl (fun s x =>
      let s := loadCell (c + x.2) (BitVec.ofNat 256 x.1) s
      { s with tif := { s.tif with hostCells := nsAdd (c + x.2) s.tif.hostCells } }) s))

/-- CELL_CONFIG_WRITE: 6810h:02, 6810h:03. -/
def execCellConfigWrite (r : Req) (w : WForm) (s : State) : Host.Outcome State Fault Refusal :=
  .next (serveForm r 0x6810 2 3 w (blockTooLong 0x6810 3 8192) (fun d n s => writeCells n d s) (fun d n s => writeCells n d s) s)

/-- TIF_RESET: 6830h:01 = 1 (R460). -/
def execTifReset (r : Req) (s : State) : Host.Outcome State Fault Refusal :=
  .next (serveWrite r 0x6830 1 { ty := 2, data := [1] } (fun _ s => (.ok, ffInit s)) s)

/-- OSC_FREQ_WRITE: 6870h+k:01 (R462). -/
def execOscFreqWrite (r : Req) (k : Nat) (v : WVal) (s : State) : Host.Outcome State Fault Refusal :=
  onObject r k 4 0x6870 1 (serveWrite r (0x6870 + k) 1 v (fun _ s =>
    let f := natBE v.data
    if f < 50000 || 400000 < f || f % 100 != 0 then (.badValue, s) else (.ok, s.setO (0x6870 + k) 1 f))) s

/-! ### User flash (R463) -/

/-- Address lines of the user flash. -/
def flashAddr (s : State) : Nat × State :=
  (List.range 19).foldl (fun (acc : Nat × State) x =>
    let (b, s) := sample (.wire (128 * 63 + x) 0) acc.2
    (putBit acc.1 x b, s)) (0, s)

/-- An octet of the user flash; erased octets read FFh. -/
def flashGet (s : State) (a : Nat) : Octet := Sparse.get (fun _ => 255) s.tif.flash a

/-- Finish the read that RD started, unless its sector is being erased or programmed. -/
def flashRead (s : State) : State :=
  let a := s.tif.ufAddr
  match s.tif.ufBusy with
  | some (sec, _) => if a / 4096 = sec then s else
      { s with tif := { s.tif with ufData := flashGet s a, ufValid := true } }
  | none => { s with tif := { s.tif with ufData := flashGet s a, ufValid := true } }

/-- A rising edge of RD starts a read of the byte at the address lines. -/
def flashStart (s : State) : State :=
  let (a, s) := flashAddr s
  flashRead { s with tif := { s.tif with ufRd := true, ufAddr := a } }

/-- UF_READ: a rising edge of RD. -/
def execUfRead (s : State) : Host.Outcome State Fault Refusal :=
  .next (if tifRuns s && !s.tif.ufRd && tval s tifFuel (.wire (128 * 63 + 19) 0) == some true then flashStart s else s)

/-- UF_ERASE: 6880h:03 = 1. -/
def execUfErase (r : Req) (v : WVal) (s : State) : Host.Outcome State Fault Refusal :=
  .next (serveWrite r 0x6880 3 v (fun n s =>
    if natBE v.data != 1 then (.badValue, s)
    else if s.tif.ufBusy.isSome then (.busy, s)
    else
      let sec := selOf s n 0x6880 1 / 4096
      (.ok, { s with tif := { s.tif with
        flash := Sparse.clear s.tif.flash (4096 * sec) (4096 * (sec + 1)), ufBusy := some (sec, true) } })) s)

/-- Length check of a write of the user flash: within one sector. -/
def flashTooLong (d : List Octet) (n : Nat) (s : State) : Bool :=
  let a := selOf s n 0x6880 1
  d.isEmpty || decide (4096 < d.length) || a / 4096 != (a + d.length - 1) / 4096

/-- Program octets from an address of the user flash: erased octets take the data, others keep theirs. -/
def programFlash (n : Nat) (d : List Octet) (s : State) : Status × State :=
  let a := selOf s n 0x6880 1
  if s.tif.ufBusy.isSome then (.busy, s)
  else
    let f := (d.zipIdx).foldl (fun m x =>
      if Sparse.get (fun _ => (255 : Octet)) m (a + x.2) = 255 then Sparse.set (fun _ => (255 : Octet)) m (a + x.2) x.1 else m)
      s.tif.flash
    (.ok, { s with tif := { s.tif with flash := f, ufBusy := some (a / 4096, false) } })

/-- UF_PROGRAM: 6880h:02. -/
def execUfProgram (r : Req) (w : WForm) (s : State) : Host.Outcome State Fault Refusal :=
  .next (serveForm r 0x6880 2 2 w flashTooLong (fun d n s => programFlash n d s) (fun d n s => programFlash n d s) s)

/-- UF_OPERATION_DONE: the operation ends, and a read that waited gives VALID. -/
def execUfOperationDone (s : State) : Host.Outcome State Fault Refusal :=
  .next (if s.tif.ufBusy.isNone then s
    else
      let s := { s with tif := { s.tif with ufBusy := none } }
      if s.tif.ufRd && !s.tif.ufValid then flashRead s else s)

/-! ### Serial ports (R464-R466) -/

/-- Change a serial port. -/
def modSerial (k : Nat) (f : Serial → Serial) (s : State) : State :=
  { s with tif := { s.tif with ports := s.tif.ports.modify k f } }

/-- Serial port k. -/
def State.serialPort (s : State) (k : Nat) : Serial := s.tif.ports.getD k {}

/-- Start a command on a serial port; the mode must serve it. -/
def startSerial (k cmd : Nat) (s : State) : Status × State :=
  let mode := s.o (0x6C00 + k) 1
  if (s.serialPort k).running != 0 then (.busy, s)
  else if mode = 0 || (2 ≤ cmd && mode != 3) then (.badValue, s)
  else (.ok, flashFollow ((modSerial k (fun p => { p with running := cmd }) s).setO (0x6C00 + k) 9 1))

/-- Octets entering a receive queue; those beyond 256 are discarded and counted. -/
def serialReceive (k : Nat) (l : List Octet) (s : State) : State :=
  l.foldl (fun s o =>
    if (s.serialPort k).rx.length < 256 then modSerial k (fun p => { p with rx := p.rx ++ [o] }) s
    else s.incO (0x6C00 + k) 8 1) s

/-- End a serial command with a status: 6C81h. -/
def endSerial (k status : Nat) (received : List Octet) (sent : Nat) (s : State) : State :=
  let p := s.serialPort k
  let s := if sent = 0 then s else s.emit (.serial k p.running (p.tx.take sent))
  let s := serialReceive k received s
  let s := modSerial k (fun p => { p with tx := p.tx.drop sent, running := 0 }) s
  let s := flashFollow (s.setO (0x6C00 + k) 9 status)
  raise 0x6C81 (pU8 k ++ pU8 status ++ pU32 (sent + received.length)) s

/-- SP_SEND: 6C0kh:07 = 1. -/
def execSpSend (r : Req) (k : Nat) (s : State) : Host.Outcome State Fault Refusal :=
  onObject r k 8 0x6C00 7 (serveWrite r (0x6C00 + k) 7 { ty := 2, data := [1] } (fun _ s => startSerial k 1 s)) s

/-- SP_I2C_READ: 6C0kh:07 = 2. -/
def execSpI2cRead (r : Req) (k : Nat) (s : State) : Host.Outcome State Fault Refusal :=
  onObject r k 8 0x6C00 7 (serveWrite r (0x6C00 + k) 7 { ty := 2, data := [2] } (fun _ s => startSerial k 2 s)) s

/-- SP_I2C_WRITE_READ: 6C0kh:07 = 3. -/
def execSpI2cWriteRead (r : Req) (k : Nat) (s : State) : Host.Outcome State Fault Refusal :=
  onObject r k 8 0x6C00 7 (serveWrite r (0x6C00 + k) 7 { ty := 2, data := [3] } (fun _ s => startSerial k 3 s)) s

/-- SP_ABORT: 6C0kh:07 = 4. -/
def execSpAbort (r : Req) (k : Nat) (s : State) : Host.Outcome State Fault Refusal :=
  onObject r k 8 0x6C00 7 (serveWrite r (0x6C00 + k) 7 { ty := 2, data := [4] } (fun _ s =>
    if (s.serialPort k).running = 0 then (.ok, s) else (.ok, endSerial k 6 [] 0 s))) s

/-- The pad-side input of signal `sig` of a port (Table 7-4), where the select of its wire gives it one level at all times: a
constant, a reserved or a corrupted code. -/
def steadyLine (s : State) (k sig : Nat) : Option Bool :=
  let c := 128 * (8 * k + sig) + 127
  let code := fld (s.cell c) 41 5
  if selectBad s c 4 || code = 21 || 23 < code then some false else if code = 22 then some true else none

/-- SERIAL_DONE: a running command ends: 2 done, 3 ADDR_NACK, 4 DATA_NACK (the two of an I2C transaction alone). What the port
receives is what the fabric gives it at MISO or SDA: on a line of one level every bit of it, and no acknowledge on a high one. -/
def execSerialDone (k status : Nat) (received : List Octet) (sent : Nat) (s : State) : Host.Outcome State Fault Refusal :=
  onUnit k 8 (
    let p := s.serialPort k
    let i2c := s.o (0x6C00 + k) 1 == 3
    let line := steadyLine s k (if i2c then 1 else 2)
    let octets := match line with | some b => received.map (fun _ => if b then (255 : Octet) else 0) | none => received
    let reads := if i2c && 2 ≤ p.running then octets.take (s.o (0x6C00 + k) 0x0A)
      else if s.o (0x6C00 + k) 1 == 2 then octets else []
    if p.running = 0 then s
    else if i2c && line == some true then endSerial k 3 [] (min sent p.tx.length) s
    else endSerial k (if i2c && (status = 3 || status = 4) then status else 2) reads (min sent p.tx.length) s)

/-- BUS_STUCK: SCL or SDA low for 25 ms. -/
def execBusStuck (k : Nat) (s : State) : Host.Outcome State Fault Refusal :=
  onUnit k 8 (if (s.serialPort k).running != 0 && s.o (0x6C00 + k) 1 == 3 then endSerial k 5 [] 0 s else s)

/-- UART_RECEIVE: one octet received (R464), which a line of one level cannot carry. -/
def execUartReceive (k : Nat) (o : Octet) (s : State) : Host.Outcome State Fault Refusal :=
  onUnit k 8 (if s.o (0x6C00 + k) 1 == 1 && (steadyLine s k 1).isNone then serialReceive k [o] s else s)

/-! ### Pins and banks (R494-R496) -/

/-- Lands of bank b set to 12 mA. -/
def strongPins (s : State) (b : Nat) : Bool := (s.tif.pins.any (fun p => p.1 / 32 == b && fld p.2 6 2 == 2))

/-- BANK_VOLTAGE_WRITE: 6850h+b:01 (R494, R495). A write of the voltage that a good bank has is no change, and a bank that is switched
off is not lowered to a voltage (log 63). -/
def execBankVoltageWrite (r : Req) (b : Nat) (v : WVal) (s : State) : Host.Outcome State Fault Refusal :=
  onObject r b 10 0x6850 1 (serveWrite r (0x6850 + b) 1 v (fun _ s =>
    let n := natBE v.data
    if 5 < n then (.badValue, s)
    else if (n = 1 || n = 2) && strongPins s b then (.badValue, s)
    else if n = s.o (0x6850 + b) 1 && s.o (0x6850 + b) 2 == 2 then (.ok, s)
    else (.ok, flashFollow ((s.setO (0x6850 + b) 1 n).setO (0x6850 + b) 2 (if n = 0 then 0 else 1))))) s

/-- BANK_RAIL_SETTLED (R494). -/
def execBankRailSettled (b : Nat) (s : State) : Host.Outcome State Fault Refusal :=
  onUnit b 10 (if s.o (0x6850 + b) 2 == 1 then flashFollow (s.setO (0x6850 + b) 2 2) else s)

/-- BANK_FAULT: the rail leaves ±5 % of its setting (R494). -/
def execBankFault (b mv : Nat) (s : State) : Host.Outcome State Fault Refusal :=
  onUnit b 10 (if s.o (0x6850 + b) 2 == 2 then raise 0x6851 (pU8 b ++ pU32 mv) (flashFollow (s.setO (0x6850 + b) 2 3)) else s)

/-- PIN_CONFIG_WRITE: 6860h:02 (Table 7-11, R495). -/
def execPinConfigWrite (r : Req) (v : WVal) (s : State) : Host.Outcome State Fault Refusal :=
  .next (serveWrite r 0x6860 2 v (fun n s =>
    let w := natBE v.data
    let j := selOf s n 0x6860 1
    let vb := s.o (0x6850 + j / 32) 1
    if fld w 8 2 = 3 || fld w 6 2 = 3 || fld w 0 3 != 0 || fld w 10 6 != 0 then (.badValue, s)
    else if fld w 6 2 = 2 && (vb = 1 || vb = 2) then (.badValue, s)
    else (.ok, flashFollow { s with tif := { s.tif with pins := Sparse.set0 s.tif.pins j w } })) s)

/-! ### Maps -/

/-- OUTPUT_MAP_WRITE: 6820h:02 (R472). -/
def execOutputMapWrite (r : Req) (v : WVal) (s : State) : Host.Outcome State Fault Refusal :=
  .next (serveWrite r 0x6820 2 v (fun n s =>
    let w := natBE v.data
    let e := fld w 31 1 * 2 ^ 31 + fld w 0 22
    let i := selOf s n 0x6820 1
    if fld w 22 9 != 0 then (.badValue, s)
    else if bitOf w 31 && s.tif.omap.any (fun p => p.1 != i && bitOf p.2 31 && fld p.2 0 22 == fld w 0 22) then (.badValue, s)
    else (.ok, { s with tif := { s.tif with omap := Sparse.set0 s.tif.omap i e } })) s)

/-- Write injection entries from the selected index (R499, R500). -/
def writeInjection (n : Nat) (d : List Octet) (s : State) : Status × State :=
  let i := selOf s n 0x6828 1
  let es := (chunks 2 d).map natBE
  if es.any (fun e => fld e 10 4 != 0 || (!(bitOf e 14) && fld e 0 10 != 0)) then (.badValue, s)
  else (.ok, { s with tif := { s.tif with
    imap := (es.zipIdx).foldl (fun m x => Sparse.set0 m (i + x.2) x.1) s.tif.imap } })

/-- INJECTION_MAP_WRITE: 6828h:02, 6828h:03. -/
def execInjectionMapWrite (r : Req) (w : WForm) (s : State) : Host.Outcome State Fault Refusal :=
  .next (serveForm r 0x6828 2 3 w (blockTooLong 0x6828 3 4194304) (fun d n s => writeInjection n d s) (fun d n s => writeInjection n d s) s)

/-- PAT_START_WRITE: 6840h:01; the reader goes to it, and a frame already taken is discarded (R858). -/
def execPatStartWrite (r : Req) (v : WVal) (s : State) : Host.Outcome State Fault Refusal :=
  .next (serveWrite r 0x6840 1 v (fun _ s =>
    let a := natBE v.data
    if a % 8 != 0 then (.badValue, s)
    else (.ok, { s.setO 0x6840 1 a with
      tif := { (s.setO 0x6840 1 a).tif with patPos := a }, run := { (s.setO 0x6840 1 a).run with frame := none } })) s)

/-- TIF_CLOCK_EDGE: an edge of oscillator 0-3 (clocks 1-4, when enabled) or of pad clock b (clocks 5-14). -/
def execTifClockEdge (clock : Nat) (target : List (Nat × Bool)) (s : State) : Host.Outcome State Fault Refusal :=
  let s := { s with tif := { s.tif with target := target } }
  .next (if clock = 0 || 14 < clock then s
    else if clock < 5 && s.o (0x6870 + (clock - 1)) 2 == 0 then s
    else flashFollow (clockEdge clock s))

end Sys2Proof.Machine
end

