-- ==== Sys2Proof/Machine/Exchange.lean ====
section
/-! DEFINITION. The scheduled exchange at one executed step (chapter 3): time-switch routing, mesh, bridges, the release
the sideband and the sending of Ilyan slots, and guard vectors across modules. -/

namespace Sys2Proof.Machine

/-! ### Geometry (R200, R206, R207, R211) -/

/-- Neighbour of tile t (32·quadrant + tile) in direction 0 north, 1 east, 2 south, 3 west. -/
def meshNeighbour (t dir : Nat) : Option Nat :=
  let x := t % 8
  let y := t % 32 / 8
  match dir with
  | 0 => if y = 0 then none else some (t - 8)
  | 1 => if x = 7 then none else some (t + 1)
  | 2 => if y = 3 then none else some (t + 8)
  | _ => if x = 0 then none else some (t - 1)

/-- First input index on which a mesh bit sent in a direction arrives. -/
def meshInput (dir : Nat) : Nat := match dir with | 0 => 192 | 1 => 224 | 2 => 128 | _ => 160

/-- Input of the module-wide numbering 336·tile + index. -/
def inputNo (t i : Nat) : Nat := 336 * t + i

/-- Port that serves an attachment tile, and the port bit of its attachment bit b (Table 3-3, R211). -/
def ilyanPort (t : Nat) : Nat := if t % 32 < 16 then t / 32 else 4 + t / 32
/-- Port bit of attachment bit b of tile t. -/
def ilyanBit (t b : Nat) : Nat := 32 * (t % 16) + b
/-- Input on which port bit i of a port arrives. -/
def ilyanInput (p i : Nat) : Nat := inputNo (32 * (p % 4) + (if p < 4 then 0 else 16) + i / 32) (304 + i % 32)

/-! ### One routing step -/

/-- What the time-switches of one step produced. -/
structure RouteOut where
  imports : List Nat := []             -- import wires 128·tile + 8c + w whose bit is 1
  mesh : List Nat := []                -- inputs of the next step
  bridge : List (Nat × Nat) := []      -- (due step, input)
  ilyan : List (Nat × Nat) := []       -- (port, port bit)

/-- Route one output of a tile with its select (R201, R204-R208). -/
def routeOutput (e t : Nat) (present : List Nat) (o sel : Nat) (r : RouteOut) : RouteOut :=
  if 336 ≤ sel || !(present.contains (inputNo t sel)) then r
  else if o < 128 then { r with imports := r.imports ++ [128 * t + o] }
  else if o < 256 then
    let dir := (o - 128) / 32
    match meshNeighbour t dir with
    | some n => { r with mesh := r.mesh ++ [inputNo n (meshInput dir + o % 32)] }
    | none => r
  else if o < 304 then
    let j := (o - 256) / 16
    let n := 32 * ((t / 32 + j + 1) % 4) + t % 32
    { r with bridge := r.bridge ++ [(e + 8, inputNo n (256 + 16 * (2 - j) + o % 16))] }
  else { r with ilyan := r.ilyan ++ [(ilyanPort t, ilyanBit t (o - 304))] }

/-- Mesh outputs of an entry toward absent neighbours whose select is not 511 (R201). -/
def noNeighbour (t : Nat) (v : BitVec 3072) : Nat :=
  ((List.range 4).map (fun dir =>
    if (meshNeighbour t dir).isSome then 0
    else ((List.range 32).filter (fun b => selectOf v (128 + 32 * dir + b) != 511)).length)).sum

/-- Tiles whose active entry at a word address is other than 511 throughout, or holds a storage error; the selects of a
region in reset read as 511 (R533). -/
def routingTiles (s : State) (word : Nat) : List Nat :=
  let tiles (ks : List Nat) : List Nat := (ks.filter (fun k => k % 2048 == word && k / 2048 % 2 == exsActive s (k / 4096))).map (· / 4096)
  let off := resetTiles s
  (nsOf (tiles (s.ex.bank.map (fun p => p.1)) ++ tiles (s.ex.bankErr.map (fun p => p.1 / 48)))).filter
    (fun t => !(off.contains t))

/-- One tile's time-switch in a step (R204, R214, R215). -/
def routeTile (e word : Nat) (present : List Nat) (t : Nat) (acc : RouteOut × State) : RouteOut × State :=
  let (r, s) := acc
  let b := exsActive s t
  match exsError s (exsKey t b word) with
  | 0 | 1 =>
    let s := if exsError s (exsKey t b word) = 1 then s.incO 0x3820 1 1 else s
    let v := s.exsEntry t b word
    let s := s.incO 0x3820 6 (noNeighbour t v)
    ((List.range 336).foldl (fun r o => routeOutput e t present o (selectOf v o) r) r, s)
  | _ => (r, exsFailure t word s)

/-- R250, R253, R267, R268: release of the received slots at executed step e. Each slot that is not there is a lockstep fault;
the inputs of a port that has met one read 0 for the rest of the sweep. The list gives the inputs that are 1. -/
def releaseSlots (e : Nat) (s : State) : List Nat × State :=
  if e < 192 then ([], s)
  else
    (List.range 8).foldl (fun (acc : List Nat × State) p =>
      let q := acc.2.port p
      if !q.enabled then acc
      else
        let mine (x : RxSlot) : Bool := x.cycle == acc.2.run.cycle.toNat % 65536 && x.step == e - 192
        match (if q.state = .exchange then q.rx.find? mine else none) with
        | some x => (acc.1 ++ (if q.dead then [] else x.bits.map (ilyanInput p)), modPort p (fun q => { q with rx := q.rx.filter (fun y => !(mine y)) }) acc.2)
        | none => (acc.1, lockstepFault 1 p acc.2)) ([], s)

/-! ### The sideband (Table 3-7, R237) -/

/-- Take the sideband word of the next slot of a port: a guard word before a control word, a control word before a management
word, and idle when none waits. -/
def popSide (q : Port) : Nat × Port :=
  match q.gtx, q.ctl, q.mg with
  | some (k, w :: rest), _, _ => (0x4000 + w % 16384, { q with gtx := if rest.isEmpty then none else some (k, rest) })
  | _, w :: rest, _ => (0x8000 + w % 16384, { q with ctl := rest })
  | _, [], w :: rest => (0xC000 + w % 16384, { q with mg := rest })
  | _, [], [] => (0, q)

/-! ### Ilyan transmission (R228-R234, R255) -/

/-- Record the tag of a step of this end's step clock: cycle, index, sweep flag (R252). -/
def pushTag (cycle index : Nat) (sweep : Bool) (s : State) : State :=
  { s with ex := { s.ex with tags := ((cycle % 65536, index % 4096, sweep) :: s.ex.tags).take 256 } }

/-- Announce the pending SPARE_FOR in the superframe that leaves now, when `now` says that this one does (R255, R256). -/
def spareSwitch (p : Nat) (now : Bool) (s : State) : Bool × State :=
  match (s.port p).txSwitch with
  | some l => if now then (true, testSettle p (modPort p (fun q => { q with txSpareFor := l, txSwitch := none }) s)) else (false, s)
  | none => (false, s)

/-- The 34 slots that are ready leave as a DATA superframe; `nextCommit` says that the next one begins with a commit slot. -/
def sendData (p : Nat) (nextCommit : Bool) (s : State) : State :=
  let q := s.port p
  let tx := q.tx.take 34
  match tx with
  | [] => s
  | head :: _ =>
    let map := ofOnes ((tx.zipIdx).filterMap (fun y => if y.1.sweep then some y.2 else none))
    let (sw, s) := spareSwitch p nextCommit s
    let s := s.emit (.superframe p 1 (head.cycle % 65536) (head.index % 4096) map q.txSpareFor sw.toNat
      (tx.map (fun y => { bits := y.bits, side := y.side })))
    modPort p (fun q => { q with tx := q.tx.drop 34 }) s

/-- Add one step slot to a port, with the sideband word of its step. 34 slots that stand complete leave first, as one DATA
superframe. -/
def pushSlot (p : Nat) (x : TxSlot) (s : State) : State :=
  let s := if 34 ≤ (s.port p).tx.length then sendData p (!x.sweep) s else s
  modPort p (fun q => let (w, q) := popSide q; { q with tx := q.tx ++ [{ x with side := w }] }) s

/-- The sweep slot of executed step e on every port in EXCHANGE. -/
def pushSweepSlots (e : Nat) (bits : List (Nat × Nat)) (s : State) : State :=
  (exchangePorts s).foldl (fun s p =>
    let mine := (bits.filter (fun b => b.1 == p)).map (fun b => b.2)
    pushSlot p { cycle := s.run.cycle.toNat, index := e, sweep := true, bits := mine, side := 0 } s)
    (pushTag s.run.cycle.toNat e true s)

/-- n commit slots of cycle k on every port in EXCHANGE, the first `from_` steps after C0. -/
def pushCommitSlots (k from_ n : Nat) (s : State) : State :=
  (List.range n).foldl (fun s i => (exchangePorts s).foldl (fun s p =>
    pushSlot p { cycle := k, index := from_ + i, sweep := false, bits := [], side := 0 } s)
    (pushTag k (from_ + i) false s)) s

/-- STATUS of Table 3-8: HOLDING, STOPPED, FAULT, module ID. -/
def statusArg (s : State) : Nat :=
  (!s.run.released).toNat * 512 + s.run.holdStop.toNat * 256 + (decide (s.run.state = .faulted)).toNat * 128 + s.moduleId % 128

/-- STATUS on every port in EXCHANGE. -/
def sendStatus (s : State) : State := (exchangePorts s).foldl (fun s p => sendCtl p 1 (statusArg s) s) s

/-- A FILL superframe: 34 slot positions with exchange bits of 0 and the sideband words that wait (R229, R230). The first one
is where a pending substitution is announced (R255). -/
def sendFill (p : Nat) (s : State) : State :=
  let q := s.port p
  let (sides, q') := (List.range 34).foldl (fun (acc : List Nat × Port) _ =>
    let (w, q) := popSide acc.2; (acc.1 ++ [w], q)) ([], q)
  let s := modPort p (fun _ => q') s
  let (sw, s) := spareSwitch p true s
  s.emit (.superframe p 0 0 0 0 q.txSpareFor sw.toNat (sides.map (fun w => { bits := [], side := w })))

/-- One port at a superframe boundary: DATA when 34 step slots are ready, else FILL (R229): step slots form on the ports in EXCHANGE
only (log 66). A commit slot comes next after the last executed step and before a wait block (R255). A module with an active STOP cause
whose step clock stands gives its stopped indication in FILL superframes, since no C8 or W8 comes (R149, log 66). -/
def portBoundary (p : Nat) (s : State) : State :=
  let q := s.port p
  let quiet := q.gtx.isNone && q.ctl.isEmpty && q.mg.isEmpty
  match q.state with
  | .off | .lost => s
  | .training => if quiet then s else sendFill p s
  | .exchange =>
    if 34 ≤ q.tx.length then
      let nextCommit := if s.run.phase = .sweep then s.run.todo.isEmpty else s.run.phase != .idle && !s.run.released
      sendData p nextCommit s
    else sendFill p (if s.run.phase = .idle && s.run.holdStop && q.ctl.isEmpty then sendCtl p 1 (statusArg s) s else s)
  | _ => sendFill p s

/-- One ns of local time on the lines: a superframe lasts 34 reference steps of 625 ps, 21.25 ns (R225). -/
def lineTick (s : State) : State :=
  let t := s.ex.lineTime + 4
  if t < 85 then { s with ex := { s.ex with lineTime := t } }
  else (List.range 8).foldl (fun s p => portBoundary p s) { s with ex := { s.ex with lineTime := t - 85 } }

/-! ### The exchange in a step and at C0 -/

/-- Route one executed step e at a word address: the inputs present are the exports and mesh bits of the step before,
the bridge bits due, and the slots released. Imports move one stage on (R205). -/
def exchangeStep (e word : Nat) (s : State) : RouteOut × State :=
  let (rel, s) := releaseSlots e s
  let due := (s.ex.bridge.filter (fun b => b.1 == e)).map (fun b => b.2)
  let present := s.ex.inputs ++ due ++ rel
  let (r, s) := (routingTiles s word).foldl (fun acc t => routeTile e word present t acc) ({}, s)
  let s := { s with ex := { s.ex with
    imp2 := s.ex.imp1
    imp1 := r.imports
    bridge := s.ex.bridge.filter (fun b => decide (e < b.1)) ++ r.bridge } }
  (r, s)

/-- The exports and mesh bits of a step become the inputs of the next (R203, R206). -/
def loadInputs (exports : List (Nat × Bool)) (r : RouteOut) (s : State) : State :=
  let ex := nsOf ((exports.filter (fun x => x.2)).map (fun x => inputNo (x.1 / 128) (x.1 % 128)))
  { s with ex := { s.ex with inputs := ex ++ r.mesh } }

/-- C0: every bit in a pipeline or a receive buffer that belongs to the ended sweep is discarded (R209, R251). -/
def exchangeC0 (s : State) : State :=
  let k := s.run.cycle.toNat % 65536
  { s with ex := { s.ex with
    inputs := [], imp1 := [], imp2 := [], bridge := []
    ports := s.ex.ports.map (fun p => { p with
      rx := p.rx.filter (fun x => x.cycle != k), dead := false })
    stopFwd := [], faultFwd := [], stopSeen := [], faultSeen := [] } }

/-! ### Guard vectors across modules (R261-R266) -/

/-- Steps from C1 of the commit of the last cycle to now, while the following sweep runs. -/
def stepsSinceC1 (s : State) : Nat := 15 + 16 * s.run.blocks + s.run.e

/-- The 16 guard words of a message of 208 bits: FIRST and 13 data bits each, most significant first. -/
def guardWords (g : GuardSum) : List Nat :=
  let m := g.cycle % 65536 * 2 ^ 192 + g.mask % 2 ^ 128 * 2 ^ 64 + g.vec % 2 ^ 64
  (List.range 16).map (fun i => (if i = 0 then 8192 else 0) + fld m (13 * (15 - i)) 13)

/-- Put the guard message of a cycle on every port in EXCHANGE. It takes the place of the message that was under way there
(R262); after C1 of the next commit none of the cycle is sent (R264). -/
def floodGuard (g : GuardSum) (s : State) : State :=
  if s.ex.guardNow = some g.cycle then
    (exchangePorts s).foldl (fun s p => modPort p (fun q => { q with gtx := some (g.cycle, guardWords g) }) s) s
  else s

/-- C1 of the commit of cycle k: messages of earlier cycles that are not finished are abandoned (R264), and those of cycle k
may be sent. -/
def abandonGuards (k : Nat) (s : State) : State :=
  { s with ex := { s.ex with guardNow := some k, ports := s.ex.ports.map (fun q => { q with gtx := none }) } }

/-- Store a sum; sums of cycles long past leave. -/
def putGuard (g : GuardSum) (s : State) : State :=
  { s with ex := { s.ex with guards := s.ex.guards.filter (fun x => x.cycle != g.cycle && decide (g.cycle ≤ x.cycle + 2)) ++ [g] } }

/-- Merge a contribution into the sum of cycle k, `at_` steps after C1 of its commit (R262, R263): a sum that grows is sent on; a complete one is
recorded. -/
def mergeGuard (at_ k mask vec : Nat) (s : State) : State :=
  let g := (guardOf s k).getD { cycle := k, mask := 0, vec := 0, doneAt := none }
  let m := g.mask ||| mask
  if g.doneAt.isSome || (m = g.mask && (guardOf s k).isSome) then s
  else
    let full := m == s.o 0x3830 3
    let g := { g with mask := m, vec := g.vec ||| vec, doneAt := if full then some at_ else none }
    let s := floodGuard g (putGuard g s)
    if full then
      let s := s.setO 0x3840 1 (at_ % 65536)
      let s := s.maxO 0x3840 2 at_
      let s := s.setO 0x3420 5 g.vec
      guardToCkpt k (governed s g.vec) s
    else s

/-- C1 with a guard lead of 2: the module's own contribution (R261). -/
def ownGuard (k vec : Nat) (s : State) : State := mergeGuard 0 k (1 <<< s.moduleId) vec (abandonGuards k s)

/-- R266: 3840h:03 at C8 of the commit of cycle k, E executed steps after the commit of cycle k - 1. -/
def guardSlack (k : Nat) (s : State) : State :=
  match guardOf s (k - 1) with
  | some g =>
    match g.doneAt with
    | some d =>
      let slack : Int := (23 + 16 * s.run.blocks + s.run.e : Nat) - (d : Nat)
      if s.ex.slackClear || slack < toSigned 32 (s.o 0x3840 3) then
        ({ s with ex := { s.ex with slackClear := false } }).setO 0x3840 3 (ofSigned 32 slack)
      else s
    | none => s
  | none => s

end Sys2Proof.Machine
end

