-- ==== Sys2Proof/Machine/Ilyan.lean ====
section
/-! DEFINITION. Ilyan ports (chapter 3): training, identity, states and refusals, superframes as received, control and
guard messages, the spare lane and the lane test, and the commands of these rows. -/

namespace Sys2Proof.Machine

/-! ### Port states -/

/-- Code of a port state (Table 3-10). -/
def PortState.code : PortState → Nat
  | .off => 0 | .training => 1 | .linked => 2 | .exchange => 3 | .refused => 4 | .lost => 5

/-- Whether a port is framed, so that sideband traffic flows. -/
def framed (s : State) (p : Nat) : Bool :=
  match (s.port p).state with
  | .linked | .exchange | .refused => true
  | _ => false

/-- This end's IDENTITY packet (Table 3-9). -/
def ownIdentity (s : State) (p : Nat) : Identity :=
  { moduleId := s.moduleId, port := p, systemId := s.o 0x3830 2, imageTag := s.o 0x3830 4
    freqCode := s.o 0x3460 2 / 12500, guardLead := guardLead s, members := s.o 0x3830 3 }

/-- Codes 5 to 10 of Table 3-11: the lowest that fails, 0 when all pass. -/
def identityFault (a b : Identity) : Nat :=
  if a.moduleId = b.moduleId then 5
  else if a.systemId ≠ b.systemId then 6
  else if a.imageTag ≠ b.imageTag ∨ a.imageTag = 0 then 7
  else if a.freqCode ≠ b.freqCode then 8
  else if a.guardLead ≠ 2 ∨ b.guardLead ≠ 2 then 9
  else if a.members ≠ b.members ∨ !(bitOf a.members a.moduleId) ∨ !(bitOf a.members b.moduleId) then 10
  else 0

/-- Enter REFUSED with a reason, or change the reason of a refused port. -/
def refusePort (p reason : Nat) (s : State) : State :=
  let q := s.port p
  let was := decide (q.state = .refused)
  let s := modPort p (fun q => { q with state := .refused, reason := reason }) s
  if was then s else raise 0x3A83 (pU8 p ++ pU8 reason ++ pU8 q.partnerId) s

/-- R245-R247: decide between LINKED, EXCHANGE and REFUSED. A port in EXCHANGE is not judged again. -/
def evalPort (p : Nat) (s : State) : State :=
  let q := s.port p
  match q.partner with
  | none => s
  | some i =>
    if q.state = .exchange && !q.enabled then modPort p (fun q => { q with state := .linked }) s
    else if q.enabled && (q.state = .linked || (q.state = .refused && 5 ≤ q.reason)) then
      match identityFault (ownIdentity s p) i with
      | 0 =>
        raise 0x3A81 (pU8 p ++ pU8 q.partnerId ++ pU8 q.partnerPort ++ pU16 q.transit)
          (modPort p (fun q => { q with state := .exchange, reason := 0 }) s)
      | n => refusePort p n s
    else s

/-- The management packet of an IDENTITY: its header word and 18 words of 14 bits, most significant first (Table 3-9). -/
def identityWords (i : Identity) : List Nat :=
  let m := i.moduleId % 128 * 2 ^ 245 + i.port % 8 * 2 ^ 242 + i.systemId % 2 ^ 32 * 2 ^ 210 + i.imageTag % 2 ^ 64 * 2 ^ 146 +
    i.freqCode % 256 * 2 ^ 138 + i.guardLead % 4 * 2 ^ 136 + i.members % 2 ^ 128
  (18 * 256 + 1) :: (List.range 18).map (fun j => fld m (14 * (17 - j)) 14)

/-- The IDENTITY that the 18 payload words of a packet give. -/
def identityOf (ws : List Nat) : Identity :=
  let m := ws.foldl (fun a w => a * 16384 + w % 16384) 0
  { moduleId := fld m 245 7, port := fld m 242 3, systemId := fld m 210 32, imageTag := fld m 146 64, freqCode := fld m 138 8
    guardLead := fld m 136 2, members := fld m 0 128 }

/-- Put this end's IDENTITY on the management queue of a port (R237). -/
def queueIdentity (p : Nat) (s : State) : State :=
  modPort p (fun q => { q with mg := q.mg ++ identityWords (ownIdentity s p) }) s

/-- Send IDENTITY on a framed port, and evaluate R245 as R246 asks. -/
def sendIdentity (p : Nat) (s : State) : State := if framed s p then evalPort p (queueIdentity p s) else s

/-- R242: a field of the packet changed: every framed port sends IDENTITY. -/
def identityChanged (s : State) : State := (List.range 8).foldl (fun s p => sendIdentity p s) s

/-- Take a received IDENTITY. -/
def takeIdentity (p : Nat) (i : Identity) (s : State) : State :=
  evalPort p (modPort p (fun q => { q with partner := some i, partnerId := i.moduleId, partnerPort := i.port }) s)

/-- Enter LOST (R248). -/
def loseP (p : Nat) (s : State) : State :=
  let was := (s.port p).state.code
  let s := modPort p (fun q => { lineClear q with state := .lost, lostAt := s.now, badRun := 0 }) s
  raise 0x3A82 (pU8 p ++ pU8 was ++ pCycle s) s

/-- Transit of R243 from t_r - t_a and the hold time. -/
def transitOf (gone hold : Nat) : Nat := (gone - hold + 1) / 2 + 12

/-! ### Commands: training and identity -/

/-- LINK_ENABLE_WRITE: 3A0nh:01. -/
def execLinkEnableWrite (r : Req) (p : Nat) (v : WVal) (s : State) : Host.Outcome State Fault Refusal :=
  onObject r p 8 0x3A00 1 (serveWrite r (0x3A00 + p) 1 v (fun _ s =>
    let on := natBE v.data == 1
    let s := s.setO (0x3A00 + p) 1 on.toNat
    (.ok, if on then startTraining p s else portOff p s))) s

/-- R227: whether the lanes that have not failed arrive in an order that f gives. -/
def orderFits (t : TrainResult) (f : Nat → Nat) : Bool :=
  (List.range 9).all (fun i => t.failedLanes.contains i || t.order.getD i 99 == f i)

/-- R227: the reversal of the data lanes; the spare lane must arrive as lane 8. -/
def reversedLane (i : Nat) : Nat := if i < 8 then 7 - i else i

/-- The lane that the spare stands for in a direction in which these lanes failed (step 3); 15 for none. -/
def spareOf (failed : List Nat) : Nat :=
  match failed with
  | [l] => if l < 8 then l else 15
  | _ => 15

/-- TRAINING_DONE (steps 3 to 7 of training, R227, R243-R245). -/
def execTrainingDone (p : Nat) (t : TrainResult) (partner : Identity) (s : State) : Host.Outcome State Fault Refusal :=
  onUnit p 8 (
    if (s.port p).state != .training then s
    else
      let t := { t with failedLanes := nsOf (t.failedLanes ++ failedLanesOf s p 0), sendFailed := nsOf (t.sendFailed ++ failedLanesOf s p 1) }
      let tr := transitOf t.echoGone t.hold
      let s := modPort p (fun q => { q with
        reversed := !(orderFits t id) && orderFits t reversedLane, polarity := t.polarity, transit := tr, trainingTime := t.micros
        spareFor := spareOf t.failedLanes, txSpareFor := spareOf t.sendFailed, txSwitch := none }) s
      if !(orderFits t id || orderFits t reversedLane) then refusePort p 1 s
      else if 2 ≤ t.failedLanes.length || 2 ≤ t.sendFailed.length then refusePort p 2 s
      else if t.drift then refusePort p 3 s
      else if 192 < tr + 8 then refusePort p 4 s
      else
        let s := (modPort p (fun q => { q with state := .linked, reason := 0 }) s).incO (0x3A00 + p) 0x0D 1
        takeIdentity p partner (queueIdentity p s))

/-- IDENTITY_RECEIVED (R246). -/
def execIdentityReceived (p : Nat) (i : Identity) (s : State) : Host.Outcome State Fault Refusal :=
  onUnit p 8 (if framed s p then takeIdentity p i s else s)

/-- IDENTITY_SEND (R242). -/
def execIdentitySend (p : Nat) (s : State) : Host.Outcome State Fault Refusal := onUnit p 8 (sendIdentity p s)

/-- PORT_RETRAIN: after 1 ms in LOST (R248). -/
def execPortRetrain (p : Nat) (s : State) : Host.Outcome State Fault Refusal :=
  onUnit p 8 (
    let q := s.port p
    if q.state = .lost && decide (q.lostAt + 1000000 ≤ s.now) then
      startTraining p (modPort p (fun q => { q with state := .off }) s)
    else s)

/-- SYMBOL_LOCK_LOST: a data lane without lock while the spare of the direction is in use (R248). -/
def execSymbolLockLost (p lane : Nat) (s : State) : Host.Outcome State Fault Refusal :=
  onUnit p 8 (if framed s p && decide (lane < 8) && (s.port p).spareFor != 15 then loseP p s else s)

/-! ### Superframes (R235, R236, R248, R250-R252, R268, R269) -/

/-- Header bits [107:16] of a received superframe. -/
def sfHeader (f : RxSuperframe) : Nat :=
  f.marker % 65536 * 2 ^ 76 + f.typ % 4 * 2 ^ 74 + f.cycle % 65536 * 2 ^ 58 + f.index % 4096 * 2 ^ 46 +
  f.slotMap % 2 ^ 34 * 2 ^ 12 + f.spareFor % 16 * 2 ^ 8 + f.switchNext % 2 * 2 ^ 7

/-- Whether codeword i holds a bit of slot j: codeword i holds payload bits 2,580·i on, slot j bits 108 + 528·j on. -/
def codewordHolds (i j : Nat) : Bool := decide (2580 * i < 108 + 528 * (j + 1) ∧ 108 + 528 * j < 2580 * (i + 1))

/-- The slots of a DATA superframe with the cycle and executed step of each sweep slot. -/
def slotTags (f : RxSuperframe) : List RxSlot :=
  let go (acc : (Nat × Nat × Bool) × List RxSlot) (x : Slot × Nat) : (Nat × Nat × Bool) × List RxSlot :=
    let ((cyc, idx, sw), l) := acc
    let now := f.slotMap.testBit x.2
    let (cyc, idx) := if x.2 = 0 then (cyc, idx) else if now then (if sw then (cyc, idx + 1) else ((cyc + 1) % 65536, 0))
      else (cyc, 0)
    ((cyc, idx, now), if now then l ++ [{ cycle := cyc, step := idx, bits := x.1.bits }] else l)
  ((f.slots.zipIdx).foldl go ((f.cycle, f.index, f.slotMap.testBit 0), [])).2

/-! ### Control messages (Table 3-8) -/

/-- Take a stopped indication of an origin: remembered for R148, and forwarded (R149, R240). -/
def takeStopped (p origin : Nat) (s : State) : State :=
  let s := { s with ex := { s.ex with stopSeen := nsAdd origin s.ex.stopSeen } }
  forwardOrigin false origin (some p) s

/-- Take a STATUS: ARG [9] HOLDING, [8] STOPPED, [7] FAULT, [6:0] module (R239). -/
def takeStatus (p arg : Nat) (s : State) : State :=
  let s := modPort p (fun q => { q with holding := bitOf arg 9 }) s
  if bitOf arg 8 then takeStopped p (arg % 128) s else s

/-- STATUS (R239). -/
def execStatus (p arg : Nat) (s : State) : Host.Outcome State Fault Refusal :=
  onUnit p 8 (if framed s p then takeStatus p arg s else s)

/-- STOPPED_FWD (R149). -/
def execStoppedFwd (p origin : Nat) (s : State) : Host.Outcome State Fault Refusal :=
  onUnit p 8 (if framed s p then takeStopped p (origin % 128) s else s)

/-- Take a FAULT_FWD of an origin (R270). -/
def takeFault (p o : Nat) (s : State) : State :=
  let s := s.setO 0x3F00 6 o
  let s := if s.ex.faultSeen.contains o then s
    else raise 0x3F05 (pU8 o ++ pU8 p ++ pCycle s) { s with ex := { s.ex with faultSeen := nsAdd o s.ex.faultSeen } }
  forwardOrigin true o (some p) s

/-- FAULT_FWD (R270). -/
def execFaultFwd (p origin : Nat) (s : State) : Host.Outcome State Fault Refusal :=
  onUnit p 8 (if framed s p then takeFault p (origin % 128) s else s)

/-- ECHO: answered with the hold time in reference steps. -/
def execEcho (p hold : Nat) (s : State) : Host.Outcome State Fault Refusal :=
  onUnit p 8 (match (s.port p).state with
    | .off | .lost => s
    | _ => sendCtl p 7 hold s)

/-- R243, R244: a measured transit; a slack below 8 puts a framed port into REFUSED, unless a lower reason holds it there. -/
def takeTransit (p tr : Nat) (s : State) : State :=
  let s := modPort p (fun q => { q with transit := tr }) s
  let q := s.port p
  if framed s p && decide (192 < tr + 8) && !(decide (q.state = .refused) && decide (q.reason ≤ 4)) then refusePort p 4 s else s

/-- ECHO_REPLY: the transit of the port (R243). -/
def execEchoReply (p gone hold : Nat) (s : State) : Host.Outcome State Fault Refusal :=
  onUnit p 8 (match (s.port p).state with
    | .off | .lost => s
    | _ => takeTransit p (transitOf gone hold) s)

/-- Schedule the transmitter's switch to a new SPARE_FOR; the superframe that R255 names announces it. -/
def scheduleSpare (p lane : Nat) (s : State) : State := modPort p (fun q => { q with txSwitch := some lane }) s

/-- Take a SPARE_REQ: a second one while the spare is in use is ignored (R255, R257). -/
def takeSpareReq (p lane : Nat) (s : State) : State :=
  let q := s.port p
  if decide (lane < 8) && q.txSpareFor == 15 && q.txSwitch.isNone then scheduleSpare p lane s else s

/-- SPARE_REQ (R255, R257). -/
def execSpareReq (p lane : Nat) (s : State) : Host.Outcome State Fault Refusal :=
  onUnit p 8 (if framed s p then takeSpareReq p lane s else s)

/-- SPARE_REQUEST_SEND: what a receiver counted within 1 ms (R254). -/
def execSpareRequestSend (p lane symbols : Nat) (lockLost : Bool) (spareErrors : Nat) (s : State) :
    Host.Outcome State Fault Refusal :=
  onUnit p 8 (
    let limit := s.o (0x3A00 + p) 0x0A
    if framed s p && decide (lane < 8) && (s.port p).spareFor == 15 && decide (spareErrors < limit) &&
        (decide (limit < symbols) || lockLost) then
      sendCtl p 4 lane s
    else s)

/-- A lane moves to the spare in the receive direction: 3B81h, and the health map takes a suspect bit unless a lane test
substitutes (R256, R257, R762). -/
def spareLane (p lane : Nat) (s : State) : State :=
  let s := modPort p (fun q => { q with spareFor := lane }) s
  let s := if s.ex.test = some (p, lane) then s.setO 0x3C00 5 2 else suspectLane (18 * p + lane) s
  raise 0x3B81 (pU8 p ++ pU32 lane ++ pCycle s) s

/-- R256: the receiver follows SPARE_FOR of the header; 15 gives the lane back (step 5 of the lane test). -/
def followSpare (p spare : Nat) (s : State) : State :=
  if spare = (s.port p).spareFor then s
  else if spare < 8 then spareLane p spare s
  else if spare = 15 then testSettle p (modPort p (fun q => { q with spareFor := 15 }) s)
  else s

/-- LANE_SPARED: the receiver follows the header to the spare (R256, R257). -/
def execLaneSpared (p lane : Nat) (s : State) : Host.Outcome State Fault Refusal :=
  onUnit p 8 (if !(framed s p) || 8 ≤ lane || (s.port p).spareFor != 15 then s else spareLane p lane s)

/-! ### Guard messages (R262-R265) -/

/-- Message of 16 guard words: 13 data bits each, most significant first. -/
def guardBits (ws : List Nat) : Nat := ws.foldl (fun a w => a * 8192 + w % 8192) 0

/-- Design cycle with given low 16 bits whose combined vector is still of use: the one that the counter names or the one before
it. -/
def cycleOfLow (s : State) (low : Nat) : Option Nat :=
  ((List.range 2).map (fun d => s.run.cycle.toNat - d)).find? (fun k => k % 65536 == low)

/-- One guard word on a port. A message whose first word lacks FIRST is discarded whole and counted once, and so is one that a
new FIRST cuts short (R265). -/
def guardWord (p w : Nat) (s : State) : State :=
  let q := s.port p
  let first := bitOf w 13
  let broken := if q.guard.isEmpty then !first && q.guardSkip == 0 else first
  let s := if broken then s.incO (0x3B00 + p) 0x0D 1 else s
  let words := if first then [w] else if q.guard.isEmpty then [] else q.guard ++ [w]
  let skip := if first then 0 else if q.guard.isEmpty then (if q.guardSkip = 0 then 15 else q.guardSkip - 1) else 0
  if words.length < 16 then modPort p (fun q => { q with guard := words, guardSkip := skip }) s
  else
    let s := modPort p (fun q => { q with guard := [], guardSkip := 0 }) s
    let m := guardBits words
    match cycleOfLow s (fld m 192 16) with
    | none => s
    | some k => mergeGuard (stepsSinceC1 s) k (fld m 64 128) (fld m 0 64) s

/-- GUARD_MESSAGE_RECEIVED. -/
def execGuardMessageReceived (p : Nat) (words : List Nat) (s : State) : Host.Outcome State Fault Refusal :=
  onUnit p 8 (if (s.port p).state = .exchange then words.foldl (fun s w => guardWord p w s) s else s)

/-! ### Lane test -/

/-- End a lane test: result, state, 3C81h. A failed lane stays substituted; any other lane returns at the next point that R255
allows, and the receiver follows the partner's header (step 5, R260): 3C00h:05 reads 3 until both directions are back. -/
def endLaneTest (p lane result errors : Nat) (s : State) : State :=
  let s := { s with ex := { s.ex with test := none, testBack := if result = 2 then none else some p } }
  let s := s.setO 0x3C00 5 (if result = 2 then 4 else 3)
  let s := s.setO 0x3C00 6 result
  let s := s.setO 0x3C00 7 errors
  let s := if result = 2 then
      writeHealth (fun h => { h with lanes := nsAdd (18 * p + lane) (nsAdd (18 * p + 9 + lane) h.lanes) }) s
    else testSettle p (if (s.port p).txSpareFor = 15 then modPort p (fun q => { q with txSwitch := none }) s else scheduleSpare p 15 s)
  raise 0x3C81 (pU8 p ++ pU32 lane ++ pU8 result ++ pU64 errors) s

/-- LANE_TEST_START: 3C00h:04 = 1 (R259). -/
def execLaneTestStart (r : Req) (s : State) : Host.Outcome State Fault Refusal :=
  .next (serveWrite r 0x3C00 4 { ty := 2, data := [1] } (fun _ s =>
    let p := s.o 0x3C00 1
    let lane := s.o 0x3C00 2
    let q := s.port p
    if q.spareFor != 15 || q.txSpareFor != 15 || q.txSwitch.isSome || s.ex.test.isSome || s.ex.testBack.isSome then (.busy, s)
    else if domState s (portDomain p) != 2 then (.domainOff, s)
    else if q.state != .linked && q.state != .exchange then (.badValue, s)
    else
      let s := { s with ex := { s.ex with test := some (p, lane) } }
      let s := (s.setO 0x3C00 5 1).setO 0x3C00 6 0
      (.ok, scheduleSpare p lane (sendCtl p 5 lane s))) s)

/-- LANE_TEST_ABORT: 3C00h:04 = 2 (R260). With no test running it answers OK and changes nothing (log 66). -/
def execLaneTestAbort (r : Req) (s : State) : Host.Outcome State Fault Refusal :=
  .next (serveWrite r 0x3C00 4 { ty := 2, data := [2] } (fun _ s =>
    match s.ex.test with
    | none => (.ok, s)
    | some (p, lane) => (.ok, endLaneTest p lane 3 (s.o 0x3C00 7) (sendCtl p 5 (0x300 + lane) s))) s)

/-- LANE_TEST_DONE: bit errors of both directions and the margins measured (step 5). -/
def execLaneTestDone (errors marginV marginH : Nat) (s : State) : Host.Outcome State Fault Refusal :=
  .next (match s.ex.test with
    | none => s
    | some (p, lane) =>
      let ok := errors = 0 ∧ 15 ≤ marginV ∧ 10 ≤ marginH
      let s := (s.setO 0x3C00 8 (marginV % 256)).setO 0x3C00 9 (marginH % 256)
      let s := sendCtl p 5 ((if ok then 0x100 else 0x200) + lane) s
      endLaneTest p lane (if ok then 1 else 2) (errors % 2 ^ 64) s)

/-- Take a LANE_TEST of the partner: start, passed, failed, aborted. One that names no data lane, or sets a reserved bit of its argument,
is discarded and counted, as one with a reserved TYPE is (R238, log 66). -/
def takeLaneTest (p arg errors : Nat) (s : State) : State :=
  let lane := arg % 16
  if 8 ≤ lane || fld arg 4 4 != 0 then s.incO (0x3B00 + p) 0x0D 1
  else match fld arg 8 2 with
  | 0 =>
    let q := s.port p
    if s.ex.test.isNone && s.ex.testBack.isNone && q.txSpareFor == 15 && q.txSwitch.isNone then
      scheduleSpare p lane ((({ s with ex := { s.ex with test := some (p, lane) } }).setO 0x3C00 5 1).setO 0x3C00 6 0)
    else s
  | n => if s.ex.test = some (p, lane) then endLaneTest p lane n (errors % 2 ^ 64) s else s

/-- LANE_TEST: a message of the partner. -/
def execLaneTest (p arg errors : Nat) (s : State) : Host.Outcome State Fault Refusal :=
  onUnit p 8 (if framed s p then takeLaneTest p arg errors s else s)

/-! ### The sideband as received (R237-R241) and superframes (R235, R236, R248, R250-R252, R268, R269) -/

/-- A control message on a port; one with a reserved TYPE is discarded and counted (R238). The hold time of an ECHO and the time
that an ECHO_REPLY took lie in no word of it: they are free values here (log 66), and operands of the rows of their own. -/
def takeControl (p w : Nat) (s : State) : State :=
  let arg := w % 1024
  match fld w 10 4 with
  | 1 => takeStatus p arg s
  | 2 => takeStopped p (arg % 128) s
  | 3 => takeFault p (arg % 128) s
  | 4 => takeSpareReq p (arg % 16) s
  | 5 => takeLaneTest p arg (s.o 0x3C00 7) s
  | 6 =>
    let (h, s) := s.takeNat 1024
    sendCtl p 7 h s
  | 7 =>
    let (t, s) := s.takeNat 65536
    takeTransit p (transitOf t arg) s
  | _ => s.incO (0x3B00 + p) 0x0D 1

/-- One management word on a port. A packet with a reserved LEN or KIND is discarded whole and counted once (R241): LEN 18 with
KIND 01h is the only one that the manual gives a meaning. Whether a word inside a packet that reads as such a header is one is a
free bit (log 66): it discards the packet and begins another. -/
def mgmtWord (p w : Nat) (s : State) : State :=
  let q := s.port p
  if q.mgSkip != 0 then modPort p (fun q => { q with mgSkip := q.mgSkip - 1 }) s
  else if q.mgmt.isEmpty then
    if fld w 8 6 = 18 && fld w 0 8 = 1 then modPort p (fun q => { q with mgmt := [w] }) s
    else modPort p (fun q => { q with mgSkip := fld w 8 6 }) (s.incO (0x3B00 + p) 0x0D 1)
  else
  let (again, s) := if w = 18 * 256 + 1 then s.takeNat 2 else (0, s)
  if again = 1 then modPort p (fun q => { q with mgmt := [w] }) (s.incO (0x3B00 + p) 0x0D 1)
  else if q.mgmt.length < 18 then modPort p (fun q => { q with mgmt := q.mgmt ++ [w] }) s
  else takeIdentity p (identityOf (q.mgmt.drop 1 ++ [w])) (modPort p (fun q => { q with mgmt := [] }) s)

/-- One sideband word of a framed port (Table 3-7). Guard messages flow on ports in EXCHANGE. -/
def sideWord (p : Nat) (s : State) (w : Nat) : State :=
  if !(framed s p) then s
  else match fld w 14 2 with
  | 0 => s
  | 1 => if (s.port p).state = .exchange then guardWord p (w % 16384) s else s
  | 2 => takeControl p (w % 16384) s
  | _ => mgmtWord p (w % 16384) s

/-- Whether codeword i holds a bit of the sideband word of slot j. -/
def codewordHoldsSide (i j : Nat) : Bool := decide (2580 * i < 108 + 528 * (j + 1) ∧ 108 + 528 * j + 512 < 2580 * (i + 1))

/-- R251: whether a received slot belongs to a sweep that has ended, or to a step whose release step has passed: it is
discarded. -/
def slotPast (s : State) (x : RxSlot) : Bool :=
  let back := (s.run.cycle.toNat % 65536 + 65536 - x.cycle) % 65536
  if back = 0 then (s.run.phase = .commit && !s.run.settled) || (s.run.phase = .sweep && decide (x.step + 192 < s.run.e))
  else decide (back < 32768)

/-- The comparison of R252: the tag of this end's step with the number of the transmitter's slot 0. -/
def tagAgrees (f : RxSuperframe) (s : State) : Bool :=
  s.ex.tags[f.ago]? == some (f.cycle, f.index, f.slotMap.testBit 0)

/-- A DATA superframe on a port that exchanges in a run: the comparison of R252, uncorrectable codewords, and its sweep slots. -/
def takeData (f : RxSuperframe) (bad : List Nat) (s : State) : State :=
  let hurt := bad.any (fun i => (ones 34 f.slotMap).any (fun j => codewordHolds i j))
  let s := if tagAgrees f s then s else lockstepFault 2 f.port s
  let s := if hurt then lockstepFault 3 f.port s else s
  let slots := ((slotTags f).filter (fun x => !(slotPast s x))).map (fun x => { x with bits := (nsOf x.bits).filter (fun b => decide (b < 512)) })
  modPort f.port (fun q => { q with rx := q.rx ++ slots }) s

/-- A superframe on a framed port: the counts of its codewords, its header, its slots, and the sideband words that no uncorrectable
codeword holds. -/
def takeSuperframe (f : RxSuperframe) (s : State) : State :=
  let p := f.port
  let ix := 0x3B00 + p
  let s := (f.corrected.zipIdx).foldl (fun s x =>
    if x.2 < 8 then s.incO ix (x.2 + 1) x.1
    else if x.2 = 8 && (s.port p).spareFor == 15 then s.incO ix 9 x.1 else s) s
  let bad := (nsOf f.badWords).filter (fun i => decide (i < 7))
  let s := ((s.incO ix 0x0A 7).incO ix 0x0B (min 7 f.correctedWords)).incO ix 0x0C bad.length
  let badCrc := f.hcrc != crc16 92 (sfHeader f)
  if badCrc || 2 ≤ f.typ then
    let run := if badCrc then (s.port p).badRun + 1 else 0
    let s := modPort p (fun q => { q with badRun := run }) (s.incO ix 0x0C 1)
    if 8 ≤ run then loseP p s else s
  else
    let s := followSpare p f.spareFor (modPort p (fun q => { q with badRun := 0 }) s)
    let s := if f.typ = 0 then s.incO ix 0x0E 1
      else if (s.port p).state = .exchange && (inRun s || s.run.phase != .idle) then takeData f bad s else s
    (f.slots.zipIdx).foldl (fun s x => if bad.any (fun i => codewordHoldsSide i x.2) then s else sideWord p s x.1.side) s

/-- SUPERFRAME_RECEIVED. -/
def execSuperframeReceived (f : RxSuperframe) (s : State) : Host.Outcome State Fault Refusal :=
  onUnit f.port 8 (if framed s f.port then takeSuperframe f s else s)

/-- SYSTEM_MEMBERS_WRITE: 3830h:03 (R275). -/
def execSystemMembersWrite (r : Req) (v : WVal) (s : State) : Host.Outcome State Fault Refusal :=
  .next (serveWrite r 0x3830 3 v (fun _ s =>
    let m := natLE v.data
    if !(bitOf m s.moduleId) then (.badValue, s) else (.ok, identityChanged (s.setO 0x3830 3 m))) s)

end Sys2Proof.Machine
end

