-- ==== Sys2Proof/Machine/Memory.lean ====
section
/-! DEFINITION. Design memories and the DRAM partition (chapter 4): bank ports, far ports, deliveries, the host write
queue, port bindings and layouts, and the commands of these rows. -/

namespace Sys2Proof.Machine

/-! ### Deliveries -/

/-- Write a delivery into locations 1010 and 1011 of the 64 lanes of a logical cluster (R29, R30). -/
def deliver (tile cluster : Nat) (data : Option Word64) (ind : Bool) (s : State) : State :=
  (List.range 64).foldl (fun s l =>
    let p := 64 * physCluster s tile cluster + l
    let r := s.lane p
    s.setLane p { r with rd := match data with | some w => w.getLsbD l | none => r.rd, ind := ind }) s

/-- R31: the deliveries due at executed step e, before the step's reads. -/
def deliverDue (e : Nat) (s : State) : State :=
  let (now, later) := s.lanes.deliveries.partition (fun d => decide (d.due ≤ e))
  now.foldl (fun s d => deliver d.tile d.cluster d.data d.ind s) { s with lanes := { s.lanes with deliveries := later } }

/-- R286: reads whose delivery would lie beyond the last executed step are counted. -/
def countLate (s : State) : State :=
  (s.lanes.deliveries.filter (fun d => d.data.isSome && decide (s.run.e ≤ d.due))).foldl (fun s _ => dmCount 5 s) s

/-- Deliveries that fall at the last steps land before C0 clears 1010 and 1011 again; nothing remains under way. -/
def endDeliveries (s : State) : State := { countLate s with lanes := { (countLate s).lanes with deliveries := [] } }

/-! ### Bank ports -/

/-- An access of a port in one step: tile, port, owning cluster, port vector. -/
structure Access1 where
  tile : Nat
  port : Nat
  cluster : Nat
  vec : Nat
  deriving DecidableEq, Repr

/-- Bank word that an access names. -/
def Access1.key (a : Access1) : Nat := bankKey (4 * a.tile + a.port / 2) (pvAddr a.vec % 65536)

/-- Schedule a delivery four steps on (R286). -/
def pushDelivery (e : Nat) (a : Access1) (data : Option Word64) (ind : Bool) (s : State) : State :=
  { s with lanes := { s.lanes with
      deliveries := s.lanes.deliveries ++ [{ due := e + 4, tile := a.tile, cluster := a.cluster, data, ind }] } }

/-- Store the write of an access (R281, R283, R287, R303, R409). -/
def bankStore (a : Access1) (s : State) : State :=
  let k := a.key
  let be := pvBe a.vec
  let s := if be = 0 then s else preImage false (k / 32) (some a.tile) true s
  let err := Sparse.get0 s.mem.bankErr k
  let full := be = 255
  let s := if err = 1 && !full then s.incO 0x4040 1 1 else s
  let s := if 2 ≤ err && !full then bankFailure k 0 s else s
  s.setBank k (mergeWrite (s.bankWord k) (pvData a.vec) be (pvRot a.vec))

/-- One access alone in its step (R284, R290). -/
def accessOne (e : Nat) (a : Access1) (s : State) : State :=
  if pvWe a.vec then pushDelivery e a none false (bankStore a s)
  else
    let (w, s) := readBank (a.port % 2) a.key 0 s
    pushDelivery e a (some (rotRead w (pvRot a.vec))) false s

/-- R289. Of several collisions in one step, the one of the highest tile and bank stands (log 79). -/
def recordCollision (sub : Nat) (a : Access1) (s : State) : State :=
  let s := s.incO 0x4020 sub 1
  let s := s.setO 0x4020 3 (laneAddr a.tile 0 0)
  let s := s.setO 0x4020 4 (a.port / 2)
  let s := s.setO 0x4020 5 (a.key % 65536)
  s.setO 0x4020 6 s.run.cycle.toNat

/-- Whether some byte that both writes enable has differing values. -/
def bytesDiffer (a b : Access1) : Bool :=
  (List.range 8).any (fun j => (pvBe a.vec).getLsbD j && (pvBe b.vec).getLsbD j &&
    byteOf (pvData a.vec) ((j + 8 - pvRot a.vec) % 8) != byteOf (pvData b.vec) ((j + 8 - pvRot b.vec) % 8))

/-- Ports A and B of a bank reach one word in one step (Table 4-3), whose indicator 1 also stands where the word read is uncorrectable
(R302, log 79). -/
def accessBoth (e : Nat) (compat : Bool) (a b : Access1) (s : State) : State :=
  match pvWe a.vec, pvWe b.vec with
  | false, false => accessOne e b (accessOne e a s)
  | true, true =>
    let differ := bytesDiffer a b
    let s := bankStore b (bankStore a s)
    let s := if differ then recordCollision 1 a s else s
    pushDelivery e b none false (pushDelivery e a none (differ && !compat) s)
  | wa, _ =>
    let wr := if wa then a else b
    let rd := if wa then b else a
    if compat then
      let (w, s) := readBank (rd.port % 2) rd.key 0 s
      let s := recordCollision 2 a (bankStore wr s)
      let ind (x : Access1) : Bool := x.port % 2 == 1
      let s := pushDelivery e wr none (ind wr) s
      pushDelivery e rd (some (rotRead w (pvRot rd.vec))) (ind rd) s
    else
      let s := bankStore wr s
      let (w, s) := readBank (rd.port % 2) rd.key 0 s
      pushDelivery e rd (some (rotRead w (pvRot rd.vec))) false (pushDelivery e wr none false s)

/-- R285, R843: whether a strobe keeps its distance from the port's previous schedule access. -/
def spaced (e : Nat) (a : Access1) (s : State) : Bool :=
  let l := Sparse.get0 s.mem.last (9 * a.tile + a.port)
  l == 0 || decide (l + 1 ≤ e)

/-- Record the schedule access of a port. -/
def markAccess (e : Nat) (a : Access1) (s : State) : State :=
  { s with mem := { s.mem with
      last := Sparse.set0 s.mem.last (9 * a.tile + a.port) (e + 1)
      touched := Sparse.set0 s.mem.touched (9 * a.tile + a.port) (e + 1) } }

/-- All accesses of the bank ports at executed step e, strobes given in ascending tile and port; of several uncorrectable words
or collisions in one step the last in this order stands in 4040h:03-06 and 4020h:03-06 (log 79). -/
def bankStep (e : Nat) (l : List Access1) (s : State) : State :=
  let (s, ok) := l.foldl (fun (acc : State × List Access1) a =>
    if spaced e a acc.1 then (markAccess e a acc.1, acc.2 ++ [a]) else (dmCount 1 acc.1, acc.2)) (s, [])
  ok.foldl (fun s a =>
    let mate := ok.find? (fun b => b.tile == a.tile && b.port / 2 == a.port / 2 && b.port != a.port && b.key == a.key)
    match mate with
    | none => accessOne e a s
    | some b => if a.port < b.port then
        accessBoth e (bitOf (Sparse.get0 s.mem.compat a.tile) (a.port / 2)) a b s else s) s

/-! ### Far ports -/

/-- Change the far delivery of a tile, opening it at the tile's first access of the cycle (R310). -/
def modFar (tile cluster : Nat) (f : FarDel → FarDel) (s : State) : State :=
  let d : FarDel := { tile, cluster, addr := 0, data := none, ready := false, done := false, failed := false }
  let l := if s.mem.farDel.any (fun x => x.tile == tile) then s.mem.farDel else s.mem.farDel ++ [d]
  { s with mem := { s.mem with farDel := l.map (fun x => if x.tile = tile then f x else x) } }

/-- One far access that R843 lets through (R306-R309, R414). -/
def farAccess (a : Access1) (s : State) : State :=
  let addr := pvAddr a.vec
  let s := { s with mem := { s.mem with farCount := Sparse.set0 s.mem.farCount a.tile (Sparse.get0 s.mem.farCount a.tile + 1) } }
  if pvWe a.vec then
    let s := modFar a.tile a.cluster id s
    if farSize s ≤ addr then dmCount 4 s
    else
      let copies := s.rew.farCopies
      let s := if pvBe a.vec = 0 then s else preImage true (addr / 32) none true s
      let s := if s.rew.farCopies = copies then s else { s with mem := { s.mem with farWait := nsAdd a.tile s.mem.farWait } }
      let s := s.setFar addr (mergeWrite (s.farWord addr) (pvData a.vec) (pvBe a.vec) (pvRot a.vec))
      { s with mem := { s.mem with farWrites := nsAdd a.tile s.mem.farWrites } }
  else
    let s := { s with mem := { s.mem with farReads := Sparse.set0 s.mem.farReads a.tile 1 } }
    if farSize s ≤ addr then
      dmCount 4 (modFar a.tile a.cluster (fun d => { d with addr := addr, data := some 0, ready := true }) s)
    else
      let w := rotRead (s.farWord addr) (pvRot a.vec)
      let bad := s.mem.farErr.contains addr
      modFar a.tile a.cluster (fun d => { d with addr := addr, data := some w, failed := bad }) s

/-- A strobe of a far port: the three checks of R843 in order. -/
def farStrobe (e : Nat) (a : Access1) (s : State) : State :=
  if !(spaced e a s) then dmCount 1 s
  else if 16 ≤ Sparse.get0 s.mem.farCount a.tile then dmCount 2 s
  else if !(pvWe a.vec) && Sparse.get0 s.mem.farReads a.tile != 0 then dmCount 3 s
  else farAccess a (markAccess e a s)

/-- Put a list into an order that the manual leaves open (log 3): far accesses of different tiles at executed step e of design
cycle k. The order depends on nothing but k and e, so a replay takes the order of the original run (R4, R5). -/
def freeOrder {α : Type} (k e : Nat) : Nat → List α → List α
  | 0, l => l
  | f + 1, l =>
    if l.length < 2 then l
    else
      let i := Config.farOrder k e l.length % l.length
      match l[i]? with
      | none => l
      | some x => x :: freeOrder k e f (l.eraseIdx i)

/-- Memory strobes of one executed step: `cls` the strobing logical clusters, with the results of the two steps before
(R279, R280). -/
def memoryStep (e : Nat) (cls res1 res2 : List Nat) (s : State) : State :=
  let vec (cl : Nat) : Nat :=
    let half (r : List Nat) : Nat := ofOnes ((r.filter (fun ll => ll / 64 == cl)).map (fun ll => ll % 64))
    half res1 + half res2 * 2 ^ 64
  let acc : List Access1 := cls.filterMap (fun cl => (ownedPort s (cl / 16) (cl % 16)).map (fun p =>
    { tile := cl / 16, port := p, cluster := cl % 16, vec := vec cl }))
  let s := bankStep e (acc.filter (fun a => decide (a.port < 8))) s
  let far := acc.filter (fun a => a.port == 8)
  let clash := far.any (fun a => far.any (fun b => a.tile != b.tile && pvAddr a.vec == pvAddr b.vec && (pvWe a.vec || pvWe b.vec)))
  let far := if clash then freeOrder s.run.cycle.toNat e far.length far else far
  far.foldl (fun s a => farStrobe e a s) s

/-- Carry out the far delivery of a tile (R310, R314): what DRAM returns with an uncorrectable error is a free value (log 3). A
checkpoint of the coming cycle records it (R312). -/
def farDeliver (d : FarDel) (s : State) : State :=
  let (data, s) : Option Word64 × State := if d.failed then
      let (v, s) := s.takeNat (2 ^ 64)
      (some (BitVec.ofNat 64 v), s)
    else (d.data, s)
  let s := deliver d.tile d.cluster data false s
  let next := if s.run.settled then s.run.cycle.toNat else s.run.cycle.toNat + 1
  let s := modNewest (fun c => if c.cycle != next then c else { c with
    far := c.far.map (fun f => if f.1 == d.tile && f.2.1 == d.cluster then (f.1, f.2.1, data) else f) }) s
  let s := if d.failed then farFailure d.addr d.tile s else s
  modFar d.tile d.cluster (fun x => { x with data, done := true }) s

/-- R310: in a commit window, every delivery whose data is present. `force` says that all data has come. -/
def farDeliverAll (force : Bool) (failed : List Nat) (s : State) : State :=
  s.mem.farDel.foldl (fun s d =>
    if d.done then s
    else if d.data.isNone || d.ready || force then
      farDeliver { d with failed := d.failed || (d.data.isSome && failed.contains d.tile) } s
    else s) s

/-- Whether hold cause FAR_MEMORY is active (R313). -/
def farPending (s : State) : Bool := s.mem.farDel.any (fun d => !d.done) || !s.mem.farWrites.isEmpty

/-- FAR_DELIVERY: the read data of a tile's far port is present. -/
def execFarDelivery (tile : Nat) (failed : Bool) (s : State) : Host.Outcome State Fault Refusal :=
  onUnit tile 128 (
    match s.mem.farDel.find? (fun d => d.tile == tile && !d.done && d.data.isSome) with
    | none => s
    | some d =>
      let s := modFar tile d.cluster (fun x => { x with ready := true, failed := x.failed || failed }) s
      if s.run.phase = .commit then farDeliver { d with ready := true, failed := d.failed || failed } s else s)

/-- Far writes retire, for the tiles that p selects; one whose block is still being copied does not (R414). -/
def retireFar (p : Nat → Bool) (s : State) : State :=
  { s with mem := { s.mem with farWrites := s.mem.farWrites.filter (fun t => !(p t) || s.mem.farWait.contains t) } }

/-- FAR_WRITE_RETIRED. -/
def execFarWriteRetired (tile : Nat) (s : State) : Host.Outcome State Fault Refusal :=
  onUnit tile 128 (retireFar (fun t => t == tile) s)

/-! ### Host access to the ports (R291-R293, R845) -/

/-- R291: whether the step at a schedule step number is reserved on a port: a lane of the owning cluster executes a word with
MEM = 1 there, whatever its result. A region in reset executes null words (R533). -/
def reservedAt (s : State) (tile port step : Nat) : Bool :=
  match portOwner s tile port with
  | some c => !((resetTiles s).contains tile) &&
      (List.range 64).any (fun l => wMem (s.imWord (64 * physCluster s tile c + l) (s.run.base + step)))
  | none => false

/-- Whether the module may perform a host access on a port now. In a sweep, at the step t that comes next: t-1, t and t+1 are not
reserved, and the port performed no access at t-1 (R292). In a commit window, 8 accesses in each block of 16 steps (R293). In any
other run state, always (R299). -/
def portFree (s : State) (tile port : Nat) : Bool :=
  if !(inRun s) then true
  else match s.run.phase with
  | .sweep =>
    let l := Sparse.get0 s.mem.touched (9 * tile + port)
    let steps := (s.tif.executed.drop (s.tif.executed.length - 1)) ++ s.run.todo.take 2
    !s.run.todo.isEmpty && (l == 0 || decide (l < s.run.e)) && !(steps.any (reservedAt s tile port))
  | _ => decide (Sparse.get0 s.mem.slots (9 * tile + port) < 8)

/-- A host access takes its port. -/
def takePort (tile port : Nat) (s : State) : State :=
  let i := 9 * tile + port
  { s with mem := { s.mem with
      touched := if s.run.phase = .sweep then Sparse.set0 s.mem.touched i (s.run.e + 1) else s.mem.touched
      slots := Sparse.set0 s.mem.slots i (Sparse.get0 s.mem.slots i + 1) } }

/-- The tile whose far port serves a host access to a far word: the manual names none (log 79). -/
def farTile (w : Nat) : Nat := Config.farHostTile w % 128

/-- The port that serves a host access to a far or a bank word, when one is free: of the two ports of a bank the one that is free
first, port A when both are (R845). -/
def hostPort (s : State) (far : Bool) (addr : Nat) : Option (Nat × Nat) :=
  if far then (if portFree s (farTile addr) 8 then some (farTile addr, 8) else none)
  else
    let t := addr / 65536 / 4
    let a := 2 * (addr / 65536 % 4)
    let used (p : Nat) : Nat := Sparse.get0 s.mem.slots (9 * t + p)
    match portFree s t a, portFree s t (a + 1) with
    | true, true => some (t, if used (a + 1) < used a && s.run.phase != .sweep then a + 1 else a)
    | true, false => some (t, a)
    | false, true => some (t, a + 1)
    | false, false => none

/-! ### Corrections and host writes -/

/-- Write a corrected word back through the port that read it, when that port is free (R301). -/
def writeBack (k : Nat) (s : State) : State :=
  match s.mem.fixed.find? (fun x => x.1 == k) with
  | none => s
  | some (_, ab) =>
    let t := k / 65536 / 4
    let p := 2 * (k / 65536 % 4) + ab
    if portFree s t p then
      let s := takePort t p s
      { s with mem := { s.mem with
        bankErr := Sparse.erase s.mem.bankErr k
        fixed := s.mem.fixed.filter (fun x => x.1 != k) } }
    else s

/-- CORRECTION_WRITE_BACK: it happens when the word waits and R292 allows it on its port now. -/
def execCorrectionWriteBack (bank word : Nat) (s : State) : Host.Outcome State Fault Refusal :=
  onUnit bank 512 (writeBack (bankKey bank (word % 65536)) s)

/-- A far word read by the host: one that DRAM reports uncorrectable is a free value (log 3). -/
def hostFar (w : Nat) (s : State) : List Octet × State :=
  if s.mem.farErr.contains w then
    let (v, s) := s.takeNat (2 ^ 64)
    (octetsBE 8 v, s)
  else (octetsBE 8 (s.farWord w).toNat, s)

/-- A bank word read by the host through a port (R301, R305). -/
def hostBank (port k : Nat) (s : State) : List Octet × State :=
  let (v, s) := readBank port k 1 s
  (octetsBE 8 v.toNat, s)

/-- R301: every corrected word whose port is free is written back. -/
def writeBacks (s : State) : State := s.mem.fixed.foldl (fun s x => writeBack x.1 s) s

/-- Read the next word of a waiting host read, if a port is free; at most `fuel` words. -/
def readWords : Nat → HostRead → State → HostRead × State
  | 0, r, s => (r, s)
  | fuel + 1, r, s =>
    if r.left = 0 then (r, s)
    else match hostPort s r.far r.addr with
    | none => (r, s)
    | some (t, p) =>
      let s := takePort t p s
      let (o, s) := if r.far then hostFar r.addr s else hostBank (p % 2) r.addr s
      let s := writeBacks s
      readWords fuel { r with addr := r.addr + 1, left := r.left - 1, got := r.got ++ o } s

/-- Where the start selector of a waiting READ_BLOCK stands: at START, and on by the elements of every chunk that is read (R590). -/
def advanceStart (r : HostRead) (s : State) : State :=
  match r.block with
  | some (idx, sel, start, _) =>
    let chunks := if r.left = 0 then r.got.length else r.got.length / r.part * r.part
    setStart r.session idx sel (start + chunks / 8) s
  | none => s

/-- R294, R561: the waiting host reads go on, one at a time in the order of arrival; one that has read its last word is answered. -/
def serveReads (s : State) : State :=
  let l := s.mem.reads
  l.foldl (fun s r =>
    if !s.mem.reads.isEmpty then { s with mem := { s.mem with reads := s.mem.reads ++ [r] } }
    else
      let (r, s) := readWords r.left r s
      let s := advanceStart r s
      if r.left = 0 then
        answerParts r.session r.seq ((chunks r.part r.got).zipIdx.map (fun x =>
          { status := .ok, ty := r.ty, offset := r.part * x.2, body := x.1 })) s
      else { s with mem := { s.mem with reads := s.mem.reads ++ [r] } }) { s with mem := { s.mem with reads := [] } }

/-- What the module does with the ports at a step of a sweep that may be free: corrected words first, then host reads. -/
def hostStep (s : State) : State := serveReads (writeBacks s)

/-- Store a host write, with its pre-image (R409, R839). -/
def storeHost (w : HostWr) (s : State) : State :=
  if w.far then
    let s := preImage true (w.addr / 32) none false s
    s.setFar w.addr (mergeWrite (s.farWord w.addr) w.data w.be 0)
  else
    let s := preImage false (w.addr / 32) (some (w.addr / 65536 / 4)) false s
    s.setBank w.addr (mergeWrite (s.bankWord w.addr) w.data w.be 0)

/-- R415: whether a queued write finds its block copied, or room for its copy. -/
def hostWriteFits (w : HostWr) (s : State) : Bool :=
  w.far || s.rew.copied.contains (blockKey false (w.addr / 32)) || (liveCkpts s).isEmpty ||
  decide (Sparse.get0 s.rew.storeUsed (w.addr / 65536 / 4) < 2048)

/-- Apply queued writes in order while the host slots of their ports last (R292-R296, R845). A write that finds none, or that R415
leaves waiting, stops the queue, for this block or until the next commit. `first` is the first cycle that reads the writes, for the
stimulus log (R297). A write accepted after a read that still waits waits for it (R561). -/
def applyHostQueue (first : Nat) : Nat → State → State
  | 0, s => s
  | fuel + 1, s =>
    match s.mem.hostQ with
    | [] => s
    | w :: rest =>
      if s.mem.reads.any (fun r => r.ahead == 0) then s
      else match hostPort s w.far w.addr with
      | none => s
      | some (t, p) =>
        if !(hostWriteFits w s) then { s with mem := { s.mem with hostHeld := true } }
        else
          let s := storeHost w (takePort t p { s with mem := { s.mem with
            hostQ := rest, reads := s.mem.reads.map (fun r => { r with ahead := r.ahead - 1 }) } })
          let s := modRec first (fun r => { r with hws := r.hws ++ [w] }) s
          applyHostQueue first fuel (s.incO 0x4220 2 1)

/-- Host slots of one 16-step block: corrected words first (R301), then waiting reads (R294), then the queue unless the cycle is
replayed. -/
def hostSlots (first : Nat) (queue : Bool) (s : State) : State :=
  let s := hostStep { s with mem := { s.mem with slots := [] } }
  if queue && !s.mem.hostHeld then applyHostQueue first (s.mem.hostQ.length + 1) s else s

/-- Direct host writes of whole words, outside a run (R297, R299, R434). -/
def directWords (ws : List HostWr) (s : State) : State :=
  ws.foldl (fun s w => modRec s.run.cycle.toNat (fun r => { r with hws := r.hws ++ [w] }) (storeHost w s)) (discardKept s)

/-- Host writes of whole words through objects: queued in a run (R295), at once otherwise (R299); more words than the queue has
free entries are refused (R298). -/
def hostWords (ws : List HostWr) (s : State) : Status × State :=
  if 1024 < s.mem.hostQ.length + ws.length then (.busy, s)
  else if inRun s then (.ok, { s with mem := { s.mem with hostQ := s.mem.hostQ ++ ws } })
  else (.ok, directWords ws s)

/-- Write bank words from the selected one (R298, R323). -/
def writeDm (n : Nat) (d : List Octet) (s : State) : Status × State :=
  let w := selOf s n 0x4200 3
  match addrTile (selOf s n 0x4200 1) with
  | none => (.badValue, s)
  | some t =>
    hostWords ((((chunks 8 d).map natBE).zipIdx).map (fun x =>
      { far := false, addr := bankKey (4 * t + selOf s n 0x4200 2 % 4) (w + x.2), data := BitVec.ofNat 64 x.1, be := 255 })) s

/-- DM_WORD_WRITE: 4200h:04, 4200h:05. -/
def execDmWordWrite (r : Req) (w : WForm) (s : State) : Host.Outcome State Fault Refusal :=
  .next (serveForm r 0x4200 4 5 w (blockTooLong 0x4200 5 65536) (fun d n s => writeDm n d s) (fun d n s => writeDm n d s) s)

/-- Write far words from the selected one (R298, R323). -/
def writeFar (one : Bool) (n : Nat) (d : List Octet) (s : State) : Status × State :=
  let w := selOf s n 0x4210 1
  if one && farSize s ≤ w then (.badValue, s)
  else hostWords ((((chunks 8 d).map natBE).zipIdx).map (fun x =>
    { far := true, addr := w + x.2, data := BitVec.ofNat 64 x.1, be := 255 })) s

/-- FAR_WORD_WRITE: 4210h:02, 4210h:03. -/
def execFarWordWrite (r : Req) (w : WForm) (s : State) : Host.Outcome State Fault Refusal :=
  .next (serveForm r 0x4210 2 3 w (fun d n s => blockTooLong 0x4210 3 (farSize s) d n s) (fun d n s => writeFar true n d s) (fun d n s => writeFar false n d s) s)

/-- Bind a port of a tile: 0-15 or FFh (R276, R277). -/
def bindPort (tile p v : Nat) (s : State) : Status × State :=
  if v = 255 then (.ok, { s with mem := { s.mem with owner := Sparse.set0 s.mem.owner (9 * tile + p) 0 } })
  else if 15 < v then (.badValue, s)
  else if (List.range 9).any (fun q => q != p && portOwner s tile q == some v) then (.badValue, s)
  else (.ok, { s with mem := { s.mem with owner := Sparse.set0 s.mem.owner (9 * tile + p) (v + 1) } })

/-- PORT_BINDING_WRITE: 4010h:02-0B. -/
def execPortBindingWrite (r : Req) (sub : Nat) (v : WVal) (s : State) : Host.Outcome State Fault Refusal :=
  .next (serveWrite r 0x4010 sub v (fun n s =>
    match addrTile (selOf s n 0x4010 1) with
    | none => (.badValue, s)
    | some t =>
      if sub = 0x0B then (.ok, { s with mem := { s.mem with compat := Sparse.set0 s.mem.compat t (natLE v.data) } })
      else if 2 ≤ sub && sub ≤ 0x0A then bindPort t (sub - 2) (natBE v.data) s
      else (.badIndex, s)) s)

/-! ### The DRAM partition -/

/-- Layout held in 4110h:01: code of unit u. -/
def pendingLayout (s : State) : List Nat := (List.range 128).map (fun u => fld (s.o 0x4110 1) (8 * (127 - u)) 8)

/-- Applied layout as 4110h:01 encodes it. -/
def layoutValue (l : List Nat) : Nat := l.foldl (fun a c => 256 * a + c % 256) 0

/-- Units of a code in a layout. -/
def unitsOf (l : List Nat) (code : Nat) : List Nat := (List.range 128).filter (fun u => l.getD u 0 == code)

/-- Codes whose set of units differs between two layouts. -/
def changedCodes (a b : List Nat) : List Nat := (List.range 8).filter (fun c => unitsOf a c != unitsOf b c)

/-- R768: whether a layout gives a failed unit, or a unit of a failed stack, a region. -/
def usesDeadUnit (h : Health) (l : List Nat) : Bool :=
  (List.range 128).any (fun u => l.getD u 0 != 0 && (h.units.contains u || h.dramStacks.contains (u / 32)))

/-- R317: the reserved bandwidth of a layout, 1,024 Gbit/s for each stack with a CAPTURE or CHECKPOINT unit. -/
def reservedBandwidth (l : List Nat) : Nat :=
  1024 * ((List.range 4).filter (fun k => (List.range 32).any (fun u =>
    l.getD (32 * k + u) 0 == 1 || l.getD (32 * k + u) 0 == 3))).length

/-- Table 4-6, in order, with R768. An image is being staged while it is loaded (6100h:04 = 1), checked or applied. -/
def layoutRefusal (s : State) : Option Status :=
  let l := pendingLayout s
  let ch := changedCodes s.mem.layout l
  if inRun s || s.run.state = .parked then some .runLocked
  else if s.lan.ctx.acq != .disarmed || s.o 0x8830 1 == 3 || s.o 0x6100 4 == 1 || s.img.check.isSome || s.img.applying.isSome ||
      (s.o 0x8200 4 != 0 && s.test.odKind == 1) then some .busy
  else if l.any (fun c => decide (7 < c)) || (unitsOf l 3).length < 1 || 64 < (unitsOf l 4).length ||
      (unitsOf l 5).length < 8 || (unitsOf l 7).length < 4 || usesDeadUnit s.test.booted l then some .badValue
  else if (ch.contains 4 || ch.contains 5) && s.run.state != .noDesign then some .busy
  else none

/-- LAYOUT_APPLY: 4110h:02 = 1 (R318). It needs the stacks that hold the regions it sets to 0 (R565). -/
def execLayoutApply (r : Req) (s : State) : Host.Outcome State Fault Refusal :=
  .next (serveWrite r 0x4110 2 { ty := 2, data := [1] } (fun _ s =>
    let l := pendingLayout s
    let needed := ((changedCodes s.mem.layout l).filter (fun c => c != 0)).flatMap (fun c => (unitsOf l c).map (fun u => 13 + u / 32))
    if needed.any (gateShut s) then (.domainOff, s)
    else match layoutRefusal s with
    | some st => (st, s)
    | none => (.ok, { s with mem := { s.mem with applying := true, applyTo := pendingLayout s } })) s)

/-- LAYOUT_REVERT: 4110h:02 = 2 (R322). -/
def execLayoutRevert (r : Req) (s : State) : Host.Outcome State Fault Refusal :=
  .next (serveWrite r 0x4110 2 { ty := 2, data := [2] } (fun _ s =>
    (.ok, s.setO 0x4110 1 (layoutValue s.mem.layout))) s)

/-- LAYOUT_APPLIED: the apply completes (R319, R320): 4111h with the units of codes 0 to 7, and whether checkpoints were
withdrawn. -/
def execLayoutApplied (s : State) : Host.Outcome State Fault Refusal :=
  .next (if !s.mem.applying then s
  else
    let old := s.mem.layout
    let l := s.mem.applyTo
    let ch := changedCodes old l
    let ck := ch.contains 3
    let s := if ck then withdrawAll 6 s else s
    let s := { s with mem := { s.mem with layout := l, applying := false, applyTo := [] } }
    let s := dramZero (ch.flatMap (fun c => unitsOf l c)) s
    let s := if ck then { s with rew := { s.rew with log := [] } } else s
    let s := if ch.contains 4 then { s with mem := { s.mem with farErr := [] } } else s
    let s := if ch.contains 7 then { s with img := { s.img with planes := [], banks := [] } } else s
    raise 0x4111 ((List.range 8).flatMap (fun c => pU8 (unitsOf l c).length) ++ pU8 ck.toNat) s)

end Sys2Proof.Machine
end

