-- ==== Sys2Proof/Machine/Clocks.lean ====
section
/-! DEFINITION. Clocks (chapter 12, and the step frequency of chapter 2): references and coasting, PLL failures and
forced switches, Taper ramps, forced gating and CKOUT, with the commands of their rows. -/

namespace Sys2Proof.Machine

/-! ### References -/

/-- Number of a source: its bit in 2010h:02. -/
def refNo : RefSrc → Nat
  | .xta => 2 | .xtb => 3 | .sref => 4

/-! ### Ramps (R711, R713, R715) -/

/-- Step frequency in effect, in kHz. -/
def stepFreq (s : State) : Nat := s.o 0x3460 1

/-- Increments of a ramp from f0 to f1 (R711). -/
def rampSteps (f0 f1 : Nat) : Nat := max 1 (min 16 (((max f0 f1 - min f0 f1) + 74999) / 75000))

/-- Frequency after i of n increments from f0 to f1, in whole kHz. -/
def rampFreq (f0 f1 n i : Nat) : Nat := if f0 ≤ f1 then f0 + i * (f1 - f0) / n else f0 - i * (f0 - f1) / n

/-- Start a ramp of n increments to f1. -/
def startRampN (kind f1 n : Nat) (s : State) : State :=
  let r : Ramp := { kind, f0 := stepFreq s, f1, n, i := 0, since := s.now }
  freqState (({ s with clk := { s.clk with ramp := some r } }).setO 0x2028 1 1)

/-- Start a ramp to f1. -/
def startRamp (kind f1 : Nat) (s : State) : State := startRampN kind f1 (rampSteps (stepFreq s) f1) s

/-- Whether a commanded ramp runs. -/
def commandedRamp (s : State) : Bool :=
  match s.clk.ramp with
  | some r => r.kind == 0
  | none => false

/-- A commanded change of the step frequency starts (R184). -/
def startChange (s : State) : State :=
  startRamp 0 (s.o 0x3460 2) { s with clk := { s.clk with ramp := none, want := false, due := false } }

/-- R703, R855: the step roots start toward the coast frequency from the one in effect; a commanded change that was due or running
waits. One that is scheduled for a later cycle stays scheduled, and reads 1 too (log 56). -/
def coastStart (s : State) : State :=
  let s := { s with clk := { s.clk with ramp := none, back := false, due := s.clk.due || commandedRamp s } }
  startRamp 1 400000 (s.setO 0x3460 4 1)

/-- R704: the step roots return to 3460h:02, at the next commit in a run and at once otherwise. -/
def backStart (s : State) : State :=
  if s.o 0x3460 4 != 1 then s
  else if !(stepPllsRun s) then freqState (({ s with clk := { s.clk with back := false } }).setO 0x3460 4 0)
  else if inRun s then { s with clk := { s.clk with back := true } }
  else startRamp 2 (s.o 0x3460 2) { s with clk := { s.clk with ramp := none } }

/-- R715: take the step roots down to 1/16 in 15 increments, as the first half of a change of source. -/
def sourceDown (s : State) : State := startRampN 3 (stepFreq s / 16) 15 s

/-- The new source of the step PLLs is taken: it locks, or coasts when it is missing. -/
def takeSource (s : State) : State :=
  let s := { s with clk := { s.clk with newRef := none } }
  (List.range 4).foldl (fun s p => if pllState s p = 2 || pllState s p = 3 then runPll p s else s) s

/-- After a source change: start coasting, or the way back, if either is owed, or a commanded change that fell due during it. -/
def settleCoast (s : State) : State :=
  if !(stepPllsRun s) then s
  else if pllState s 0 = 3 && s.o 0x3460 4 == 0 then coastStart s
  else if s.o 0x3460 4 = 1 then (if pllState s 0 = 2 then backStart s else s)
  else if s.clk.due then startChange s
  else s

/-- One Taper increment (R711): every 4 µs. -/
def taperStep (s : State) : State :=
  match s.clk.ramp with
  | none => s
  | some r =>
    if r.n ≤ r.i then s
    else
      let s := { s with clk := { s.clk with ramp := some { r with i := r.i + 1 } } }
      s.setO 0x3460 1 (rampFreq r.f0 r.f1 r.n (r.i + 1))

/-- TAPER_INCREMENT. -/
def execTaperIncrement (s : State) : Host.Outcome State Fault Refusal := .next (taperStep s)

/-- R185: 3461h with the frequency in effect. -/
def freqChanged (s : State) : State := raise 0x3461 (pU32 (stepFreq s) ++ pCycle s) s

/-- The end of a ramp whose increments are all done (R185, R704, R714, R715, R855). The ramp back goes to 3460h:02 and so also completes a
change scheduled for a later cycle (log 56); a request made during a commanded ramp stays scheduled after it. -/
def rampDone (s : State) : State :=
  match s.clk.ramp with
  | none => s
  | some r =>
    if r.i < r.n then s
    else
      let s := endRamp s
      let s := (s.setO 0x2028 2 r.n).setO 0x2028 3 (4 * r.n)
      let s := match r.kind with
        | 0 => freqChanged (freqState s)
        | 1 => freqChanged (freqState s)
        | 2 =>
          let s := ({ s with clk := { s.clk with due := false, want := false } }).setO 0x3460 4 0
          freqChanged (freqState s)
        | 3 => startRampN 4 r.f0 15 (takeSource s)
        | 5 => if s.clk.rootsDue = 0 then settleCoast (freqState s) else startRoots s.clk.rootsDue s
        | _ => settleCoast (freqState s)
      -- a change of source that another ramp kept waiting
      if s.clk.newRef.isSome && s.clk.ramp.isNone && stepPllsRun s then sourceDown s else s

/-- TAPER_RAMP_DONE. -/
def execTaperRampDone (s : State) : Host.Outcome State Fault Refusal := .next (rampDone s)

/-- C8 of a commit: a commanded change or a ramp back that falls due starts (R184, R704, R854, R855), or waits while another ramp runs
or the PLLs coast. The counter has its new value. -/
def freqDue (s : State) : State :=
  if s.clk.fosc then s
  else if s.clk.back then
    startRamp 2 (s.o 0x3460 2) { s with clk := { s.clk with back := false, ramp := none } }
  else if s.clk.want && (s.o 0x3460 3 == 0 || s.o 0x3460 3 == s.run.cycle.toNat) then
    if s.o 0x3460 4 == 1 || s.clk.ramp.isSome then { s with clk := { s.clk with want := false, due := true } }
    else startChange s
  else s

/-- Nominal frequency of a CKOUT source, in Hz; roots 6 and 7 run from FOSC when their PLL has failed (Table 12-3). The cycle strobe,
source 15, comes once per design cycle, at most once per 16 steps. -/
def ckoutHz (s : State) (src : Nat) : Nat :=
  match src with
  | 0 => 100000000 | 1 => 32000 | 2 => 25000000 | 3 => 32768 | 4 => 100000000
  | 5 | 6 | 7 | 8 => 1000 * stepFreq s
  | 9 => 1600000000 | 10 => 1600000000
  | 11 => if pllState s 6 == 4 then 100000000 else 2000000000
  | 12 => if pllState s 7 == 4 then 100000000 else 1000000000
  | 13 => if s.o 0x2010 3 = 1 then 32768 else 32000
  | 14 => 1000 * s.o 0x6870 1
  | _ => 1000 * stepFreq s / 16

/-- R720: whether CKOUT, while it is on, would exceed 400 MHz. A disabled CKOUT is held low. -/
def ckoutOver (s : State) (src dv : Nat) (on : Bool) : Bool := on && decide (400000000 * dv < ckoutHz s src)

/-- R720: whether the step frequency f kHz would lift an enabled CKOUT above 400 MHz. -/
def ckoutLifted (s : State) (f : Nat) : Bool :=
  ckoutOver { s.setO 0x3460 1 f with clk := { s.clk with fosc := false } } (s.o 0x2050 1) (s.o 0x2050 2) (s.o 0x2050 3 == 1)

/-- STEP_FREQ_REQUEST: 3460h:02 (R186-R188, R709, R720). -/
def execStepFreqRequest (r : Req) (v : WVal) (s : State) : Host.Outcome State Fault Refusal :=
  .next (serveWrite r 0x3460 2 v (fun _ s =>
    let f := natBE v.data
    let c := s.o 0x3460 3
    if f < 400000 || 1600000 < f || f % 12500 != 0 then (.badValue, s)
    else if s.o 0x3460 4 == 1 || s.clk.fosc then (.busy, s)
    else if c != 0 && decide (c ≤ s.run.cycle.toNat) then (.badValue, s)
    else if ckoutLifted s f then (.badValue, s)
    else
      (.ok, identityChanged (freqState ({ s with clk := { s.clk with want := true } }.setO 0x3460 2 f)))) s)

/-- STEP_REF_WRITE: 2010h:01 (R698, R715). -/
def execStepRefWrite (r : Req) (v : WVal) (s : State) : Host.Outcome State Fault Refusal :=
  .next (serveWrite r 0x2010 1 v (fun _ s =>
    let n := natBE v.data
    if 1 < n then (.badValue, s)
    else if n = s.o 0x2010 1 then (.ok, s)
    else
      let old := s.o 0x2010 1
      let s := s.setO 0x2010 1 n
      if s.clk.newRef = some n then (.ok, { s with clk := { s.clk with newRef := none } })
      else if !(stepPllsRun s) then (.ok, s)
      else
        let s := { s with clk := { s.clk with newRef := some old } }
        (.ok, if s.clk.ramp.isSome then s else sourceDown s)) s)

/-! ### Lost and restored references -/

/-- Enter a servo state (Table 11-1); bits 0, 1 and 3 of 7800h:09 follow it. -/
def setServo (v : Nat) (s : State) : State :=
  let s := s.setO 0x7810 1 v
  s.setO 0x7800 9 ((v == 2).toNat + 2 * (v == 3).toNat + 4 * (bitOf (s.o 0x7800 9) 2).toNat + 8 * (v == 4).toNat)

/-- The ordinary clock forgets its master and its exchanges. -/
def forgetMaster (s : State) : State :=
  { s with time := { s.time with
    former := match s.time.master with | some m => some m | none => s.time.former
    master := none, masterDs := [], newMaster := false, sync := none, req := [none, none], preq := [none, none]
    presp := [none, none] } }

/-- R660: PLL_T coasts with XTA. -/
def xtaLost (s : State) : State :=
  let s := s.setO 0x7800 9 (putBit (s.o 0x7800 9) 2 true)
  let s := forgetMaster ((setServo 5 s).setO 0x7820 0x0D 2)
  let s := { s with time := { s.time with xtaSince := s.now } }
  raise 0x7804 (pU8 0 ++ pU32 0) s

/-- R660: XTA is back and PLL_T has relocked. The PTP port leaves FAULTY for INITIALIZING (log 32). -/
def xtaBack (s : State) : State :=
  let s := s.setO 0x7800 9 (putBit (s.o 0x7800 9) 2 false)
  let s := (setServo 1 s).setO 0x7820 0x0D (if s.o 0x7820 1 = 1 then 1 else 3)
  raise 0x7804 (pU8 1 ++ pU32 ((s.now - s.time.xtaSince) / 1000000)) s

/-- Whether the module watches a source: Wick watches XTB in every mode but OFF, the presence monitor the others once
the module has left STANDBY. -/
def refWatched (s : State) (r : RefSrc) : Bool :=
  if r = .xtb then s.pwr.mode != 0 else decide (2 ≤ s.pwr.mode)

/-- Index of a source in the list of times at which sources were declared missing. -/
def refIndex : RefSrc → Nat
  | .sref => 0 | .xta => 1 | .xtb => 2

/-- A source is declared missing (R700, R702, R703, R705, R855), the step PLLs' also while they return from an earlier loss (R190). -/
def loseRef (src : RefSrc) (s : State) : State :=
  if (if src = .xtb then s.clk.xtbLost else refMissing s src) || !(refWatched s src) then s
  else
    let s := s.setO 0x2010 2 (putBit (s.o 0x2010 2) (refNo src) false)
    let s := s.setO 0x2020 9 (putBit (s.o 0x2020 9) (missBit src) true)
    let s := { s with clk := { s.clk with lostAt := s.clk.lostAt.set (refIndex src) s.now } }
    if src = .xtb then { s.setO 0x2010 3 0 with clk := { s.clk with xtbLost := true } }
    else
      let s := (List.range 8).foldl (fun s p =>
        if pllRef s p = src && (pllState s p == 1 || pllState s p == 2) then setPll p 3 s else s) s
      let returning := s.clk.back || (match s.clk.ramp with | some r => r.kind == 2 | none => false)
      let lost := pllState s 0 == 3 && stepRef s == src && !s.clk.fosc
      let s := if lost && (s.o 0x3460 4 == 0 || returning) then coastStart s else s
      let bits := ofOnes ((List.range 8).filter (fun p => pllState s p == 3))
      let s := raise 0x2021 (pU8 (refNo src) ++ pBits16 bits) s
      if src = .xta then xtaLost s else s

/-- REFERENCE_LOST. -/
def execReferenceLost (src : RefSrc) (s : State) : Host.Outcome State Fault Refusal := .next (loseRef src s)

/-- REFERENCE_RESTORED (R701, R704, R705): the source has been present for 10 ms. -/
def execReferenceRestored (src : RefSrc) (s : State) : Host.Outcome State Fault Refusal :=
  .next (if !(if src = .xtb then s.clk.xtbLost else refMissing s src) then s
  else
    let s := s.setO 0x2010 2 (putBit (s.o 0x2010 2) (refNo src) true)
    let s := s.setO 0x2020 9 (putBit (s.o 0x2020 9) (missBit src) false)
    if src = .xtb then { s.setO 0x2010 3 1 with clk := { s.clk with xtbLost := false } }
    else
      let s := (List.range 8).foldl (fun s p =>
        if pllRef s p = src && pllState s p == 3 then setPll p 2 s else s) s
      let ms := (s.now - s.clk.lostAt.getD (refIndex src) 0) / 1000000
      let s := raise 0x2022 (pU8 (refNo src) ++ pU32 ms) s
      let s := (List.range 8).foldl (fun s p => startTraining p s) s
      let s := if stepRef s = src && s.o 0x3460 4 == 1 then backStart s else s
      if src = .xta then xtaBack s else s)

/-! ### Failed PLLs and forced switches (R706-R710, R854) -/

/-- R707, R708: root r is force-switched. -/
def forceRoot (r : Nat) (s : State) : State :=
  let s := s.setO 0x2020 0x0A (putBit (s.o 0x2020 0x0A) r true)
  let s := s.incO 0x2020 0x0B 1
  let s := raise 0x2024 (pU32 r ++ pCycle s) s
  if (r < 4 || r == 5) && inRun s then addCause 7 s else s

/-- The step roots fall back to FOSC, all four together (Table 12-3, R185, R854). -/
def toFosc (s : State) : State :=
  if s.clk.fosc then s
  else
    let s := { s with clk := { s.clk with fosc := true, want := false, due := false, back := false, newRef := none } }
    let s := endRamp s
    let s := (s.setO 0x3460 1 100000).setO 0x2020 9 (putBit (s.o 0x2020 9) 3 true)
    let s := ((s.setO 0x3460 5 0).setO 0x3460 3 0).setO 0x3460 4 0
    freqChanged s

/-- The DRAM root has no clock: the stacks enter self-refresh and their gates answer DOMAIN_OFF (Table 12-3). -/
def dramRootLost (s : State) : State :=
  (List.range 4).foldl (fun s q =>
    if domState s (13 + q) = 2 then
      { s with pwr := { s.pwr with dom := s.pwr.dom.set (13 + q) 4, gate := s.pwr.gate.set (13 + q) 2 } }
    else s) s

/-- The Ilyan root has no clock: ports enter LOST (Table 12-3). -/
def ilyanRootLost (s : State) : State :=
  (List.range 8).foldl (fun s p =>
    match (s.port p).state with
    | .training | .linked | .exchange | .refused => loseP p s
    | _ => s) s

/-- A PLL has failed (R706, Table 12-3): with its reference present and the PLL running. -/
def failPll (p : Nat) (s : State) : State :=
  if refMissing s (pllRef s p) || !(pllState s p == 1 || pllState s p == 2) then s
  else
    let s := raise 0x2023 (pU32 p) (setPll p 4 s)
    if p < 4 then toFosc s
    else if p = 4 then forceRoot 4 (ilyanRootLost s)
    else if p = 5 then forceRoot 5 (dramRootLost s)
    else s

/-- PLL_FAILED. -/
def execPllFailed (p : Nat) (s : State) : Host.Outcome State Fault Refusal := onUnit p 8 (failPll p s)

/-- CLOCK_FORCED (R707, R708): the switcher changes root r without edges of the old clock. A step root that changes with
no change of source in progress goes to its fallback. -/
def execClockForced (r : Nat) (s : State) : Host.Outcome State Fault Refusal :=
  onUnit r 9 (
    if s.pwr.mode = 0 || (s.pwr.mode == 1 && r != 8) then s
    else
      let s := if r < 4 && s.clk.newRef.isNone then toFosc s else s
      forceRoot r s)

/-! ### Forced gating (R717, R718, R800) -/

/-- Table 12-5: whether a block's bit may not be set now. -/
def gateBusy (s : State) (b : Nat) : Bool :=
  if b < 8 then (s.host.dma.getD b {}).enable
  else match b with
  | 8 => s.o 0x5800 1 != 0 && s.lan.ctx.acq != .disarmed
  | 9 => traceOn s
  | 10 => (List.range 8).any (fun k => (s.tif.ports.getD k {}).running != 0)
  | _ => false

/-- Close a block's gate; `ended` says that a pending access ended with DOMAIN_OFF after 4 µs (R717). -/
def closeGate (ended : Bool) (b : Nat) (s : State) : State :=
  let s := if ended then s.incO 0x2030 3 1 else s
  let s := { s with host := { s.host with gating := s.host.gating.filter (fun x => x.1 != b) } }
  let s := s.setO 0x2030 2 (putBit (s.o 0x2030 2) b true)
  let s := if b = 11 then stopCores 14 2 s else s
  raise 0x2031 (pU32 b ++ pU32 ended.toNat) s

/-- R717: gate a block by force. The gate of a DMA engine that still carries out a descriptor waits for it. -/
def gateBlock (b : Nat) (s : State) : State :=
  if b < 8 && (s.host.dma.getD b {}).running then
    { s with host := { s.host with gating := s.host.gating.filter (fun x => x.1 != b) ++ [(b, s.now)] } }
  else closeGate false b s

/-- GATE_FORCED: 2030h:01. -/
def execGateForced (r : Req) (v : WVal) (s : State) : Host.Outcome State Fault Refusal :=
  .next (serveWrite r 0x2030 1 v (fun _ s =>
    let m := natLE v.data
    let old := s.o 0x2030 1
    let new := (ones 12 m).filter (fun b => !(bitOf old b))
    if 2 ^ 12 ≤ m then (.badValue, s)
    else if new.any (gateBusy s) then (.busy, s)
    else
      let s := (s.setO 0x2030 1 m).setO 0x2030 2 (s.o 0x2030 2 &&& m)
      let s := { s with host := { s.host with gating := s.host.gating.filter (fun x => bitOf m x.1) } }
      let s := new.foldl (fun s b => gateBlock b s) s
      -- cores 1 to 3 run again: CORE_SYNC for each enabled one
      let back := if bitOf old 11 && !(bitOf m 11) then s.o 0x8820 1 &&& 14 else 0
      (.ok, coreStart back s)) s)

/-! ### CKOUT (R719-R721) -/

/-- CKOUT_WRITE: 2050h:01-03. The output frequency that results is checked while CKOUT is enabled; a disabled CKOUT is held low. -/
def execCkoutWrite (r : Req) (sub : Nat) (v : WVal) (s : State) : Host.Outcome State Fault Refusal :=
  .next (serveWrite r 0x2050 sub v (fun _ s =>
    let n := natBE v.data
    let src := if sub = 1 then n else s.o 0x2050 1
    let dv := if sub = 2 then n else s.o 0x2050 2
    let on := if sub = 3 then n == 1 else s.o 0x2050 3 == 1
    if 15 < src || dv = 0 || 65536 < dv then (.badValue, s)
    else if ckoutOver s src dv on then (.badValue, s)
    else
      let s := s.setO 0x2050 sub n
      (.ok, s.emit (.ckout (if on then src else 2 ^ 8) dv))) s)

end Sys2Proof.Machine
end

