-- ==== Sys2Proof/Machine/RunCtl.lean ====
section
/-! DEFINITION. Run control (chapter 2) and the commands that start, end and replay runs (chapters 2 and 6). -/

namespace Sys2Proof.Machine

/-! ### Accepting a command (R156, R859) -/

/-- R156: the answer to a command that the run state does not accept. -/
def notAccepted (s : State) : Status := if inRun s then .busy else .badValue

/-- Ports that the applied image uses for exchange. -/
def enabledPorts (s : State) : List Nat := (List.range 8).filter (fun p => (s.port p).enabled)

/-- R116: whether the segment lengths of an enabled variant fail to add up to its L. -/
def segmentsWrong (s : State) : Bool :=
  (List.range 4).any (fun v => bitOf (s.o 0x3430 1) v && (
    let ix := 0x3500 + 16 * v
    (((List.range (s.o ix 1)).map (fun g => 16 * fld (s.o ix (0x10 + g)) 16 11)).sum) != s.o 0x3430 (6 + v)))

/-- Checks 3 to 6 of Table 2-12. -/
def runChecks36 (s : State) : Option Status :=
  let st (p : Nat) := (s.port p).state
  let bad := (enabledPorts s).filter (fun p => st p == .off || st p == .refused || st p == .lost)
  if segmentsWrong s then some .badValue
  else if s.o 0x3400 6 = 1 && patternMisplaced s then some .badValue
  else if !(enabledPorts s).isEmpty && s.o 0x2010 1 == 1 then some .badValue
  else if bad.any (fun p => domState s (portDomain p) != 2) then some .domainOff
  else if !bad.isEmpty then some .badValue
  else none

/-- Checks 8 to 10 of Table 2-12. -/
def runChecks810 (s : State) : Option Status :=
  let st (p : Nat) := (s.port p).state
  if (match s.img.applying with | some a => a.stopped && a.hdr.typ == 1 | none => false) then some .busy
  else if (enabledPorts s).any (fun p => st p == .training || st p == .linked) then some .busy
  else if s.o 0x2400 3 ≤ toSigned 32 (s.o 0x2400 1) then some .busy
  else none

/-- Table 2-12 from check 3 on. The state differs from the given one only when the frame of check 7 was taken, or could
not be, and then in 6840h:04 and event 6841h alone (R567, R858); `moving` says that sweeps run already, so that no first frame is due. -/
def runAdmit (moving : Bool) (s : State) : Option Status × State :=
  match runChecks36 s with
  | some st => (some st, s)
  | none =>
    let (ok, t) := if s.o 0x3400 6 = 1 && !moving && s.run.frame.isNone then takeFrame s else (true, s)
    if !ok then (some .badValue, { t with tif := { t.tif with patPos := s.tif.patPos } })
    else match runChecks810 t with
    | some st => (some st, s)
    | none => (none, t)

/-- R385: entry to RUN, PLAYBACK or IN-CIRCUIT starts a calibration of the selected channels. An armed Lantern that has evaluated
no cycle yet waits for it; one that stores already goes on (log 30). -/
def calibrateEntry (s : State) : State :=
  if s.o 0x5800 1 = 0 then s
  else
    let s := s.setO 0x5800 4 1
    modCtx (fun c => { c with acq := if c.acq = .filling && c.prevX.isEmpty then .calibrating else c.acq }) s

/-- Enter RUNNING; a change of the mode is an entry into RUN, PLAYBACK or IN-CIRCUIT (R385). -/
def enterRunning (s : State) : State :=
  let t := setRunState .running s
  if t.pwr.mode = s.pwr.mode then t else calibrateEntry t

/-- R862: a module that runs no sweep begins a run in a state: kept records are discarded (R434), a restore of R176 is
carried out, STOP ends. -/
def startRun (st : RunState) (s : State) : State :=
  let s := parkRestore (discardKept s)
  let s := if s.run.phase = .commit then { s with run := { s.run with holdStop := false } }
    else { newWindow s with run := { s.run with
      holdStop := false, phase := .starting, released := false, blocks := 0, heldNow := 0, timedOut := false, lowSince := none } }
  if st = .running then enterRunning s else setRunState st s

/-! ### Stops -/

/-- What follows every stop at once: host accesses that waited (R299), swaps that a run kept waiting (R51), a disarm (R359), a ramp
back (R704). -/
def enterStop (s : State) : State :=
  let s := settleSwaps (hostStep s)
  let s := if s.lan.disarmDue then disarmNow s else s
  if s.clk.back then
    startRamp 2 (s.o 0x3460 2) { s with clk := { s.clk with back := false, ramp := none } }
  else s

/-- A stop takes effect (R164, R177, R178). -/
def stopWith (causes : List Nat) (st : RunState) (s : State) : State := enterStop (recordStop causes st s)

/-- R163, R173, R750: a stop of a cause is accepted; it falls at a later C8. -/
def postStop (cause : Nat) (s : State) : State :=
  match s.run.state with
  | .running | .stepping =>
    let s := addCause cause s
    { s with run := { s.run with before := s.run.state, state := .stopping } }
  | .stopping | .recovering => addCause cause s
  | .waiting => { addCause cause s with run := { (addCause cause s).run with before := .stopping } }
  | _ => s

/-- R51: a swap whose scope was sealed by the end of a replay waits for the first commit after it. -/
def lateSwaps (s : State) : State :=
  let d := if s.dswap.joined then dictReady s && exsReady s else dictReady s
  let x := if s.xswap.joined then dictReady s && exsReady s else exsReady s
  { s with dswap := { s.dswap with late := s.dswap.late || d }, xswap := { s.xswap with late := s.xswap.late || x } }

/-- What ends with a replay, however it ends (R431, R443, R863): the pattern reader stands behind the frame of the last cycle that
ran again, no frame is held for the next cycle, and an unfinished host restore reads idle in 4900h:04. -/
def endReplay (s : State) : State :=
  if !(replaying s) then s
  else
    let k := s.run.cycle.toNat - 1
    let s := match (logRec s k).bind (fun x => x.pat) with
      | some off => { s with tif := { s.tif with patPos := afterFrame s off } }
      | none => s
    let s := { s with run := { s.run with replay := none, frame := none }, lan := { s.lan with rewriting := false } }
    lateSwaps (if s.o 0x4900 4 = 1 || s.o 0x4900 4 = 2 then s.setO 0x4900 4 0 else s)

/-- R170-R172: the step clock stops at once. Slots of a superframe that is not complete do not leave. -/
def abortNow (s : State) : State :=
  let whole := !(s.run.phase == .sweep || (s.run.phase == .commit && !s.run.settled))
  let s := dropTx (endReplay s)
  let s := { s with
    run := { s.run with phase := .idle, todo := [], holdRecovery := false, failed := [], released := false, thermal := 0
                        heldNow := 0, timedOut := false, lowSince := none, ruleBits := 0, dmBits := 0 }
    lan := { s.lan with rewriting := false } }
  stopWith [10] (if whole then .stopped else .faulted) s

/-! ### The initial state of a design (R128, R174, R175) -/

/-- Governing vectors of the first cycles (R128, R130). -/
def initialGov (s : State) : State :=
  let g0 := governed s (s.o 0x3420 2)
  { s with run := { s.run with gov := if guardLead s = 2 then [g0, governed s (s.o 0x3420 3)] else [g0] } }

/-- What DESIGN_RESET and STATE_LOAD share: cycle 0 is next, Lantern is disarmed, BI is captured (R475), nothing of a
former run remains, a swap whose scope is sealed takes effect (R51), and one checkpoint of cycle 0 replaces every older one (R850). -/
def initialState (cause : Nat) (s : State) : State :=
  let s := newWindow (dropTx (disarmNow (clearSweep s)))
  let s := { s with
    lanes := { s.lanes with first := true, fbLatch := false, deposits := [] }
    lan := { s.lan with held := [], ctx := { s.lan.ctx with feedback := false }, rewriting := false }
    ex := { s.ex with guards := [], lfDone := false }
    mem := { s.mem with farDel := [], farWrites := [], farWait := [], farCount := [], farReads := [] }
    rew := { s.rew with log := [], restart := none, deferred := false, dueCause := none, uncopyDue := false
                        cmdDue := false, logHold := false, parkRestore := false }
    run := { s.run with
      cycle := 0, frame := none, phase := .idle, todo := [], e := 0, blocks := 0, settled := false, failed := []
      causes := [], stepLeft := 0, runTo := none, holdStop := true, holdRecovery := false, thermal := 0
      heldNow := 0, timedOut := false, lowSince := none, released := false, replay := none } }
  let s := captureBi (initialGov s)
  let s := (carrySwaps false (setRunState .stopped s)).2
  enterStop (checkpointFresh cause 5 s)

/-- The state planes, banks and far region of the reset copy (R174, R527). -/
def loadResetCopy (s : State) : State :=
  let s := loadPlanes s.img.planes (fun _ => true) s
  let s := { s with mem := { s.mem with bank := s.img.banks, bankErr := [], fixed := [] } }
  let us := regionUnits s 4
  let s := dramZero us { s with mem := { s.mem with farErr := [] } }
  s.img.far.foldl (fun s p => s.setFar p.1 p.2) s

/-- DESIGN_RESET, once accepted. -/
def designResetNow (s : State) : State := initialState 2 (loadResetCopy s)

/-! ### Commands of 3400h:01 -/

/-- A write of a run command code. -/
def runCommand (r : Req) (code : Nat) (h : WriteFn) (s : State) : Host.Outcome State Fault Refusal :=
  .next (serveWrite r 0x3400 1 { ty := 2, data := [BitVec.ofNat 8 code] } h s)

/-- RUN (R157, R165, R862). -/
def execRun (r : Req) (s : State) : Host.Outcome State Fault Refusal :=
  runCommand r 1 (fun _ s =>
    match s.run.state with
    | .running => (.ok, s)
    | .stepping | .stopping =>
      match runAdmit true s with
      | (some st, s) => (st, s)
      | (none, s) =>
        let s := { s with run := { s.run with
          stepLeft := 0, causes := s.run.causes.filter (fun c => !(c == 1 || c == 2 || c == 6)) } }
        (.ok, enterRunning s)
    | .stopped | .parked =>
      match runAdmit false s with
      | (some st, s) => (st, s)
      | (none, s) => (.ok, startRun .running s)
    | _ => (notAccepted s, s)) s

/-- STOP (R163, R173). -/
def execStop (r : Req) (s : State) : Host.Outcome State Fault Refusal :=
  runCommand r 2 (fun _ s =>
    match s.run.state with
    | .stopped => (.ok, s)
    | .running | .stepping | .recovering => (.ok, postStop 1 s)
    | _ => (notAccepted s, s)) s

/-- STEP (R166). -/
def execStep (r : Req) (s : State) : Host.Outcome State Fault Refusal :=
  runCommand r 3 (fun _ s =>
    match s.run.state with
    | .stopped | .parked =>
      match runAdmit false s with
      | (some st, s) => (st, s)
      | (none, s) => (.ok, startRun .stepping { s with run := { s.run with stepLeft := s.o 0x3400 2 } })
    | _ => (notAccepted s, s)) s

/-- RUN_TO (R159, R166). -/
def execRunTo (r : Req) (s : State) : Host.Outcome State Fault Refusal :=
  runCommand r 4 (fun _ s =>
    let goal := s.o 0x3400 3
    let start (moving : Bool) (s : State) : Status × State :=
      if goal ≤ s.run.cycle.toNat then (.badValue, s)
      else match runAdmit moving s with
      | (some st, s) => (st, s)
      | (none, s) =>
        let s := { s with run := { s.run with runTo := some goal } }
        (.ok, if moving then s else startRun .running s)
    match s.run.state with
    | .stopped | .parked => start false s
    | .running => start true s
    | _ => (notAccepted s, s)) s

/-- ABORT (R157, R170-R172). -/
def execAbort (r : Req) (s : State) : Host.Outcome State Fault Refusal :=
  runCommand r 5 (fun _ s =>
    match s.run.state with
    | .noDesign => (.badValue, s)
    | .stopped | .faulted | .parked => (.ok, s)
    | _ => (.ok, abortNow s)) s

/-- DESIGN_RESET (R174, R527). -/
def execDesignReset (r : Req) (s : State) : Host.Outcome State Fault Refusal :=
  runCommand r 6 (fun _ s =>
    match s.run.state with
    | .stopped | .faulted | .parked =>
      if s.img.hasFar && s.o 0x6100 6 == 0 then (.badValue, s) else (.ok, designResetNow s)
    | _ => (notAccepted s, s)) s

/-- PARK (R176). -/
def execPark (r : Req) (s : State) : Host.Outcome State Fault Refusal :=
  runCommand r 7 (fun _ s =>
    match s.run.state with
    | .stopped =>
      let s := dropTx (targetOff (checkpointNow 4 s))
      (.ok, setRunState .parked { s with run := { s.run with
        phase := .idle, released := false, heldNow := 0, timedOut := false, lowSince := none } })
    | _ => (notAccepted s, s)) s

/-- STATE_LOAD (R175). -/
def execStateLoad (r : Req) (s : State) : Host.Outcome State Fault Refusal :=
  runCommand r 8 (fun _ s =>
    match s.run.state with
    | .stopped | .faulted =>
      (.ok, initialState 3 (mapLanes (fun _ x => { x with nxt := x.cur, badNxt := x.badCur }) s))
    | _ => (notAccepted s, s)) s

/-! ### Restore and replay (R427-R435) -/

/-- R440: one recovery is complete: 4C00h, and 4881h, with its duration from the halt of its own failure (R443). -/
def recoveryEvent (r : Replay) (s : State) (x : Nat × Nat × Nat × Nat) : State :=
  let us := (s.now - x.2.2.2) / 1000
  let s := ((s.incO 0x4C00 1 1).setO 0x4C00 2 (laneAddr x.1 0 0)).setO 0x4C00 3 x.2.1
  let s := (s.setO 0x4C00 4 r.first).setO 0x4C00 5 x.2.2.1
  let s := ((s.setO 0x4C00 6 (us % 2 ^ 32)).setO 0x4C00 7 1).setO 0x4C00 8 0
  raise 0x4881 (pU32 (laneAddr x.1 0 0) ++ pU32 (laneAddr x.1 x.2.1 0) ++ pU64 r.first ++ pU64 x.2.2.1 ++ pU32 us) s

/-- End of a host-commanded restore: no frame is taken for the next cycle (R858); 4881h for recoveries inside it (R443), 4841h, then
the stop of cause 1, with every other cause that has fallen since; the highest gives the state (R177). -/
def hostRestoreDone (r : Replay) (s : State) : State :=
  let us := (s.now - r.since) / 1000
  let causes := nsAdd 1 s.run.causes
  let s := lateSwaps { s with run := { s.run with replay := none, holdRecovery := false, frame := none } }
  let s := captureBi (s.setO 0x4900 4 3)
  let s := r.recovered.foldl (recoveryEvent r) s
  let s := raise 0x4841 (pU64 r.first ++ pU64 r.last ++ pU32 us) s
  stopWith causes (causeState (causes.foldl max 0)) s

/-- R433: the refusals of a restore of checkpoint c with replay to t. -/
def restoreRefusal (s : State) : Option Status :=
  let c := s.o 0x4900 1
  let t := s.o 0x4900 2
  let last := windowLast s
  if inRun s then some .busy
  else if !((completeCkpts s).any (fun k => k.cycle == c)) then some .badValue
  else if t + 1 < c || (c ≤ t && (last == noCycle || decide (last < t))) then some .badValue
  else if (enabledPorts s).any (fun p => decide ((s.port p).state ≠ .exchange)) then some .busy
  else none

/-- RESTORE: 4900h:03 = 1. With t = c − 1 it replays nothing and ends at once. -/
def execRestore (r : Req) (s : State) : Host.Outcome State Fault Refusal :=
  .next (serveWrite r 0x4900 3 { ty := 2, data := [1] } (fun _ s =>
    match restoreRefusal s with
    | some st => (st, s)
    | none =>
      match (completeCkpts s).find? (fun k => k.cycle == s.o 0x4900 1) with
      | none => (.badValue, s)
      | some k =>
        let t := s.o 0x4900 2
        let rp : Replay := { host := true, first := k.cycle, last := t, since := s.now, resume := .stopped
                             recovered := [], finished := false }
        let s := setRunState .recovering { s with rew := { s.rew with parkRestore := false } }
        let s := startReplay k rp false (s.setO 0x4900 4 1)
        if t < k.cycle then
          (.ok, hostRestoreDone { rp with finished := true } { s with run := { s.run with phase := .idle } })
        else (.ok, s)) s)

/-- REPLAY_DONE: the last cycle of a host-commanded replay has been re-executed (R431, R433). The end of a recovery's
replay is CLUSTER_RECOVERED. -/
def execReplayDone (s : State) : Host.Outcome State Fault Refusal :=
  .next (match s.run.replay with
    | some r => if r.host && r.finished then hostRestoreDone r s else s
    | none => s)

/-! ### Spare recovery (R436-R446) -/

/-- R444: a recovery ends without success: one stop of every cause that has fallen, in FAULTED. Cause 9
is among them also beside a cause 7, 8 or 9 that kept the module from recovering (R177, log 26). -/
def recoveryStop (s : State) : State :=
  let causes := nsAdd 9 s.run.causes
  let s := endReplay s
  let s := { s with run := { s.run with holdRecovery := false, failed := [] }, lan := { s.lan with rewriting := false } }
  stopWith causes .faulted s

/-- R445, R762: the suspect bits of failed clusters. -/
def suspectFailed (failed : List (Nat × Nat)) (s : State) : State :=
  failed.foldl (fun s x => suspectCluster (if x.2 = 16 then 17 * x.1 + 16 else physCluster s x.1 x.2) s) s

/-- Substitute the spares of the failed clusters in turn; the first that cannot be substituted ends the recovery. The
answer says whether all were. -/
def substituteAll (f : Nat) : List (Nat × Nat) → State → Bool × State
  | [], s => (true, s)
  | (t, c) :: rest, s =>
    match recoveryRefusal s t c f with
    | some reason => (false, recoveryFailed reason t c f s)
    | none => substituteAll f rest (substitute t c s)

/-- SPARE_SUBSTITUTED (R437-R440, R443): the spare takes the failed cluster's work, and the replay is set up. -/
def execSpareSubstituted (s : State) : Host.Outcome State Fault Refusal :=
  .next (if s.run.state != .recovering || !s.run.holdRecovery || s.run.failed.isEmpty then s
  else
    let f := s.run.cycle.toNat - 1
    let known := s.run.failed
    let s := finishDrain (drainMicros s) s
    let failed := s.run.failed
    let s := suspectFailed (failed.filter (fun x => !(known.contains x))) s
    match substituteAll f failed s with
    | (false, s) => recoveryStop s
    | (true, s) =>
      let gone := failed.map (fun x => (x.1, x.2, f, s.run.haltAt))
      let old : Option Ckpt := match s.run.replay with
        | some r => (completeCkpts s).find? (fun k => k.cycle == r.first)
        | none => none
      match old.or (newestAt f s) with
      | none => recoveryStop (failed.foldl (fun s x => reportFailed 7 x.1 x.2 f s) s)
      | some k =>
        let rp : Replay := match s.run.replay with
          | some r => { r with last := if r.host then r.last else max r.last f, recovered := r.recovered ++ gone }
          | none => { host := false, first := k.cycle, last := f, since := s.run.haltAt, resume := s.run.before
                      recovered := gone, finished := false }
        startReplay k rp (!rp.host) s)

/-- Step 4 of Lantern's recovery sequence: 5301h for each segment that replay has written, one that closed in it
included, and records return to REPLAYED = 0. -/
def rewriteDone (first last : Nat) (s : State) : State :=
  let writing := (s.lan.ctx.segs.filter (fun p => p.2.state == 1 && segKind s p.1 != 2)).map (fun p => p.1)
  let segs := nsOf (s.lan.rewound ++ writing)
  let s := { s with lan := { s.lan with rewriting := false, rewound := [] } }
  segs.foldl (fun s g => raise 0x5301 (pU32 g ++ pU64 first ++ pU64 last) s) s

/-- CLUSTER_RECOVERED (R440-R442): replay has re-executed the failing cycle; the run continues, or stops when a stop fell
at that commit or during recovery. -/
def execClusterRecovered (s : State) : Host.Outcome State Fault Refusal :=
  .next (match s.run.replay with
    | none => s
    | some r =>
      if r.host || !r.finished then s
      else
        let s := rewriteDone r.first r.last s
        let s := lateSwaps { s with run := { s.run with replay := none, holdRecovery := false } }
        let s := r.recovered.foldl (recoveryEvent r) s
        if s.run.causes.isEmpty then
          if r.resume = .stepping then setRunState .stepping s else enterRunning s
        else stopWith s.run.causes (causeState (s.run.causes.foldl max 0)) s)

end Sys2Proof.Machine
end

