-- ==== Sys2Proof/Machine/Images.lean ====
section
/-! DEFINITION. Design images (chapter 8): staging, the checks of Table 8-12, the application of FULL, REGION and SHADOW
images, the owner token, and the commands of these rows. -/

namespace Sys2Proof.Machine

/-! ### Keys of the image -/

/-- Octets of a text, one per character. -/
def ascii (t : String) : List Octet := t.toList.map (fun c => BitVec.ofNat 8 c.toNat)

/-- A key derived from the customer key (chapter 8, Keys). -/
def deriveKey (k : BitVec 256) (info : String) : BitVec 256 :=
  Config.hkdfSha256 (List.replicate 32 0) (octetsBE 32 k.toNat) (ascii info)

/-- K_IMG of the key that the last boot took. -/
def kImg (s : State) : BitVec 256 := deriveKey (s.keys.customer.getD 0) "CH9 image"

/-! ### Staging (R524-R526, R530, R548) -/

/-- The range that a check or an application in progress holds. -/
def lockedRange (s : State) : Option (Nat × Nat) :=
  match s.img.check, s.img.applying with
  | some c, _ => some (c.off, c.len)
  | none, some a => some (a.off, a.len)
  | none, none => none

/-- Whether octet a lies in a range. -/
def inRange (r : Nat × Nat) (a : Nat) : Bool := decide (r.1 ≤ a ∧ a < r.1 + r.2)

/-- A host write of octets into STAGING from octet `off`: octets of a locked range are discarded (R524); a write into a
held range ends 6100h:06 (R525); a write into a checked range ends the result (R530). -/
def stageWrite (off : Nat) (data : List Octet) (s : State) : State :=
  let as_ := (List.range data.length).map (fun i => off + i)
  let lost := match lockedRange s with | some r => as_.any (inRange r) | none => false
  let s := if lost then s.incO 0x6100 7 1 else s
  let r := lockedRange s
  let keep (a : Nat) : Bool := match r with | some r => !(inRange r a) | none => true
  let us := regionUnits s 5
  let s := (data.zipIdx).foldl (fun s x =>
    if keep (off + x.2) then s.dramSet (regionPlace us (off + x.2)) x.1 else s) s
  let hit := as_.filter keep
  let s := if s.img.held.any (fun h => hit.any (inRange h)) then s.setO 0x6100 6 0 else s
  let again := match s.img.passed with | some p => hit.any (inRange p) | none => false
  let s := if again then { s with img := { s.img with passed := none } } else s
  if hit.isEmpty || s.o 0x6100 4 = 2 || s.o 0x6100 4 = 4 || (s.o 0x6100 4 = 3 && !again) then s else s.setO 0x6100 4 1

/-- Length check of a write of image octets at the position: inside the staged length and the region. -/
def stageTooLong (d : List Octet) (n : Nat) (s : State) : Bool :=
  blockTooLong 0x6100 3 (min (s.o 0x6100 2) (regionSize s 5 - s.o 0x6100 1)) d n s

/-- Write image octets at the position. -/
def stageData (n : Nat) (d : List Octet) (s : State) : Status × State :=
  let pos := selOf s n 0x6100 8
  if (lockedRange s).isSome then (.busy, s)
  else (.ok, stageWrite (s.o 0x6100 1 + pos) d s)

/-- STAGE_DATA_WRITE: 6100h:03. -/
def execStageDataWrite (r : Req) (w : WForm) (s : State) : Host.Outcome State Fault Refusal :=
  .next (serveForm r 0x6100 3 3 w stageTooLong (fun d n s => stageData n d s) (fun d n s => stageData n d s) s)

/-! ### Reading the stream (Tables 8-8 to 8-10) -/

/-- A frame as it stands in the stream. -/
structure RawFrame where
  header : List Octet
  cipher : List Octet
  tag : List Octet
  deriving DecidableEq, Repr

/-- Field of a frame header: octets [a, a + n). -/
def frameField (f : RawFrame) (a n : Nat) : Nat := natBE ((f.header.drop a).take n)
/-- KIND. -/
def frameKind (f : RawFrame) : Nat := frameField f 2 1
/-- FRAME_NUMBER. -/
def frameNumber (f : RawFrame) : Nat := frameField f 4 4

/-- Cut the first frame off a stream. -/
def cutFrame (l : List Octet) : Option (RawFrame × List Octet) :=
  let h := l.take 32
  let n := natBE ((h.drop 8).take 4)
  if h.length < 32 || natBE (h.take 2) != 0x6A3D || 16777216 < n || l.length < 48 + n then none
  else some ({ header := h, cipher := (l.drop 32).take n, tag := (l.drop (32 + n)).take 16 }, l.drop (48 + n))

/-- Cut a stream into frames; the flag says that it is frames to its end. -/
def cutFrames : Nat → List Octet → List RawFrame × Bool
  | 0, l => ([], l.isEmpty)
  | fuel + 1, l =>
    if l.isEmpty then ([], true)
    else match cutFrame l with
    | none => ([], false)
    | some (f, rest) =>
      let (fs, ok) := cutFrames fuel rest
      (f :: fs, ok)

/-- Frame i of n that breaks the order or the kinds of a stream. -/
def frameMisplaced (n i : Nat) (f : RawFrame) : Bool :=
  let k := frameKind f
  k == 0 || decide (0x0E < k) || frameNumber f != i || ((k == 1) != (i == 0)) || ((k == 0x0E) != (i + 1 == n))

/-- Decrypt a frame (chapter 8, Design images). -/
def openFrame (key : BitVec 256) (nonce : List Octet) (f : RawFrame) : Option (List Octet) :=
  Config.aesGcmOpen key (nonce ++ (f.header.drop 4).take 4) f.header f.cipher f.tag

/-- The frame with its plaintext. -/
def plainFrame (f : RawFrame) (p : List Octet) : ImgFrame :=
  { kind := frameKind f, number := frameNumber f, target := frameField f 12 4, first := frameField f 16 4
    count := frameField f 20 4, extra := frameField f 24 8, payload := p }

/-- The image header. -/
def parseHdr (p : List Octet) : ImgHdr :=
  let v := natBE p
  let lat := fld v 3952 96
  { typ := fld v 4078 2, prot := bitOf v 4077, swapAtEnd := bitOf v 4076, tapsPublic := bitOf v 4075
    portMask := fld v 4064 8, level := fld v 4048 16, latencies := (List.range 12).map (fun i => fld lat (8 * (11 - i)) 8)
    tag := fld v 3888 64, baseTag := fld v 3824 64, ownerTag := fld v 3696 128, frameCount := fld v 3664 32
    quadMask := fld v 3660 4, tileMask := fld v 3532 128, dictMask := fld v 3404 128, exchMask := fld v 3276 128
    bankMask := fld v 2764 512, required := fld v 716 2048 }

/-! ### The sequencer setup (R857) -/

/-- Objects of a SEQ payload, with their values. -/
def seqObjects (p : List Octet) : List (Nat × Nat × Nat) :=
  let at_ (a n : Nat) : Nat := natBE ((p.drop a).take n)
  [(0x3430, 1, at_ 0 1)] ++ (List.range 8).map (fun i => (0x3430, 2 + i, at_ (1 + 2 * i) 2)) ++
  (List.range 4).flatMap (fun n =>
    (0x3500 + 16 * n, 1, at_ (17 + 257 * n) 1) ::
    (List.range 64).map (fun i => (0x3500 + 16 * n, 0x10 + i, at_ (18 + 257 * n + 4 * i) 4))) ++
  [(0x3420, 2, natLE ((p.drop 1045).take 8)), (0x3420, 3, natLE ((p.drop 1053).take 8))]

/-- R110: start address and length of a variant. -/
def variantFits (st l : Nat) : Bool :=
  st % 16 == 0 && decide (st ≤ 2032) && l % 16 == 0 && decide (64 ≤ l ∧ l ≤ 2048) && decide (st + l ≤ 2048)

/-- R111, R196: the objects of 3430h taken together; `get` gives a sub-index's value. -/
def variantsOk (get : Nat → Nat) : Bool :=
  bitOf (get 1) 0 && decide (get 1 < 16) &&
  (List.range 4).all (fun v => !(bitOf (get 1) v) || variantFits (get (2 + v)) (get (6 + v)))

/-- R195: a segment descriptor that a write may store. -/
def segmentOk (d : Nat) : Bool :=
  fld d 27 5 == 0 && fld d 8 8 == 0 && fld d 6 1 == 0 && decide (1 ≤ fld d 16 11 ∧ fld d 16 11 ≤ 128)

/-- R194, R195: segment count and descriptors of a variant; descriptors past the count are 0. -/
def segTableOk (c : Nat) (seg : Nat → Nat) : Bool :=
  decide (1 ≤ c) && decide (c ≤ 64) && (List.range 64).all (fun i => if i < c then segmentOk (seg i) else seg i == 0)

/-- R857. -/
def seqOk (p : List Octet) : Bool :=
  let os := seqObjects p
  let get (idx sub : Nat) : Nat :=
    match os.find? (fun x => x.1 == idx && x.2.1 == sub) with
    | some x => x.2.2
    | none => 0
  p.length == 1061 && variantsOk (get 0x3430) &&
  (List.range 4).all (fun n =>
    let ix := 0x3500 + 16 * n
    segTableOk (get ix 1) (fun i => get ix (0x10 + i)))

/-! ### Payloads -/

/-- Elements of n octets. -/
def elems (n : Nat) (p : List Octet) : List Nat := (chunks n p).map natBE

/-- TARGET names a logical lane. -/
def laneTarget (a : Nat) : Bool := decide (a < 2 ^ 18) && decide (laCluster a < 16)
/-- TARGET names a logical cluster. -/
def clusterTarget (a : Nat) : Bool := laneTarget a && laLane a == 0
/-- TARGET names a tile. -/
def tileTarget (a : Nat) : Bool := (addrTile a).isSome

/-- R276, R277 for the ten octets of a PORTS frame. -/
def portsOk (p : List Octet) : Bool :=
  let vs := (p.take 9).map (fun o => o.toNat)
  let bound := vs.filter (fun v => v != 255)
  p.length == 10 && bound.all (fun v => decide (v < 16)) && (nsOf bound).length == bound.length

/-- Whether a decrypted payload has the content that Table 8-9 gives its kind. `farWords` bounds FAR frames. -/
def payloadOk (farWords : Nat) (f : ImgFrame) : Bool :=
  let n := f.payload.length
  match f.kind with
  | 0x01 => n == 512
  | 0x02 => n == 16 * f.count && decide (f.first + f.count ≤ 2048) && laneTarget f.target
  | 0x03 => n == 8 * f.count && decide (16 ≤ f.first ∧ f.first + f.count ≤ 1024) && clusterTarget f.target
  | 0x04 => n == 384 * f.count && decide (f.first + f.count ≤ 2048) && tileTarget f.target &&
      (elems 384 f.payload).all (fun v => exsValid (BitVec.ofNat 3072 v))
  | 0x05 => n == 8 * f.count && decide (f.first < 2 ^ 18) && decide (f.first % 65536 + f.count ≤ 65536) && tileTarget f.target
  | 0x06 => n == 48 && laneTarget f.target
  | 0x07 => portsOk f.payload && tileTarget f.target
  | 0x08 => n == 8 * f.count && decide (f.extra + f.count ≤ farWords)
  | 0x09 => seqOk f.payload
  | 0x0A => if f.first = 2 ^ 32 - 1 then n == 8193
      else n == 4 * f.count && decide (f.first + f.count ≤ 4194304) && (elems 4 f.payload).all (fun e => fld e 22 8 == 0)
  | 0x0B => n == 2 * f.count && decide (f.first + f.count ≤ 4194304) &&
      (elems 2 f.payload).all (fun e => fld e 10 4 == 0 && (bitOf e 14 || fld e 0 10 == 0))
  | 0x0C => n == 4 * f.count && decide (f.first + f.count ≤ 1024)
  | 0x0D => n == 8 && f.payload.all (fun o => decide (o.toNat ≤ 1))
  | 0x0E => n == 36
  | _ => false

/-- Ports that a SYSTEM frame enables for exchange. -/
def systemPorts (p : List Octet) : Nat := ofOnes ((List.range 8).filter (fun i => p.getD i 0 != 0))

/-! ### The checks (Table 8-12) -/

/-- A failed check: reason, first failing frame, failing unit. -/
abbrev Reject := Nat × Nat × Nat

/-- Whether some frame of a list satisfies p: the number of the first. -/
def firstFrame (fs : List ImgFrame) (p : ImgFrame → Bool) : Option Nat := (fs.find? p).map (fun f => f.number)

/-- First failing frame of a FULL image without exactly one SYSTEM and one SEQ frame: the first that repeats its kind,
or the header where one is missing. -/
def extraFrame (sys seq : List ImgFrame) : Nat :=
  match sys, seq with
  | _ :: a :: _, _ :: b :: _ => min a.number b.number
  | _ :: a :: _, _ => a.number
  | _, _ :: b :: _ => b.number
  | _, _ => 0

/-- FORMAT and AUTH: the frames in plaintext with the header. -/
def openImage (s : State) (l : List Octet) : Except Reject (ImgHdr × List ImgFrame) :=
  let (raw, ok) := cutFrames (l.length / 48 + 1) l
  -- a frame that cannot be cut follows those that can
  let frames := raw.length + (!ok).toNat
  match (raw.zipIdx).find? (fun x => frameMisplaced frames x.2 x.1) with
  | some x => .error (1, x.2, 0)
  | none =>
    if !ok || raw.length < 2 then .error (1, raw.length, 0)
    else
      let key := kImg s
      let nonce := match raw.head? with | some f => (f.header.drop 24).take 8 | none => []
      let opened := raw.map (fun f => (f, openFrame key nonce f))
      match (opened.zipIdx).find? (fun x => x.1.2.isNone) with
      | some x => .error (2, x.2, 0)
      | none =>
        let fs := opened.map (fun x => plainFrame x.1 (x.2.getD []))
        let last := raw.length - 1
        let trailer := match fs.getLast? with | some f => f.payload | none => []
        let digest := Config.hmacSha256 (octetsBE 32 key.toNat) ((raw.dropLast).flatMap (fun f => f.tag))
        if trailer.length == 36 && natBE (trailer.drop 4) != digest.toNat then .error (2, last, 0)
        else
          let hp := match fs.head? with | some f => f.payload | none => []
          let h := parseHdr hp
          let farWords := h.latencies.getD 11 0 * 2 ^ 27
          let full := h.typ == 0
          if hp.length != 512 || fld (natBE hp) 4080 16 != 1 || h.typ == 3 then .error (1, 0, 0)
          else match firstFrame fs (fun f => !(payloadOk farWords f)) with
          | some n => .error (1, n, 0)
          | none =>
            let sys := fs.filter (fun f => f.kind == 0x0D)
            let seq := fs.filter (fun f => f.kind == 0x09)
            if h.frameCount != raw.length then .error (1, 0, 0)
            else if natBE (trailer.take 4) != raw.length then .error (1, last, 0)
            else if full && (sys.length != 1 || seq.length != 1) then .error (1, extraFrame sys seq, 0)
            else if full && sys.any (fun f => systemPorts f.payload != h.portMask) then
              .error (1, (firstFrame fs (fun f => f.kind == 0x0D)).getD 0, 0)
            else .ok (h, fs)

/-- Guard lead of a port mask (R124). -/
def leadOf (mask : Nat) : Nat := if mask = 0 then 1 else 2

/-- LEVEL. -/
def levelOk (s : State) (h : ImgHdr) : Bool :=
  let want := [s.o 0x3000 6, s.o 0x3000 7, s.o 0x3800 3, s.o 0x3800 4, s.o 0x3800 5, s.o 0x3800 6 / 256, s.o 0x3800 6 % 256,
    s.o 0x4000 4, s.o 0x4000 5, s.o 0x5000 9]
  h.level == s.o 0x3000 8 && h.latencies.take 10 == want && h.latencies.getD 10 0 == leadOf h.portMask

/-- BASE. -/
def baseOk (s : State) (h : ImgHdr) : Bool :=
  h.typ == 0 || (s.img.full && h.baseTag == s.o 0x3830 4 && h.prot == s.img.prot && h.ownerTag == s.img.ownerTag &&
    h.portMask == s.img.portMask && h.latencies.getD 10 0 == guardLead s)

/-- Tile of a probe or injection index (R325, R477). -/
def indexTile (i : Nat) : Nat := i / 16 % 128

/-- Whether a frame lies in the scope that Table 8-9 gives its kind. A PROBE frame that gives the capture selection names no index
(R334). -/
def inScope (h : ImgHdr) (f : ImgFrame) : Bool :=
  let region := regionTiles h
  let t := laTile f.target
  match f.kind with
  | 0x01 | 0x0E => true
  | 0x02 | 0x06 | 0x07 => region.contains t
  | 0x03 => bitOf h.dictMask t
  | 0x04 => bitOf h.exchMask t
  | 0x05 => bitOf h.bankMask (4 * t + f.first / 65536)
  | 0x0A => f.first == 2 ^ 32 - 1 || (List.range f.count).all (fun i => region.contains (indexTile (f.first + i)))
  | 0x0B => (List.range f.count).all (fun i => region.contains (indexTile (f.first + i)))
  | _ => false

/-- Unit at fault of a frame outside its scope: the tile of its target, or of its first index outside the region. -/
def scopeUnit (h : ImgHdr) (f : ImgFrame) : Nat :=
  if f.number = 0 then 0
  else if f.kind = 0x0A || f.kind = 0x0B then
    let i := ((List.range f.count).map (fun i => indexTile (f.first + i))).find? (fun t => !((regionTiles h).contains t))
    laneAddr (i.getD (indexTile f.first)) 0 0
  else laneAddr (laTile f.target) 0 0

/-- REGION: the number of the first frame at fault. -/
def scopeFault (h : ImgHdr) (fs : List ImgFrame) : Option Nat :=
  if h.typ = 0 then none
  else
    let region := regionTiles h
    let inside (m : Nat) : Bool := (ones 128 m).all (fun t => region.contains t)
    let masks := if h.typ = 2 then h.tileMask != 0 || h.quadMask != 0 || h.bankMask != 0
      else !(inside h.dictMask) || !(inside h.exchMask) || (ones 512 h.bankMask).any (fun b => !(region.contains (b / 4)))
    if masks then some 0
    else firstFrame fs (fun f => !(inScope h f) || (h.typ == 2 && !(f.kind == 1 || f.kind == 3 || f.kind == 4 || f.kind == 0x0E)))

/-- Clusters that the health map gives as unusable (R764). -/
def deadCluster (s : State) (pc : Nat) : Bool :=
  s.test.bootDead.contains pc

/-- Whether a logical cluster 16·tile + c has a usable carrier (R765). -/
def carrierOk (s : State) (lc : Nat) : Bool :=
  !(deadCluster s (17 * (lc / 16) + lc % 16)) || (Sparse.get0 s.rew.spares (lc / 16) == 1 + lc % 16)

/-- Whether a bank 4·tile + b is unusable (R766). -/
def deadBank (s : State) (b : Nat) : Bool := s.test.booted.banks.contains b || s.test.booted.switches.contains (b / 4)

/-- R769: two failed lanes in one direction of a port. -/
def deadPort (s : State) (p : Nat) : Bool :=
  [0, 1].any (fun d => decide (2 ≤ (failedLanesOf s p d).length))

/-- HEALTH: frame and unit at fault. -/
def healthFault (s : State) (h : ImgHdr) (fs : List ImgFrame) : Option (Nat × Nat) :=
  match (ones 2048 h.required).find? (fun lc => !(carrierOk s lc)) with
  | some lc => some (0, laneAddr (lc / 16) (lc % 16) 0)
  | none =>
    let bad (f : ImgFrame) : Bool :=
      let t := laTile f.target
      (f.kind == 5 && deadBank s (4 * t + f.first / 65536)) ||
      (f.kind == 7 && (List.range 8).any (fun p => f.payload.getD p 0 != 255 && deadBank s (4 * t + p / 2)))
    match fs.find? bad with
    | some f => some (f.number, laneAddr (laTile f.target) 0 0)
    | none => if (ones 8 h.portMask).any (deadPort s) then some (0, 0) else none

/-- All checks of Table 8-12 on a staged range. -/
def checkImage (s : State) (off len : Nat) : Except Reject (ImgHdr × List ImgFrame) :=
  match openImage s (regionRead s 5 off len) with
  | .error e => .error e
  | .ok (h, fs) =>
    if !(levelOk s h) then .error (3, 0, 0)
    else if !(baseOk s h) then .error (4, 0, 0)
    else match scopeFault h fs with
    | some n => .error (5, n, match fs.find? (fun f => f.number == n) with | some f => scopeUnit h f | none => 0)
    | none =>
      match healthFault s h fs with
      | some (n, u) => .error (6, n, u)
      | none => if regionSize s 4 < 2 ^ 30 * h.latencies.getD 11 0 then .error (7, 0, 0) else .ok (h, fs)

/-! ### Writing the design -/

/-- Set to reset values: instruction words and planes of the selected tiles, the dictionaries, schedules and banks selected. -/
def wipeContents (tile dict exch bank : Nat → Bool) (s : State) : State :=
  let s := mapLanes (fun p r => if tile (p / 64 / 17) then { r with cur := 0, nxt := 0, badCur := 0, badNxt := 0 } else r) s
  let l := s.lanes
  let im (k : Nat) : Bool := !(tile (k / 2048 / 64 / 17))
  let di (k : Nat) : Bool := !(dict (k / 2048 / 17))
  { s with
    lanes := { l with
      im := l.im.filter (fun p => im p.1), imErr := l.imErr.filter (fun p => im p.1)
      imFixed := l.imFixed.filter im, imHost := l.imHost.filter im
      dict := l.dict.filter (fun p => di p.1), dictErr := l.dictErr.filter (fun p => di p.1)
      dictHost := l.dictHost.filter di }
    ex := { s.ex with
      bank := s.ex.bank.filter (fun p => !(exch (p.1 / 4096))), bankErr := s.ex.bankErr.filter (fun p => !(exch (p.1 / 48 / 4096))) }
    mem := { s.mem with
      bank := s.mem.bank.filter (fun p => !(bank (p.1 / 65536))), bankErr := s.mem.bankErr.filter (fun p => !(bank (p.1 / 65536)))
      fixed := s.mem.fixed.filter (fun x => !(bank (x.1 / 65536))) } }

/-- Set to reset values: the probe map and the input map of the selected tiles, and the probe bits held there (R327). -/
def wipeMaps (tile : Nat → Bool) (s : State) : State :=
  { s with
    lan := { s.lan with
      probeMap := s.lan.probeMap.filter (fun p => !(tile (indexTile p.1))), held := s.lan.held.filter (fun i => !(tile (indexTile i))) }
    tif := { s.tif with imap := s.tif.imap.filter (fun p => !(tile (indexTile p.1))) } }

/-- Store entries into a dictionary bank. -/
def putDict (pc bank first : Nat) (vs : List Nat) (s : State) : State :=
  (vs.zipIdx).foldl (fun s x => s.setDict pc bank (first + x.2) (BitVec.ofNat 64 x.1)) s

/-- Store entries into an exchange bank. Reserved bits are not stored (R12). -/
def putExs (t bank first : Nat) (vs : List Nat) (s : State) : State :=
  (vs.zipIdx).foldl (fun s x => s.setExs t bank (first + x.2) (BitVec.ofNat 3072 (x.1 % 2 ^ 3024))) s

/-- Logical lane of a TARGET. -/
def targetLane (a : Nat) : Nat := (16 * laTile a + laCluster a) * 64 + laLane a

/-- Write one frame of a FULL or REGION image (Table 8-9): into both banks, and into the reset copy (R527). The reserved bits
[6:0] of an instruction word and [7:4] of octet 9 of PORTS are not stored (R12). -/
def writeFrame (f : ImgFrame) (s : State) : State :=
  let t := laTile f.target
  match f.kind with
  | 0x02 => ((elems 16 f.payload).zipIdx).foldl (fun s x =>
      s.setIm (physLane s (targetLane f.target)) (f.first + x.2) (BitVec.ofNat 128 (x.1 / 128 * 128))) s
  | 0x03 =>
    let pc := physCluster s t (laCluster f.target)
    putDict pc 1 f.first (elems 8 f.payload) (putDict pc 0 f.first (elems 8 f.payload) s)
  | 0x04 => putExs t 1 f.first (elems 384 f.payload) (putExs t 0 f.first (elems 384 f.payload) s)
  | 0x05 => ((elems 8 f.payload).zipIdx).foldl (fun s x =>
      let k := bankKey (4 * t + f.first / 65536) (f.first % 65536 + x.2)
      let s := s.setBank k (BitVec.ofNat 64 x.1)
      { s with img := { s.img with banks := Sparse.set (fun _ => 0) s.img.banks k (BitVec.ofNat 64 x.1) } }) s
  | 0x06 =>
    let ll := targetLane f.target
    let v := BitVec.ofNat 384 (natLE f.payload)
    let p := physLane s ll
    let s := s.setLane p { s.lane p with cur := v, nxt := v }
    { s with img := { s.img with planes := Sparse.set (fun _ => 0) s.img.planes ll v } }
  | 0x07 =>
    let own := (List.range 9).foldl (fun m p =>
      let v := (f.payload.getD p 255).toNat
      Sparse.set0 m (9 * t + p) (if v = 255 then 0 else v + 1)) s.mem.owner
    { s with mem := { s.mem with owner := own, compat := Sparse.set0 s.mem.compat t ((f.payload.getD 9 0).toNat % 16) } }
  | 0x08 => { s with img := { s.img with
      hasFar := true
      far := ((elems 8 f.payload).zipIdx).foldl (fun m x =>
        Sparse.set (fun _ => 0) m (f.extra + x.2) (BitVec.ofNat 64 x.1)) s.img.far } }
  | 0x09 => (seqObjects f.payload).foldl (fun s x => s.setO x.1 x.2.1 x.2.2) s
  | 0x0A =>
    if f.first = 2 ^ 32 - 1 then (s.setO 0x5100 8 (natLE (f.payload.take 8192))).setO 0x5100 0x0B (f.payload.getD 8192 0).toNat
    else { s with lan := { s.lan with probeMap := ((elems 4 f.payload).zipIdx).foldl (fun m x =>
      Sparse.set0 m (f.first + x.2) x.1) s.lan.probeMap } }
  | 0x0B =>
    let m := ((elems 2 f.payload).zipIdx).foldl (fun m x => Sparse.set0 m (f.first + x.2) x.1) s.tif.imap
    { s with tif := { s.tif with imap := m } }
  | 0x0C =>
    let m := ((elems 4 f.payload).zipIdx).foldl (fun m x =>
      Sparse.set0 m (f.first + x.2) (fld x.1 31 1 * 2 ^ 31 + fld x.1 0 22)) s.tif.omap
    { s with tif := { s.tif with omap := m } }
  | _ => s

/-- Write every frame in order. -/
def writeFrames (fs : List ImgFrame) (s : State) : State :=
  (fs.foldl (fun s f => writeFrame f s) s).setO 0x6200 5 fs.length

/-- R412: the copy demand of every tile. -/
def copyDemand (s : State) : State :=
  let mem := (s.lanes.im.filter (fun p => wMem p.2)).filterMap (fun p =>
    (logicalCluster s (p.1 / 2048 / 64)).map (fun c => (c, p.1 % 2048)))
  let d (t : Nat) : Nat := (List.range 4).foldl (fun m v =>
    if !(bitOf (s.o 0x3430 1) v) then m
    else
      let lo := s.o 0x3430 (2 + v)
      let hi := lo + s.o 0x3430 (6 + v)
      let n := ((List.range 8).map (fun p => match portOwner s t p with
        | some c => (nsOf ((mem.filter (fun x => x.1 == 16 * t + c && decide (lo ≤ x.2 ∧ x.2 < hi))).map (fun x => x.2))).length
        | none => 0)).sum
      max m n) 0
  { s with rew := { s.rew with demand := allTiles.foldl (fun m t => Sparse.set0 m t (d t)) [] } }

/-- The physical clusters of the selected tiles. -/
def tileClusters (dict : Nat → Bool) : List Nat := (List.range 2176).filter (fun pc => dict (pc / 17))

/-- Seal the shadow banks of the selected tiles. -/
def sealBanks (dict exch : Nat → Bool) (s : State) : State :=
  { s with
    lanes := { s.lanes with dictSealed := (tileClusters dict).foldl (fun l pc => nsAdd pc l) s.lanes.dictSealed }
    ex := { s.ex with sealed := (allTiles.filter exch).foldl (fun l t => nsAdd t l) s.ex.sealed } }

/-- The applied-image objects of 6300h, and the held set (R525, R526). -/
def imageApplied (h : ImgHdr) (off len : Nat) (s : State) : State :=
  let s := (s.setO 0x6300 1 h.tag).incO 0x6300 4 1
  let s := s.setO 0x6300 3 (if h.typ = 0 then h.required else s.o 0x6300 3 ||| h.required)
  let s := if h.typ = 0 then (s.setO 0x6300 2 h.prot.toNat).setO 0x6100 6 1 else s
  let held := if h.typ = 0 then [(off, len)] else s.img.held ++ [(off, len)]
  let s := { s with img := { s.img with held, touched := false } }
  (s.setO 0x6100 5 (min 255 held.length)).setO 0x6100 4 5

/-- 6201h. -/
def appliedEvent (h : ImgHdr) (s : State) : State := raise 0x6201 (pU32 h.typ ++ pU64 h.tag ++ pCycle s) s

/-- Write into the stores, and the same into what the held image set gives the instruction tier (R734). -/
def withTier (f : State → State) (s : State) : State :=
  let t := f { s with lanes := { s.lanes with im := s.img.tierIm, dict := s.img.tierDict }, ex := { s.ex with bank := s.img.tierEx } }
  let s := f s
  { s with img := { s.img with tierIm := t.lanes.im, tierDict := t.lanes.dict, tierEx := t.ex.bank } }

/-- R531. -/
def applyFull (h : ImgHdr) (fs : List ImgFrame) (off len : Nat) (s : State) : State :=
  let all (_ : Nat) : Bool := true
  let s := withdrawAll 10 (targetOff s)
  let s := wipeMaps all (wipeContents all all all all s)
  let s := { s with
    tif := { s.tif with omap := [], bo := 0 }
    img := { s.img with planes := [], banks := [], far := [], hasFar := false, tierIm := [], tierDict := [], tierEx := [] } }
  let s := (flashFollow s).setO 0x5100 8 0
  let s := sealBanks all all (withTier (writeFrames fs) s)
  let ports := (s.ex.ports.zipIdx).map (fun x : Port × Nat => ({ x.1 with enabled := bitOf h.portMask x.2 } : Port))
  let s := { s with
    img := { s.img with prot := h.prot, ownerTag := h.ownerTag, portMask := h.portMask, full := true }
    ex := { s.ex with ports }
    acp := { s.acp with sessions := s.acp.sessions.map (fun x : Session => ({ x with token := false } : Session)) } }
  let s := (s.setO 0x3830 4 h.tag).setO 0x3420 1 (leadOf h.portMask)
  let s := copyDemand (imageApplied h off len s)
  let s := dropPrivate (lanternImage h.tapsPublic s)
  let s := setLifted none (s.setO 0x8810 3 0)
  let s := { s with run := { s.run with state := if s.run.state = .noDesign then .stopped else s.run.state } }
  let s := designResetNow s
  appliedEvent h (identityChanged s)

/-- R534: write the region. -/
def writeRegion (h : ImgHdr) (fs : List ImgFrame) (s : State) : State :=
  let region := regionTiles h
  let tile (t : Nat) : Bool := region.contains t
  let bank (b : Nat) : Bool := bitOf h.bankMask b
  let s := { s with img := { s.img with
    planes := s.img.planes.filter (fun p => !(tile (p.1 / 1024)))
    banks := s.img.banks.filter (fun p => !(bank (p.1 / 65536))) } }
  let s := withTier (fun s =>
    writeFrames fs (wipeMaps tile (wipeContents tile (bitOf h.dictMask) (bitOf h.exchMask) bank s))) s
  let s := sealBanks (bitOf h.dictMask) (bitOf h.exchMask) s
  copyDemand (dropPrivate (lanternImage h.tapsPublic s))

/-- R539: the region a .. r is released. -/
def releaseRegion (a : Applying) (r : Nat) (s : State) : State :=
  let s := { s with img := { s.img with applying := none } }
  let s := imageApplied a.hdr a.off a.len ((s.setO 0x6200 6 0).setO 0x6200 7 r)
  let s := raise 0x6203 (pU64 a.from_ ++ pU64 r ++ octetsLE 16 (ofOnes (regionTiles a.hdr))) s
  appliedEvent a.hdr s

/-- R540: a SHADOW image starts: the shadow banks it names hold reset values and are unsealed. -/
def startShadow (h : ImgHdr) (s : State) : State :=
  let pcs := tileClusters (bitOf h.dictMask)
  let ts := ones 128 h.exchMask
  let gone (pc bank k : Nat) : Bool := k / 1024 == 2 * pc + bank
  let dictKeep (k : Nat) : Bool := !(pcs.any (fun pc => gone pc (1 - dictActive s pc) k))
  let exKeep (k : Nat) : Bool := !(ts.any (fun t => k / 2048 == 2 * t + (1 - exsActive s t)))
  { s with
    lanes := { s.lanes with
      dict := s.lanes.dict.filter (fun p => dictKeep p.1), dictErr := s.lanes.dictErr.filter (fun p => dictKeep p.1)
      dictHost := s.lanes.dictHost.filter dictKeep
      dictSealed := s.lanes.dictSealed.filter (fun pc => !(pcs.contains pc)) }
    ex := { s.ex with
      bank := s.ex.bank.filter (fun p => exKeep p.1), bankErr := s.ex.bankErr.filter (fun p => exKeep (p.1 / 48))
      sealed := s.ex.sealed.filter (fun t => !(ts.contains t)) } }

/-- R540, R542: the frames of a SHADOW image are written, its banks sealed, and the swap requested. As with every image, Lantern is
disarmed and takes the image's public flag (R334, R335). -/
def finishShadow (a : Applying) (s : State) : State :=
  let h := a.hdr
  let s := withTier (fun s => a.frames.foldl (fun s f => match f.kind with
    | 0x03 =>
      let pc := physCluster s (laTile f.target) (laCluster f.target)
      putDict pc (1 - dictActive s pc) f.first (elems 8 f.payload) s
    | 0x04 => putExs (laTile f.target) (1 - exsActive s (laTile f.target)) f.first (elems 384 f.payload) s
    | _ => s) s) s
  let s := sealBanks (bitOf h.dictMask) (bitOf h.exchMask) (s.setO 0x6200 5 a.frames.length)
  let s := { s with img := { s.img with applying := none } }
  let s := dropPrivate (lanternImage h.tapsPublic (imageApplied h a.off a.len s))
  let s := appliedEvent h s
  if h.swapAtEnd then (requestSwap 2 h.dictMask h.exchMask s).2 else settleSwaps s

/-- Application of a checked image begins (R529). -/
def beginApply (h : ImgHdr) (fs : List ImgFrame) (off len : Nat) (s : State) : State :=
  let a : Applying := { hdr := h, frames := fs, off, len, inReset := false, from_ := 0, stopped := false }
  let s := s.setO 0x6100 4 4
  match h.typ with
  | 0 => applyFull h fs off len s
  | 1 =>
    if inRun s then { s with img := { s.img with applying := some a } }
    else
      let s := withdrawAll 10 s
      ({ s with img := { s.img with applying := some { a with inReset := true, stopped := true, from_ := s.run.cycle.toNat } } }).setO 0x6200 6 1
  | _ => startShadow h { s with img := { s.img with applying := some a } }

/-! ### Commands of 6200h:01 -/

/-- The image header, when the header frame can be opened (Table 8-11 asks for the type before the checks). -/
def peekHeader (s : State) (off len : Nat) : Option (ImgHdr × List RawFrame) :=
  let l := regionRead s 5 off len
  match cutFrame l with
  | none => none
  | some (f, _) =>
    match openFrame (kImg s) ((f.header.drop 24).take 8) f with
    | none => none
    | some p => if p.length = 512 then some (parseHdr p, (cutFrames (len / 48 + 1) l).1) else none

/-- Whether a pending swap's scope holds a tile of a region. -/
def swapTouches (s : State) (region : List Nat) : Bool :=
  (s.dswap.waiting && region.any (bitOf s.dswap.scope)) || (s.xswap.waiting && region.any (bitOf s.xswap.scope))

/-- Table 8-11, in order. -/
def imageRefusal (s : State) : Option Status :=
  let off := s.o 0x6100 1
  let len := s.o 0x6100 2
  if len = 0 || regionSize s 5 < off + len then some .badLength
  else if s.img.check.isSome || s.img.applying.isSome || s.mem.applying || s.run.state == .recovering then some .busy
  else match peekHeader s off len with
  | none => none
  | some (h, raw) =>
    if h.typ = 0 && inRun s then some .runLocked
    else if h.typ = 1 && !(enabledPorts s).isEmpty && !(s.run.state == .stopped || s.run.state == .parked) then some .runLocked
    else if h.typ = 1 && raw.any (fun f => frameKind f == 0x0A) && s.lan.ctx.acq != .disarmed then some .busy
    else if h.typ = 1 && swapTouches s (regionTiles h) then some .busy
    else none

/-- R565: a check reads STAGING, and an application also writes the instruction tiers, the Local Bit Stores, the banks, the far region and
the reset copy in RESERVE (R527). -/
def imageBlocked (apply : Bool) (s : State) : Bool :=
  let need := regionDomains s 5 ++ (if apply then [5, 6, 7, 8, 9, 10, 11, 12] ++ regionDomains s 4 ++ regionDomains s 7 else [])
  need.any (gateShut s)

/-- Start a check; the answer comes when it ends. -/
def startCheck (r : Req) (apply : Bool) (n : Nat) (s : State) : Option Status × State :=
  match (if imageBlocked apply s then some Status.domainOff else imageRefusal s) with
  | some st => (some st, s)
  | none =>
    let c : ImgCheck := { off := s.o 0x6100 1, len := s.o 0x6100 2, apply, session := n, seq := r.seq
                          before := s.o 0x6100 4, kept := s.img.passed }
    (none, { s.setO 0x6100 4 2 with img := { s.img with check := some c, passed := none } })

/-- IMAGE_CHECK: 6200h:01 = 1. -/
def execImageCheck (r : Req) (s : State) : Host.Outcome State Fault Refusal :=
  .next (serveWriteLater r 0x6200 1 { ty := 2, data := [1] } (startCheck r false) s)

/-- IMAGE_CHECK_APPLY: 6200h:01 = 2. -/
def execImageCheckApply (r : Req) (s : State) : Host.Outcome State Fault Refusal :=
  .next (serveWriteLater r 0x6200 1 { ty := 2, data := [2] } (startCheck r true) s)

/-- IMAGE_DISCARD: 6200h:01 = 3 (R530). -/
def execImageDiscard (r : Req) (s : State) : Host.Outcome State Fault Refusal :=
  .next (serveWrite r 0x6200 1 { ty := 2, data := [3] } (fun _ s =>
    if (lockedRange s).isSome then (.busy, s)
    else (.ok, { s.setO 0x6100 4 0 with img := { s.img with passed := none } })) s)

/-- IMAGE_CHECK_DONE (R528, R529): the checks end. The refusals of Table 8-11 were judged when the command was taken, so a run that
began since does not keep a FULL image from being applied. -/
def execImageCheckDone (s : State) : Host.Outcome State Fault Refusal :=
  .next (match s.img.check with
    | none => s
    | some c =>
      let s := wakeDepth { s with img := { s.img with check := none } }
      match checkImage s c.off c.len with
      | .error (reason, frame, unit) =>
        let s := (((s.setO 0x6100 4 6).setO 0x6200 2 reason).setO 0x6200 3 frame).setO 0x6200 4 unit
        let s := answerWaiting c.session c.seq .rejectedImage s
        chooseDepth (raise 0x6202 (pU8 reason ++ pU32 frame ++ pU32 unit) s)
      | .ok (h, fs) =>
        let s := answerWaiting c.session c.seq .ok s
        let s := { s.setO 0x6100 4 3 with img := { s.img with passed := some (c.off, c.len) } }
        chooseDepth (if c.apply then beginApply h fs c.off c.len s else s))

/-- R535: the deposits that waited for the STATE frames of a region applied while no sweeps run. -/
def regionDeposits (a : Applying) (s : State) : State :=
  let mine (d : Deposit) : Bool := (regionTiles a.hdr).contains (laTile d.lane)
  let ds := s.lanes.deposits.filter mine
  let s := { s with lanes := { s.lanes with deposits := s.lanes.deposits.filter (fun d => !(mine d)) } }
  ds.foldl (fun s d => depositAt s.run.cycle.toNat s d) s

/-- REGION_WRITE_DONE: the last frame of a region in reset is written (R534-R537); while no sweeps run the region is
released at once, and a swap that waited for a bank sealed here takes effect (R51); otherwise the release comes at the next C0. -/
def execRegionWriteDone (s : State) : Host.Outcome State Fault Refusal :=
  .next (match s.img.applying with
    | none => s
    | some a =>
      if a.hdr.typ != 1 || !a.inReset || a.written then s
      else
        let s := writeRegion a.hdr a.frames (wakeDepth s)
        if a.stopped then
          let (swapped, s) := carrySwaps false { regionDeposits a s with img := { s.img with applying := none } }
          let s := checkpointNow 3 s
          chooseDepth (releaseRegion a s.run.cycle.toNat (if swapped then withdrawOlder 4 s else s))
        else { s with img := { s.img with applying := some { a with written := true } } })

/-- SHADOW_APPLY_DONE (R540, R542). -/
def execShadowApplyDone (s : State) : Host.Outcome State Fault Refusal :=
  .next (match s.img.applying with
    | none => s
    | some a => if a.hdr.typ = 2 then finishShadow a s else s)

/-! ### The owner token (R544-R547) -/

/-- OWNER_TOKEN: 6400h:01. -/
def execOwnerToken (r : Req) (v : WVal) (s : State) : Host.Outcome State Fault Refusal :=
  .next (serveWrite r 0x6400 1 v (fun n s =>
    let tag := (Config.hmacSha256 (octetsBE 32 (kImg s).toNat) v.data).toNat >>> 128
    if s.img.full && tag == s.img.ownerTag then
      (.ok, raise 0x6401 (pU32 n) (s.modSess n (fun x => { x with token := true })))
    else
      let s := (s.modSess n (fun x => { x with tokenFails := x.tokenFails + 1 })).incO 0x6400 3 1
      (.authFail, raise 0x6402 (pU32 n ++ pU32 (s.o 0x6400 3)) s)) s
    |> fun s => match s.sess r.session with
      | some x => if 8 ≤ x.tokenFails then closeSession r.session 2 s else s
      | none => s)

end Sys2Proof.Machine
end

