-- ==== Sys2Proof/Machine/Sweep.lean ====
section
/-! DEFINITION. The sequencer (chapter 2): sweep steps, the commit window, wait blocks, SYNC, and what a failure does at
the end of a commit. -/

namespace Sys2Proof.Machine

/-! ### Hold causes (Table 2-5) -/

/-- R413, R414: whether COPY_ON_WRITE is active. -/
def copyHold (s : State) : Bool :=
  s.rew.farCopies != 0 ||
  s.rew.storeUsed.any (fun p => decide (2048 - p.2 < min 2048 (Sparse.get0 s.rew.demand p.1)))

/-- Hold causes active now, as 3440h:02 shows them. -/
def activeHolds (s : State) : Nat :=
  holdBits (farPending s) (copyHold s) s.rew.deferred s.rew.logHold s.lan.capHold (traceStall s)
    (decide (1 ≤ s.run.thermal)) (clockChanging s) s.run.holdStop s.run.holdRecovery

/-- C8 and W8: SYNC is released when no hold cause is active (R140), and held again when one has arisen since (R137, R180). STATUS
goes out on every port in EXCHANGE (Table 3-8). -/
def releaseSync (s : State) : State :=
  let h := activeHolds s
  sendStatus { s with run := { s.run with heldNow := h, released := h == 0 } }

/-- The work that the surroundings let finish by C8 or W8: DRAM, copy stores, trace sink, capture buffer. -/
def finishHolds (env : CommitEnv) (s : State) : State :=
  let s := if env.logAccepted then { s with rew := { s.rew with logHold := false } } else s
  let s := if env.captureRoom then { s with lan := { s.lan with capHold := false } } else s
  let s := if env.copiesDrained then
      { s with rew := { s.rew with storeUsed := [], farCopies := 0 }, mem := { s.mem with farWait := [] } }
    else s
  let s := farDeliverAll env.farReady env.farFailed s
  let s := if env.farReady then retireFar (fun _ => true) s else s
  traceDrain env.traceRoom s

/-! ### Sweeps (R110-R122, R141) -/

/-- Steps of variant v that the governing vector g executes, in order (R114-R118). -/
def executedSteps (s : State) (v g : Nat) : List Nat :=
  let ix := 0x3500 + 16 * v
  ((List.range (s.o ix 1)).foldl (fun (acc : Nat × List Nat) i =>
    let d := s.o ix (0x10 + i)
    let n := 16 * fld d 16 11
    let run := bitOf d 7 || bitOf g (fld d 0 6)
    (acc.1 + n, if run then acc.2 ++ (List.range n).map (fun j => acc.1 + j) else acc.2)) (0, [])).2

/-- What record k gives the replay of cycle k (R33, R429); in a host-commanded replay the feedback bit follows it (R427). -/
def loadRecord (k : Nat) (r : Replay) (s : State) : State :=
  match logRec s k with
  | none => s
  | some x =>
    let s := { s with
      lanes := { s.lanes with first := x.first, fbLatch := x.fb }
      run := { s.run with frame := x.pat.map (fun off => (off, framePayload s off)) } }
    if r.host then modCtx (fun c => { c with feedback := x.fb }) s else s

/-- Step 0 of the next sweep (R141): the commit window is measured, the next vector governs, with a fallback counted (R132), blocks
become uncopied (R401), the target goes live (R482), and the lockstep faults of the cycle start anew (R268). The duration of 3442h
runs from the first low sample of the commit window, and the spacing of R285 does not reach back into the sweep before (log 80). -/
def beginSweep (s : State) : State :=
  let s := if s.run.timedOut then
      let us := (s.now - s.run.lowSince.getD s.now) / 1000
      raise 0x3442 (pU32 us ++ pCycle s) s
    else s
  let s := if s.run.phase = .commit then
      let n := 16 + 16 * s.run.blocks
      let s := (s.setO 0x3410 3 n).maxO 0x3450 3 n
      if s.run.blocks = 0 then s else s.incO 0x3450 1 1
    else s
  let s := if s.run.state = .waiting then setRunState s.run.before s else s
  let s := if s.rew.uncopyDue then uncopyAll s else s
  let (g, v) := s.run.gov.headD (0, 0)
  let s := if fellBack s g then s.incO 0x3410 5 1 else s
  let s := { s with run := { s.run with
    gov := s.run.gov.drop 1, vec := g, variant := v, base := s.o 0x3430 (2 + v), todo := executedSteps s v g, e := 0
    phase := .sweep, guardAcc := 0, cycleFrc := s.now, settled := false, released := false, syncLevel := true
    lowSince := none, timedOut := false } }
  let s := clearBnd { s with
    ex := { s.ex with lfDone := false }
    mem := { s.mem with last := [], touched := [], farCount := [], farReads := [], farDel := [] }
    lan := { s.lan with taps := 0, tapFirst := [] } }
  let k := s.run.cycle.toNat
  match s.run.replay with
  | some r => loadRecord k r s
  | none =>
    let s := if s.o 0x3400 6 = 2 && (s.run.state == .running || s.run.state == .stepping) then
        flashFollow { s with tif := { s.tif with live := true } } else s
    openRecord k s.lanes.fbLatch s.lanes.first s

/-- One executed step of a sweep at schedule step `step` (R112). -/
def sweepStep (step : Nat) (upsets : List Upset) (s : State) : State :=
  let e := s.run.e
  let word := s.run.base + step
  let s := deliverDue e (flashFollow (placeUpsets upsets s))
  let imps := s.ex.imp2
  let res1 := s.lanes.res1
  let res2 := s.lanes.res2
  let (r, s) := exchangeStep e word s
  let (o, s) := lanesStep step word (injected s step) imps s
  let s := memoryStep e o.strobes res1 res2 s
  let s := { s with lan := { s.lan with
    taps := s.lan.taps ||| o.taps
    tapFirst := (ones 64 o.taps).foldl (fun m t => if Sparse.get0 m t = 0 then Sparse.set0 m t (1 + step) else m) s.lan.tapFirst } }
  let s := holdProbes step o.probes s
  let s := loadInputs o.exports r { s with tif := { s.tif with executed := s.tif.executed ++ [step] } }
  let s := drainStores s.run.cycle.toNat e (pushSweepSlots e r.ilyan s)
  { s with run := { s.run with todo := s.run.todo.drop 1, e := e + 1 } }

/-- SWEEP_STEP: the next executed step of the sweep; then the host accesses that the following step allows (R292, R301). -/
def execSweepStep (upsets : List Upset) (s : State) : Host.Outcome State Fault Refusal :=
  .next (match s.run.phase, s.run.todo with
    | .sweep, step :: _ => hostStep (sweepStep step upsets s)
    | _, _ => s)

/-! ### The commit window (Table 2-4) -/

/-- Record that a checkpoint of a cause is due at this commit; the highest cause stands (R850). -/
def dueCkpt (cause : Nat) (s : State) : State :=
  { s with rew := { s.rew with dueCause := some (match s.rew.dueCause with | some c => max c cause | none => cause) } }

/-- R532, R536: at C0 a checked REGION image puts its region into reset, and a written region is released in this commit. A replayed
commit does neither. -/
def regionC0 (k : Nat) (s : State) : State :=
  match s.img.applying with
  | some a =>
    if a.hdr.typ != 1 || a.stopped || replaying s then s
    else if !a.inReset then
      let s := withdrawAll 10 s
      ({ s with img := { s.img with applying := some { a with inReset := true, from_ := k + 1 } } }).setO 0x6200 6 1
    else if a.written then dueCkpt 3 (s.setO 0x6200 6 2) else s
  | none => s

/-- C0. A replay opens no record that the log still holds (R434). In a replay for the host, 1014 reads the bit latched here until the
sweep of the next cycle loads that cycle's record (R103, log 80). -/
def commitC0 (k : Nat) (s : State) : State :=
  let s := s.setO 0x3420 4 s.run.guardAcc
  let s := exchangeC0 (lanesC0 (endDeliveries s))
  let s := { s with mem := { s.mem with hostHeld := false } }
  let s := regionC0 k (imWriteBack s)
  let s := if replaying s then s
    else match carrySwaps true s with
    | (true, s) => withdrawAll 4 (dueCkpt 1 s)
    | (false, s) => s
  let fb := s.lan.ctx.feedback
  let s := { s with lanes := { s.lanes with fbLatch := fb } }
  let opens := match s.run.replay with | some r => decide (r.last ≤ k) && (logRec s (k + 1)).isNone | none => true
  if opens then openRecord (k + 1) fb false s else s

/-- With a guard lead of 2, the combined vector of cycle k - 1 governs cycle k + 1, when it is complete (R127). -/
def takeCombined (k : Nat) (s : State) : State :=
  if !s.run.gov.isEmpty || k = 0 then s
  else match guardOf s (k - 1) with
  | some g =>
    if g.doneAt.isSome then
      { s with run := { s.run with gov := [governed s g.vec] } }
    else s
  | none => s

/-- C1: the local vector governs the next cycle (lead 1), or goes to the sideband (lead 2); far deliveries; the CYC record
of the cycle. -/
def commitC1 (k : Nat) (env : CommitEnv) (s : State) : State :=
  let vec := s.run.guardAcc
  let s := if guardLead s = 2 then takeCombined k (ownGuard k vec s)
    else
      let s := s.setO 0x3420 5 vec
      { s with run := { s.run with gov := [governed s vec] } }
  let s := farDeliverAll env.farReady env.farFailed s
  traceCycle k s.run.variant s.run.vec (fellBack s s.run.vec) s

/-- The queued deposits and host writes of a commit. -/
def queuedNow (k : Nat) (s : State) : State :=
  let ds := s.lanes.deposits.filter (fun d => !(depositWaits s d))
  let s := { s with lanes := { s.lanes with deposits := s.lanes.deposits.filter (depositWaits s) } }
  hostSlots (k + 1) true (ds.foldl (depositAt (k + 1)) s)

/-- C2, and the host slots of C0-C15. In replay, record k + 1 is applied, and the queued entries at the last replayed commit
alone (R429, R431). -/
def commitC2 (k : Nat) (s : State) : State :=
  match s.run.replay with
  | none => queuedNow k s
  | some r =>
    let s := match logRec s (k + 1) with
      | some x => x.hws.foldl (fun s w => storeHost w s) (x.deps.foldl applyDeposit s)
      | none => s
    if k < r.last then hostSlots (k + 1) false s
    else
      let before := logRec s (k + 1)
      let s := queuedNow k s
      let after := logRec s (k + 1)
      let grown := match before, after with
        | some a, some b => a.deps.length != b.deps.length || a.hws.length != b.hws.length
        | _, _ => false
      let s := if grown then discardAfter (k + 1) s else s
      match (logRec s k).bind (fun x => x.pat) with
      | some off => { s with tif := { s.tif with patPos := afterFrame s off } }
      | none => s

/-- The record of cycle k is complete (R420-R424). -/
def fillRecord (k : Nat) (s : State) : State :=
  if replaying s then closeRecord k s
  else
    let pat := if s.o 0x3400 6 = 1 then s.run.frame.map (fun f => f.1) else none
    closeRecord k (modRec k (fun r => { r with pat, bndN := boundaryN s, bnd := boundaryOnes s }) s)

/-- Whether the interval asks for a checkpoint that begins cycle k + 1 (R395). -/
def intervalDue (k : Nat) (s : State) : Bool := s.o 0x4800 1 != 0 && (k + 1) % s.o 0x4800 1 == 0

/-- R418: the restart that an incomplete newest checkpoint leaves due. -/
def restartNow (s : State) : State :=
  match s.rew.restart with
  | none => s
  | some (unit, cause) =>
    let s := dueCkpt 6 (withdrawAll 3 { s with rew := { s.rew with restart := none } })
    raise 0x4821 (pCycle s ++ pU32 unit ++ pU8 cause) (s.incO 0x4810 7 1)

/-- R539: between the reset of a region and its release no checkpoint exists, and none is taken. -/
def regionBars (s : State) : Bool :=
  match s.img.applying with
  | some a => a.hdr.typ == 1 && a.inReset && !a.written && !a.stopped
  | none => false

/-- C3: the record closes, and a due checkpoint is taken, or deferred behind a drain (R399, R400). -/
def commitC3 (k : Nat) (env : CommitEnv) (s : State) : State :=
  let s := fillRecord k s
  let s := restartNow { s with rew := { s.rew with logHold := !env.logAccepted } }
  let s := if intervalDue k s then dueCkpt 0 s else s
  let s := if s.rew.cmdDue then dueCkpt 5 s else s
  match (if regionBars s then none else s.rew.dueCause) with
  | none => { s with rew := { s.rew with dueCause := none } }
  | some cause =>
    let s := { s with rew := { s.rew with cmdDue := false } }
    if draining s then { s with rew := { s.rew with deferred := true } }
    else { snapshot true (k + 1) cause s with rew := { (snapshot true (k + 1) cause s).rew with dueCause := none } }

/-- C4 to C7: far writes retire, copies drain, Lantern settles the cycle, and a checkpoint of this commit takes the context so
settled. -/
def commitC4 (k : Nat) (env : CommitEnv) (s : State) : State :=
  let s := { s with lan := { s.lan with capHold := capturing s && !env.captureRoom } }
  finishHolds { env with logAccepted := false, captureRoom := false } (settleContext k (lanternCommit k s))

/-- R748: wait blocks that THERMAL takes after a sweep of e executed steps at a duty of d sixteenths. -/
def thermalBlocks (d e : Nat) : Nat := if d = 0 || 16 ≤ d then 0 else ((16 * e + d - 1) / d - e - 16 + 15) / 16

/-- R856 and R358: the rule events of cycle k, after the counter has advanced. -/
def ruleEvents (k : Nat) (s : State) : State :=
  let r := s.run.ruleBits
  let d := s.run.dmBits
  let i := s.lan.ignBits
  let s := { s with run := { s.run with ruleBits := 0, dmBits := 0 }, lan := { s.lan with ignBits := 0 } }
  let s := if r = 0 then s else raise 0x3062 (pU64 k ++ pBits16 r) s
  let s := if d = 0 then s else raise 0x4031 (pU64 k ++ pBits16 d) s
  let s := if i = 0 then s else raise 0x5211 (pU64 k ++ pBits16 i) s
  if s.rew.patDiscards = 0 then s
  else raise 0x4A01 (pU32 s.rew.patDiscards ++ pU64 k) { s with rew := { s.rew with patDiscards := 0 } }

/-- The pattern frame of the next cycle (R489, R491); without one the run stops with cause 4 (R169). -/
def nextFrame (s : State) : State :=
  if s.o 0x3400 6 != 1 then s
  else match takeFrame s with
    | (true, s) => s
    | (false, s) => addCause 4 s

/-- Stops that the count of cycles brings (R166). -/
def countStops (s : State) : State :=
  let s := if s.run.stepLeft = 0 then s
    else
      let n := s.run.stepLeft - 1
      let s := { s with run := { s.run with stepLeft := n } }
      if n = 0 then addCause 2 s else s
  if s.run.runTo == some s.run.cycle.toNat then addCause 3 s else s

/-- R436, R444: the clusters that failed in cycle f. Either all of them are recovered, or the run stops. Every failure
writes its suspect bit (R762); the checkpoint of this commit is withdrawn (reason 8). `stops` says that a stop of cause 7, 8 or 9
falls at the same commit: it takes effect there (R216, R304, R863), and nothing is recovered (log 26). -/
def handleFailures (f : Nat) (stops : Bool) (s : State) : State :=
  let failed := s.run.failed
  let s := suspectFailed failed s
  let s := withdraw (fun c => c.cycle == f + 1) 8 s
  let s := { s with rew := { s.rew with
    deferred := false, dueCause := none, uncopyDue := s.rew.ckpts.any (fun c => c.state != 3 && c.fresh) } }
  if stops || failed.any (fun x => (recoveryRefusal s x.1 x.2 f).isSome) then
    recoveryStop (failed.foldl (fun s x => match recoveryRefusal s x.1 x.2 f with
      | some reason => recoveryFailed reason x.1 x.2 f s
      | none => s) s)
  else
    let s := { s with run := { s.run with haltAt := s.now } }
    let s := if replaying s then s
      else { s with run := { s.run with before := if s.run.state = .waiting then s.run.before else s.run.state } }
    setRunState .recovering { s with run := { s.run with holdRecovery := true } }

/-- R863: a stop of cause 7, 8 or 9 ends a replay. -/
def replayBroken (s : State) : State :=
  let s := endReplay s
  stopWith s.run.causes .faulted s

/-- The stop conditions at C8 of the commit of cycle k (R164, R173, R441, R863). -/
def evalStops (k : Nat) (s : State) : State :=
  let stops := s.run.causes.any (fun c => decide (7 ≤ c))
  if !s.run.failed.isEmpty then handleFailures k stops s
  else match s.run.replay with
  | some r =>
    if stops then replayBroken s
    else if k < r.last then s
    else { s with run := { s.run with replay := some { r with finished := true }, holdRecovery := true } }
  | none =>
    if s.run.causes.isEmpty then s else stopWith s.run.causes (causeState (s.run.causes.foldl max 0)) s

/-- R129: with a guard lead of 2, the next cycle has its vector by C8, or a lockstep fault of kind 4 follows. -/
def guardDue (k : Nat) (s : State) : State :=
  if guardLead s != 2 then s
  else
    let s := takeCombined k s
    if s.run.gov.isEmpty then lockstepFault 4 255 s else s

/-- R536, R539: a region that was written before C0 is released. -/
def regionC8 (s : State) : State :=
  match s.img.applying with
  | some a => if a.hdr.typ = 1 && a.inReset && a.written && !a.stopped then releaseRegion a s.run.cycle.toNat s else s
  | none => s

/-- C8: the counter advances, rule events, boundary registers, pattern frame, frequency change, stops, SYNC. -/
def commitC8 (k : Nat) (env : CommitEnv) (s : State) : State :=
  let s := guardDue k (guardSlack k s)
  let w := thermalBlocks (s.o 0x2400 6) s.run.e
  let s := ((s.setO 0x3410 2 s.run.e).setO 0x3410 4 s.run.variant)
  let s := if w = 0 then s else s.incO 0x2400 8 1
  let s := { s with run := { s.run with cycle := s.run.cycle + 1, settled := true, thermal := w, blocks := 0, e := 0 } }
  let s := ruleEvents k s
  let s := match s.run.replay with
    | none => countStops (nextFrame (regionC8 (countUnmapped (csEdge env.target s))))
    | some r => if r.last ≤ k && !r.host then nextFrame (regionC8 s) else regionC8 s
  releaseSync (evalStops k (freqDue s))

/-- The commit window of cycle k, C0 to C15. -/
def commitWindow (env : CommitEnv) (s : State) : State :=
  let k := s.run.cycle.toNat
  let s := flashFollow (placeUpsets env.upsets s)
  let s := { s with run := { s.run with phase := .commit, settled := false } }
  let s := pushCommitSlots k 0 1 (commitC0 k s)
  let s := commitC4 k env (commitC3 k env (commitC2 k (commitC1 k env s)))
  pushCommitSlots k 8 8 (commitC8 k env (pushCommitSlots k 1 7 s))

/-- COMMIT_WINDOW: one step after the last executed step of the sweep (R122, R133). -/
def execCommitWindow (env : CommitEnv) (s : State) : Host.Outcome State Fault Refusal :=
  .next (match s.run.phase, s.run.todo with
    | .sweep, [] => commitWindow env s
    | _, _ => s)

/-! ### Wait blocks (R133, R146) -/

/-- Count a wait block for every cause that kept SYNC low at the C8 or W8 before it (log 24). -/
def countBlock (s : State) : State :=
  let s := if s.run.released then s else (ones 10 s.run.heldNow).foldl (fun s n => s.incO 0x3450 (0x10 + n) 1) s
  if s.run.phase = .commit then
    ({ s with run := { s.run with blocks := s.run.blocks + 1 } }).incO 0x3450 2 1
  else { s with run := { s.run with blocks := s.run.blocks + 1 } }

/-- A released module that samples SYNC low waits for another (R180). -/
def enterWaiting (s : State) : State :=
  if s.run.released && (s.run.state == .running || s.run.state == .stepping || s.run.state == .stopping) then
    setRunState .waiting { s with run := { s.run with before := s.run.state } }
  else s

/-- Whether a cluster failed after C8 of the commit window, and the run has not halted for it. -/
def failsLate (s : State) : Bool :=
  s.run.phase == .commit && s.run.settled && !s.run.failed.isEmpty && inRun s && !s.run.holdRecovery

/-- A cluster that fails after C8 of a commit window, in a deferred snapshot or a drain, halts the run at the end of that commit (R93,
R436). -/
def lateFailures (s : State) : State :=
  if failsLate s then handleFailures (s.run.cycle.toNat - 1) false s
  else s

/-- The restore that a RESTORE command began is over, and its replay begins: RECOVERY ends (R428). -/
def restoreSettled (s : State) : State :=
  match s.run.replay with
  | some r => if r.host && !r.finished && s.run.phase = .starting && s.o 0x4900 4 == 1 then
      { s with run := { s.run with holdRecovery := false } }.setO 0x4900 4 2
    else s
  | none => s

/-- One wait block: W0 to W7, W8, and W9 to W15. The wait blocks that start a run belong to the commit window of the cycle before
the one that the counter names (R133, R862). -/
def waitBlock (env : CommitEnv) (s : State) : State :=
  let b := s.run.blocks
  let k := (s.run.cycle - 1).toNat
  let s := pushCommitSlots k (16 + 16 * b) 8 s
  let s := flashFollow (placeUpsets env.upsets s)
  let s := { s with run := { s.run with syncLevel := false, lowSince := s.run.lowSince.or (some s.now) } }
  let s := enterWaiting (countBlock s)
  let s := finishHolds env s
  let s := { s with run := { s.run with thermal := s.run.thermal - 1 } }
  let s := hostSlots s.run.cycle.toNat (!(replaying s) && s.run.state != .recovering && inRun s) s
  pushCommitSlots k (24 + 16 * b) 8 (releaseSync (restoreSettled (lateFailures s)))

/-- WAIT_BLOCK: SYNC was sampled low. -/
def execWaitBlock (env : CommitEnv) (s : State) : Host.Outcome State Fault Refusal :=
  .next (if s.run.phase = .starting || (s.run.phase = .commit && s.run.settled) then waitBlock env s else s)

/-- SWEEP_START: SYNC sampled at C15 or W15 (R141, R147, R862). High starts the sweep; a module that has not released the
land holds it low itself. A cluster that failed after C8 halts the run instead (R93, R436). Sweeps that begin again put a SYNC record with reason 1 before the first CYC record (R793). -/
def execSweepStart (syncHigh : Bool) (s : State) : Host.Outcome State Fault Refusal :=
  .next (
    let waits := s.run.phase = .starting || (s.run.phase = .commit && s.run.settled)
    if !waits then s
    else if !syncHigh then
      { s with run := { s.run with syncLevel := false, lowSince := s.run.lowSince.or (some s.now) } }
    else if s.run.released then
      if failsLate s then
        let s := lateFailures s
        { s with run := { s.run with released := false } }
      else hostStep (beginSweep (if s.run.phase = .starting then { s with trace := { s.trace with syncDue := some 1 } } else s))
    else s)

/-- HOLD_CAUSES_CLEARED: at a W8 no hold cause is active any more, and SYNC is released (R137, R140). -/
def execHoldCausesCleared (s : State) : Host.Outcome State Fault Refusal :=
  .next (if (s.run.phase = .starting || (s.run.phase = .commit && s.run.settled)) && !s.run.released && activeHolds s == 0
    then releaseSync (lateFailures s) else s)

/-- 3440h:05: bit p is the HOLDING bit of port p's latest STATUS (R239). -/
def neighbourHolds (s : State) : Nat := ofOnes ((List.range 8).filter (fun p => (s.port p).holding))

/-- SYNC_TIMEOUT: SYNC has been sampled low for longer than 3440h:01 (R147, R148, R150). -/
def execSyncTimeout (s : State) : Host.Outcome State Fault Refusal :=
  .next (if s.run.timedOut || s.run.holdStop || !s.ex.stopSeen.isEmpty || s.o 0x3440 1 == 0 || s.run.lowSince.isNone then s
  else
    raise 0x3441 (pU8 s.moduleId ++ pBits16 (activeHolds s) ++ pU8 s.run.released.toNat ++ pU8 (neighbourHolds s) ++ pCycle s)
      { s with run := { s.run with timedOut := true } })

end Sys2Proof.Machine
end

