-- ==== Sys2Proof/Machine/Keys.lean ====
section
/-! DEFINITION. Keys (chapter 8), access keys and the credential store (chapter 9), and the update of the boot stream in
SERVICE mode. -/

namespace Sys2Proof.Machine

/-! ### Keys, access keys and their check values -/

/-- Key check value: the first 4 octets of HMAC-SHA-256 of 32 zero octets under the key. -/
def kcv (k : BitVec 256) : Nat := (Config.hmacSha256 (octetsBE 32 k.toNat) (List.replicate 32 0)).toNat >>> 224

/-- Check value of a key that may be absent. -/
def kcvOf (k : Option (BitVec 256)) : Nat := match k with | some k => kcv k | none => 0

/-- Whether the module is in SERVICE. -/
def inService (s : State) : Bool := s.pwr.mode == 11

/-- K_C as the access keys take it: the key of the last boot; where that boot took none, a key that is present. -/
def accessBase (s : State) : Option (BitVec 256) :=
  match s.keys.customer with
  | some k => some k
  | none => match s.keys.efuse with
    | some k => some k
    | none => s.keys.vbat

/-- Access key of a level, in the order of precedence that chapter 9 gives. -/
def accessKey (s : State) (level : Nat) : BitVec 256 :=
  match s.keys.creds.getD level none with
  | some k => k
  | none =>
    if s.o 0x6040 1 = 0 && s.o 0x6040 3 != 1 then 0
    else match accessBase s with
    | some k => deriveKey k ("CH9 acp " ++ toString level)
    | none => 0

/-- 1E00h:02: 0 zero key, 1 derived, 2 provisioned. -/
def credState (s : State) (level : Nat) : Nat :=
  if accessKey s level = 0 then 0 else if (s.keys.creds.getD level none).isSome then 2 else 1

/-- R574: the levels whose key differs from what it was in `before`: every other open session of the level closes, and
1E01h. -/
def keysChanged (before : State) (by_ : Nat) (s : State) : State :=
  (List.range 4).foldl (fun s lv =>
    if accessKey before lv = accessKey s lv then s
    else
      let ends := (s.acp.sessions.filter (fun x => x.isOpen && x.level == lv && x.id != by_)).map (fun x => x.id)
      let s := ends.foldl (fun s n => closeSession n 3 s) s
      raise 0x1E01 (pU8 lv ++ pU32 (kcv (accessKey s lv))) s) s

/-- A wrapped key opened under the wrapping key of session n (R514): 12 octets of nonce, 32 of ciphertext, the tag. -/
def unwrapKey (s : State) (n : Nat) (w : List Octet) : Option (BitVec 256) :=
  match s.sess n with
  | none => none
  | some x =>
    if w.length != 60 then none
    else
      match Config.aesGcmOpen (deriveKey x.key "CH9 key wrap") (w.take 12) [] ((w.drop 12).take 32) (w.drop 44) with
      | some p => some (BitVec.ofNat 256 (natBE p))
      | none => none

/-- The objects that report the VBAT key: state, check value. -/
def putVbat (k : Option (BitVec 256)) (st : Nat) (s : State) : State :=
  (({ s with keys := { s.keys with vbat := k } }).setO 0x6040 3 st).setO 0x6040 4 (kcvOf k)

/-- 6041h (R515). -/
def keyEvent (c v : Nat) (s : State) : State := raise 0x6041 (pU8 c ++ pU32 v) s

/-- Serve a key command (6040h:06): DENIED outside SERVICE (R514). -/
def keyCommand (r : Req) (c : Nat) (h : WriteFn) (s : State) : Host.Outcome State Fault Refusal :=
  .next (serveWrite r 0x6040 6 { ty := 2, data := [BitVec.ofNat 8 c] } (fun n s =>
    if inService s then h n s else (.denied, s)) s)

/-- LOAD_VBAT. -/
def execLoadVbat (r : Req) (s : State) : Host.Outcome State Fault Refusal :=
  keyCommand r 1 (fun n s =>
    match unwrapKey s n s.keys.wrapped with
    | none => (.authFail, s)
    | some k =>
      if s.o 0x6040 7 = 1 then (.badValue, s)
      else (.ok, keyEvent 1 (kcv k) (keysChanged s n (putVbat (some k) 1 s)))) s

/-- PROGRAM_EFUSE. -/
def execProgramEfuse (r : Req) (s : State) : Host.Outcome State Fault Refusal :=
  keyCommand r 2 (fun n s =>
    if s.o 0x6040 1 = 1 then (.busy, s)
    else match unwrapKey s n s.keys.wrapped with
    | none => (.authFail, s)
    | some k =>
      let t := (({ s with keys := { s.keys with efuse := some k } }).setO 0x6040 1 1).setO 0x6040 2 (kcv k)
      (.ok, keyEvent 2 (kcv k) (keysChanged s n t))) s

/-- ZEROISE_VBAT. -/
def execZeroiseVbat (r : Req) (s : State) : Host.Outcome State Fault Refusal :=
  keyCommand r 3 (fun n s => (.ok, keyEvent 3 0 (keysChanged s n (putVbat none 2 s)))) s

/-- SET_EFUSE_ONLY. -/
def execSetEfuseOnly (r : Req) (s : State) : Host.Outcome State Fault Refusal :=
  keyCommand r 4 (fun _ s =>
    if s.o 0x6040 1 = 0 then (.badValue, s)
    else (.ok, keyEvent 4 (kcvOf s.keys.efuse) (s.setO 0x6040 7 1))) s

/-- Whether the supervisor cores are powered: in every mode but OFF and STANDBY. -/
def awakeMode (s : State) : Bool := decide (2 ≤ s.pwr.mode)

/-- TAMPER_ZEROISED (R513, R572): detector bit `d` of 6050h:03 fires. Detector 0 is VBAT below 1.8 V while VIN is absent,
which also ends what VBAT held of 2200h:06 (R740). -/
def execTamperZeroised (d : Nat) (s : State) : Host.Outcome State Fault Refusal :=
  .next (if 4 ≤ d || !(bitOf (s.o 0x6050 3) d) || (d == 0 && s.pwr.vinGood) then s
  else
    let t := putVbat none 2 s
    let t := { t with keys := { t.keys with creds := [none, none, none, none], tamper := putBit s.keys.tamper d true } }
    let t := t.setO 0x6050 1 (putBit (s.o 0x6050 1) d true)
    let t := if d = 0 then t.setO 0x2200 6 0 else t
    if awakeMode s then keysChanged s 0 t else t)

/-- Serve a credential command (1E00h:05): DENIED outside SERVICE (R573). -/
def credCommand (r : Req) (c : Nat) (h : WriteFn) (s : State) : Host.Outcome State Fault Refusal :=
  .next (serveWrite r 0x1E00 5 { ty := 2, data := [BitVec.ofNat 8 c] } (fun n s =>
    if inService s then h n s else (.denied, s)) s)

/-- CRED_LOAD (R573, R574, R603). -/
def execCredLoad (r : Req) (s : State) : Host.Outcome State Fault Refusal :=
  credCommand r 1 (fun n s =>
    match unwrapKey s n s.keys.credWrapped with
    | none => (.authFail, s)
    | some k =>
      let lv := selOf s n 0x1E00 1
      (.ok, keysChanged s n { s with keys := { s.keys with creds := s.keys.creds.set lv (some k) } })) s

/-- CRED_CLEAR (R574). -/
def execCredClear (r : Req) (s : State) : Host.Outcome State Fault Refusal :=
  credCommand r 2 (fun n s =>
    let lv := selOf s n 0x1E00 1
    (.ok, keysChanged s n { s with keys := { s.keys with creds := s.keys.creds.set lv none } })) s

/-! ### The boot flash: directory and slots (Table 8-1, R502) -/

/-- Octets of a slot. -/
def slotSize : Nat := 29360128

/-- An erased octet. -/
def slotDflt (_ : Nat) : Octet := 0xFF

/-- Whether generation a was written after generation b, as serial numbers modulo 2^32. -/
def serialAfter (a b : Nat) : Bool := a % 2 ^ 32 != b % 2 ^ 32 && decide ((a + 2 ^ 32 - b % 2 ^ 32) % 2 ^ 32 < 2 ^ 31)

/-- R502: the directory copy in use. -/
def directory (s : State) : Option DirCopy :=
  let a := s.boot.dirs.getD 0 {}
  let b := s.boot.dirs.getD 1 {}
  if a.ok && b.ok then some (if serialAfter b.gen a.gen then b else a)
  else if a.ok then some a
  else if b.ok then some b
  else none

/-- Directory entry of a slot. -/
def slotDir (s : State) (i : Nat) : SlotDir := match directory s with | some d => d.slots.getD i {} | none => {}

/-- Write a change into both directory copies, the older first, each with a GENERATION one above the other's. -/
def writeDirectory (i : Nat) (e : SlotDir) (s : State) : State :=
  let d := (directory s).getD {}
  let b := s.boot.dirs.getD 1 {}
  let older := if directory s = some b then 0 else 1
  let slots := d.slots.set i e
  let first : DirCopy := { gen := (d.gen + 1) % 2 ^ 32, ok := true, slots }
  let second : DirCopy := { gen := (d.gen + 2) % 2 ^ 32, ok := true, slots }
  { s with boot := { s.boot with dirs := if older = 0 then [first, second] else [second, first] } }

/-- Octets [a, a+n) of a slot. -/
def slotRead (s : State) (i a n : Nat) : List Octet :=
  let m := s.boot.flash.getD i []
  (List.range n).map (fun k => Sparse.get slotDflt m (a + k))

/-- Store octets into a slot from octet a. -/
def slotWrite (i a : Nat) (l : List Octet) (s : State) : State :=
  let m := (l.zipIdx).foldl (fun m x => Sparse.set slotDflt m (a + x.2) x.1) (s.boot.flash.getD i [])
  { s with boot := { s.boot with flash := s.boot.flash.set i m } }

/-! ### The boot stream (Tables 8-2 to 8-4) -/

/-- A stream that has passed every check. -/
structure BootStream where
  header : List Octet
  length : Nat
  keySource : Nat
  key : BitVec 256
  vendor : List Octet
  version : Nat
  advance : Bool
  sections : List (Nat × List Octet)

/-- Field of a header: bits [hi : hi-len+1] of 4,096, octet 0 holding the highest. -/
def hdrBits (h : List Octet) (hi len : Nat) : Nat := natBE ((h.drop ((4095 - hi) / 8)).take (len / 8))

/-- R503: the header as signatures and authentication take it, with SEQUENCE and HCRC 0. -/
def authHeader (h : List Octet) : List Octet :=
  h.take 12 ++ List.replicate 4 0 ++ (h.drop 16).take 492 ++ List.replicate 4 0

/-- HCRC: the CRC of R48 over the header with its own field taken as 0. -/
def headerCrc (h : List Octet) : Nat := crc32 (h.take 508 ++ List.replicate 4 0)

/-- R504: MAGIC, FORMAT, HCRC. -/
def headerOk (h : List Octet) : Bool :=
  hdrBits h 4095 32 == 0x9B3E71C5 && hdrBits h 4063 16 == 1 && hdrBits h 31 32 == headerCrc h

/-- The lengths of a header: the three parts follow one another within the stream, which fits the slot. -/
def lengthsOk (h : List Octet) : Bool :=
  let len := hdrBits h 4031 32
  let vo := hdrBits h 3967 32
  let vl := hdrBits h 3935 32
  let co := hdrBits h 3903 32
  let cl := hdrBits h 3871 32
  decide (len ≤ slotSize ∧ 512 ≤ vo ∧ 96 ≤ vl ∧ vo + vl ≤ co ∧ 16 ≤ cl ∧ co + cl ≤ len)

/-- The sections of a customer part: TYPE, 0, LENGTH, content; none when they do not fill it exactly. -/
def cutSections : Nat → List Octet → Option (List (Nat × List Octet))
  | 0, _ => none
  | fuel + 1, l =>
    if l.isEmpty then some []
    else
      let ty := natBE (l.take 2)
      let len := natBE ((l.drop 4).take 4)
      if l.length < 8 + len || natBE ((l.drop 2).take 2) != 0 then none
      else match cutSections fuel (l.drop (8 + len)) with
      | none => none
      | some t => some ((ty, (l.drop 8).take len) :: t)

/-- Table 8-4: whether a section's LENGTH matches its content. The setups of types 4 and 6, and what stands before the
layout in type 5, have no layout in the manual (log 6). -/
def sectionFits (x : Nat × List Octet) : Bool :=
  match x.1 with
  | 1 => x.2.length == 262144
  | 2 => x.2.length == 640
  | 3 => x.2.length == 20
  | 5 => decide (128 ≤ x.2.length) && (x.2.drop (x.2.length - 128)).all (fun o => decide (o.toNat ≤ 7))
  | 4 | 6 => true
  | _ => false

/-- R510: whether the sections of a customer part are valid. -/
def sectionsOk (l : List (Nat × List Octet)) : Bool :=
  let count (t : Nat) := (l.filter (fun x => x.1 == t)).length
  l.all sectionFits && count 1 == 1 && count 2 == 1 && count 4 == 1 && count 5 == 1 && decide (count 3 ≤ 1) && decide (count 6 ≤ 1)

/-- R511, R512: the key that KEY_SOURCE selects. -/
def sourceKey (s : State) (src : Nat) : Option (BitVec 256) :=
  match src with
  | 0 => s.keys.efuse
  | 1 => if s.o 0x6040 7 = 1 then none else s.keys.vbat
  | _ => none

/-- The checks of a stream after its header (R507-R512): the stream, or a reason of Table 8-7 and whether the vendor part
had been verified. -/
def checkStream (s : State) (h : List Octet) (get : Nat → Nat → List Octet) : Except (Nat × Bool) BootStream :=
  let vendor := get (hdrBits h 3967 32) (hdrBits h 3935 32)
  let body := vendor.take (vendor.length - 96)
  let ver := Config.vendorVersion body
  if !(lengthsOk h) then .error (1, false)
  else if !(Config.ecdsaP384Verify (authHeader h ++ body) (vendor.drop (vendor.length - 96))) then .error (2, false)
  else if 64 < ver || ver < s.o 0x6040 8 then .error (3, false)
  else match sourceKey s (hdrBits h 4047 8) with
  | none => .error (4, true)
  | some k =>
    let c := get (hdrBits h 3903 32) (hdrBits h 3871 32)
    let cut := c.length - 16
    match Config.aesGcmOpen (deriveKey k "CH9 boot") (octetsBE 12 (hdrBits h 1199 96)) (authHeader h) (c.take cut) (c.drop cut) with
    | none => .error (5, true)
    | some p =>
      match cutSections (p.length + 1) p with
      | none => .error (6, true)
      | some l =>
        if sectionsOk l then
          .ok { header := h, length := hdrBits h 4031 32, keySource := hdrBits h 4047 8, key := k, vendor := body
                version := ver, advance := Config.vendorAdvance body, sections := l }
        else .error (6, true)

/-! ### Secure update (R522, R523, R548) -/

/-- The slot not in use. -/
def idleSlot (s : State) : Nat := 1 - s.boot.slot

/-- UPD_LENGTH_WRITE: 6030h:03. The erase begins; the directory no longer names the slot. -/
def execUpdLengthWrite (r : Req) (v : WVal) (s : State) : Host.Outcome State Fault Refusal :=
  .next (serveWrite r 0x6030 3 v (fun _ s =>
    if !(inService s) then (.denied, s)
    else if s.o 0x6030 5 = 1 then (.busy, s)
    else
      let i := idleSlot s
      let s := writeDirectory i {} s
      let s := { s with boot := { s.boot with flash := s.boot.flash.set i [] } }
      (.ok, ((s.setO 0x6030 3 (natBE v.data)).setO 0x6030 5 1).setO 0x6030 6 0)) s)

/-- UPDATE_ERASE_DONE. -/
def execUpdateEraseDone (s : State) : Host.Outcome State Fault Refusal :=
  .next (if s.o 0x6030 5 = 1 then s.setO 0x6030 5 2 else s)

/-- Whether an update takes data or a verification now. -/
def updateRefusal (s : State) : Option Status :=
  if !(inService s) then some .denied
  else match s.o 0x6030 5 with
  | 2 => none
  | 1 => some .busy
  | _ => some .badValue

/-- UPD_DATA_WRITE: 6030h:02. -/
def execUpdDataWrite (r : Req) (w : WForm) (s : State) : Host.Outcome State Fault Refusal :=
  let put (d : List Octet) : WriteFn := fun _ s =>
    match updateRefusal s with
    | some st => (st, s)
    | none => (.ok, slotWrite (idleSlot s) (s.o 0x6030 1) d s)
  .next (serveForm r 0x6030 2 2 w (blockTooLong 0x6030 2 slotSize) put put s)

/-- Step 5 of an update: SEQUENCE one above the active slot's, HCRC recomputed, the slot valid. -/
def commitUpdate (b : BootStream) (s : State) : State :=
  let i := idleSlot s
  let seq := ((slotDir s s.boot.slot).seq + 1) % 2 ^ 32
  let h := b.header.take 12 ++ octetsBE 4 seq ++ b.header.drop 16
  let s := slotWrite i 0 (h.take 508 ++ octetsBE 4 (headerCrc h)) s
  let s := writeDirectory i { state := 1, seq, len := b.length } s
  let s := (s.setO 0x6030 5 4).setO 0x6030 6 0
  raise 0x6031 (pU8 i ++ pU32 seq ++ pU16 b.version) s

/-- The checks of step 4 of an update. -/
def checkUpdate (s : State) : Except (Nat × Bool) BootStream :=
  let i := idleSlot s
  let h := slotRead s i 0 512
  if headerOk h && hdrBits h 4031 32 == s.o 0x6030 3 then checkStream s h (slotRead s i) else .error (1, false)

/-- Serve a command of 6030h:04. -/
def updCommand (r : Req) (c : Nat) (h : WriteFn) (s : State) : Host.Outcome State Fault Refusal :=
  .next (serveWrite r 0x6030 4 { ty := 2, data := [BitVec.ofNat 8 c] } h s)

/-- UPD_VERIFY (R522). -/
def execUpdVerify (r : Req) (s : State) : Host.Outcome State Fault Refusal :=
  updCommand r 1 (fun _ s =>
    match updateRefusal s with
    | some st => (st, s)
    | none =>
      match checkUpdate s with
      | .ok b => (.ok, commitUpdate b s)
      | .error (reason, _) =>
        (.rejectedImage, ((writeDirectory (idleSlot s) { state := 2, seq := 0, len := 0 } s).setO 0x6030 5 5).setO 0x6030 6 reason)) s

/-- UPD_CANCEL: the update ends; the slot holds no stream. -/
def execUpdCancel (r : Req) (s : State) : Host.Outcome State Fault Refusal :=
  updCommand r 2 (fun _ s => if inService s then (.ok, (s.setO 0x6030 3 0).setO 0x6030 5 0) else (.denied, s)) s

end Sys2Proof.Machine
end

