-- ==== Sys2Proof/Machine/Host.lean ====
section
/-! DEFINITION. The PCI Express endpoint, its BAR0 registers, the BAR2 window, the mailbox, the DMA engines and the packet
network (chapter 10). -/

namespace Sys2Proof.Machine

/-! ### Accesses from the host -/

/-- R604: whether the endpoint answers: PD3 is on. -/
def endpointOn (s : State) : Bool := domState s 3 == 2

/-- R604, R606, R738: carry out an access to BAR0 or BAR2; it wakes the module, and D3hot discards it. -/
def hostAccess (f : State → State) (s : State) : State :=
  if endpointOn s && !s.host.d3hot then chooseDepth (f (wakeDepth s)) else s

/-! ### Octets of the DRAM regions as the host reaches them (R609, R610, R316) -/

/-- Whether a region code names a region that the host reaches. -/
def regionOpen (code : Nat) : Bool := decide (1 ≤ code ∧ code ≤ 6)

/-- Power domains of the stacks that hold octets [a, a+n) of a region and whose gate refuses: switched off by mode or host command, or
switching off (R611, R638). -/
def stacksOff (s : State) (code a n : Nat) : List Nat :=
  let us := regionUnits s code
  let granules := if n = 0 then 0 else (a % 4096 + n + 4095) / 4096
  nsOf (((List.range granules).map (fun i => 13 + us.getD ((a / 4096 + i) % max 1 us.length) 0 / 32)).filter (fun d => gateShut s d))

/-- The octet ranges of the locked pattern frames (R422). -/
def lockedRanges (s : State) : List (Nat × Nat) := (lockedFrames s).map (fun o => (o, afterFrame s o - o))

/-- Whether octets [a, a+n) touch a range. -/
def touches (a n : Nat) (r : Nat × Nat) : Bool := decide (a < r.1 + r.2 ∧ r.1 < a + n)

/-- R423: one host write into the PATTERN region; whether it was discarded. -/
def patternWrite (a : Nat) (data : List Octet) (s : State) : Bool × State :=
  if (lockedRanges s).any (touches a data.length) then
    (true, ({ s with rew := { s.rew with patDiscards := s.rew.patDiscards + 1 } }).incO 0x4A00 5 1)
  else (false, regionWrite 2 a data s)

/-- The word writes that octets from octet a of the far region make. -/
def farWrites (a : Nat) (data : List Octet) : List HostWr :=
  (List.range ((a % 8 + data.length + 7) / 8)).map (fun i =>
    let w := a / 8 + i
    let byte (j : Nat) : Option Octet := if 8 * w + j < a then none else data[8 * w + j - a]?
    { far := true, addr := w, data := ofBytes (fun j => (byte j).getD 0)
      be := BitVec.ofNat 8 (ofOnes ((List.range 8).filter (fun j => (byte j).isSome))) })

/-- A direct write to the far region from BAR2 or a DMA engine, outside a run (R297, R299). -/
def farDirect (a : Nat) (data : List Octet) (s : State) : State := directWords (farWrites a data) s

/-- R315: whether the far region refuses writes from BAR2 and the DMA engines now. -/
def farLocked (s : State) : Bool := inRun s

/-- Write octets into a region by BAR2 or DMA, `n` octets to a write of the packet network; whether any was discarded. -/
def hostStore (code a n : Nat) (data : List Octet) (s : State) : Bool × State :=
  match code with
  | 2 => ((chunks n data).zipIdx).foldl (fun acc x =>
      let (d, s) := patternWrite (a + n * x.2) x.1 acc.2
      (acc.1 || d, s)) (false, s)
  | 4 => (false, farDirect a data s)
  | 5 =>
    let lost := match lockedRange s with | some r => touches a data.length r | none => false
    (lost, stageWrite a data s)
  | _ => (false, regionWrite code a data s)

/-! ### BAR2 (R609-R613) -/

/-- Region code and octet of a BAR2 offset. -/
def aperture (s : State) (o : Nat) : Nat × Nat :=
  let n := o / 2 ^ 34 % 4
  (s.o 0x7100 (1 + n), s.o 0x7100 (5 + n) + o % 2 ^ 34)

/-- R611: an access to stacks that are switched off. -/
def refuseStacks (ds : List Nat) (posted : Bool) (s : State) : State :=
  ds.foldl (fun s d => if posted then refusedEvent d (gateSink d s) else gateRefuse d s) s

/-- BAR2_READ: the octets of an aperture. -/
def bar2Read (off n : Nat) (s : State) : State :=
  let (code, a) := aperture s off
  let s := s.incO 0x7100 0x0C n
  let zeros : List Octet := List.replicate n 0
  let ds := if regionOpen code then stacksOff s code a n else []
  if !(regionOpen code) || decide (regionSize s code < a + n) then (s.incO 0x7100 9 1).emit (.completion zeros)
  else if !ds.isEmpty then (refuseStacks ds false (s.incO 0x7100 9 1)).emit (.completion zeros)
  else if code = 3 || (code == 4 && s.img.prot) then s.emit (.completion zeros)
  else s.emit (.completion (regionRead s code a n))

/-- BAR2_READ (R606: Unsupported Request in D3hot, a completion without data). -/
def execBar2Read (off n : Nat) (s : State) : Host.Outcome State Fault Refusal :=
  .next (if endpointOn s && s.host.d3hot then s.emit (.completion []) else hostAccess (bar2Read off n) s)

/-- A BAR2 write (R315, R406, R423, R524, R610). -/
def bar2Write (off : Nat) (data : List Octet) (s : State) : State :=
  let (code, a) := aperture s off
  let n := data.length
  let s := s.incO 0x7100 0x0D n
  let ds := if regionOpen code then stacksOff s code a n else []
  if !(regionOpen code) || decide (regionSize s code < a + n) then s.incO 0x7100 0x0A 1
  else if !ds.isEmpty then refuseStacks ds true (s.incO 0x7100 0x0A 1)
  else if code = 3 then s.incO 0x4800 0x0D 1
  else if code = 4 && farLocked s then dmCount 6 s
  else (hostStore code a (max 1 n) data s).2

/-- BAR2_WRITE. -/
def execBar2Write (off : Nat) (data : List Octet) (s : State) : Host.Outcome State Fault Refusal :=
  .next (hostAccess (bar2Write off data) s)

/-- R613, R648: whether a value may stand in AP_REGION or AP_BASE. -/
def apertureOk (base : Bool) (v : Nat) : Bool := if base then v % 2 ^ 30 == 0 else decide (v ≤ 7)

/-- A write of AP_REGION_n or AP_BASE_n through BAR0 (R613). -/
def apPut (n : Nat) (base : Bool) (v : Nat) (s : State) : State :=
  let v := if base then v % 2 ^ 64 else v % 256
  if apertureOk base v then s.setO 0x7100 (if base then 5 + n else 1 + n) v else s.incO 0x7100 0x0B 1

/-- AP_WRITE: BAR0 write of AP_REGION_n or AP_BASE_n (R613). -/
def execApWrite (n : Nat) (base : Bool) (v : Nat) (s : State) : Host.Outcome State Fault Refusal :=
  onUnit n 4 (hostAccess (apPut n base v) s)

/-! ### Mailbox (R614-R618) -/

/-- R616: whether the module takes frames from the slots. -/
def mailboxTakes (s : State) : Bool := s.host.mbOn && decide (ringUsed s.host.rpProd s.host.rpCons < s.host.rpSize)

/-- The module takes the frames that stand in occupied slots (step 3); each is then a command of its own. -/
def takeSlots (s : State) : State :=
  if mailboxTakes s then
    let n := (s.host.slotLen.filter (fun l => l != 0)).length
    ({ s with host := { s.host with slotLen := [0, 0, 0, 0] } }).incO 0x7600 1 n
  else s

/-- A write of MB_SLOT_LEN_s (R615). -/
def slotSubmit (slot len : Nat) (s : State) : State :=
  if s.host.slotLen.getD slot 0 != 0 then s.incO 0x7600 5 1
  else if len < 48 || 6208 < len then s.incO 0x1140 1 1
  else takeSlots { s with host := { s.host with slotLen := s.host.slotLen.set slot len } }

/-- MB_SLOT_SUBMIT: a write of MB_SLOT_LEN_s (R615). -/
def execMbSlotSubmit (slot len : Nat) (s : State) : Host.Outcome State Fault Refusal :=
  onUnit slot 4 (hostAccess (slotSubmit slot len) s)

/-- Whether n is a power of two between two bounds. -/
def powerBetween (lo hi n : Nat) : Bool := decide (lo ≤ n ∧ n ≤ hi) && (List.range 17).any (fun k => n == 2 ^ k)

/-- Close every session on the mailbox (R605, R618). -/
def closeMailbox (s : State) : State :=
  ((s.acp.sessions.filter (fun x => x.carrier == 2)).map (fun x => x.id)).foldl (fun s n => closeSession n 4 s) s

/-- A full ring has space again (R617). -/
def ringEased (s : State) : State :=
  let h := s.host
  let r := h.fullRaised.getD 0 false && decide (h.rpSize ≤ ringUsed h.rpProd h.rpCons)
  let e := h.fullRaised.getD 1 false && decide (h.evSize ≤ ringUsed h.evProd h.evCons)
  { s with host := { h with fullRaised := [r, e] } }

/-- A vector of the MSI-X table is unmasked: its pending interrupt is signalled (R608). -/
def unmaskVector (v : Nat) (s : State) : State :=
  let was := s.host.pend.contains v
  let s := { s with host := { s.host with masked := s.host.masked.filter (fun x => x != v), pend := s.host.pend.filter (fun x => x != v) } }
  if was then s.emit (.msix v) else s

/-- A write of one 4-octet word of the MSI-X table. -/
def msixTableWrite (w v : Nat) (s : State) : State :=
  if w % 4 = 3 then
    if v % 2 = 1 then { s with host := { s.host with masked := nsAdd (w / 4) s.host.masked } } else unmaskVector (w / 4) s
  else { s with host := { s.host with msix := Sparse.set0 s.host.msix w (v % 2 ^ 32) } }

/-- A write of a BAR0 register that has no row of its own: MB_CONTROL, the rings, the event map, the MSI-X table. A value
that the register cannot hold is ignored. -/
def bar0Write (off v : Nat) (s : State) : State :=
  let h := s.host
  match off with
  | 0x8000 =>
    if v % 2 = 1 then takeSlots { s with host := { h with mbOn := true } }
    else
      let s := closeMailbox s
      { s with host := { s.host with mbOn := false, slotLen := [0, 0, 0, 0] } }
  | 0x8020 => if v % 4096 = 0 then { s with host := { h with rpBase := v } } else s
  | 0x8028 => if powerBetween 4 256 v then takeSlots (ringEased { s with host := { h with rpSize := v } }) else s
  | 0x8040 => if v % 4096 = 0 then { s with host := { h with evBase := v } } else s
  | 0x8048 => if powerBetween 16 4096 v then drainQueues (ringEased { s with host := { h with evSize := v } }) else s
  | _ =>
    if 0x8400 ≤ off ∧ off < 0x8580 ∧ off % 8 = 0 then
      s.setO 0x7700 ((off - 0x8400) / 8 + 1) (fld v 63 1 * 2 ^ 63 + v % 2 ^ 32)
    else if 0x9000 ≤ off ∧ off < 0x9400 ∧ off % 4 = 0 then msixTableWrite ((off - 0x9000) / 4) v s
    else s

/-- MAILBOX_RING_FULL: a ring has been full for 100 ms (R617). -/
def execMailboxRingFull (event : Bool) (s : State) : Host.Outcome State Fault Refusal :=
  let h := s.host
  let full := if event then decide (h.evSize ≤ ringUsed h.evProd h.evCons) else decide (h.rpSize ≤ ringUsed h.rpProd h.rpCons)
  let i := event.toNat
  .next (if h.mbOn && full && !(h.fullRaised.getD i false) then
    raise 0x7601 (pU8 i) { s with host := { h with fullRaised := h.fullRaised.set i true } }
  else s)

/-- MSIX_UNMASK. -/
def execMsixUnmask (v : Nat) (s : State) : Host.Outcome State Fault Refusal :=
  onUnit v 64 (hostAccess (unmaskVector v) s)

/-- MSIX_MAP_WRITE: 7700h through ACP (R648). -/
def execMsixMapWrite (r : Req) (sub : Nat) (v : WVal) (s : State) : Host.Outcome State Fault Refusal :=
  .next (serveWrite r 0x7700 sub v (fun _ s =>
    let n := natBE v.data
    if fld n 32 31 != 0 then (.badValue, s) else (.ok, s.setO 0x7700 sub n)) s)

/-! ### DMA engines (R619-R623) -/

/-- Engine e. -/
def State.eng (s : State) (e : Nat) : DmaEng := s.host.dma.getD e {}

/-- Change one engine. -/
def modEng (e : Nat) (f : DmaEng → DmaEng) (s : State) : State := { s with host := { s.host with dma := s.host.dma.modify e f } }

/-- Whether the completion ring of an engine is full. -/
def compFull (g : DmaEng) : Bool := decide (g.compSize ≤ ringUsed g.compProd g.compCons)

/-- What an engine does next: it takes a descriptor, or waits on its completion ring, or rests (R620-R622). -/
def dmaNext (g : DmaEng) : DmaEng :=
  let more := g.enable && !g.stop && !g.failed && g.ringProd != g.ringCons
  { g with running := more && !(compFull g), waiting := more && compFull g }

/-- Whether an engine is gated by force, or about to be (R717, R718). -/
def dmaGated (s : State) (e : Nat) : Bool := bitOf (s.o 0x2030 2) e || s.host.gating.any (fun x => x.1 == e)

/-- An engine after a write of one of its registers goes on, unless it is busy with a descriptor. -/
def dmaGo (g : DmaEng) : DmaEng := if g.running then g else dmaNext g

/-- ENABLE is written to 1 (R621). -/
def dmaEnable (g : DmaEng) : DmaEng := dmaGo { g with enable := true, stop := false, failed := false }

/-- STOP is written (R622): a descriptor in progress still ends. -/
def dmaStop (g : DmaEng) : DmaEng := { g with enable := false, stop := true, waiting := false }

/-- A write of a register of an engine (Table 10-5). CONTROL takes STOP before ENABLE; with neither, the engine takes no further
descriptor. -/
def engineReg (off v : Nat) (g : DmaEng) : DmaEng :=
  match off with
  | 0x00 => if v % 4096 = 0 then dmaGo { g with ringBase := v } else dmaGo g
  | 0x08 => if powerBetween 16 65536 v then dmaGo { g with ringSize := v } else dmaGo g
  | 0x0C => dmaGo { g with ringProd := v % 2 ^ 32 }
  | 0x18 => if v % 4096 = 0 then dmaGo { g with compBase := v } else dmaGo g
  | 0x20 => if powerBetween 16 65536 v then dmaGo { g with compSize := v } else dmaGo g
  | 0x28 => dmaGo { g with compCons := v % 2 ^ 32 }
  | 0x2C => if v / 2 % 2 = 1 then dmaStop g else if v % 2 = 1 then dmaEnable g else { g with enable := false, waiting := false }
  | _ => dmaGo g

/-- A write of a register of engine e; an engine that is gated by force takes none (R718), but for the consumer count, which is only the
host's. -/
def enginePut (e off v : Nat) (s : State) : State :=
  if dmaGated s e && off != 0x28 then s else modEng e (engineReg off v) s

/-- DMA_DOORBELL: a write of RING_PRODUCER, or of another register of the engine that has no row of its own. -/
def execDmaDoorbell (e off v : Nat) (s : State) : Host.Outcome State Fault Refusal :=
  onUnit e 8 (hostAccess (enginePut e off v) s)

/-- DMA_ENABLE: ENABLE is written to 1 (R621). -/
def execDmaEnable (e : Nat) (s : State) : Host.Outcome State Fault Refusal :=
  onUnit e 8 (hostAccess (enginePut e 0x2C 1) s)

/-- DMA_STOP: STOP is written (R622): a descriptor in progress still ends. -/
def execDmaStop (e : Nat) (s : State) : Host.Outcome State Fault Refusal :=
  onUnit e 8 (hostAccess (enginePut e 0x2C 2) s)

/-- Fields of a descriptor (Table 10-4). -/
structure DescFields where
  host : Nat
  off : Nat
  cookie : Nat
  len : Nat
  region : Nat
  op : Nat
  irq : Bool

/-- Read a descriptor. -/
def descFields (d : Descriptor) : DescFields :=
  let w (i : Nat) : Nat := d.words.getD i 0
  { host := w 3, off := w 2, cookie := fld (w 1) 32 32, len := fld (w 1) 0 32, region := fld (w 0) 56 8, op := fld (w 0) 52 4
    irq := bitOf (w 0) 51 }

/-- Statuses 1 to 5 and 7 of Table 10-7, for a descriptor that moves nothing. -/
def descRefused (d : Descriptor) (f : DescFields) (s : State) : Option Nat :=
  if 2 < f.op || fld (d.words.getD 0 0) 0 51 != 0 || f.host % 8 != 0 || f.off % 8 != 0 || f.len % 8 != 0 || f.len < 8 || 268435456 < f.len
    then some 1
  else if f.op = 0 then none
  else if f.region = 0 || 7 ≤ f.region then some 2
  else if regionSize s f.region < f.off + f.len then some 3
  else if f.region = 3 || (f.region == 4 && f.op == 2 && s.img.prot) then some 4
  else if f.region = 4 && f.op = 1 && farLocked s then some 5
  else if !(stacksOff s f.region f.off f.len).isEmpty then some 7
  else none

/-- Carry out a descriptor: status, octets transferred. -/
def descRun (d : Descriptor) (f : DescFields) (s : State) : (Nat × Nat) × State :=
  match descRefused d f s with
  | some st =>
    let s := if st = 7 then refuseStacks (stacksOff s f.region f.off f.len) (f.op == 1) s else s
    ((st, 0), s)
  | none =>
    let bad := d.hostError != 0
    let n := if bad then min f.len d.data.length else f.len
    let (lost, s) := match f.op with
      | 1 =>
        let data := (List.range n).map (fun i => d.data.getD i 0)
        hostStore f.region f.off 256 data s
      | 2 => (false, s.emit (.hostWrite f.host (regionRead s f.region f.off n)))
      | _ => (false, s)
    let s := if d.hostError = 2 then s.incO 0x7010 4 1 else s
    ((if bad then 8 else if lost then 6 else 0, n), s)

/-- Write a completion entry (Table 10-6). -/
def completeDesc (e st octets : Nat) (f : DescFields) (s : State) : State :=
  let g := s.eng e
  let phase := 1 - g.compProd / g.compSize % 2
  let lo := phase * 2 ^ 32 + g.ringCons + st * 2 ^ 48
  let s := s.emit (.hostWrite (g.compBase + 16 * (g.compProd % g.compSize)) (octetsLE 8 lo ++ octetsLE 8 (f.cookie * 2 ^ 32 + octets)))
  modEng e (fun g => { g with compProd := (g.compProd + 1) % 2 ^ 32, ringCons := (g.ringCons + 1) % 2 ^ 32 }) s

/-- The engine carries out the descriptor in hand, writes its completion entry and goes on; `late` says that a forced gate ended its
access with DOMAIN_OFF (R641, R717). -/
def finishDesc (late : Bool) (e : Nat) (d : Descriptor) (s : State) : State :=
  let f := descFields d
  let index := (s.eng e).ringCons
  let ((st, n), s) := if late then ((7, 0), s) else descRun d f s
  let s := completeDesc e st n f s
  let ix := 0x7200 + e
  let s := (s.incO ix 2 1).incO ix 3 (if f.op = 0 then 0 else n)
  let s := if st = 0 then s else (s.incO ix 4 1).setO ix 5 st
  let s := if f.irq then signalVector (2 + e) s else s
  let s := if st = 0 then s else signalVector 10 s
  let s := if st = 0 then s else raise 0x7201 (pU32 e ++ pU32 st ++ pU32 index) s
  modEng e (fun g => dmaNext (if st = 0 || st = 6 then g else { g with enable := false, failed := true })) s

/-- DMA_DESCRIPTOR_DONE. A forced gate that waits for the descriptor closes behind it (R717). -/
def dmaDone (e : Nat) (d : Descriptor) (s : State) : State :=
  match s.host.gating.find? (fun x => x.1 == e) with
  | none => finishDesc false e d s
  | some x =>
    let late := decide (x.2 + 4000 < s.now)
    closeGate late e (finishDesc late e d s)

/-- DMA_DESCRIPTOR_DONE. -/
def execDmaDescriptorDone (e : Nat) (d : Descriptor) (s : State) : Host.Outcome State Fault Refusal :=
  onUnit e 8 (if (s.eng e).running then hostAccess (dmaDone e d) s else s)

/-- A write of a consumer count: 0 REPLY_CONSUMER, 1 EVENT_CONSUMER, 2 + e COMP_CONSUMER of engine e (R616, R617, R620). -/
def consumerPut (ring v : Nat) (s : State) : State :=
  match ring with
  | 0 => takeSlots (ringEased { s with host := { s.host with rpCons := v % 2 ^ 32 } })
  | 1 => drainQueues (ringEased { s with host := { s.host with evCons := v % 2 ^ 32 } })
  | _ => enginePut (ring - 2) 0x28 v s

/-- RING_CONSUMER_WRITE. -/
def execRingConsumerWrite (ring v : Nat) (s : State) : Host.Outcome State Fault Refusal :=
  onUnit ring 10 (hostAccess (consumerPut ring v) s)

/-! ### Writes of BAR0 (R607, Table 10-2) -/

/-- Whether an 8-octet register of BAR0 starts at an offset. -/
def wideReg (off : Nat) : Bool :=
  off == 0x8020 || off == 0x8040 || (decide (0x8100 ≤ off ∧ off < 0x8140) && off % 16 == 8) ||
  (decide (0x8200 ≤ off ∧ off < 0x8400) && (off % 64 == 0 || off % 64 == 0x18)) ||
  (decide (0x8400 ≤ off ∧ off < 0x8580) && off % 8 == 0)

/-- What an 8-octet register holds. -/
def wideGet (off : Nat) (s : State) : Nat :=
  if off = 0x8020 then s.host.rpBase
  else if off = 0x8040 then s.host.evBase
  else if off < 0x8140 then s.o 0x7100 (5 + (off - 0x8100) / 16)
  else if off < 0x8400 then
    let g := s.eng ((off - 0x8200) / 64)
    if off % 64 = 0 then g.ringBase else g.compBase
  else s.o 0x7700 ((off - 0x8400) / 8 + 1)

/-- A write of the whole register at an offset. -/
def barReg (off v : Nat) (s : State) : State :=
  if 0x8010 ≤ off ∧ off < 0x8020 then slotSubmit ((off - 0x8010) / 4) v s
  else if off = 0x8030 then consumerPut 0 v s
  else if off = 0x8050 then consumerPut 1 v s
  else if 0x8100 ≤ off ∧ off < 0x8140 then
    (match off % 16 with
     | 0 => apPut ((off - 0x8100) / 16) false v s
     | 8 => apPut ((off - 0x8100) / 16) true v s
     | _ => s)
  else if 0x8200 ≤ off ∧ off < 0x8400 then enginePut ((off - 0x8200) / 64) (off % 64) v s
  else bar0Write off v s

/-- R607: an aligned write of 4 octets changes a register of 4 octets, or half of one of 8; an aligned write of 8 octets changes one
register of 8 or two of 4. Any other write of a register is ignored. A request slot takes writes of any size. -/
def barWrite (off size v : Nat) (s : State) : State :=
  if off < 0x8000 then
    { s with host := { s.host with slots := (List.range size).foldl (fun m i =>
      if off + i < 0x8000 then Sparse.set (fun _ => 0) m (off + i) (BitVec.ofNat 8 (v / 2 ^ (8 * i))) else m) s.host.slots } }
  else
  let lo := v % 2 ^ 32
  let hi := v / 2 ^ 32 % 2 ^ 32
  if size = 4 && off % 4 == 0 then
    let base := off / 8 * 8
    if !(wideReg base) then barReg off lo s
    else if off = base then barReg base (wideGet base s / 2 ^ 32 * 2 ^ 32 + lo) s
    else barReg base (lo * 2 ^ 32 + wideGet base s % 2 ^ 32) s
  else if size = 8 && off % 8 == 0 then
    if wideReg off then barReg off (hi * 2 ^ 32 + lo) s else barReg (off + 4) hi (barReg off lo s)
  else s

/-- MB_CONTROL_WRITE: a write of BAR0, of MB_CONTROL or of any other register. -/
def execMbControlWrite (off : Nat) (v : BarValue) (s : State) : Host.Outcome State Fault Refusal :=
  .next (hostAccess (barWrite off v.size v.num) s)

/-! ### The link -/

/-- The link comes up: speed and width as they trained, which the manual leaves to the host and the board. -/
def linkUp (s : State) : State :=
  if s.o 0x7000 5 = 2 then s
  else
    let (a, s) := s.takeNat 5
    let (b, s) := s.takeNat 5
    ((s.setO 0x7000 3 (a + 1)).setO 0x7000 4 (2 ^ b)).setO 0x7000 5 2

/-- BAR0 at its reset values, and every DMA engine stopped (R605). -/
def resetBar0 (s : State) : State :=
  let keep (k : Nat) : Bool := !(k / 256 == 0x7700 || (k / 256 == 0x7100 && decide (k % 256 ≤ 8)))
  let h : HostSt := {
    met := s.host.met, heldPkts := s.host.heldPkts, noc := s.host.noc, refusedAt := s.host.refusedAt, stalled := s.host.stalled, slots := s.host.slots }
  { s with host := h
           obj := s.obj.filter (fun p => keep p.1) }

/-- PCIE_RESET: 0 PERST_N, 1 hot reset, 2 function-level reset (R605). -/
def execPcieReset (kind : Nat) (s : State) : Host.Outcome State Fault Refusal :=
  onUnit kind 3 (if !(endpointOn s) then s
  else
    -- no descriptor is in progress any more that a forced gate waits for (R717)
    let s := s.host.gating.foldl (fun s x => closeGate false x.1 s) (resetBar0 (closeMailbox s))
    let s := if kind = 2 then s else ((s.setO 0x7000 3 0).setO 0x7000 4 0).setO 0x7000 5 0
    raise 0x7011 (pU8 kind) (s.incO 0x7010 5 1))

/-- PCIE_CREDIT_STALL: no posted credits for 7010h:07 ms (R637). With 0 ms, credits flow again. -/
def execPcieCreditStall (ms : Nat) (s : State) : Host.Outcome State Fault Refusal :=
  .next (if !(endpointOn s) then s
  else if ms = 0 then { s with host := { s.host with stalled := false } }
  else
    let s := s.maxO 0x7010 6 ms
    if ms < s.o 0x7010 7 || s.host.stalled then s
    else raise 0x7012 (pU32 ms) { s with host := { s.host with stalled := true } })

/-- Configuration word at an offset: vendor and device ID, class code; power management and device control at the places
that log 40 presumes. Any other word is open. -/
def configRead (off : Nat) (s : State) : Nat × State :=
  match off with
  | 0x00 => (s.o 0x7000 2 * 65536 + Config.factory (okey 0x7000 1) % 65536, s)
  | 0x08 => (0x12 * 2 ^ 24, s)
  | 0x44 => (if s.host.d3hot then 3 else 0, s)
  | _ => s.takeNat (2 ^ 32)

/-- A configuration write: D0 or D3hot, maximum payload and read request. -/
def configWrite (off v : Nat) (s : State) : State :=
  match off with
  | 0x44 => if v % 4 = 3 then { s with host := { s.host with d3hot := true } }
            else if v % 4 = 0 then { s with host := { s.host with d3hot := false } } else s
  | 0x78 =>
    let s := if fld v 5 3 ≤ 2 then s.setO 0x7000 6 (128 * 2 ^ fld v 5 3) else s
    if fld v 12 3 ≤ 5 then s.setO 0x7000 7 (128 * 2 ^ fld v 12 3) else s
  | _ => s

/-- CONFIGURATION_REQUEST (R604, R606, R828): retry status until the vendor part runs. -/
def execConfigurationRequest (write : Bool) (off v : Nat) (s : State) : Host.Outcome State Fault Refusal :=
  .next (if !(endpointOn s) then s
  else if !s.boot.firmware then s.emit (.configReply true 0)
  else
    let s := linkUp s
    if write then (configWrite off v s).emit (.configReply false 0)
    else
      let (n, s) := configRead off s
      s.emit (.configReply false n))

/-! ### Packet network -/

/-- PACKET_RECEIVED: a packet crosses the network and reaches its endpoint, through the gate of its domain where it has one. -/
def execPacketReceived (p : NocPacket) (s : State) : Host.Outcome State Fault Refusal :=
  .next (if domState s 2 = 2 then receivePacket p s else s)

/-- ROUTING_TABLE_SWITCH: firmware has written a router's pending table, which takes effect in a clock without a worm in flight through
the router (R643, R644). -/
def execRoutingTableSwitch (router : Nat) (s : State) : Host.Outcome State Fault Refusal :=
  onUnit router 28 (if domState s 2 = 2 then switchTables (newTable router s) else s)

/-- Serve a command of 7380h:01. -/
def statsCommand (r : Req) (c : Nat) (f : State → State) (s : State) : Host.Outcome State Fault Refusal :=
  .next (serveWrite r 0x7380 1 { ty := 2, data := [BitVec.ofNat 8 c] } (fun _ s => (.ok, f s)) s)

/-- STATS_CLEAR (R647). -/
def execStatsClear (r : Req) (s : State) : Host.Outcome State Fault Refusal :=
  statsCommand r 1 (fun s => { s with obj := s.obj.filter (fun p => !(decide (0x7300 ≤ p.1 / 256 ∧ p.1 / 256 ≤ 0x7310))) }) s

/-- STATS_FREEZE (R647). -/
def execStatsFreeze (r : Req) (s : State) : Host.Outcome State Fault Refusal := statsCommand r 2 (fun s => s.setO 0x7380 2 1) s

/-- STATS_RESUME (R647). -/
def execStatsResume (r : Req) (s : State) : Host.Outcome State Fault Refusal := statsCommand r 3 (fun s => s.setO 0x7380 2 0) s

end Sys2Proof.Machine
end

