-- ==== Sys2Proof/Machine/Time.lean ====
section
/-! DEFINITION. The time base and the ordinary clock (chapter 11): local time, system time and its steps, the servo,
path delays, and the commands of their rows. -/

namespace Sys2Proof.Machine

/-! ### Local and system time -/

/-- R654: rebase OFFSET and ANCHOR at FRC value f. -/
def rebase (f : Nat) (s : State) : State :=
  let o := s.time.offset + s.time.rate * ((f : Int) - s.time.anchor) / 2 ^ 32
  { s with time := { s.time with offset := o, anchor := f } }

/-- R653: the range of RATE. -/
def clampRate (r : Int) : Int := max (-2147483) (min 2147483 r)

/-- R654: change RATE now. -/
def setRate (r : Int) (s : State) : State :=
  if clampRate r = s.time.rate then s
  else
    let s := rebase s.now s
    { s with time := { s.time with rate := clampRate r } }

/-- Let the FRC reach f; at a wrap of FRC[31:0] the offset is rebased (R649, R654). -/
def advanceFrc (f : BitVec 64) (s : State) : State :=
  let s := { s with time := { s.time with frc := f } }
  if f.toNat % 2 ^ 32 = 0 then rebase f.toNat s else s

/-- R745: whether ALERT_N is driven low. -/
def alertN (s : State) : Bool :=
  let on (i : Nat) : Bool := bitOf (s.o 0x2200 0x0A) i
  (on 0 && decide (s.o 0x2400 6 < 16)) || (on 1 && s.pwr.haltLevel) || (on 2 && s.pwr.pfailLow) ||
  (on 3 && decide (s.o 0x2200 4 < 250000)) || (on 4 && s.o 0x2020 9 % 8 != 0) || (on 5 && s.o 0x6000 1 == 6)

/-- The land follows its conditions: a change of its level leaves the module (R745). -/
def driveAlert (s : State) : State :=
  if s.pwr.alert = alertN s then s
  else { s.emit (.alertN (alertN s)) with pwr := { s.pwr with alert := alertN s } }

/-- FRC_WRAP (R654): local time reaches the next wrap of FRC[31:0]. -/
def execFrcWrap (s : State) : Host.Outcome State Fault Refusal :=
  .next (if domState s 4 = 2 then advanceFrc (BitVec.ofNat 64 ((s.now / 2 ^ 32 + 1) * 2 ^ 32)) s else s)

/-- Object value of an I64. -/
def pI64 (i : Int) : List Octet := octetsBE 8 (ofSigned 64 i)

/-- The TIMEMAP record of the trace unit is due: at the next commit in a run, and at once otherwise (R795, log 46). -/
def traceStepped (due : Option (Nat × Nat × Nat)) (s : State) : State :=
  if !(traceOn s) then s
  else
    let s := { s with trace := { s.trace with timeMap := due } }
    if inRun s then s else timeMapRec s

/-- Lantern's TIMEMAP record is due: at the next commit, and in ANALYZER, which has no commit, at once (R346, R361, R656). -/
def lanternStepped (due : Option (Nat × Nat × Nat)) (s : State) : State :=
  if s.lan.ctx.acq = .disarmed then s
  else
    let s := { s with lan := { s.lan with timeMap := due } }
    if s.pwr.mode = 8 then timeMapRecords (cycleField s) (flushExt s) else s

/-- R655-R657: step system time by d ns. -/
def stepTime (d : Int) (s : State) : State :=
  let s := { s with time := { s.time with offset := s.time.offset + d } }
  let s := s.incO 0x7800 7 1
  let s := raise 0x7801 (pI64 d ++ pU32 (s.o 0x7800 7) ++ pU64 s.now) s
  let due := some (s.now, ofSigned 64 (sysTime s), s.o 0x7800 7)
  traceStepped due (lanternStepped due s)

/-- SET_TIME: 7800h:08 (R658). -/
def execSetTime (r : Req) (v : WVal) (s : State) : Host.Outcome State Fault Refusal :=
  .next (serveWrite r 0x7800 8 v (fun _ s =>
    if s.o 0x7820 0x0D == 8 || s.o 0x7820 0x0D == 9 then (.busy, s)
    else (.ok, stepTime ((natBE v.data : Int) - sysTime s) s)) s)

/-! ### The servo (R661-R665) -/

/-- Duration since FRC value f, in ms. -/
def msSince (s : State) (f : Nat) : Nat := (s.now - f) / 1000000

/-- R664: the servo loses its master: HOLDOVER at RATE_I. -/
def enterHoldover (s : State) : State :=
  let s := setServo 3 (setRate s.time.rateI s)
  let s := { s with time := { s.time with since := s.now } }
  raise 0x7802 (octetsBE 10 (s.time.master.getD 0) ++ pI64 s.time.rate) s

/-- R665: the first sample from a newly selected master. -/
def welcomeMaster (s : State) : State :=
  if !s.time.newMaster then s
  else
    let old := s.o 0x7810 1
    let s := if old = 0 || old = 3 then setServo 1 s else s
    let s := if old = 3 then raise 0x7803 (pU32 (msSince s s.time.since)) s else s
    let s := match s.time.former, s.time.master with
      | some a, some b => if a != b then raise 0x7821 (octetsBE 10 b) s else s
      | _, _ => s
    { s with time := { s.time with newMaster := false, former := s.time.master } }

/-- R661-R663: the servo handles an offset sample e. -/
def servoSample (e : Int) (s : State) : State :=
  let s := s.setO 0x7810 6 (ofSigned 64 e)
  let st := s.o 0x7810 1
  let allowed := st == 1 || (st == 2 && s.o 0x7810 3 == 0)
  if decide ((s.o 0x7810 2 : Int) < (e.natAbs : Int)) && allowed then
    let s := setServo 1 (stepTime (-e) s)
    { s with time := { s.time with inLock := 0 } }
  else
    let ri := clampRate (s.time.rateI - (s.o 0x7810 5 : Int) * e / 256)
    let s := { s with time := { s.time with rateI := ri } }
    let s := setRate (ri - (s.o 0x7810 4 : Int) * e / 256) s
    let n := if e.natAbs ≤ s.o 0x7810 8 then s.time.inLock + 1 else 0
    let s := { s with time := { s.time with inLock := n } }
    if 4 ≤ n && st == 1 then raise 0x7811 (pI64 e) ((setServo 2 s).setO 0x7820 0x0D 9) else s

/-- An offset sample from the master arrives: a FROZEN or DEGRADED servo ignores it (R660, R677). -/
def offsetSample (e : Int) (s : State) : State :=
  if s.o 0x7810 1 == 4 || s.o 0x7810 1 == 5 then s
  else
    let s := welcomeMaster s
    if s.o 0x7810 1 == 1 || s.o 0x7810 1 == 2 then servoSample e s else s

/-! ### Path delay (R675-R677) -/

/-- Mean of a list of measurements, rounded down; 0 for none. -/
def meanOf (l : List Int) : Int := if l.isEmpty then 0 else l.foldl (· + ·) 0 / (l.length : Int)

/-- R676: the mean of the last 8 measurements. -/
def meanDelay (l : List Int) : Int := meanOf (l.take 8)

/-- A measurement v of filter i (0 request-response, 1 + p peer delay of port p), taken on port p (R676, R677). Each of a
row of outliers is compared with the mean that stood before the row. -/
def delaySample (i p : Nat) (v : Int) (s : State) : State :=
  let l := s.time.delays.getD i []
  let outs := s.time.outliers.getD i []
  let former := meanDelay (l.drop outs.length)
  let far := !(l.drop outs.length).isEmpty && decide ((s.o 0x7820 0x10 : Int) < ((v - former).natAbs : Int))
  let outs := if far then v :: outs else []
  let store (l outs : List Int) (s : State) : State :=
    let s := { s with time := { s.time with delays := s.time.delays.set i l, outliers := s.time.outliers.set i outs } }
    if i = 0 then s.setO 0x7810 7 (ofSigned 64 (meanDelay l)) else s
  if 4 ≤ outs.length then
    let s := store outs [] s
    let s := raise 0x7841 (pU8 p ++ pI64 former ++ pI64 (meanOf outs)) s
    if s.o 0x7820 0x11 = 0 || s.o 0x7810 1 = 5 then s else setServo 4 (setRate s.time.rateI s)
  else store ((v :: l).take 12) outs s

/-- PATH_FREEZE_END (R677). -/
def execPathFreezeEnd (s : State) : Host.Outcome State Fault Refusal :=
  .next (if s.o 0x7810 1 = 4 then
    let s := { s with time := { s.time with inLock := 0 } }
    setServo 1 s else s)

/-! ### The ordinary clock -/

/-- Factory MAC address (7B00h:01). -/
def macAddress : Nat := Config.factory (okey 0x7B00 1) % 2 ^ 48

/-- clockIdentity: the EUI-64 of the factory address. -/
def clockIdentity : Nat := (macAddress / 2 ^ 24) * 2 ^ 40 + 0xFFFE * 2 ^ 24 + macAddress % 2 ^ 24

/-- sourcePortIdentity of the ordinary clock. -/
def ownPortId : Nat := clockIdentity * 65536 + 1

/-- Data set of the module's own clock (R666). -/
def ownDs (s : State) : List Nat :=
  [if s.o 0x7820 2 = 2 then s.o 0x7820 6 else 255] ++ Config.ptpQuality ++ [s.o 0x7820 7, clockIdentity, 0]

/-- Default data-set comparison: the lower value in the first place where two data sets differ is better. -/
def dsBetter : List Nat → List Nat → Bool
  | a :: as, b :: bs => decide (a < b) || (a == b && dsBetter as bs)
  | _, _ => false

/-- Whether the ordinary clock handles messages: enabled, local time running, its port neither FAULTY nor DISABLED. -/
def clockRuns (s : State) : Bool :=
  s.o 0x7820 1 == 1 && domState s 4 == 2 && s.o 0x7820 0x0D != 2 && s.o 0x7820 0x0D != 3

/-- R673: whether the transparent clock in peer-to-peer mode answers Pdelay messages and measures the peer delays, with the ordinary clock
on or off. -/
def tcMeasures (s : State) : Bool :=
  s.o 0x7820 5 == 2 && s.o 0x7830 2 == 1 && s.o 0x7831 2 == 1 && s.o 0x7A00 1 == 1 && domState s 4 == 2

/-- Whether PTP can leave and reach port p: its link is up, and over UDP/IPv4 the module has an address (R668, R693). -/
def ptpPort (s : State) (p : Nat) : Bool :=
  s.o (0x7900 + p) 1 == 1 && (s.o 0x7820 4 != 2 || s.net.addr != 0)

/-- Whether a message carries a one-step stamp, inserted as the frame leaves (R669). -/
def oneStep : PtpMsg → Bool
  | .sync _ _ twoStep _ => !twoStep
  | .pdelayResp _ _ twoStep _ => !twoStep
  | _ => false

/-- Send one message on port p, under the VLAN ID of 7A00h:05 (R686); over UDP/IPv4 a one-step stamp sets the UDP checksum to 0 (R669).
`lost` says whether the frame was lost to excessive collisions, where the command tells it; a frame lost on the link is not sent again,
and the answer says whether it left (R670, R679). -/
def sendPtp (p : Nat) (lost : Option Bool) (m : PtpMsg) (s : State) : Bool × State :=
  let met : Bool × State := match lost with
    | some true => (false, (collide p 16 false s).2)
    | some false => transmit p 15 s
    | none => transmit p 16 s
  match met with
  | (false, s) => (false, s)
  | (true, s) =>
    let udp := s.o 0x7820 4 == 2
    (true, (s.emit (.ptp p (s.o 0x7A00 5) udp (udp && oneStep m) m s.now)).incO (0x7830 + p) 9 1)

/-- Transmit stamp of port p in system time (R667). -/
def txStamp (s : State) (p : Nat) : Int := sysTime s + s.o (0x7830 + p) 4

/-- R667: receive stamp of port p in system time. -/
def rxTime (s : State) (p rxStamp : Nat) : Int := sysTimeAt s rxStamp + s.o (0x7830 + p) 3

/-- Path delay that the offset computation takes for port p. -/
def pathDelay (s : State) (p : Nat) : Int :=
  if s.o 0x7820 5 = 2 then meanDelay (s.time.delays.getD (1 + p) []) else toSigned 64 (s.o 0x7810 7)

/-- A Sync of the master with its origin known: the offset sample of it (R661, R675). -/
def syncSample (p : Nat) (t2 origin corr : Int) (s : State) : State :=
  let d := t2 - origin - corr / 65536
  let s := { s with time := { s.time with msDelay := d } }
  offsetSample (d - pathDelay s p - toSigned 32 (s.o (0x7830 + p) 5)) s

/-- The clock takes src as its master, in UNCALIBRATED. -/
def selectMaster (src : Nat) (ds : List Nat) (s : State) : State :=
  let s := forgetMaster s
  let s := { s with time := { s.time with master := some src, masterDs := ds, newMaster := true, inLock := 0 } }
  s.setO 0x7820 0x0D 8

/-- An Announce (best master clock algorithm by default data-set comparison). -/
def announceIn (src : Nat) (ds : List Nat) (utc : Int) (s : State) : State :=
  let key := ds ++ [src]
  let takeUtc (s : State) : State := s.setO 0x7820 0x0F (ofSigned 32 utc)
  if s.o 0x7820 2 = 2 && dsBetter (ownDs s ++ [ownPortId]) key then
    if s.time.master = some src then (forgetMaster s).setO 0x7820 0x0D 6 else s
  else if s.time.master = some src then takeUtc { s with time := { s.time with masterDs := ds } }
  else match s.time.master with
  | none => takeUtc (selectMaster src ds s)
  | some m => if dsBetter key (s.time.masterDs ++ [m]) then takeUtc (selectMaster src ds s) else s

/-- The ordinary clock handles a received message (R666-R669, R673, R676). -/
def ptpHandle (p src : Nat) (m : PtpMsg) (rxStamp : Nat) (s : State) : State :=
  let s := if s.o 0x7820 0x0D = 1 then s.setO 0x7820 0x0D 4 else s
  let t := rxTime s p rxStamp
  let fromMaster := s.time.master == some src
  let e2e := s.o 0x7820 5 == 1
  match m with
  | .announce ds utc => announceIn src ds utc s
  | .sync origin corr twoStep seq =>
    if !fromMaster then s
    else if twoStep then { s with time := { s.time with sync := some (seq, t, corr) } }
    else syncSample p t origin corr s
  | .followUp origin corr seq =>
    match s.time.sync with
    | some (q, t2, c) =>
      if fromMaster && q == seq then
        syncSample p t2 origin (c + corr) { s with time := { s.time with sync := none } }
      else s
    | none => s
  | .delayReq seq corr =>
    if e2e && s.o 0x7820 0x0D == 6 then
      (List.range 2).foldl (fun s q => if ptpPort s q then (sendPtp q none (.delayResp t corr seq) s).2 else s) s
    else s
  | .delayResp receive corr seq =>
    match s.time.req.getD p none with
    | some (q, t3) =>
      if e2e && fromMaster && q == seq then
        let s := { s with time := { s.time with req := s.time.req.set p none } }
        delaySample 0 p ((s.time.msDelay + (receive - t3 - corr / 65536)) / 2) s
      else s
    | none => s
  | .pdelayReq seq =>
    if e2e then s
    else if s.o (0x7830 + p) 1 = 1 then (sendPtp p none (.pdelayResp t ((txStamp s p - t) * 65536) false seq) s).2
    else match sendPtp p none (.pdelayResp t 0 true seq) s with
    | (true, s) => (sendPtp p none (.pdelayRespFollowUp (txStamp s p) 0 seq) s).2
    | (false, s) => s
  | .pdelayResp receive corr twoStep seq =>
    match s.time.preq.getD p none with
    | some (q, t1) =>
      if e2e || q != seq then s
      else if twoStep then
        { s with time := { s.time with presp := s.time.presp.set p (some (seq, receive - corr / 65536, t)) } }
      else
        let s := { s with time := { s.time with preq := s.time.preq.set p none } }
        delaySample (1 + p) p ((t - t1 - corr / 65536) / 2) s
    | none => s
  | .pdelayRespFollowUp origin corr seq =>
    match s.time.preq.getD p none, s.time.presp.getD p none with
    | some (q, t1), some (q', t2, t4) =>
      if e2e || q != seq || q' != seq then s
      else
        let s := { s with time := { s.time with
          preq := s.time.preq.set p none, presp := s.time.presp.set p none } }
        delaySample (1 + p) p ((t4 - t1 - (origin + corr / 65536 - t2)) / 2) s
    | _, _ => s
  | .other => s

/-- The messages of the peer-to-peer delay mechanism. -/
def peerMessage : PtpMsg → Bool
  | .pdelayReq _ | .pdelayResp _ _ _ _ | .pdelayRespFollowUp _ _ _ => true
  | _ => false

/-- PTP_MESSAGE (R667): a message in the clock's domain from sourcePortIdentity src, stamped rxStamp at port p. -/
def execPtpMessage (p src : Nat) (m : PtpMsg) (rxStamp : Nat) (s : State) : Host.Outcome State Fault Refusal :=
  onUnit p 2 (
    if domState s 4 != 2 then s
    else
      let s := s.incO (0x7830 + p) 8 1
      if (clockRuns s || (peerMessage m && tcMeasures s)) && ptpPort s p then ptpHandle p src m rxStamp s else s)

/-- MASTER_LOST (R664). Without a master, a master-capable clock becomes MASTER. -/
def execMasterLost (s : State) : Host.Outcome State Fault Refusal :=
  .next (
    if !(clockRuns s) then s
    else
      let heldOver := s.time.master.isSome && s.o 0x7810 1 != 3 && s.o 0x7810 1 != 5
      let s := if heldOver then enterHoldover s else s
      (forgetMaster s).setO 0x7820 0x0D (if s.o 0x7820 2 = 2 then 6 else 4))

/-- Message kind n of the module's own: 0 Announce, 1 Sync, 2 Delay_Req, 3 Pdelay_Req. -/
def ownKindDue (s : State) (kind : Nat) : Bool :=
  let ps := s.o 0x7820 0x0D
  match kind with
  | 0 | 1 => ps == 6
  | 2 => (ps == 8 || ps == 9) && s.o 0x7820 5 == 1
  | 3 => s.o 0x7820 5 == 2
  | _ => false

/-- One copy of an own message, for port p (R668-R670). -/
def ownCopy (kind seq : Nat) (lost : Bool) (p : Nat) (s : State) : State :=
  let t := txStamp s p
  let lost := some lost
  match kind with
  | 0 => (sendPtp p lost (.announce (ownDs s) (toSigned 32 (s.o 0x7820 0x0F))) s).2
  | 1 =>
    if s.o (0x7830 + p) 1 = 1 then (sendPtp p lost (.sync t 0 false seq) s).2
    else match sendPtp p lost (.sync 0 0 true seq) s with
    | (true, s) => (sendPtp p none (.followUp t 0 seq) s).2
    | (false, s) => s
  | 2 =>
    match sendPtp p lost (.delayReq seq 0) s with
    | (true, s) => { s with time := { s.time with req := s.time.req.set p (some (seq, t)) } }
    | (false, s) => s
  | _ =>
    match sendPtp p lost (.pdelayReq seq) s with
    | (true, s) => { s with time := { s.time with
        preq := s.time.preq.set p (some (seq, t)), presp := s.time.presp.set p none } }
    | (false, s) => s

/-- PTP_TRANSMIT (R666, R668-R670): an own message goes out on every external port whose link is up; `collided` lists the
half-duplex ports that lose their copy. -/
def execPtpTransmit (kind : Nat) (collided : List Nat) (s : State) : Host.Outcome State Fault Refusal :=
  .next (
    if !((clockRuns s || (kind == 3 && tcMeasures s)) && ownKindDue s kind) then s
    else
      let q := s.time.nextSeq
      let s := { s with time := { s.time with nextSeq := (q + 1) % 65536 } }
      (List.range 2).foldl (fun s p =>
        if ptpPort s p then ownCopy kind q (collided.contains p && s.o (0x7900 + p) 3 == 0) p s else s) s)

/-! ### Settings -/

/-- R696: whether a value lies in the range that Table 11-6 gives an object. -/
def timeRangeOk (idx sub n : Nat) : Bool :=
  let i := toSigned 32 n
  if idx = 0x7810 then
    match sub with
    | 2 => decide (1000 ≤ n ∧ n ≤ 1000000000)
    | 3 => n ≤ 1
    | _ => true
  else if idx = 0x7820 then
    match sub with
    | 2 | 4 | 5 => n == 1 || n == 2
    | 3 => n ≤ 127
    | 8 => decide (-7 ≤ i ∧ i ≤ 4)
    | 9 => decide (-3 ≤ i ∧ i ≤ 4)
    | 0x0A => decide (2 ≤ n ∧ n ≤ 10)
    | 0x0B => decide (-7 ≤ i ∧ i ≤ 5)
    | 0x11 => n ≤ 600000
    | 0x12 => decide (2 ≤ n ∧ n ≤ 64)
    | _ => true
  else if idx = 0x7830 || idx = 0x7831 then
    match sub with
    | 1 => n == 1 || n == 2
    | 3 | 4 => n ≤ 10000
    | _ => true
  else if idx = 0x7900 || idx = 0x7901 then sub != 4 || n ≤ 31
  else if idx = 0x7A00 then
    match sub with
    | 3 => decide (10 ≤ n ∧ n ≤ 3600)
    | 5 => n ≤ 4094
    | _ => true
  else if idx = 0x7B00 then sub != 2 || n ≤ 1
  else true

/-- R697: the ordinary clock restarts in INITIALIZING; a LOCKED or ACQUIRING servo enters HOLDOVER. -/
def restartClock (s : State) : State :=
  let s := if s.o 0x7810 1 == 1 || s.o 0x7810 1 == 2 then enterHoldover s else s
  let s := forgetMaster s
  if s.o 0x7820 1 == 1 && s.o 0x7820 0x0D != 2 then s.setO 0x7820 0x0D 1 else s

/-- Handler of a write to an object of the ordinary clock (7820h). -/
def clockWrite (sub n : Nat) (s : State) : Status × State :=
  if !(timeRangeOk 0x7820 sub n) then (.badValue, s)
  else
    let s := s.setO 0x7820 sub n
    if sub = 1 then
      if s.o 0x7820 0x0D = 2 then (.ok, s)
      else (.ok, (if n = 1 then (if s.o 0x7820 0x0D = 3 then s.setO 0x7820 0x0D 1 else s)
        else (forgetMaster s).setO 0x7820 0x0D 3))
    else if (2 ≤ sub && sub ≤ 5) || (8 ≤ sub && sub ≤ 0x0B) then (.ok, restartClock s)
    else (.ok, s)

/-- PTP_CONFIG_WRITE: an object of 7820h (R697). -/
def execPtpConfigWrite (r : Req) (sub : Nat) (v : WVal) (s : State) : Host.Outcome State Fault Refusal :=
  .next (serveWrite r 0x7820 sub v (fun _ s => clockWrite sub (natBE v.data) s) s)

end Sys2Proof.Machine
end

