-- ==== Sys2Proof/Machine/Net.lean ====
section
/-! DEFINITION. The management ports (chapter 11): the two SGMII links, the switch with its transparent clock, traffic to
the module, and the module's address, with the commands of their rows. -/

namespace Sys2Proof.Machine

/-- Change the management-port state. -/
def modNet (f : NetSt → NetSt) (s : State) : State := { s with net := f s.net }

/-- Whether the management ports work: the module has left STANDBY. -/
def netOn (s : State) : Bool := decide (2 ≤ s.pwr.mode)

/-! ### Links (R678-R681, R585) -/

/-- PHY_POLL (R678, R681, Table 11-4): what SGMII auto-negotiation and the PHY report for port p; speed as 7900h+p:02. -/
def execPhyPoll (p : Nat) (st : PhyStatus) (s : State) : Host.Outcome State Fault Refusal :=
  onUnit p 2 (
    if !(netOn s) then s
    else
      let speed := if st.speed ≤ 3 then st.speed else 0
      let bad := st.link && speed == 3 && !st.fullDuplex
      let up := st.link && !bad
      let ix := 0x7900 + p
      let was := (s.o ix 1, s.o ix 2, s.o ix 3)
      let is_ := (up.toNat, if up then speed else 0, if up then st.fullDuplex.toNat else 0)
      -- registers 0 and 1 of the PHY are read
      let phy := s.o ix 4
      let s := (s.emit (.mdio p phy 0)).emit (.mdio p phy 1)
      let s := if bad && !(s.net.badDuplex.getD p false) then raise 0x7902 (pU8 p) s else s
      let s := modNet (fun n => { n with
        badDuplex := n.badDuplex.set p bad
        downAt := if !up && was.1 == 1 then n.downAt.set p s.now else n.downAt }) s
      if was == is_ then s
      else
        let s := ((s.setO ix 1 is_.1).setO ix 2 is_.2.1).setO ix 3 is_.2.2
        drainQueues (raise 0x7901 (pU8 p ++ pU8 is_.1 ++ pU8 is_.2.1 ++ pU8 is_.2.2) s))

/-- TRANSPORT_LOST (R585 cause 4): the link of port p has been down for 10 s. -/
def execTransportLost (p : Nat) (s : State) : Host.Outcome State Fault Refusal :=
  onUnit p 2 (
    if !(netOn s) || s.o (0x7900 + p) 1 == 1 then s
    else ((s.acp.sessions.filter (fun x => x.isOpen && x.carrier == p)).map (fun x => x.id)).foldl
      (fun s n => closeSession n 4 s) s)

/-! ### Frames (R679, R680) -/

/-- Whether an address is a multicast or broadcast address. -/
def isMulticast (mac : Nat) : Bool := bitOf mac 40

/-- Destinations that the switch never forwards (R683). -/
def linkLocal (mac : Nat) : Bool := mac / 16 == 0x0180C200000

/-- R680: whether the MAC drops a frame as an error: its length, a second VLAN tag, its FCS, or a MAC control frame (log 50). -/
def macError (f : EthFrame) : Bool :=
  decide (f.length < 64 ∨ 1522 < f.length) || decide (1 < f.vlan.length) || !f.fcsOk || f.macControl || f.dst == 0x0180C2000001

/-! ### The switch (R671-R674, R682-R684) -/

/-- Learn a source address on a port, up to 512 of them (R682). -/
def learnMac (mac p : Nat) (s : State) : State :=
  if isMulticast mac then s
  else
    let rest := s.net.macs.filter (fun e => e.1 != mac)
    if rest.length < 512 then modNet (fun n => { n with macs := (mac, p, s.now) :: rest }) s else s

/-- R684: the storm limit of frames that come in at port p; none when the frame is dropped. -/
def stormTake (p : Nat) (s : State) : Option State :=
  let (n, start) := s.net.storm.getD p (0, 0)
  let fresh := decide (1000000000 + start ≤ s.now)
  let n' := if fresh then 0 else n
  if n' < s.o 0x7A00 4 then
    some (modNet (fun t => { t with storm := t.storm.set p (n' + 1, if fresh then s.now else start) }) s)
  else none

/-- Residence time of a frame in units of 2^-16 ns (R667, R671). -/
def residence (s : State) (i j : Nat) (f : EthFrame) : Int :=
  let t : Int := (f.txStamp + s.o (0x7830 + j) 4 : Nat) - (f.rxStamp + s.o (0x7830 + i) 3 : Nat)
  if s.o 0x7810 1 == 2 || s.o 0x7810 1 == 3 then t * 65536 + t * s.time.rate / 65536 else t * 65536

/-- A PTP message as the transparent clock forwards it from port i to port j (R671-R673); none when it is not forwarded. -/
def tcMessage (i j src : Nat) (m : PtpMsg) (f : EthFrame) (s : State) : Option (PtpMsg × State) :=
  let r := residence s i j f
  let p2p := s.o 0x7820 5 == 2
  let c := if p2p then r + (meanDelay (s.time.delays.getD (1 + i) []) + toSigned 32 (s.o (0x7830 + i) 5)) * 65536 else r
  let counted := s.incO (0x7830 + j) 7 1
  match m with
  | .pdelayReq _ | .pdelayResp _ _ _ _ | .pdelayRespFollowUp _ _ _ => none
  | .sync o k false q => some (.sync o (k + c) false q, counted)
  | .sync o k true q =>
    some (.sync o k true q, modNet (fun n => { n with tc := n.tc ++ [(j, src, q, c)] }) s)
  | .followUp o k q =>
    match s.net.tc.find? (fun e => e.1 == j && e.2.1 == src && e.2.2.1 == q) with
    | some e => some (.followUp o (k + e.2.2.2) q, modNet (fun n => { n with tc := n.tc.erase e }) counted)
    | none => some (m, s)
  | .delayReq q k => if p2p then some (m, s) else some (.delayReq q (k + r), counted)
  | _ => some (m, s)

/-- A frame leaves at port j. -/
def egress (j : Nat) (f : EthFrame) (s : State) : State :=
  match collide j f.collisions f.late s with
  | (true, s) => s
  | (false, s) => (s.emit (.eth j f)).incO (0x7900 + j) 6 1

/-- Whether the switch forwards a frame from port i to port j: the link of j is up, and it is no message that the transparent clock keeps
back (R673). -/
def forwards (i j : Nat) (f : EthFrame) (s : State) : Bool :=
  s.o (0x7900 + j) 1 == 1 && !(s.o 0x7830 2 == 1 && s.o 0x7831 2 == 1 &&
    (match f.payload with | .ptp _ _ src m => (tcMessage i j src m f s).isNone | _ => false))

/-- Forward a frame from port i to port j, through the transparent clock when both ports enable it. -/
def forwardTo (i j : Nat) (f : EthFrame) (s : State) : State :=
  if s.o (0x7900 + j) 1 != 1 then s
  else if s.o 0x7830 2 == 1 && s.o 0x7831 2 == 1 then
    match f.payload with
    | .ptp udp dom src m =>
      match tcMessage i j src m f s with
      | none => s
      | some (m, s) => egress j { f with payload := .ptp udp dom src m } s
    | _ => egress j f s
  else egress j f s

/-- SWITCH_FORWARD (R682-R684): a frame that came in at external port f.port and may go to the other one; one to the module's own
address goes to the internal port alone. -/
def execSwitchForward (f : EthFrame) (s : State) : Host.Outcome State Fault Refusal :=
  onUnit f.port 2 (
    let i := f.port
    if !(netOn s) || s.o (0x7900 + i) 1 != 1 then s
    else
      let s := s.incO (0x7900 + i) 5 1
      if macError f then s.incO (0x7900 + i) 0x0A 1
      else if s.o 0x7A00 1 != 1 then s
      else
        let known := (s.net.macs.find? (fun e => e.1 == f.dst)).map (fun e => e.2.1)
        let s := learnMac f.src i s
        if linkLocal f.dst || known == some i || f.dst == macAddress || !(forwards i (1 - i) f s) then s
        else if isMulticast f.dst then
          match stormTake i s with
          | some s => forwardTo i (1 - i) f s
          | none => s.incO (0x7900 + i) 0x0D 1
        else forwardTo i (1 - i) f s)

/-- TC_FOLLOWUP_MISSED (R672): the oldest correction that waits at port p is discarded. -/
def execTcFollowupMissed (p : Nat) (s : State) : Host.Outcome State Fault Refusal :=
  onUnit p 2 (
    match s.net.tc.find? (fun e => e.1 == p) with
    | some e => (modNet (fun n => { n with tc := n.tc.erase e }) s).incO (0x7830 + p) 0x0A 1
    | none => s)

/-- MAC_AGING (R682). -/
def execMacAging (mac : Nat) (s : State) : Host.Outcome State Fault Refusal :=
  .next (modNet (fun n => { n with macs := n.macs.filter (fun e => e.1 != mac) }) s)

/-! ### The module's address (R691-R695) -/

/-- R695: the address in use changes: UDP sessions close and 7B01h is raised. -/
def changeAddress (a : Nat) (s : State) : State :=
  if a = s.net.addr then s
  else
    let s := modNet (fun n => { n with addr := a }) s
    let s := ((s.acp.sessions.filter (fun x => x.carrier != 2)).map (fun x => x.id)).foldl
      (fun s n => closeSession n 4 s) s
    raise 0x7B01 (pU32 a ++ pU8 (s.o 0x7B00 2)) s

/-- Send a frame of the module's own on every external port whose link is up. -/
def sendAll (e : Nat → Emission) (s : State) : State :=
  (List.range 2).foldl (fun s p => if s.o (0x7900 + p) 1 = 1 then sendOn p (e p) s else s) s

/-- The 3 ARP probes of an address (R692), under the VLAN ID of 7A00h:05 (R686). -/
def sendProbes (a : Nat) (s : State) : State :=
  let probe (p : Nat) : Emission := .arp p (s.o 0x7A00 5) a true
  sendAll probe (sendAll probe (sendAll probe s))

/-- R692: probe an address before use; none to probe leaves the module without one. -/
def probeAddress (a mask : Nat) (s : State) : State :=
  let s := modNet (fun n => { n with probing := a, mask := mask }) s
  if a = 0 then s.setO 0x7B00 5 0
  else (sendProbes a s).setO 0x7B00 5 1

/-- A message of the DHCP client about address a (R691), under the VLAN ID of 7A00h:05 (R686): 1 DISCOVER, 3 REQUEST, 4 DECLINE. The
client goes to state `next`. -/
def sendDhcp (kind a next : Nat) (s : State) : State :=
  modNet (fun n => { n with client := next }) (sendAll (fun p => .dhcp p (s.o 0x7A00 5) kind a) s)

/-- The address configuration starts over: a static address is probed, or the DHCP client looks for servers (R691). -/
def startAddress (s : State) : State :=
  let s := modNet (fun n => { n with leaseEnd := 0, renewAt := 0, client := 0 }) s
  if s.o 0x7B00 2 = 0 then probeAddress (s.o 0x7B00 3) (s.o 0x7B00 4) s
  else sendDhcp 1 0 1 (probeAddress 0 0 s)

/-- What a server answers to a REQUEST: an address with its mask and its lease in s, or none, lease 0 (R691). -/
def dhcpAnswer (a mask lease : Nat) (s : State) : State :=
  if lease = 0 then startAddress (changeAddress 0 s)
  else
    let s := modNet (fun n => { n with
      leaseEnd := s.now + 1000000000 * lease, renewAt := s.now + 500000000 * lease, client := 3 }) s
    if a = s.net.addr then modNet (fun n => { n with mask := mask }) s
    else probeAddress a mask (changeAddress 0 s)

/-- DHCP_RENEW (R691): the client renews at half the lease and takes the answer; no lease is granted with lease 0. -/
def execDhcpRenew (addr netmask lease : Nat) (s : State) : Host.Outcome State Fault Refusal :=
  .next (
    if !(netOn s) || s.o 0x7B00 2 != 1 || s.net.renewAt = 0 then s
    else dhcpAnswer (addr % 2 ^ 32) (netmask % 2 ^ 32) lease (sendDhcp 3 s.net.addr 2 s))

/-- A DHCP message to the client: an OFFER is requested, and an ACK or a NAK ends the exchange (R691). Any other is ignored. -/
def dhcpIn (kind a mask lease : Nat) (s : State) : State :=
  let asked : Bool := s.net.client == 2 || (s.net.renewAt != 0 && decide (s.net.renewAt ≤ s.now))
  match kind with
  | 2 => if s.net.client = 1 then sendDhcp 3 a 2 s else s
  | 5 => if asked then dhcpAnswer a mask lease s else s
  | 6 => if asked then dhcpAnswer 0 0 0 s else s
  | _ => s

/-- The lease of the address in use has run out: the client gives the address up and looks for servers again (R691, RFC 2131). -/
def leaseTick (s : State) : State :=
  if s.net.leaseEnd != 0 && decide (s.net.leaseEnd ≤ s.now) && netOn s then startAddress (changeAddress 0 s) else s

/-- The retry 60 s after a conflict (R692): a static address is probed again, the DHCP client looks for servers. -/
def retryAddress (s : State) : State :=
  if s.o 0x7B00 2 = 1 then (sendDhcp 1 0 1 s).setO 0x7B00 5 0 else probeAddress s.net.probing s.net.mask s

/-- ADDRESS_PROBE (R692): the probes of an address end, with the address that answered in `conflict`; or another station
answers for the address in use. After a conflict the command without one is the retry, whose probes end with a further command. -/
def execAddressProbe (conflict : Option Nat) (s : State) : Host.Outcome State Fault Refusal :=
  .next (
    if !(netOn s) then s
    else match conflict with
    | none =>
      if s.o 0x7B00 5 = 3 then retryAddress s
      else if s.net.probing = 0 then s
      else
        let a := s.net.probing
        let s := modNet (fun n => { n with probing := 0 }) s
        changeAddress a (s.setO 0x7B00 5 2)
    | some mac =>
      let a := if s.net.probing = 0 then s.net.addr else s.net.probing
      if a = 0 then s
      else
        let s := raise 0x7B02 (pU32 a ++ octetsBE 6 mac) (s.setO 0x7B00 5 3)
        let s := changeAddress 0 s
        if s.o 0x7B00 2 = 1 then
          sendDhcp 4 a 0 (modNet (fun n => { n with probing := 0, leaseEnd := 0, renewAt := 0 }) s)
        else modNet (fun n => { n with probing := a }) s)

/-- Handler of a write to 7B00h:02-04. A change of address takes effect after the answer (R695). -/
def addressWrite (sub n : Nat) (s : State) : Status × State :=
  if !(timeRangeOk 0x7B00 sub n) then (.badValue, s)
  else
    let old := s.o 0x7B00 sub
    let s := s.setO 0x7B00 sub n
    let static := s.o 0x7B00 2 == 0
    if old = n then (.ok, s)
    else if sub = 2 || (sub == 3 && static) then (.ok, modNet (fun t => { t with due := some 0 }) s)
    else if sub = 4 && static then (.ok, modNet (fun t => { t with mask := n }) s)
    else (.ok, s)

/-- R695: carry out the change of address that an answered write left due. -/
def applyAddress (s : State) : State :=
  match s.net.due with
  | none => s
  | some a => startAddress (changeAddress a (modNet (fun n => { n with due := none }) s))

/-- IP_ADDRESS_WRITE: 7B00h:02-04 (R691, R695). -/
def execIpAddressWrite (r : Req) (sub : Nat) (v : WVal) (s : State) : Host.Outcome State Fault Refusal :=
  .next (applyAddress (serveWrite r 0x7B00 sub v (fun _ s => addressWrite sub (natBE v.data) s) s))

/-! ### Traffic to the module (R686-R690) -/

/-- Whether the frame's VLAN tag lets the internal port accept it (R686). -/
def vlanOk (s : State) (f : EthFrame) : Bool :=
  if s.o 0x7A00 5 = 0 then f.vlan == [] || f.vlan == [0] else f.vlan == [s.o 0x7A00 5]

/-- Whether a frame is one that Table 11-5 accepts. -/
def hostAccepts (s : State) (f : EthFrame) : Bool :=
  let mine := s.net.addr != 0 && f.ipDst == s.net.addr
  match f.payload with
  | .acp => mine
  | .arpRequest t => s.net.addr != 0 && t == s.net.addr
  | .icmpEcho n frag => mine && !frag && n ≤ 1472
  | .dhcp _ _ _ _ => s.o 0x7B00 2 == 1 &&
    (s.net.client == 1 || s.net.client == 2 || (s.net.renewAt != 0 && decide (s.net.renewAt ≤ s.now)))
  | .ptp udp dom _ _ =>
    dom == s.o 0x7820 3 && (!udp || mine || (s.net.addr != 0 && (f.ipDst == 0xE0000181 || f.ipDst == 0xE000006B)))
  | .fragment _ _ _ _ => mine
  | .other => false

/-- Key of a frame's source in the limiter: its IPv4 source, or its MAC address. -/
def limiterKey (f : EthFrame) : Nat :=
  match f.payload with
  | .arpRequest _ | .ptp false _ _ _ => 2 * f.src + 1
  | _ => 2 * f.ipSrc

/-- R688: one token of the source's bucket (in units of 10^-9 frame); the first component says whether the frame
passes. -/
def limiterTake (key : Nat) (s : State) : Bool × State :=
  let cap := 1000000000 * s.o 0x7C00 2
  let have_ := match s.net.buckets.find? (fun b => b.1 == key) with
    | some b => min cap (b.2.1 + s.o 0x7C00 1 * (s.now - b.2.2))
    | none => cap
  let rest := s.net.buckets.filter (fun b => b.1 != key)
  let put (t : Nat) : State := modNet (fun n => { n with buckets := ((key, t, s.now) :: rest).take 128 }) s
  if 1000000000 ≤ have_ then (true, put (have_ - 1000000000)) else (false, put have_)

/-- One answer of a kind limited per second and port; none when the limit is reached. -/
def perSecond (w : Nat × Nat) (limit now : Nat) : Option (Nat × Nat) :=
  let w := if 1000000000 + w.2 ≤ now then (0, now) else w
  if w.1 < limit then some (w.1 + 1, w.2) else none

/-- Drop the oldest datagram under reassembly and count it (R689). -/
def dropOldestFrag (s : State) : State :=
  (modNet (fun n => { n with frags := n.frags.dropLast }) s).incO 0x7C00 5 1

/-- First octet from `at_` on that no received part holds; the fuel is the number of parts. -/
def firstGap (parts : List (Nat × Nat)) : Nat → Nat → Nat
  | 0, at_ => at_
  | fuel + 1, at_ =>
    match parts.find? (fun p => decide (p.1 ≤ at_ ∧ at_ < p.2)) with
    | some p => firstGap parts fuel p.2
    | none => at_

/-- R689: a fragment of a datagram for the ACP port; newest datagram first. With 20 octets of header, a datagram of more than 6,216 octets
of payload exceeds the length limit; its fragment is dropped, and the oldest datagram is discarded. -/
def fragmentIn (src ident offset octets : Nat) (more : Bool) (s : State) : State :=
  let mine (g : Frag) : Bool := g.src == src && g.ident == ident
  let upto := offset + octets
  if 6216 < upto then (if s.net.frags.isEmpty then s.incO 0x7C00 5 1 else dropOldestFrag s)
  else
    let s := if (s.net.frags.find? mine).isNone && 8 ≤ s.net.frags.length then dropOldestFrag s else s
    let g := (s.net.frags.find? mine).getD { src, ident, parts := [], total := 0, since := s.now }
    let g := { g with parts := (offset, upto) :: g.parts, total := if more then g.total else upto }
    let done : Bool := g.total != 0 && decide (g.total ≤ firstGap g.parts g.parts.length 0)
    if done then modNet (fun n => { n with frags := n.frags.filter (fun x => !(mine x)) }) s
    else if s.net.frags.any mine then modNet (fun n => { n with frags := n.frags.map (fun x => if mine x then g else x) }) s
    else modNet (fun n => { n with frags := g :: n.frags }) s

/-- What the module does with a frame that the limiter passed. -/
def hostHandle (f : EthFrame) (s : State) : State :=
  let p := f.port
  match f.payload with
  | .arpRequest t =>
    match perSecond (s.net.arp.getD p (0, 0)) (s.o 0x7C00 3) s.now with
    | some w => sendOn p (.arp p (s.o 0x7A00 5) t false) (modNet (fun n => { n with arp := n.arp.set p w }) s)
    | none => s.incO 0x7C00 6 1
  | .icmpEcho _ _ =>
    match perSecond (s.net.icmp.getD p (0, 0)) (s.o 0x7C00 4) s.now with
    | some w => sendOn p (.icmp p (s.o 0x7A00 5) f.ipSrc) (modNet (fun n => { n with icmp := n.icmp.set p w }) s)
    | none => s.incO 0x7C00 7 1
  | .dhcp kind a mask lease => dhcpIn kind (a % 2 ^ 32) (mask % 2 ^ 32) lease s
  | .fragment ident offset octets more => fragmentIn f.ipSrc ident offset octets more s
  | _ => s

/-- MGMT_FRAME (R680, R682, R686-R689, Table 11-5): a frame to the internal port, whose source the switch learns while it forwards. What an ACP datagram or a PTP message carries
is a command of its own. -/
def execMgmtFrame (f : EthFrame) (s : State) : Host.Outcome State Fault Refusal :=
  onUnit f.port 2 (
    let p := f.port
    if !(netOn s) || s.o (0x7900 + p) 1 != 1 then s
    else
      let s := s.incO (0x7900 + p) 5 1
      if macError f then s.incO (0x7900 + p) 0x0A 1
      else
        let s := if s.o 0x7A00 1 = 1 then learnMac f.src p s else s
        if !(vlanOk s f && hostAccepts s f) then s.incO (0x7900 + p) 0x0B 1
        else
          let exempt := match f.payload with | .ptp _ _ src _ => s.time.master == some src | _ => false
          if exempt then hostHandle f s
          else match limiterTake (limiterKey f) s with
          | (true, s) => hostHandle f s
          | (false, s) => s.incO (0x7900 + p) 0x0C 1)

/-- REASSEMBLY_EXPIRY (R689): a datagram has not been completed within 1 s. -/
def execReassemblyExpiry (src ident : Nat) (s : State) : Host.Outcome State Fault Refusal :=
  .next (
    let mine (g : Frag) : Bool := g.src == src && g.ident == ident
    if s.net.frags.any mine then
      (modNet (fun n => { n with frags := n.frags.filter (fun x => !(mine x)) }) s).incO 0x7C00 5 1
    else s)

/-- One ns of local time passes while PD4 is on (R649, R650), on the lines of the Ilyan ports and in the
packet network too (R225, log 62, log 66); a lease may end (R691), and ALERT_N is driven (R745, log 9). -/
def tick (s : State) : State :=
  if domState s 4 = 2 then driveAlert (leaseTick (advanceFrc (s.time.frc + 1) (nocTick (lineTick s)))) else s

/-- The management ports after a boot: the ordinary clock starts, and the address configuration. -/
def netStart (s : State) : State :=
  startAddress (s.setO 0x7820 0x0D (if s.o 0x7820 1 = 1 then 1 else 3))

end Sys2Proof.Machine
end

