-- ==== Sys2Proof/Machine/Test.lean ====
section
/-! DEFINITION. The shutdown and scheduled test (chapter 13): its progress record, its findings and its commitment. -/

namespace Sys2Proof.Machine

/-- Change the self-test state. -/
def modTest (f : TestSt → TestSt) (s : State) : State := { s with test := f s.test }

/-- Record a failed unit in a health map (R755). The 40 signatures of phase 8 cover eight delay lines each (log 45). -/
def markFinding (h : Health) (f : TestFinding) : Health :=
  let add (n k : Nat) (l : List Nat) : List Nat := if k < n then nsAdd k l else l
  match f with
  | .cluster k => { h with clusters := add 2176 k h.clusters }
  | .bank k => { h with banks := add 512 k h.banks }
  | .timeSwitch k => { h with switches := add 128 k h.switches }
  | .router k => { h with routers := add 28 k h.routers }
  | .stack k => { h with dramStacks := add 4 k h.dramStacks }
  | .pll k => { h with plls := add 8 k h.plls }
  | .oscillator k => { h with oscs := add 5 k h.oscs }
  | .dramUnit k => { h with units := add 128 k h.units }
  | .phase k => { h with phases := add 48 k h.phases }
  | .sensor k => { h with sensors := add 64 k h.sensors }
  | .delayLine k => { h with delays := (List.range 8).foldl (fun l i => add 320 (8 * (k / 8) + i) l) h.delays }

/-- Failed clusters among findings. -/
def failedClusters (fs : List TestFinding) : List Nat :=
  fs.filterMap (fun f => match f with | .cluster k => some k | _ => none)

/-- The progress slot that the next record goes to: the two are written in turn (R759). -/
def progressSlot (s : State) : Nat :=
  match s.test.progress.getD 0 none, s.test.progress.getD 1 none with
  | none, _ => 0
  | some _, none => 1
  | some a, some b => if b.2.1 < a.2.1 then 1 else 0

/-- Write a progress record (R759). -/
def putProgress (done : Nat) (s : State) : State :=
  let i := progressSlot s
  modTest (fun t => { t with progress := t.progress.set i (some (s.boot.steps, done, t.started)) }) s

/-- A test begins (R759). -/
def startTest (scheduled : Bool) (s : State) : State :=
  let t0 := ofSigned 64 (sysTime s)
  putProgress 0 (modTest (fun t => { t with running := true, scheduled, started := t0 }) s)

/-- R757, R763: the test has taken every step and commits its result: the older copy is written, the progress record
erased. The map in force stays until the next boot. -/
def commitTest (fs : List TestFinding) (millis : Nat) (s : State) : State :=
  let base := s.test.force
  let h := fs.foldl markFinding base
  let bad := failedClusters fs
  let h := { h with
    ok := true, gen := nextGen s, testTime := s.test.started, expected := s.boot.steps, done := s.boot.steps
    suspects := h.suspects.filter (fun k => bad.contains k) }
  let i := olderCopy s
  let s := modTest (fun t => { t with copies := t.copies.set i h, progress := [none, none], running := false }) s
  let s := ((s.setO 0x8000 1 (if fs.isEmpty then 1 else 2)).setO 0x8000 4 (min millis (2 ^ 32 - 1))).setO 0x8000 5 0
  let s := s.setO 0x8000 7 s.boot.steps
  raise 0x8001 (pU8 (s.o 0x8000 1) ++ pU32 (s.o 0x8000 2) ++ pU32 (s.o 0x8000 4)) s

/-- The test has taken `done` steps: it commits once it has taken them all (R757, R758), and writes its progress before
that (R759). -/
def testSteps (fs : List TestFinding) (done millis : Nat) (s : State) : State :=
  if s.boot.steps ≤ done then commitTest fs millis s
  else putProgress done (s.setO 0x8000 7 (min done (2 ^ 32 - 1)))

end Sys2Proof.Machine
end

