-- ==== Sys2Proof/Machine/Power.lean ====
section
/-! DEFINITION. Operating modes, shutdown and supply (chapter 12): mode commands, power-down and entry into BOOT, the
supply and control lands, temperature and commit duty, and the domains that the host switches. -/

namespace Sys2Proof.Machine

/-- Change the power state. -/
def modPwr (f : PwrSt → PwrSt) (s : State) : State := { s with pwr := f s.pwr }

/-! ### Power-down and entry into BOOT -/

/-- Objects kept in the boot flash, the eFuses or VBAT-backed memory (R558, R740). -/
def survivesBoot (k : Nat) : Bool :=
  [okey 0x6040 1, okey 0x6040 2, okey 0x6040 3, okey 0x6040 4, okey 0x6040 7, okey 0x6040 8, okey 0x2200 6].contains k

/-- Objects that Wick and PD0 keep in STANDBY, until the next entry into BOOT. -/
def survivesStandby (k : Nat) : Bool :=
  survivesBoot k || [okey 0x2000 3, okey 0x2000 4, okey 0x2000 5, okey 0x2000 6, okey 0x6050 3].contains k

/-- Keep some objects; the others take their Default (R557). -/
def keepObjects (p : Nat → Bool) (s : State) : Sparse Nat := s.obj.filter (fun x => p x.1)

/-- Every domain but PD0 switches off, in the reverse order of Table 12-7. Each closes its gate, and what its endpoints have accepted is
answered before it goes (R638, R724). -/
def closeDomains (s : State) : State :=
  [8, 12, 7, 11, 6, 10, 5, 9, 18, 17, 16, 15, 14, 13, 19, 4, 3, 2, 1].foldl (fun s d =>
    if domState s d = 0 then s else drainGate d 512 (setDomain d 0 2 s)) s

/-- Power down to OFF or STANDBY (mode m): what is neither in the boot flash, the user flash, the eFuses nor held from
VBAT is lost. -/
def powerDown (m : Nat) (s : State) : State :=
  { State.reset with
    pending := s.pending, out := s.out, free := s.free, moduleId := s.moduleId
    tap := if m = 0 then 0 else s.tap
    obj := keepObjects (if m = 0 then survivesBoot else survivesStandby) s
    boot := { dirs := s.boot.dirs, flash := s.boot.flash }
    keys := { s.keys with customer := none, wrapped := [], credWrapped := [] }
    tif := { flash := s.tif.flash }
    test := { copies := s.test.copies, progress := s.test.progress, saved := s.test.saved }
    clk := { xtbLost := s.clk.xtbLost }
    host := { met := s.host.met }
    pwr := {
      mode := m
      dom := if m = 0 then List.replicate 20 0 else 2 :: List.replicate 19 0
      gate := if m = 0 then List.replicate 20 2 else 0 :: List.replicate 19 2
      vinGood := s.pwr.vinGood, resetHigh := s.pwr.resetHigh, pfailLow := s.pwr.pfailLow
      offByCommand := s.pwr.offByCommand, pfailDown := s.pwr.pfailDown, tripped := s.pwr.tripped
      tripSensor := s.pwr.tripSensor, vbatGone := s.pwr.vbatGone } }

/-- Enter STANDBY. -/
def toStandby (s : State) : State := powerDown 1 (setMode 1 (closeDomains s))

/-- Enter BOOT from a powered-down state: PD0 to PD4 come on and every object takes its Default (R557, Table 12-7). -/
def enterBoot (s : State) : State :=
  let on : List Nat := [2, 2, 2, 2, 2] ++ List.replicate 15 0
  let open_ : List Nat := [0, 0, 0, 0, 0] ++ List.replicate 15 2
  let s := { s with obj := keepObjects survivesBoot s }
  setMode 2 (modPwr (fun p => { p with dom := on, gate := open_, pfailDown := false, tripped := false }) s)

/-- Whether STANDBY may be left for BOOT by something other than RESET_N. -/
def mayBoot (s : State) : Bool :=
  s.pwr.mode == 1 && s.pwr.resetHigh && s.pwr.vinGood && !s.pwr.tripped && !(s.pwr.pfailDown && s.pwr.pfailLow)

/-- Record LAST_OFF_CAUSE, where VBAT holds it; without VBAT the object reads 0 (R740). -/
def lastOff (cause : Nat) (s : State) : State := s.setO 0x2200 6 (if s.pwr.vbatGone then 0 else cause)

/-- Emergency power-down (R741, R752): `cause` of 2200h:06, `traceCause` of Table 14-4. -/
def emergency (cause traceCause : Nat) (s : State) : State :=
  let s := if inRun s then abortNow s else s
  let s := tracePowerDown traceCause (disarmNow s)
  let s := raise 0x2202 (pCycle s) (lastOff cause s)
  toStandby s

/-! ### Supply and control lands -/

/-- VIN_GOOD (Table 12-13, R727, R817, R829): the soft start ends. The straps are read, and BOOT follows when RESET_N is
high. -/
def execVinGood (straps : Nat) (resetHigh : Bool) (s : State) : Host.Outcome State Fault Refusal :=
  .next (if s.pwr.mode != 0 || s.pwr.offByCommand then s
  else
    let s := { s with moduleId := straps % 128 }
    let s := toStandby (modPwr (fun p => { p with
      vinGood := true, resetHigh, overvolted := false, pfailDown := false, tripped := false }) s)
    if resetHigh then enterBoot s else s)

/-- The converters stop for a supply outside its limits (Table 12-13, R830): OFF, within 1 µs and with nothing drained. -/
def supplyStop (cause : Nat) (s : State) : State :=
  let s := if s.pwr.mode = 0 then s else powerDown 0 (setMode 0 (lastOff cause s))
  modPwr (fun p => { p with vinGood := false }) s

/-- VIN_UNDERVOLTAGE. -/
def execVinUndervoltage (s : State) : Host.Outcome State Fault Refusal :=
  .next (modPwr (fun p => { p with offByCommand := false, overvolted := false }) (supplyStop 2 s))

/-- VIN_OVERVOLTAGE. -/
def execVinOvervoltage (s : State) : Host.Outcome State Fault Refusal :=
  .next (modPwr (fun p => { p with overvolted := true }) (supplyStop 3 s))

/-- RESET_N_LOW (R730): the module stops at once. -/
def execResetNLow (s : State) : Host.Outcome State Fault Refusal :=
  .next (
    let s := modPwr (fun p => { p with resetHigh := false }) s
    if s.pwr.mode < 2 then s
    else toStandby (lastOff 6 (tracePowerDown 3 s)))

/-- RESET_N_RISE (Table 12-10, R743, R752): a rising edge leads from STANDBY into BOOT. -/
def execResetNRise (s : State) : Host.Outcome State Fault Refusal :=
  .next (
    if s.pwr.resetHigh then s
    else
      let s := modPwr (fun p => { p with resetHigh := true }) s
      if s.pwr.mode == 1 && !(s.pwr.pfailDown && s.pwr.pfailLow) then enterBoot s else s)

/-- PFAIL (R741): PFAIL_N falls, in any mode but OFF (Table 12-10). -/
def execPfail (s : State) : Host.Outcome State Fault Refusal :=
  .next (
    if s.pwr.pfailLow then s
    else
      let s := modPwr (fun p => { p with pfailLow := true }) s
      if s.pwr.mode = 0 then s
      else emergency 4 2 (modPwr (fun p => { p with pfailDown := true }) s))

/-- PFAIL_N_HIGH (R743): PFAIL_N has been high for 10 ms. -/
def execPfailNHigh (s : State) : Host.Outcome State Fault Refusal :=
  .next (
    let s := modPwr (fun p => { p with pfailLow := false }) s
    if s.pwr.pfailDown && mayBoot s then enterBoot s else s)

/-- STANDBY_WAKE (R728): Wick has counted 2000h:05 seconds. -/
def execStandbyWake (s : State) : Host.Outcome State Fault Refusal :=
  .next (if s.o 0x2000 5 != 0 && mayBoot s then enterBoot s else s)

/-! ### Temperature, duty and the power limit (R744-R752) -/

/-- The trip of R752. -/
def tripNow (s : State) : State :=
  let sensor := s.o 0x2400 2
  emergency 5 4 (modPwr (fun p => { p with tripped := true, tripSensor := some sensor }) s)

/-- R756: a sensor whose reference failed in the last test takes no part in Tj: a reading that it would make the highest is not taken. -/
def usedSample (p : PowerSample) (s : State) : PowerSample :=
  if s.test.booted.sensors.contains (p.sensor % 64) then { p with tj := toSigned 32 (s.o 0x2400 1), sensor := s.o 0x2400 2 } else p

/-- Take a measurement (R746): its objects, what a VBAT of 0 V loses (R740), and the halt of R750 when Tj reaches 105 °C. -/
def sampleIn (p : PowerSample) (s : State) : State :=
  let s := (s.setO 0x2400 1 (ofSigned 32 p.tj)).setO 0x2400 2 (p.sensor % 64)
  let s := s.setO 0x2400 9 (ofSigned 32 (max (toSigned 32 (s.o 0x2400 9)) p.tj))
  let s := (s.setO 0x2200 1 (p.vin % 2 ^ 32)).setO 0x2200 2 (p.vbat % 2 ^ 16)
  let s := (s.setO 0x2200 3 (p.power % 2 ^ 32)).maxO 0x2200 9 p.power
  let hot := decide (105000 ≤ p.tj)
  let rises := hot && !s.pwr.haltLevel
  let s := modPwr (fun q => { q with haltLevel := hot, vbatGone := p.vbat % 2 ^ 16 == 0 }) s
  let s := if s.pwr.vbatGone then s.setO 0x2200 6 0 else s
  if rises then raise 0x2402 (pU32 (s.o 0x2400 1) ++ pU8 (s.o 0x2400 2) ++ pCycle s) (postStop 6 s) else s

/-- Set the commit duty, with the cause of a fall; 2401h when it leaves or returns to 16. -/
def setDuty (d cause : Nat) (s : State) : State :=
  let old := s.o 0x2400 6
  if d = old then s
  else
    let s := (s.setO 0x2400 6 d).setO 0x2400 7 (if d = 16 then 0 else if d < old then cause else s.o 0x2400 7)
    if d = 16 || old = 16 then raise 0x2401 (pU8 d ++ pU8 (s.o 0x2400 7) ++ pU32 (s.o 0x2400 1)) s else s

/-- DUTY_ADJUST (R747): the adjustment of each ms, with its measurement. -/
def execDutyAdjust (p : PowerSample) (s : State) : Host.Outcome State Fault Refusal :=
  .next (
    if s.pwr.mode < 2 then s
    else
      let p := usedSample p s
      let s := sampleIn p s
      let uj := s.pwr.microJoules + p.power
      let s := modPwr (fun q => { q with microJoules := uj % 1000 }) (s.incO 0x2200 8 (uj / 1000))
      let thr : Int := toSigned 32 (s.o 0x2400 3)
      let lim := s.o 0x2200 4
      let temp := decide (thr ≤ p.tj)
      let pow := decide (lim < p.power)
      let cool := decide (p.tj < thr - 2000) && decide (100 * p.power ≤ 95 * lim)
      let coolFor := if cool then min 11 (s.pwr.coolFor + 1) else 0
      let wait := s.pwr.riseWait - 1
      let d := s.o 0x2400 6
      let s := modPwr (fun q => { q with coolFor, riseWait := wait }) s
      if temp || pow then setDuty (max 2 (d - 1)) (temp.toNat + 2 * pow.toNat) s
      else if d < 16 && coolFor = 11 && wait = 0 then setDuty (d + 1) 0 (modPwr (fun q => { q with riseWait := 10 }) s)
      else s)

/-- THERMAL_HALT (R750): a sample at which Tj may reach 105 °C. -/
def execThermalHalt (p : PowerSample) (s : State) : Host.Outcome State Fault Refusal :=
  .next (if s.pwr.mode < 2 then s else sampleIn (usedSample p s) s)

/-- THERMAL_TRIP (R752): Tj reaches 110 °C. -/
def execThermalTrip (s : State) : Host.Outcome State Fault Refusal :=
  .next (if s.pwr.mode = 0 then s else tripNow s)

/-- The power limit for g working phases, in mW (R744). -/
def powerLimit (g : Nat) : Nat := 250000 * g / 48

/-- POWER_LIMIT_CHANGED (R744): `phases` phases still work. -/
def execPowerLimitChanged (phases : Nat) (s : State) : Host.Outcome State Fault Refusal :=
  .next (
    if s.pwr.mode < 2 || s.o 0x2200 5 ≤ phases then s
    else
      let s := (s.setO 0x2200 5 phases).setO 0x2200 4 (powerLimit phases)
      raise 0x2203 (pU8 phases ++ pU32 (powerLimit phases)) s)

/-! ### Domains by host command (R725) -/

/-- Whether the mode has domain d on (Table 12-8), for the domains that the host may switch; in BOOT from boot steps 5 and 6. -/
def modeWants (s : State) (d : Nat) : Bool :=
  if s.pwr.mode = 2 then s.boot.released
  else if d < 17 then decide (3 ≤ s.pwr.mode)
  else decide (3 ≤ s.pwr.mode ∧ s.pwr.mode ≤ 7) || s.pwr.mode == 9

/-- Whether the condition of R725 holds for a domain. -/
def domainFree (s : State) (d : Nat) : Bool :=
  if d < 17 then (List.range 32).all (fun u => s.mem.layout.getD (32 * (d - 13) + u) 0 == 0)
  else (List.range 4).all (fun i => !((s.port (4 * (d - 17) + i)).enabled))

/-- The ports of a domain. -/
def domainPorts (d : Nat) : List Nat := (List.range 8).filter (fun p => portDomain p == d)

/-- Handler of a write to 2300h+d:02. -/
def domainWrite (d n : Nat) (s : State) : Status × State :=
  if 2 ≤ n || d < 13 || 18 < d then (.badValue, s)
  else if !(domainFree s d) then (.busy, s)
  else
    let s := s.setO (0x2300 + d) 2 n
    if n = 1 then
      let s := modPwr (fun p => { p with hostOff := nsAdd d p.hostOff }) s
      let s := (domainPorts d).foldl (fun s p => portOff p s) s
      (.ok, setDomain d 0 2 s)
    else
      let s := modPwr (fun p => { p with hostOff := p.hostOff.filter (fun k => k != d) }) s
      let s := if modeWants s d then wakeDomain d s else s
      (.ok, (domainPorts d).foldl (fun s p => startTraining p s) s)

/-- DOMAIN_REQUEST: 2300h+d:02. -/
def execDomainRequest (r : Req) (d : Nat) (v : WVal) (s : State) : Host.Outcome State Fault Refusal :=
  onObject r d 20 0x2300 2 (serveWrite r (0x2300 + d) 2 v (fun _ s => domainWrite d (natBE v.data) s)) s

/-! ### Mode commands (Table 12-9, R726) -/

/-- Whether a boot has failed and the module is still in BOOT. -/
def bootStuck (s : State) : Bool := s.pwr.mode == 2 && s.o 0x6000 1 == 6

/-- Answer to a mode command in the present mode and run state; none where it is accepted. -/
def modeRefusal (c : Nat) (s : State) : Option Status :=
  let m := s.pwr.mode
  let st := s.run.state
  let halted := m == 5 && (st == .stopped || st == .faulted)
  let ok : Bool := match c with
    | 1 => m == 3
    | 2 => m == 3 && (st == .noDesign || st == .parked)
    | 3 => m == 8 || m == 11 || halted || (m == 3 && st == .parked)
    | 4 => (m == 3 && st == .noDesign) || bootStuck s
    | 5 => m == 3 || halted || m == 8 || m == 11
    | 6 => m == 3 || halted || m == 8 || m == 11 || bootStuck s
    | _ => false
  if inRun s then some .busy else if ok then none else some .badValue

/-- R732: unload the design. With no image applied the guard lead is 1 and no port is enabled for exchange (R124, R247), and an
image being applied is given up (R543); a pending swap stays pending (R54). -/
def unload (s : State) : State :=
  let all (_ : Nat) : Bool := true
  let s := withdrawAll 10 (disarmNow s)
  let s := wipeContents all all all all (clearSweep s)
  let s := { s with
    lanes := { s.lanes with dictActive := [], dictSealed := [], deposits := [] }
    ex := { s.ex with active := [], sealed := [] }
    rew := { s.rew with parkRestore := false }
    img := { s.img with held := [], full := false, portMask := 0, applying := none, tierIm := [], tierDict := [], tierEx := [] }
    run := { s.run with phase := .idle } }
  let s := (List.range 8).foldl (fun s p => evalPort p (modPort p (fun q => { q with enabled := false }) s)) s
  let s := identityChanged (((s.setO 0x3420 1 1).setO 0x3830 4 0).setO 0x6200 6 0)
  setRunState .noDesign (targetOff (s.setO 0x6100 5 0))

/-- The handler that mode commands 2, 3 and 4 share; 1, 5 and 6 take effect after the answer. PD19 stays as the boot left it (R497). -/
def modeHandler (c : Nat) (s : State) : Status × State :=
  match modeRefusal c s with
  | some st => (st, s)
  | none =>
    match c with
    | 2 => (.ok, calibrateEntry (setMode 8 s))
    | 3 => (.ok, if s.pwr.mode = 8 || s.pwr.mode = 11 then setMode 3 s else unload s)
    | 4 =>
      let s := if s.pwr.mode = 2 then (List.range 4).foldl (fun s q => wakeDomain (13 + q) s) s else s
      (.ok, ffInit (targetOff (setMode 11 s)))
    | _ => (.ok, modPwr (fun p => { p with due := c }) s)

/-- Serve mode command c. -/
def modeCommand (r : Req) (c : Nat) (s : State) : State :=
  serveWrite r 0x2000 2 { ty := 2, data := [BitVec.ofNat 8 c] } (fun _ s => modeHandler c s) s

/-- MODE_ANALYZER. -/
def execModeAnalyzer (r : Req) (s : State) : Host.Outcome State Fault Refusal := .next (modeCommand r 2 s)

/-- MODE_IDLE. -/
def execModeIdle (r : Req) (s : State) : Host.Outcome State Fault Refusal := .next (modeCommand r 3 s)

/-- MODE_SERVICE. -/
def execModeService (r : Req) (s : State) : Host.Outcome State Fault Refusal := .next (modeCommand r 4 s)

/-- The command left due by an accepted write of 2000h:02, once: its code and the state without it. -/
def takeDue (s : State) : Nat × State := (s.pwr.due, modPwr (fun p => { p with due := 0 }) s)

/-- MODE_STANDBY. -/
def execModeStandby (r : Req) (s : State) : Host.Outcome State Fault Refusal :=
  .next (match takeDue (modeCommand r 1 (takeDue s).2) with
  | (1, s) => toStandby (tracePowerDown 1 (wakeDepth s))
  | (_, s) => s)

/-- Step 1 of the orderly shutdown. -/
def shutdownBegin (c : Nat) (s : State) : State :=
  let s := raise 0x2002 (pU8 c ++ pU8 (s.o 0x2000 3) ++ pU8 (s.o 0x2000 4)) s
  let s := tracePowerDown 1 (disarmNow s)
  (s.acp.sessions.map (fun x => x.id)).foldl (fun s n => closeSession n 4 s) s

/-- Steps 3 and 4 of the orderly shutdown. -/
def shutdownEnd (reboot : Bool) (s : State) : State :=
  let s := closeDomains (lastOff 1 s)
  if reboot then enterBoot (powerDown s.pwr.mode s)
  else if s.o 0x2000 3 = 1 then toStandby s
  else modPwr (fun p => { p with offByCommand := true }) (powerDown 0 (setMode 0 s))

/-- Enter SELFTEST (Table 7-12: the flip-flops of the fabric are held at INIT). -/
def enterSelfTest (s : State) : State := ffInit (targetOff (setMode 10 s))

/-- SHUTDOWN: `stepsDone` and `findings` are what the shutdown test has done when the command's step ends; a test that has
not taken all its steps goes on (TEST_PROGRESS_RECORD). An image in application is given up (R543). -/
def execShutdown (r : Req) (findings : List TestFinding) (stepsDone millis : Nat) (s : State) :
    Host.Outcome State Fault Refusal :=
  .next (match takeDue (modeCommand r 5 (takeDue s).2) with
  | (5, s) =>
    let s := shutdownBegin 5 (wakeDepth s)
    if s.o 0x2000 4 = 1 then
      let s := testSteps findings stepsDone millis (startTest false (enterSelfTest { s with img := { s.img with applying := none } }))
      if s.test.running then s else shutdownEnd false s
    else shutdownEnd false s
  | (_, s) => s)

/-- REBOOT. -/
def execReboot (r : Req) (s : State) : Host.Outcome State Fault Refusal :=
  .next (match takeDue (modeCommand r 6 (takeDue s).2) with
  | (6, s) => shutdownEnd true (shutdownBegin 6 (wakeDepth s))
  | (_, s) => s)

/-! ### The scheduled test (R773, R774) -/

/-- A scheduled test has committed: its next time, and the return to IDLE. -/
def scheduledEnd (s : State) : State :=
  let t := if s.o 0x8010 2 = 0 then 0 else (s.o 0x8010 1 + 1000000000 * s.o 0x8010 2) % 2 ^ 64
  chooseDepth (setMode 3 (modTest (fun x => { x with schedDue := false }) (s.setO 0x8010 1 t)))

/-- SCHEDULED_TEST: the time of 8010h:01 arrives, or the module has entered IDLE with NO_DESIGN while a test is
postponed. -/
def execScheduledTest (findings : List TestFinding) (stepsDone millis : Nat) (s : State) :
    Host.Outcome State Fault Refusal :=
  .next (
    if s.pwr.mode < 2 || (s.o 0x8010 1 == 0 && !s.test.schedDue) || s.test.running then s
    else if s.pwr.mode = 3 && s.run.state = .noDesign then
      let s := testSteps findings stepsDone millis (startTest true (enterSelfTest (wakeDepth s)))
      if s.test.running then s else scheduledEnd s
    else if s.test.schedDue then s
    else raise 0x8011 (pU8 s.pwr.mode ++ pU8 s.run.state.code) (modTest (fun t => { t with schedDue := true }) s))

/-- TEST_PROGRESS_RECORD (R757-R759): the test that runs has taken stepsDone steps. With all of them taken it commits, and
what it was part of goes on. -/
def execTestProgressRecord (findings : List TestFinding) (stepsDone millis : Nat) (s : State) :
    Host.Outcome State Fault Refusal :=
  .next (
    if !(s.pwr.mode == 10 && s.test.running) then s
    else
      let s := testSteps findings stepsDone millis s
      if s.test.running then s else if s.test.scheduled then scheduledEnd s else shutdownEnd false s)

/-! ### Idle depths (R736-R739) -/

/-- IDLE_WAKE (R737): the module begins to wake for the earliest known event that limits its depth. -/
def execIdleWake (s : State) : Host.Outcome State Fault Refusal :=
  .next (
    let d := s.pwr.depth
    if s.pwr.mode != 3 || d = 0 then s
    else match leftOf s d with
    | some n => if n ≤ 1000 * (wakeMicros d + s.o 0x2100 2) then chooseDepth (wakeDepth s) else s
    | none => s)

/-- WAKE_LATE (R739): a wake takes `micros` µs. -/
def execWakeLate (micros : Nat) (s : State) : Host.Outcome State Fault Refusal :=
  .next (
    let d := s.pwr.depth
    if s.pwr.mode != 3 || d = 0 then s
    else
      let s := wakeDepth s
      let s := if wakeMicros d < micros then raise 0x2101 (pU8 d ++ pU32 (min micros (2 ^ 32 - 1))) s else s
      chooseDepth s)

/-! ### The boundary-scan port (R819) -/

/-- TAP_INSTRUCTION: 0 BYPASS, 1 IDCODE, others boundary scan, which take effect only in STANDBY, or in BOOT before boot
step 2. -/
def execTapInstruction (code : Nat) (s : State) : Host.Outcome State Fault Refusal :=
  .next (
    if s.pwr.mode = 0 then s
    else if code ≤ 1 || s.pwr.mode = 1 || (s.pwr.mode == 2 && s.o 0x6000 1 == 0) then
      ({ s with tap := code }).emit (.tap code)
    else s)

end Sys2Proof.Machine
end

