-- ==== Sys2Proof/Machine/SelfTest.lean ====
section
/-! DEFINITION. On-command tests and Tallow, the patrol scrubber (chapter 13), with the commands of their rows. -/

namespace Sys2Proof.Machine

/-! ### On-command tests (R775-R779) -/

/-- Lands of a TIO bank. -/
def bankLands (b : Nat) : List Nat := (List.range 32).map (fun i => 32 * b + i)

/-- Refusal of a start (R775, Table 13-4), in the order of R775. -/
def odRefusal (s : State) : Option Status :=
  let kind := s.o 0x8200 1
  let t := s.o 0x8200 2
  let busy := s.o 0x8200 4 != 0 ||
    (kind == 1 && decide (t < 4) && (s.mem.applying || !(domainFree s (13 + t)))) ||
    (kind == 2 && (s.tif.live || (s.lan.ctx.acq != .disarmed && (bankLands t).any (fun l => bitOf (s.o 0x5800 1) l))))
  if busy then some .busy
  else if kind = 1 && s.pwr.hostOff.contains (13 + t) then some .domainOff
  else if (kind == 1 && decide (3 < t)) || (kind == 2 && decide (9 < t)) || (kind == 3 && t != 0) || kind = 0 || 3 < kind
    then some .badValue
  else none

/-- OD_START: 8200h:03 = 1 (R775, R776): the target is isolated and the test runs. -/
def execOdStart (r : Req) (s : State) : Host.Outcome State Fault Refusal :=
  .next (serveWrite r 0x8200 3 { ty := 2, data := [1] } (fun _ s =>
    match odRefusal s with
    | some st => (st, s)
    | none =>
      let s := if s.o 0x8200 1 = 1 then setDomain (13 + s.o 0x8200 2) 2 2 s else s
      (.ok, (modTest (fun t => { t with odKind := s.o 0x8200 1, odTarget := s.o 0x8200 2 }) s).setO 0x8200 4 2)) s)

/-- R776: the target is re-initialised, and the test ends with a result and a detail. -/
def odEnd (result detail : Nat) (s : State) : State :=
  let kind := s.test.odKind
  let t := s.test.odTarget
  let s := s.setO 0x8200 4 0
  let s := if kind = 1 then
      let s := dramZero ((List.range 32).map (fun i => 32 * t + i)) s
      if !(modeWants s (13 + t)) then s
      else if s.pwr.depth = 4 then restDomain (13 + t) 4 3 s
      else wakeDomain (13 + t) s
    else s
  let s := (s.setO 0x8200 5 result).setO 0x8200 6 detail
  raise 0x8201 (pU8 kind ++ pU8 t ++ pU8 result ++ pU32 detail) s

/-- OD_ABORT: 8200h:03 = 2 (R778). With no test there is nothing to abort. -/
def execOdAbort (r : Req) (s : State) : Host.Outcome State Fault Refusal :=
  .next (serveWrite r 0x8200 3 { ty := 2, data := [2] } (fun _ s =>
    (.ok, if s.o 0x8200 4 = 0 then s else odEnd 3 0 s)) s)

/-- ONDEMAND_DONE (R777, R779): the test ends with its detail; `deviation` holds what a kind-3 test counted. -/
def execOndemandDone (passed : Bool) (detail : Nat) (deviation : List Int) (s : State) :
    Host.Outcome State Fault Refusal :=
  .next (
    if s.o 0x8200 4 = 0 then s
    else
      let kind := s.test.odKind
      let t := s.test.odTarget
      let s := if kind = 3 then
          (List.range 4).foldl (fun s i => s.setO 0x8210 (1 + i) (ofSigned 32 (deviation.getD i 0))) s
        else if passed then s
        else if kind = 1 then writeHealth (fun h => { h with dramStacks := nsAdd t h.dramStacks }) s
        else
          let bad := (bankLands t).filter (fun l => bitOf detail (l % 32))
          writeHealth (fun h => { h with delays := bad.foldl (fun d l => nsAdd l d) h.delays }) s
      odEnd (if passed || kind = 3 then 1 else 2) (detail % 2 ^ 32) s)

/-! ### Tallow (R780-R785, Table 13-5, R46, R217, R498) -/

/-- Whether word w belongs to area 0: outside every enabled variant. -/
def idleWord (s : State) (w : Nat) : Bool :=
  (List.range 4).all (fun v => !(bitOf (s.o 0x3430 1) v) ||
    !(decide (s.o 0x3430 (2 + v) ≤ w ∧ w < s.o 0x3430 (2 + v) + s.o 0x3430 (6 + v))))

/-- A correction, and a rebuild or an uncorrectable word (R782). -/
def tallowFixed (s : State) : State := s.incO 0x8300 4 1
/-- A rebuild, or an uncorrectable word left in place (R782). -/
def tallowBad (s : State) : State := s.incO 0x8300 5 1

/-- Area 0: an instruction word of physical lane p. -/
def patrolIm (p w n : Nat) (s : State) : State :=
  let k := 2048 * p + w
  let d := domState s (9 + p / 64 / 17 / 32)
  let e := Sparse.get0 s.lanes.imErr k + n
  let clean (s : State) : State := { s with lanes := { s.lanes with
    imErr := Sparse.erase s.lanes.imErr k, imFixed := s.lanes.imFixed.filter (fun x => x != k) } }
  if !(decide (p < 139264 ∧ w < 2048)) || !(d == 2 || d == 3) || !(idleWord s w) || e = 0 then s
  else if e ≤ 2 then tallowFixed (clean s)
  else if s.o 0x6100 6 = 1 && !(s.lanes.imHost.contains k) then tallowBad (clean s)
  else
    let s := { s with lanes := { s.lanes with imErr := Sparse.set0 s.lanes.imErr k e } }
    tallowBad (raise 0x8301 (pU32 (physAddr s p) ++ pU32 w) s)

/-- Area 1: an entry of a dictionary shadow bank of physical cluster pc. A correction is counted as on every read (R44); the
fixed entries 0-15 are no stored words (log 15). -/
def patrolDict (pc bank entry n : Nat) (s : State) : State :=
  let k := dictKey pc bank entry
  let d := domState s (9 + pc / 17 / 32)
  let e := Sparse.get0 s.lanes.dictErr k + n
  if !(decide (pc < 2176 ∧ bank < 2 ∧ 16 ≤ entry ∧ entry < 1024)) || dictActive s pc == bank || !(d == 2 || d == 3) || e = 0 then s
  else if e = 1 then tallowFixed ({ s with lanes := { s.lanes with dictErr := Sparse.erase s.lanes.dictErr k } }.incO 0x3040 1 1)
  else
    let s := { s with lanes := { s.lanes with
      dictErr := Sparse.set0 s.lanes.dictErr k e, dictSealed := s.lanes.dictSealed.filter (fun c => c != pc) } }
    tallowBad (raise 0x3041 (pU32 (physAddr s (64 * pc)) ++ pU32 entry ++ pU8 0 ++ pCycle s) s)

/-- Area 2: an entry of an exchange-schedule shadow bank, with n flipped bits found in one of its 64-bit groups. A
correction is counted as on every read (R214). -/
def patrolExs (tile bank entry group n : Nat) (s : State) : State :=
  let k := exsKey tile bank entry
  let d := domState s (9 + tile / 32)
  let g := 48 * k + group % 48
  let t := { s with ex := { s.ex with bankErr := Sparse.set0 s.ex.bankErr g (Sparse.get0 s.ex.bankErr g + n) } }
  if !(decide (tile < 128 ∧ bank < 2 ∧ entry < 2048)) || exsActive s tile == bank || !(d == 2 || d == 3) || exsError t k = 0 then s
  else if exsError t k = 1 then
    tallowFixed ({ t with ex := { t.ex with bankErr := t.ex.bankErr.filter (fun p => p.1 / 48 != k) } }.incO 0x3820 1 1)
  else
    let s := { t with ex := { t.ex with sealed := t.ex.sealed.filter (fun x => x != tile) } }
    tallowBad (raise 0x3821 (pU32 (laneAddr tile 0 0) ++ pU32 entry ++ pU8 0 ++ pCycle s) s)

/-- Area 3: a configuration word of the target fabric, checked by 64-bit group (R498). The word is uncorrectable when a group of it
is. -/
def patrolTif (c : Nat) (bits : List Nat) (s : State) : State :=
  let t := flipCell c bits s
  let flips := (List.range 4).map (fun g => groupFlips t c g)
  let fixed := (flips.filter (fun n => n == 1)).length
  if 8192 ≤ c || domState s 19 != 2 then s
  else if flips.all (fun n => decide (n ≤ 1)) then
    flashFollow (((mendCell c t).incO 0x6810 6 fixed).incO 0x8300 4 fixed)
  else
    let host := s.tif.hostCells.contains c
    let s := (flashFollow (loadCell c (Sparse.get cellDflt s.boot.cells c) t)).incO 0x6810 7 1
    let s := { s with tif := { s.tif with hostCells := s.tif.hostCells.filter (fun x => x != c) } }
    tallowBad (raise 0x6811 (pU32 c ++ pU8 host.toNat) s)

/-- R780: rewrite the health-map copies that fail. -/
def repairHealth (s : State) : State :=
  let a := s.test.copies.getD 0 {}
  let b := s.test.copies.getD 1 {}
  let put (cs : List Health) : State := modTest (fun t => { t with copies := cs }) s
  if a.ok && b.ok then s
  else if a.ok then tallowBad (raise 0x8302 (pU8 1) (put [a, a]))
  else if b.ok then tallowBad (raise 0x8302 (pU8 0) (put [b, b]))
  else
    let h := { s.test.force with ok := true }
    tallowBad (tallowBad (raise 0x8302 (pU8 255) (put [h, h])))

/-- One patrolled word of an area. -/
def patrolWord (area : Nat) (s : State) (w : PatrolWord) : State :=
  match area, w with
  | 0, .im lane word n => patrolIm lane word n s
  | 1, .dict c b e n => patrolDict c b e n s
  | 2, .exs t b e g n => patrolExs t b e g n s
  | 3, .tif c bits => patrolTif c bits s
  | 4, .healthCopy i => modTest (fun t => { t with copies := t.copies.modify i (fun h => { h with ok := false }) }) s
  | _, _ => s

/-- The settings that the voter gives. -/
def tallowVoted (s : State) : TallowCopy := s.test.tallow.getD 0 {}

/-- Change the settings in all three copies. -/
def setTallow (f : TallowCopy → TallowCopy) (s : State) : State :=
  modTest (fun t => { t with tallow := List.replicate 3 (f (t.tallow.getD 0 {})) }) s

/-- TALLOW_PATROL (R781, R782): Tallow patrols some words of an area; `passMillis` gives the duration of the pass that they
complete. Its position counts such portions, and each portion's end is a checkpoint of progress. -/
def execTallowPatrol (area : Nat) (words : List PatrolWord) (passMillis : Option Nat) (s : State) :
    Host.Outcome State Fault Refusal :=
  onUnit area 5 (
    if s.pwr.mode < 2 || !(bitOf (tallowVoted s).enable area) then s
    else
      let s := if area = 4 && s.pwr.depth = 4 then wakeDepth s else s
      let s := words.foldl (fun s w => patrolWord area s w) s
      let s := if area = 4 then modTest (fun t => { t with slotAt := s.now }) (repairHealth s) else s
      let next := if passMillis.isSome then 0 else (tallowVoted s).pos.getD area 0 + 1
      let s := setTallow (fun c => { c with pos := c.pos.set area next }) s
      let s := modTest (fun t => { t with savedPos := t.savedPos.set area next }) s
      let s := match passMillis with
        | some ms => (s.incO 0x8300 3 1).setO (0x8310 + area) 1 (min ms (2 ^ 32 - 1))
        | none => s
      chooseDepth s)

/-- TALLOW_VOTE (R783): copy `copy` disagrees with the other two; the voter rewrites it. -/
def execTallowVote (copy : Nat) (s : State) : Host.Outcome State Fault Refusal :=
  onUnit copy 3 (
    if s.pwr.mode < 2 then s
    else
      let good := s.test.tallow.getD (if copy = 0 then 1 else 0) {}
      (modTest (fun t => { t with tallow := t.tallow.set copy good }) s).incO 0x8300 6 1)

/-- TALLOW_RESET (R784, R785): Wick resets Tallow, because an area has stalled or because the voted value failed its CRC (the
event then names no area that the manual gives). -/
def execTallowReset (stalled : Option Nat) (s : State) : Host.Outcome State Fault Refusal :=
  .next (
    if s.pwr.mode < 2 then s
    else
      let c : TallowCopy := { s.test.saved with pos := s.test.savedPos }
      let s := modTest (fun t => { t with tallow := [c, c, c] }) s
      let s := (s.setO 0x8300 1 c.rate).incO 0x8300 7 1
      match stalled with
      | some a => raise 0x8303 (pU8 1 ++ pU32 a) s
      | none =>
        let (a, s) := s.takeNat (2 ^ 32)
        raise 0x8303 (pU8 0 ++ pU32 a) s)

/-- Handler of a write to 8300h:01: the settings in the boot flash follow (Table 8-1). -/
def slotPeriodWrite (n : Nat) (s : State) : Status × State :=
  if n < 10 || 3600 < n then (.badValue, s)
  else
    let s := setTallow (fun c => { c with rate := n }) (s.setO 0x8300 1 n)
    (.ok, modTest (fun t => { t with saved := { t.saved with rate := n } }) s)

end Sys2Proof.Machine
end

