-- ==== Sys2Proof/Machine/Boot.lean ====
section
/-! DEFINITION. The boot (chapters 8 and 13): what BOOT reads from the boot flash, the health map it applies, the
configuration it makes, and DONE, with the commands of their rows. -/

namespace Sys2Proof.Machine

/-- Change the boot state. -/
def modBoot (f : BootSt → BootSt) (s : State) : State := { s with boot := f s.boot }

/-- One console line of a boot step (R818). -/
def bootLine (n : Nat) (s : State) : State := s.emit (.console true n 0)

/-! ### The health map at boot (R760-R772) -/

/-- Whether a copy is valid (R761). -/
def copyValid (h : Health) : Bool := h.ok && h.done == h.expected

/-- The copy that the boot uses, with its number. -/
def copyToUse (s : State) : Option (Nat × Health) :=
  let a := s.test.copies.getD 0 {}
  let b := s.test.copies.getD 1 {}
  if copyValid a && copyValid b then some (if a.gen < b.gen then (1, b) else (0, a))
  else if copyValid a then some (0, a)
  else if copyValid b then some (1, b)
  else none

/-- Unusable physical clusters (R764). -/
def deadClusters (h : Health) : List Nat :=
  nsOf (h.clusters ++ h.suspects ++ h.switches.flatMap (fun t => (List.range 17).map (fun c => 17 * t + c)))

/-- Unusable banks (R766). -/
def deadBanks (h : Health) : List Nat :=
  nsOf (h.banks ++ h.switches.flatMap (fun t => (List.range 4).map (fun b => 4 * t + b)))

/-- Failed DRAM units, those of failed stacks included. -/
def deadUnits (h : Health) : List Nat :=
  nsOf (h.units ++ h.dramStacks.flatMap (fun q => (List.range 32).map (fun i => 32 * q + i)))

/-- R764: what the spare of a tile carries, in the code of `spares`. -/
def bootSpare (dead : List Nat) (t : Nat) : Nat :=
  if dead.contains (17 * t + 16) then 100
  else match (List.range 16).find? (fun c => dead.contains (17 * t + c)) with
  | some c => 1 + c
  | none => 0

/-- R765: whether a tile is degraded. -/
def bootDegraded (dead : List Nat) (t : Nat) : Bool :=
  let n := ((List.range 16).filter (fun c => dead.contains (17 * t + c))).length
  dead.contains (17 * t + 16) || decide (2 ≤ n)

/-- Bits of 8100h:07. -/
def failedOther (h : Health) : Nat :=
  (!h.routers.isEmpty).toNat + 2 * (!h.plls.isEmpty).toNat + 4 * (!h.oscs.isEmpty).toNat +
  8 * (!h.sensors.isEmpty).toNat + 16 * (!h.delays.isEmpty).toNat + 32 * (!h.lanes.isEmpty).toNat

/-- Whether a map holds any failed unit. -/
def anyFailed (h : Health) : Bool :=
  !(h.clusters.isEmpty && h.banks.isEmpty && h.switches.isEmpty && h.units.isEmpty && h.dramStacks.isEmpty &&
    h.phases.isEmpty && failedOther h == 0)

/-- Put a map in force (R761, R764-R766, R770). -/
def useHealth (used : Nat) (h : Health) (s : State) : State :=
  let dead := deadClusters h
  let tiles := allTiles.filter (fun t => dead.any (fun pc => pc / 17 == t))
  let spares := tiles.foldl (fun m t => Sparse.set0 m t (bootSpare dead t)) []
  let s := { s with
    test := { s.test with force := h, booted := h, bootDead := dead, used }
    rew := { s.rew with spares, degraded := tiles.filter (bootDegraded dead) } }
  let s := ((s.setO 0x8000 2 (h.gen % 2 ^ 32)).setO 0x8000 3 (h.testTime % 2 ^ 64)).setO 0x8000 1
    (if h.expected = 0 then 0 else if anyFailed h then 2 else 1)
  let s := ((s.setO 0x8100 3 dead.length).setO 0x8100 4 (deadBanks h).length).setO 0x8100 5 (deadUnits h).length
  let s := ((s.setO 0x8100 6 h.phases.length).setO 0x8100 7 (failedOther h)).setO 0x8100 8 used
  (s.setO 0x2200 5 (48 - h.phases.length)).setO 0x2200 4 (powerLimit (48 - h.phases.length))

/-- The record of a test that did not commit (R759, R760). -/
def reportProgress (s : State) : State :=
  match s.test.progress.filterMap (fun x => x) with
  | [] => s
  | l =>
    let best := l.foldl (fun a b => if a.2.1 < b.2.1 then b else a) (0, 0, 0)
    let s := modTest (fun t => { t with progress := [none, none] }) s
    let s := ((s.setO 0x8000 5 1).setO 0x8000 7 best.2.1).setO 0x8000 1 3
    raise 0x8002 (pU32 best.2.1 ++ pU32 best.1) s

/-- What a boot takes from the health map. -/
def bootHealth (s : State) : State :=
  let s := match copyToUse s with
    | some (i, h) => useHealth i h s
    | none => raise 0x8003 (pU8 255) (useHealth 255 {} s)
  reportProgress s

/-- The sources that are present at boot: Wick runs from XTB when it is (R705), and failed oscillators count as missing (R771). -/
def bootSources (s : State) : State :=
  let bad (i : Nat) : Bool := s.test.booted.oscs.contains i
  let s := s.setO 0x2010 2 (ofOnes ((List.range 5).filter (fun i => !(bad i) && !(i == 3 && s.clk.xtbLost))))
  let s := s.setO 0x2010 3 (!s.clk.xtbLost).toNat
  let s := s.setO 0x2020 9 (putBit (s.o 0x2020 9) 2 s.clk.xtbLost)
  let s := if bad 2 then loseRef .xta s else s
  let s := if bad 3 then loseRef .xtb s else s
  if bad 4 then loseRef .sref s else s

/-- PLL p starts; a failed one is treated as a failure under R706 (R771). -/
def bootPll (p : Nat) (s : State) : State :=
  let s := runPll p s
  if s.test.booted.plls.contains p then failPll p s else s

/-! ### One slot (R504-R510, R768) -/

/-- Code of a bank voltage that a header gives; a reserved one leaves the bank unpowered (R505). -/
def headerVoltage (h : List Octet) (b : Nat) : Nat :=
  let c := hdrBits h (3839 - 8 * b) 8
  if c ≤ 5 then c else 0

/-- Safe state that a header gives a land (Table 8-3). -/
def headerSafe (h : List Octet) (j : Nat) : Nat :=
  let o := hdrBits h (3759 - 8 * j) 8
  128 * fld o 7 1 + (if fld o 0 2 = 3 then 0 else fld o 0 2)

/-- R504: a valid header powers PD19 and sets bank voltages and safe states. -/
def applyHeader (h : List Octet) (s : State) : State :=
  let s := setDomain 19 2 0 s
  let s := (List.range 10).foldl (fun s b =>
    let c := headerVoltage h b
    (s.setO (0x6850 + b) 1 c).setO (0x6850 + b) 2 (if c = 0 then 0 else 2)) s
  let safe := (List.range 320).foldl (fun m j => Sparse.set0 m j (headerSafe h j)) []
  { s with tif := { s.tif with safe }, boot := { s.boot with padsSafe := true } }

/-- Content of a section. -/
def sectionOf (b : BootStream) (t : Nat) : List Octet :=
  ((b.sections.find? (fun x => x.1 == t)).map (fun x => x.2)).getD []

/-- Partition layout of a stream: the last 128 octets of its DRAM setup. -/
def streamLayout (b : BootStream) : List Nat :=
  let l := sectionOf b 5
  (l.drop (l.length - 128)).map (fun o => o.toNat)

/-- Try one slot: its header takes effect, and the stream is checked. `failedStacks` are the stacks that fail training; a
stack that the map gives as failed is not trained (R768). -/
def trySlot (i : Nat) (failedStacks : List Nat) (s : State) : Except (Nat × Bool) BootStream × State :=
  let h := slotRead s i 0 512
  if !(headerOk h) then (.error (1, false), s)
  else
    let s := bootLine 2 (applyHeader h s)
    match checkStream s h (slotRead s i) with
    | .error e => (.error e, s)
    | .ok b =>
      let trained := (List.range 4).filter (fun q => !(s.test.booted.dramStacks.contains q))
      if trained.any (fun q => failedStacks.contains q) || usesDeadUnit s.test.booted (streamLayout b) then
        (.error (7, true), s)
      else (.ok b, s)

/-- Valid slots, the one with the higher SEQUENCE first (R502). -/
def bootOrder (s : State) : List Nat :=
  let valid (i : Nat) : Bool := (slotDir s i).state == 1
  let l := if (slotDir s 0).seq < (slotDir s 1).seq then [1, 0] else [0, 1]
  l.filter valid

/-- Try the next slot (R517). x is what the slots tried so far gave: the slot that passed, with its stream, and the
failures before it. -/
def tryNext (failedStacks : List Nat) (x : Option (Nat × BootStream) × List (Nat × Nat) × State) (i : Nat) :
    Option (Nat × BootStream) × List (Nat × Nat) × State :=
  match x with
  | (some b, bad, s) => (some b, bad, s)
  | (none, bad, s) =>
    match trySlot i failedStacks s with
    | (.ok b, s) => (some (i, b), bad, s)
    | (.error (r, ran), s) =>
      (none, bad ++ [(i, r)], modBoot (fun x => { x with firmware := x.firmware || ran }) (s.setO 0x6000 3 r))

/-- Try the slots in turn (R517). -/
def trySlots (failedStacks : List Nat) (l : List Nat) (s : State) :
    Option (Nat × BootStream) × List (Nat × Nat) × State :=
  l.foldl (tryNext failedStacks) (none, [], s)

/-! ### Configuration (step 5) -/

/-- A cell word as the configuration holds it. -/
def cellWordOf (l : List Octet) (c : Nat) : BitVec 256 :=
  BitVec.ofNat 256 (fld (natBE ((l.drop (32 * c)).take 32)) 3 195 * 8)

/-- Load the personality (section 1); the module keeps a copy of it. -/
def loadPersonality (l : List Octet) (s : State) : State :=
  let cells := (List.range 8192).filterMap (fun c =>
    let w := cellWordOf l c
    if w = cellDflt c then none else some (c, w))
  let ram := ((List.range 4096).map (fun i => 2 * i)).foldl (fun m c =>
    let w := (cellWordOf l c).toNat
    if fld w 196 2 = 2 then Sparse.set0 (Sparse.set0 m c (cellTables w)) (c + 1) (cellTables w) else m) []
  { s with
    tif := { s.tif with cells, ram, cellErr := [], hostCells := [] }
    boot := { s.boot with cells } }

/-- Pin configurations (section 2). -/
def loadPins (l : List Octet) (s : State) : State :=
  let pins := (List.range 320).foldl (fun m j => Sparse.set0 m j (fld (natBE ((l.drop (2 * j)).take 2)) 3 7 * 8)) []
  { s with tif := { s.tif with pins } }

/-- TIF oscillators (section 3); a frequency outside R462 leaves the Default. -/
def loadOscs (l : List Octet) (s : State) : State :=
  if l.isEmpty then s
  else (List.range 4).foldl (fun s k =>
    let f := natBE ((l.drop (5 * k)).take 4)
    let s := if 50000 ≤ f && f ≤ 400000 && f % 100 == 0 then s.setO (0x6870 + k) 1 f else s
    s.setO (0x6870 + k) 2 (natBE ((l.drop (5 * k + 4)).take 1) % 2)) s

/-- Management network setup (section 6): objects whose Default is the boot stream, each value taken into its object's
range (log 6). -/
def loadNetwork (l : List Octet) (s : State) : State :=
  let v (idx sub : Nat) : Nat := if l.isEmpty then 0 else Config.bootSetting l (okey idx sub)
  let s := (s.setO 0x7820 1 (v 0x7820 1 % 2)).setO 0x7820 2 (1 + v 0x7820 2 % 2)
  let s := (List.range 2).foldl (fun s p =>
    let s := (s.setO (0x7830 + p) 3 (v (0x7830 + p) 3 % 10001)).setO (0x7830 + p) 4 (v (0x7830 + p) 4 % 10001)
    s.setO (0x7900 + p) 4 (v (0x7900 + p) 4 % 32)) s
  let s := (s.setO 0x7A00 1 (v 0x7A00 1 % 2)).setO 0x7A00 5 (v 0x7A00 5 % 4095)
  ((s.setO 0x7B00 2 (v 0x7B00 2 % 2)).setO 0x7B00 3 (v 0x7B00 3 % 2 ^ 32)).setO 0x7B00 4 (v 0x7B00 4 % 2 ^ 32)

/-- Tallow starts from the settings in the boot flash. -/
def startTallow (s : State) : State :=
  let c := s.test.saved
  let s := modTest (fun t => { t with tallow := [c, c, c], savedPos := c.pos, slotAt := s.now }) s
  s.setO 0x8300 1 c.rate

/-- Steps 3 to 6 of the boot, for the stream of slot i. -/
def configure (i : Nat) (b : BootStream) (millis : Nat) (s : State) : State :=
  let h := b.header
  let steps := Config.vendorSteps b.vendor
  let s := { s with
    keys := { s.keys with customer := some b.key }
    boot := { s.boot with slot := i, firmware := true, steps := steps % 2 ^ 32
                          advance := if b.advance then some b.version else none } }
  let s := (s.setO 0x1000 6 (Config.vendorFirmware b.vendor % 2 ^ 32)).setO 0x8000 6 (steps % 2 ^ 32)
  let s := ((s.setO 0x6000 2 i).setO 0x6000 5 b.version).setO 0x6000 6 b.keySource
  let s := s.setO 0x8800 5 (Config.vendorSecure b.vendor).toNat
  let s := s.setO 0x6020 1 (hdrBits h 1103 32)
  let s := bootLine 5 (bootLine 4 (bootLine 3 s))
  let s := s.setO 0x2010 1 (Config.bootSetting (sectionOf b 4) (okey 0x2010 1) % 2)
  let s := (List.range 6).foldl (fun s p => bootPll p s) s
  let layout := streamLayout b
  let s := { s with mem := { s.mem with layout } }
  let s := s.setO 0x4110 1 (layoutValue layout)
  let s := (List.range 4).foldl (fun s q => wakeDomain (13 + q) s) s
  let s := loadOscs (sectionOf b 3) (loadPins (sectionOf b 2) (loadPersonality (sectionOf b 1) s))
  let s := startTallow (loadNetwork (sectionOf b 6) s)
  -- step 6
  let s := ffInit { s with tif := { s.tif with state := 1 } }
  let s := restDomain 18 2 0 (restDomain 17 2 0 s)
  let s := (List.range 8).foldl (fun s p => startTraining p s) s
  let s := modBoot (fun x => { x with released := true, releasedAt := s.now }) s
  let s := bootLine 6 (s.emit (.done true))
  netStart ((s.setO 0x6000 1 4).setO 0x6000 4 (min millis (2 ^ 32 - 1)))

/-- Events that the start of a boot owes: the cause of the last power-down (R740), a trip (R752), a zeroised key (R513). -/
def owedEvents (s : State) : State :=
  let c := s.o 0x2200 6
  let s := if 2 ≤ c && c ≤ 6 then raise 0x2201 (pU8 c) s else s
  let s := match s.pwr.tripSensor with
    | some k => raise 0x2403 (pU8 k) (modPwr (fun p => { p with tripSensor := none }) s)
    | none => s
  if s.keys.tamper = 0 then s
  else
    let s := s.setO 0x6050 1 s.keys.tamper
    raise 0x6051 (octetsLE 1 s.keys.tamper) { s with keys := { s.keys with tamper := 0 } }

/-- BOOT: the steps of the boot up to the release of DONE, or its failure (R517, R518). -/
def execBoot (failedStacks : List Nat) (millis : Nat) (s : State) : Host.Outcome State Fault Refusal :=
  .next (
    if s.pwr.mode != 2 || s.o 0x6000 1 != 0 then s
    else
      let s := bootLine 1 (s.emit (.done false))
      let s := bootSources (bootHealth (owedEvents s))
      let s := bootPll 7 (bootPll 6 s)
      match trySlots failedStacks (bootOrder s) s with
      | (some (i, b), bad, s) =>
        let s := configure i b millis s
        bad.foldl (fun s x => raise 0x6002 (pU8 x.1 ++ pU8 x.2) s) s
      | (none, bad, s) =>
        let reason (i : Nat) : Nat := ((bad.find? (fun x => x.1 == i)).map (fun x => x.2)).getD 1
        let s := modBoot (fun x => { x with reasons := [reason 0, reason 1] }) s
        let s := if bad.isEmpty then s.setO 0x6000 3 1 else s
        raise 0x6003 (pU8 (reason 0) ++ pU8 (reason 1)) (s.setO 0x6000 1 6))

/-- R509: the rollback counter follows a boot that completes with ADVANCE. -/
def advanceCounter (s : State) : State :=
  match s.boot.advance with
  | some v => if s.o 0x6040 8 < v then s.setO 0x6040 8 v else s
  | none => s

/-- Step 7 of the boot. -/
def bootComplete (s : State) : State :=
  let wait := min ((s.now - s.boot.releasedAt) / 1000000) (2 ^ 32 - 1)
  let late := s.boot.doneTimedOut
  let s := (s.setO 0x6020 3 wait).setO 0x6000 1 5
  let s := setMode 3 (modeOn (bootLine 7 s))
  let s := raise 0x6001 (pU8 (s.o 0x6000 2) ++ pU32 (s.o 0x6000 4)) s
  let s := if late then raise 0x6022 (pU32 wait) s else s
  let s := advanceCounter s
  let s := raise 0x8004 (pU32 (s.test.booted.gen) ++ pU16 (s.o 0x8100 3) ++ pU16 s.rew.degraded.length ++
    pU16 (s.o 0x8100 4) ++ pU8 (s.o 0x8100 6)) s
  chooseDepth s

/-- DONE_RISE (R520, R521). -/
def execDoneRise (s : State) : Host.Outcome State Fault Refusal :=
  .next (
    if s.pwr.mode < 2 then s
    else
      let s := s.setO 0x6020 2 1
      if s.pwr.mode = 2 && s.o 0x6000 1 = 4 then bootComplete s else s)

/-- DONE_TIMEOUT (R520). -/
def execDoneTimeout (s : State) : Host.Outcome State Fault Refusal :=
  .next (
    if s.pwr.mode = 2 && s.o 0x6000 1 = 4 && !s.boot.doneTimedOut then
      raise 0x6021 (pU32 (s.o 0x6020 1)) (modBoot (fun x => { x with doneTimedOut := true }) s)
    else s)

end Sys2Proof.Machine
end

