-- ==== Sys2Proof/Machine/Read.lean ====
section
/-! DEFINITION. What a READ returns: the value of every object as one session reads it, the elements of block objects,
and what a read changes (chapter 9, with the object tables of every chapter). -/

namespace Sys2Proof.Machine

/-! ### Values that the state holds in a form of its own -/

/-- A value, or BAD_VALUE where a selector names nothing. -/
def valueOr (v : Option Nat) : Except Status Nat :=
  match v with
  | some n => .ok n
  | none => .error .badValue

/-- R837: SERIAL, 12 characters of A-Z and 0-9. -/
def serialText : Nat :=
  natBE ((List.range 12).map (fun i =>
    let d := Config.factory (okey 0x1000 4) / 36 ^ i % 36
    BitVec.ofNat 8 (if d < 26 then 0x41 + d else 0x30 + (d - 26))))

/-- Identity and protocol objects (Table 9-14). -/
def protocolValue (s : State) (x : Session) (idx sub : Nat) : Option (Except Status Nat) :=
  let rev := Config.factory (okey 0x1000 5) % 65536
  match okey idx sub with
  | 0x100004 => some (.ok serialText)
  | 0x100005 => some (.ok rev)
  | 0x100201 => some (.ok (s.moduleId % 128))
  | 0x100202 => some (.ok (decide (s.o 0x6000 1 = 5)).toNat)
  | 0x101001 | 0x101301 => some (.ok 0xFFFF)
  | 0x101101 => some (.ok x.requested)
  | 0x101201 => some (.ok x.agreed)
  | 0x101803 => some (.ok (rev * 65536 + s.o 0x1000 6 / 65536 % 65536))
  | 0x101804 => some (.ok (1 + Config.factory (okey 0x1018 4) % (2 ^ 32 - 1)))
  | 0x110001 => some (.ok x.id)
  | 0x110002 => some (.ok x.level)
  | 0x110003 => some (.ok x.carrier)
  | 0x110004 => some (.ok x.maxDatagram)
  | 0x111001 => some (.ok s.acp.sessions.length)
  | 0x120001 => some (.ok (natBE ((List.range 16).flatMap (fun i =>
      let f := x.filters.getD i (0, 0)
      octetsBE 2 f.1 ++ octetsBE 2 f.2))))
  | 0x120002 => some (.ok x.dropped)
  | 0x130003 => some (.ok (match s.acp.log.getLast? with | some r => r.seq | none => 0))
  | 0x130004 => some (.ok s.acp.eventSeq)
  | 0x1E0002 => some (.ok (credState s (selOf s x.id 0x1E00 1)))
  | 0x1E0003 => some (.ok (kcv (accessKey s (selOf s x.id 0x1E00 1))))
  | _ => none

/-- Lanes, dictionaries and exchange (chapters 1 and 3). -/
def laneValue (s : State) (n idx sub : Nat) : Option (Except Status Nat) :=
  match okey idx sub with
  | 0x310007 => some (valueOr ((addrCluster s (selOf s n 0x3100 1)).map (fun pc => (s.lanes.dictSealed.contains pc).toNat)))
  | 0x311003 => some (.ok (swapState s true))
  | 0x311005 => some (.ok (swapUnsealed s true))
  | 0x321004 => some (.ok (256 - s.lanes.deposits.length))
  | 0x330001 => some (.ok s.lanes.first.toNat)
  | 0x381007 => some (valueOr ((addrTile (selOf s n 0x3810 1)).map (fun t => (s.ex.sealed.contains t).toNat)))
  | 0x383001 => some (.ok (s.moduleId % 128))
  | 0x383005 => some (.ok (popcount 128 (s.o 0x3830 3)))
  | 0x390003 => some (.ok (swapState s false))
  | 0x390005 => some (.ok (swapUnsealed s false))
  | _ => none

/-- Objects of port p (3A0nh). -/
def portValue (s : State) (p sub : Nat) : Option (Except Status Nat) :=
  let q := s.port p
  match sub with
  | 2 => some (.ok q.enabled.toNat)
  | 3 => some (.ok q.state.code)
  | 4 => some (.ok q.reason)
  | 5 => some (.ok q.partnerId)
  | 6 => some (.ok q.partnerPort)
  | 7 => some (.ok q.transit)
  | 8 => some (.ok (if q.transit = 0 then 0 else ofSigned 16 (192 - (q.transit : Int))))
  | 9 => some (.ok q.spareFor)
  | 0x0B => some (.ok q.reversed.toNat)
  | 0x0C => some (.ok q.polarity.toNat)
  | 0x0E => some (.ok q.trainingTime)
  | _ => none

/-- R116: whether the segment lengths of a variant do not add up to its length. -/
def segmentsDiffer (s : State) (v : Nat) : Bool :=
  let ix := 0x3500 + 16 * v
  ((List.range (s.o ix 1)).map (fun g => 16 * fld (s.o ix (0x10 + g)) 16 11)).sum != s.o 0x3430 (6 + v)

/-- Run control (chapter 2). -/
def runValue (s : State) (idx sub : Nat) : Option (Except Status Nat) :=
  match okey idx sub with
  | 0x340004 => some (.ok s.run.state.code)
  | 0x34000A => some (.ok s.run.stepLeft)
  | 0x341001 => some (.ok s.run.cycle.toNat)
  | 0x344002 => some (.ok (activeHolds s))
  | 0x344003 => some (.ok s.run.syncLevel.toNat)
  | 0x344004 => some (.ok s.run.released.toNat)
  | 0x344005 => some (.ok (neighbourHolds s))
  | 0x350002 => some (.ok (segmentsDiffer s 0).toNat)
  | 0x351002 => some (.ok (segmentsDiffer s 1).toNat)
  | 0x352002 => some (.ok (segmentsDiffer s 2).toNat)
  | 0x353002 => some (.ok (segmentsDiffer s 3).toNat)
  | _ => none

/-- Design memories and the partition (chapter 4). -/
def memoryValue (s : State) (n idx sub : Nat) : Option (Except Status Nat) :=
  if idx = 0x4010 && 2 ≤ sub && sub ≤ 0x0A then
    some (valueOr ((addrTile (selOf s n 0x4010 1)).map (fun t => (portOwner s t (sub - 2)).getD 255)))
  else if idx = 0x4100 && 1 ≤ sub && sub ≤ 8 then some (.ok (unitsOf s.mem.layout (sub % 8)).length)
  else match okey idx sub with
  | 0x40100B => some (valueOr ((addrTile (selOf s n 0x4010 1)).map (fun t => Sparse.get0 s.mem.compat t)))
  | 0x411003 => some (.ok (if s.mem.applying then 2 else if pendingLayout s = s.mem.layout then 0 else 1))
  | 0x420006 => some (valueOr ((addrTile (selOf s n 0x4200 1)).map (fun t =>
      Config.fusedColumns (4 * t + selOf s n 0x4200 2 % 4) % 17)))
  | 0x410009 => some (.ok (reservedBandwidth s.mem.layout))
  | 0x422001 => some (.ok (1024 - s.mem.hostQ.length))
  | _ => none

/-- Octets that the records of the window take in the stimulus log. -/
def windowLogUsed (s : State) : Nat :=
  (((s.rew.log.filter (fun r => decide (windowFirst s ≤ r.cycle))).map (fun r => 8 * (recordWords r).length)).sum)

/-- Directory entry (Table 6-3). -/
def dirEntry (c : Ckpt) : Nat :=
  (c.state * 16 + c.cause) * 2 ^ 244 + (if c.state = 3 then c.by_ else 0) * 2 ^ 240 + c.cycle % 2 ^ 64 * 2 ^ 160 +
  c.frc % 2 ^ 32 * 2 ^ 128 + c.frc / 2 ^ 32 % 65536 * 2 ^ 112 + ringBlocks c % 2 ^ 32 * 2 ^ 80 + c.pre.length % 2 ^ 32 * 2 ^ 48

/-- Rewind and sparing (chapter 6). -/
def rewindValue (s : State) (n idx sub : Nat) : Option (Except Status Nat) :=
  let cow := addrTile (selOf s n 0x4810 3)
  let sp := (addrTile (selOf s n 0x4B00 1)).map (fun t => (t, Sparse.get0 s.rew.spares t))
  match okey idx sub with
  | 0x480004 => some (.ok (completeCkpts s).length)
  | 0x480005 => some (.ok (windowFirst s))
  | 0x480006 => some (.ok (windowLast s))
  | 0x480007 => some (.ok (newestCkpt s))
  | 0x48000A => some (.ok (ringFree s))
  | 0x48000B => some (.ok (regionSize s 3 / 16 - windowLogUsed s))
  | 0x481004 => some (valueOr (cow.map (fun t => Sparse.get0 s.rew.demand t)))
  | 0x481005 => some (valueOr (cow.map (fun t => 2048 - Sparse.get0 s.rew.storeUsed t)))
  | 0x491002 => some (.ok (match s.rew.ckpts[selOf s n 0x4910 1]? with | some c => dirEntry c | none => 0))
  | 0x4A0003 => some (.ok (match s.rew.log.head? with | some r => r.cycle | none => noCycle))
  | 0x4A0004 => some (.ok (lockedFrames s).length)
  | 0x4B0002 => some (valueOr (sp.map (fun p => if p.2 = 0 then 0 else if p.2 ≤ 16 then 1 else 2)))
  | 0x4B0003 => some (valueOr (sp.map (fun p => if 1 ≤ p.2 && p.2 ≤ 16 then p.2 - 1 else 255)))
  | 0x4B0004 => some (valueOr (sp.map (fun p => (s.rew.degraded.contains p.1).toNat)))
  | 0x4B0005 => some (.ok ((s.rew.spares.filter (fun p => decide (1 ≤ p.2 ∧ p.2 ≤ 16))).length))
  | 0x4B0006 => some (.ok s.rew.degraded.length)
  | _ => none

/-- Lantern (chapter 5). -/
def lanternValue (s : State) (n idx sub : Nat) : Option (Except Status Nat) :=
  let c := s.lan.ctx
  let g := selOf s n 0x5100 5
  let v := segOf s (selOf s n 0x5300 1)
  match okey idx sub with
  | 0x510004 => some (.ok (nsOf ((s.lan.probeMap.filter (fun p => pmValid p.2)).map (fun p => pmGroup p.2))).length)
  | 0x510006 => some (.ok (groupWidth s g))
  | 0x510007 => some (.ok (groupPublic s g).toNat)
  | 0x510009 => some (.ok (selectedBits s))
  | 0x51000A => some (.ok (rawWords s))
  | 0x520002 => some (.ok c.acq.code)
  | 0x520008 => some (.ok c.cur)
  | 0x520009 => some (.ok c.closed)
  | 0x52000B => some (.ok c.gate.toNat)
  | 0x530002 => some (.ok v.start)
  | 0x530003 => some (.ok v.blocks)
  | 0x530004 => some (.ok v.state)
  | 0x530005 => some (.ok v.wrapped.toNat)
  | 0x530006 => some (.ok (segCapacity s v.blocks))
  | 0x530007 => some (.ok v.readStart)
  | 0x530008 => some (.ok v.writeEnd)
  | 0x530009 => some (.ok v.trigger)
  | 0x53000A => some (.ok v.first)
  | 0x53000B => some (.ok v.last)
  | 0x53000C => some (.ok v.replayed)
  | 0x568001 => some (.ok c.seqState)
  | 0x568003 => some (.ok c.feedback.toNat)
  | 0x570005 => some (.ok (Sparse.get0 s.lan.minmax (selOf s n 0x5700 4)))
  | _ =>
    if 0x5500 ≤ idx && idx < 0x5504 then
      match sub with
      | 2 => some (.ok (c.counters.getD (idx - 0x5500) 0))
      | 3 => some (.ok (cntTerminal s (idx - 0x5500)).toNat)
      | _ => none
    else none

/-- Target fabric (chapter 7). -/
def fabricValue (s : State) (n idx sub : Nat) : Option (Except Status Nat) :=
  match okey idx sub with
  | 0x681004 => some (.ok (if s.tif.state = 0 then 0 else if s.pwr.mode = 10 || s.pwr.mode = 11 then 2 else 1))
  | 0x681005 => some (.ok (if s.tif.state = 0 && s.tif.hostCells.isEmpty then 0 else configCrc s))
  | 0x682002 => some (.ok (Sparse.get0 s.tif.omap (selOf s n 0x6820 1)))
  | 0x682003 => some (.ok s.tif.bo.toNat)
  | 0x682004 => some (.ok s.tif.bi.toNat)
  | 0x682804 => some (.ok (patBits s))
  | 0x682805 => some (.ok (frameWords s))
  | 0x682806 => some (.ok (patternMisplaced s).toNat)
  | 0x683003 => some (.ok s.tif.live.toNat)
  | 0x684002 => some (.ok s.tif.patPos)
  | 0x686002 => some (.ok (Sparse.get0 s.tif.pins (selOf s n 0x6860 1)))
  | 0x686004 => some (.ok (Sparse.get0 s.tif.safe (selOf s n 0x6860 1)))
  | 0x688004 => some (.ok (if s.tif.ufBusy.isSome then 1 else s.o 0x6880 4))
  | _ => none

/-- Images, boot and keys (chapter 8). -/
def imageValue (s : State) (x : Session) (idx sub : Nat) : Option (Except Status Nat) :=
  let slot := slotDir s (selOf s x.id 0x6010 1)
  match okey idx sub with
  | 0x601002 => some (.ok slot.state)
  | 0x601003 => some (.ok slot.seq)
  | 0x601004 => some (.ok slot.len)
  | 0x640002 => some (.ok x.token.toNat)
  | _ => none

/-- Host link and packet network (chapter 10). -/
def networkValue (s : State) (idx sub : Nat) : Option (Except Status Nat) :=
  if idx = 0x7000 && sub = 1 then some (.ok (Config.factory (okey 0x7000 1) % 65536))
  else if 0x7200 ≤ idx && idx < 0x7208 && sub = 1 then
    let e := s.host.dma.getD (idx - 0x7200) {}
    some (.ok (if e.failed then 3 else if e.waiting then 2 else if e.running then 1 else 0))
  else if 0x7500 ≤ idx && idx < 0x7514 && sub = 1 then some (.ok (gateState s (idx - 0x7500)))
  else none

/-- The captured tick of R659. -/
def timeSnapshot (s : State) : Nat :=
  natBE (octetsBE 8 s.now ++ octetsBE 8 (ofSigned 64 s.time.offset) ++ octetsBE 8 (ofSigned 64 s.time.rate) ++
    octetsBE 8 s.time.anchor)

/-- Time base and management ports (chapter 11). -/
def timeValue (s : State) (idx sub : Nat) : Option (Except Status Nat) :=
  match okey idx sub with
  | 0x780001 => some (.ok s.now)
  | 0x780002 => some (.ok (ofSigned 64 (sysTime s)))
  | 0x780003 => some (.ok (ofSigned 64 s.time.offset))
  | 0x780004 => some (.ok (ofSigned 64 s.time.rate))
  | 0x780005 => some (.ok s.time.anchor)
  | 0x780006 => some (.ok (s.now / 2 ^ 32 % 65536))
  | 0x78000A => some (.ok (timeSnapshot s))
  | 0x781009 => some (.ok (ofSigned 64 s.time.rateI))
  | 0x78200C => some (.ok clockIdentity)
  | 0x78200E => some (.ok (s.time.master.getD 0))
  | 0x783006 => some (.ok (ofSigned 64 (meanDelay (s.time.delays.getD 1 []))))
  | 0x783106 => some (.ok (ofSigned 64 (meanDelay (s.time.delays.getD 2 []))))
  | 0x7A0002 => some (.ok s.net.macs.length)
  | 0x7B0001 => some (.ok macAddress)
  | 0x7B0003 => some (.ok s.net.addr)
  | 0x7B0004 => some (.ok s.net.mask)
  | 0x7B0006 => some (.ok (if s.o 0x7B00 2 = 1 then (s.net.leaseEnd - s.now) / 1000000000 else 0))
  | _ => none

/-- Clocks, modes and power (chapter 12). -/
def powerValue (s : State) (idx sub : Nat) : Option (Except Status Nat) :=
  let next := earliest (knownEvents s)
  match okey idx sub with
  | 0x200001 => some (.ok s.pwr.mode)
  | 0x204004 => some (.ok (decide (s.o 0x3420 1 = 1 ∧ s.o 0x2040 1 = 1)).toNat)
  | 0x210004 => some (.ok (if s.pwr.mode = 3 then s.pwr.depth else 255))
  | 0x210005 => some (.ok (match next with | some e => e.2 / 1000000 | none => 0))
  | 0x210006 => some (.ok (match next with | some e => e.1 | none => 0))
  | 0x220007 => some (.ok (!s.pwr.pfailLow).toNat)
  | _ => if 0x2300 ≤ idx && idx < 0x2314 && sub = 1 then some (.ok (domState s (idx - 0x2300))) else none

/-- Self-test, Tallow and flow trace (chapters 13 and 14). -/
def testValue (s : State) (idx sub : Nat) : Option (Except Status Nat) :=
  match okey idx sub with
  | 0x830002 => some (.ok ((s.test.slotAt + s.o 0x8300 1 * 1000000000 - s.now) / 1000000))
  | 0x881004 => some (.ok (traceSuppressed s).toNat)
  | _ => none

/-- Value of an object of fixed size or of a STRING for a session: a selector of the session, a value that the state holds in a form of its
own, or the stored value. -/
def objectValue (s : State) (x : Session) (idx sub : Nat) : Except Status Nat :=
  if isSelector idx sub then .ok (selOf s x.id idx sub)
  else
    let own : Option (Except Status Nat) := match idx / 4096 with
      | 1 => protocolValue s x idx sub
      | 2 => powerValue s idx sub
      | 3 => if 0x3A00 ≤ idx && idx < 0x3A08 then portValue s (idx - 0x3A00) sub
        else (runValue s idx sub).or (laneValue s x.id idx sub)
      | 4 => (memoryValue s x.id idx sub).or (rewindValue s x.id idx sub)
      | 5 => lanternValue s x.id idx sub
      | 6 => (fabricValue s x.id idx sub).or (imageValue s x idx sub)
      | 7 => (networkValue s idx sub).or (timeValue s idx sub)
      | 8 => testValue s idx sub
      | _ => none
    match own with
    | some v => v
    | none => .ok (s.o idx sub)

/-! ### Elements of block objects (Table 9-10, R841) -/

/-- The block object whose element a single-element object names. -/
def elementOf (idx sub : Nat) : Option Nat :=
  match okey idx sub with
  | 0x301003 => some 4
  | 0x310004 => some 5
  | 0x381004 => some 5
  | 0x420004 => some 5
  | 0x421002 => some 3
  | 0x510002 => some 3
  | 0x681002 => some 3
  | 0x682802 => some 3
  | _ => none

/-- Elements of a block object: the last element of it is one below. -/
def blockElements (s : State) (n idx sub : Nat) : Nat :=
  match okey idx sub with
  | 0x301004 => 2048
  | 0x310005 => 1024
  | 0x381005 => 2048
  | 0x420005 => 65536
  | 0x421003 => farSize s
  | 0x510003 => 4194304
  | 0x5B0003 =>
    let v := segOf s (selOf s n 0x5B00 1)
    min (512 * v.blocks) (regionSize s 1 / 8 - 512 * v.start)
  | 0x610003 => min (s.o 0x6100 2) (regionSize s 5 - s.o 0x6100 1)
  | 0x681003 => 8192
  | 0x682803 => 4194304
  | 0x688002 => 524288
  | _ => 0

/-- Read `count` items from `start`, each with what reading it changes. -/
def readItems (f : Nat → State → List Octet × State) : Nat → Nat → State → List Octet × State
  | 0, _, s => ([], s)
  | k + 1, i, s =>
    let (a, s) := f i s
    let (b, s) := readItems f k (i + 1) s
    (a ++ b, s)

/-- A stored word whose bits the manual leaves open once its code cannot correct it (log 3). -/
def openWord (octets : Nat) (s : State) : List Octet × State :=
  let (v, s) := s.takeNat (2 ^ (8 * octets))
  (octetsBE octets v, s)

/-- An exchange-schedule entry with uncorrectable 64-bit groups: the bits of those groups are open, its reserved bits
read 0 (R12, log 3). -/
def openEntry (key : Nat) (v : BitVec 3072) (s : State) : BitVec 3072 × State :=
  (s.ex.bankErr.filter (fun p => p.1 / 48 == key && 2 ≤ p.2)).foldl (fun (acc : BitVec 3072 × State) p =>
    let (x, s) := acc.2.takeNat (2 ^ 64)
    ((acc.1 ^^^ BitVec.ofNat 3072 (x <<< (64 * (p.1 % 48)))) &&& exsNone, s)) (v, s)

/-- A dictionary entry read by the host (R44); the fixed entries 0-15 are no stored words (log 15). -/
def hostDict (pc bank e : Nat) (s : State) : List Octet × State :=
  match if e < 16 then 0 else Sparse.get0 s.lanes.dictErr (dictKey pc bank e) with
  | 0 => (octetsBE 8 (s.dictEntry pc bank e).toNat, s)
  | 1 => (octetsBE 8 (s.dictEntry pc bank e).toNat, s.incO 0x3040 1 1)
  | _ => openWord 8 s

/-- An exchange-schedule entry read by the host (R214). -/
def hostExs (tile bank e : Nat) (s : State) : List Octet × State :=
  match exsError s (exsKey tile bank e) with
  | 0 => (octetsBE 384 (s.exsEntry tile bank e).toNat, s)
  | 1 => (octetsBE 384 (s.exsEntry tile bank e).toNat, s.incO 0x3820 1 1)
  | _ =>
    let (v, s) := openEntry (exsKey tile bank e) (s.exsEntry tile bank e) s
    (octetsBE 384 v.toNat, s)

/-- An instruction word read by the host; its reserved bits [6:0] read 0 (R12). -/
def hostIm (p w : Nat) (s : State) : List Octet × State :=
  if 3 ≤ Sparse.get0 s.lanes.imErr (2048 * p + w) then
    let (v, s) := s.takeNat (2 ^ 121)
    (octetsBE 16 (v * 128), s)
  else (octetsBE 16 (s.imWord p w).toNat, s)

/-- Elements [start, start+count) of a block object, after the chapter's own checks. -/
def blockRead (n idx sub start count : Nat) (s : State) : Except Status (List Octet) × State :=
  let out (x : List Octet × State) : Except Status (List Octet) × State := (.ok x.1, x.2)
  match okey idx sub with
  | 0x301004 =>
    match addrLane s (selOf s n 0x3010 1) with
    | none => (.error .badValue, s)
    | some p => if !(mayRead s n) then (.error .denied, s) else out (readItems (hostIm p) count start s)
  | 0x310005 =>
    match addrCluster s (selOf s n 0x3100 1) with
    | none => (.error .badValue, s)
    | some pc =>
      if !(mayRead s n) then (.error .denied, s) else
      let b := if selOf s n 0x3100 2 = 1 then dictActive s pc else 1 - dictActive s pc
      out (readItems (hostDict pc b) count start s)
  | 0x381005 =>
    if !(mayRead s n) then (.error .denied, s)
    else match addrTile (selOf s n 0x3810 1) with
    | none => (.error .badValue, s)
    | some t =>
      let b := if selOf s n 0x3810 2 = 1 then exsActive s t else 1 - exsActive s t
      out (readItems (hostExs t b) count start s)
  | 0x420005 =>
    if !(mayRead s n) then (.error .denied, s)
    else match addrTile (selOf s n 0x4200 1) with
    | none => (.error .badValue, s)
    | some t => out (readItems (fun w s => hostBank 0 (bankKey (4 * t + selOf s n 0x4200 2 % 4) w) s) count start s)
  | 0x421003 => if !(mayRead s n) then (.error .denied, s) else out (readItems hostFar count start s)
  | 0x510003 =>
    let es := (List.range count).map (fun i => Sparse.get0 s.lan.probeMap (start + i))
    if !(mayRead s n) && es.any (fun e => !(pmPublic e)) then (.error .denied, s)
    else (.ok (es.flatMap (octetsBE 4)), s)
  | 0x5B0003 =>
    let v := segOf s (selOf s n 0x5B00 1)
    (.ok (regionRead s 1 (4096 * v.start + 8 * start) (8 * count)), s)
  | 0x610003 => (.ok (regionRead s 5 (s.o 0x6100 1 + start) count), s)
  | 0x681003 => (.ok ((List.range count).flatMap (fun i => octetsBE 32 (cellReadWord s (start + i)))), s)
  | 0x682803 => (.ok ((List.range count).flatMap (fun i => octetsBE 2 (Sparse.get0 s.tif.imap (start + i)))), s)
  | 0x688002 => (.ok ((List.range count).map (fun i => flashGet s (start + i))), s)
  | _ => (.error .badIndex, s)

/-! ### Reads -/

/-- Octets of body that a reply of the session may carry (R579, R600, Table 9-6). -/
def bodyLimit (x : Session) : Nat := if x.carrier = 2 then 6160 else min 6160 (x.maxDatagram - 48)

/-- R841: elements that one READ of a block object returns, from a start and for a session; 6880h:02 stays within one
sector. -/
def readCount (s : State) (x : Session) (idx sub start el chunk : Nat) : Nat :=
  let k := min (min chunk (bodyLimit x) / el) (blockElements s x.id idx sub - start)
  if idx = 0x6880 then min k (4096 - start % 4096) else k

/-- Bit of one lane as 3200h:04 and 3200h:05 read it. -/
def lbsBit (s : State) (r : LaneRec) (plane a : Nat) : Bool :=
  if a < 384 then (match plane with | 0 => r.cur | 1 => r.nxt | _ => r.sh).getLsbD a
  else if a < 1008 then r.tmp.getLsbD (a - 384)
  else match a with
  | 1009 => true
  | 1010 => r.rd
  | 1011 => r.ind
  | 1013 => s.lanes.first
  | 1014 => s.lanes.fbLatch
  | 1015 => r.imp
  | _ => false

/-- 3200h:04 and 3200h:05. -/
def readLbs (n : Nat) (whole : Bool) (s : State) : Except Status (List Octet) :=
  match addrLane s (selOf s n 0x3200 1) with
  | none => .error .badValue
  | some p =>
    if !(mayRead s n) then .error .denied else
    let r := s.lane p
    let plane := selOf s n 0x3200 3
    if whole then .ok (octetsLE 128 (ofOnes ((List.range 1024).filter (lbsBit s r plane))))
    else .ok (octetsBE 1 (lbsBit s r plane (selOf s n 0x3200 2)).toNat)

/-- Bits of the health-map section that starts at an octet offset, and the units it lists (Table 13-3). -/
def healthSection (h : Health) (off : Nat) : Option (Nat × List Nat) :=
  match off with
  | 32 => some (2176, h.clusters)
  | 304 => some (512, h.banks)
  | 368 => some (128, h.switches)
  | 384 => some (28, h.routers)
  | 388 => some (4, h.dramStacks)
  | 389 => some (8, h.plls)
  | 390 => some (5, h.oscs)
  | 392 => some (128, h.units)
  | 408 => some (144, h.lanes)
  | 426 => some (48, h.phases)
  | 432 => some (64, h.sensors)
  | 440 => some (320, h.delays)
  | 13044 => some (2176, h.suspects)
  | 13316 => some (144, h.suspectLanes)
  | _ => none

/-- 8100h:02 (R786). The signature table is longer than any reply. -/
def readHealth (s : State) (n : Nat) : Except Status (List Octet) :=
  let off := selOf s n 0x8100 1
  if off = 480 then .error .badLength
  else match healthSection s.test.force off with
  | none => .error .badValue
  | some (bits, l) =>
    let octets := if off = 384 then 4 else (bits + 7) / 8
    .ok (octetsLE octets (ofOnes (l.filter (fun k => decide (k < bits)))))

/-- 1300h:02 (R599). -/
def readLog (s : State) (n : Nat) : Except Status (List Octet) :=
  match s.acp.log.find? (fun r => r.seq == selOf s n 0x1300 1) with
  | some r => .ok (recordOctets s r false)
  | none => .error .badValue

/-- 4A00h:02 (R447). -/
def readStimulus (s : State) (n : Nat) : Except Status (List Octet) :=
  if !(mayRead s n) then .error .denied
  else match s.rew.log.find? (fun r => r.cycle == selOf s n 0x4A00 1) with
  | some r => .ok ((recordWords r).flatMap (octetsLE 8))
  | none => .error .badValue

/-- 6860h:03 (R849): a level that the manual leaves undefined is a free value (log 3). -/
def readPin (s : State) (n : Nat) : List Octet × State :=
  match landLevel s (selOf s n 0x6860 1) with
  | some b => (octetsBE 1 b.toNat, s)
  | none =>
    let (b, s) := s.takeBit
    (octetsBE 1 b.toNat, s)

/-- 6020h:02 (R521): the module holds DONE low until it releases it; after BOOT its level is whatever the board's line has, a free
value (log 3). -/
def readDone (s : State) : List Octet × State :=
  if s.pwr.mode < 3 || !s.boot.released then (octetsBE 1 (s.o 0x6020 2), s)
  else
    let (b, s) := s.takeBit
    (octetsBE 1 b.toNat, s)

/-- What a read of an object does beside returning its value: an RC object becomes 0 (Table 9-2), and the queue of 6C0kh:06 gives
its octets up. -/
def afterRead (d : ObjDesc) (n idx sub : Nat) (s : State) : State :=
  if d.acc != .rc then s
  else if idx = 0x1200 && sub = 2 then s.modSess n (fun y => { y with dropped := 0 })
  else if idx = 0x3840 && sub = 3 then { s.setO idx sub 0 with ex := { (s.setO idx sub 0).ex with slackClear := true } }
  else s.setO idx sub 0

/-- Octets that a session reads from an object that passes checks 1 to 5, with what the read changes. -/
def readOctets (d : ObjDesc) (x : Session) (idx sub : Nat) (s : State) : Except Status (List Octet) × State :=
  let n := x.id
  match elementOf idx sub with
  | some blk =>
    let start := selOf s n idx (match blockInfo idx blk with | some b => b.1 | none => 1)
    match blockRead n idx blk start 1 s with
    | (.ok l, t) => if start < blockElements s n idx blk then (.ok l, t) else (.error .badValue, s)
    | (.error st, t) => (.error st, t)
  | none =>
    match blockInfo idx sub with
    | some (sel, el, chunk, _) =>
      let start := selOf s n idx sel
      blockRead n idx sub start (readCount s x idx sub start el chunk) s
    | none =>
      match okey idx sub with
      | 0x320004 => (readLbs n false s, s)
      | 0x320005 => (readLbs n true s, s)
      | 0x810002 => (readHealth s n, s)
      | 0x130002 => (readLog s n, s)
      | 0x4A0002 => (readStimulus s n, s)
      | 0x686003 => ((Except.ok (readPin s n).1), (readPin s n).2)
      | 0x602002 => ((Except.ok (readDone s).1), (readDone s).2)
      | 0x241002 => (.ok (openWord 4 s).1, (openWord 4 s).2)
      | _ =>
        if 0x2300 ≤ idx && idx < 0x2314 && sub = 3 then (.ok (openWord 4 s).1, (openWord 4 s).2)
        else if 0x6C00 ≤ idx && idx < 0x6C08 && sub = 6 then
          let k := idx - 0x6C00
          let l := (s.serialPort k).rx.take (bodyLimit x)
          (.ok l, modSerial k (fun p => { p with rx := p.rx.drop l.length }) s)
        else match objectValue s x idx sub with
        | .error st => (.error st, s)
        | .ok v => (.ok (encodeVal d.ty v), afterRead d n idx sub s)

/-- Whether a reply with `len` octets of body would exceed what a frame of the session carries (R579). -/
def tooLong (x : Session) (len : Nat) : Bool := decide (bodyLimit x < len)

/-- R841: whether a READ of a block object starts beyond its last element. -/
def startsPastEnd (s : State) (n idx sub : Nat) : Bool :=
  match elementOf idx sub, blockInfo idx sub with
  | none, some (sel, _) => decide (blockElements s n idx sub ≤ selOf s n idx sel)
  | _, _ => false

/-- Carry out a READ: the checks of Table 9-4, then the value. -/
def readObject (x : Session) (idx sub ty : Nat) (s : State) : Answer × State :=
  match checkCommon s x idx sub false with
  | .error st => ({ status := st }, s)
  | .ok d =>
    if ty != 0 && ty != d.ty.code then ({ status := .badType }, s)
    else if tooLong x ((d.ty.size).getD 0) || startsPastEnd s x.id idx sub then ({ status := .badLength }, s)
    else if domainBlocked s x.id idx sub then ({ status := .domainOff }, s)
    else
      match readOctets d x idx sub s with
      | (.error st, _) => ({ status := st }, s)
      | (.ok l, t) =>
        if tooLong x l.length then ({ status := .badLength }, s)
        else ({ status := .ok, ty := d.ty.code, body := l }, t)

/-- The first word of a host read of bank words (4200h:04-05) or far words (4210h:02-03) from element `start`. -/
def wordsAt (s : State) (n idx start : Nat) : Option (Bool × Nat) :=
  if idx = 0x4210 then some (true, start)
  else if idx = 0x4200 then (addrTile (selOf s n 0x4200 1)).map (fun t => (false, bankKey (4 * t + selOf s n 0x4200 2 % 4) start))
  else none

/-- The host read that an accepted read of bank or far words leaves waiting in an active run (R294): `count` words from element
`start`, answered in parts of `part` octets. None for any other object, and in the run states of R299. -/
def waitingRead (r : Req) (idx sub start count ty part : Nat) (block : Option (Nat × Nat × Nat × Nat)) (s : State) : Option State :=
  let words := (idx == 0x4200 && (sub == 4 || sub == 5)) || (idx == 0x4210 && (sub == 2 || sub == 3))
  if !words || !(inRun s) then none
  else (wordsAt s r.session idx start).map (fun a => { s with mem := { s.mem with reads := s.mem.reads ++
    [{ session := r.session, seq := r.seq, far := a.1, addr := a.2, left := count, got := [], ty, part, ahead := s.mem.hostQ.length, block }] } })

/-- Index in 4200h or 4210h that a read of one object starts from. -/
def wordStart (s : State) (n idx : Nat) : Nat := if idx = 0x4210 then selOf s n 0x4210 1 else selOf s n 0x4200 3

/-- READ. In an active run, bank and far words are read at the steps that R292 allows, and the answer comes when they are. -/
def execRead (r : Req) (idx sub ty : Nat) (s : State) : Host.Outcome State Fault Refusal :=
  .next (serve r 5 idx sub (fun x s =>
    let (a, t) := readObject x idx sub ty s
    let wait := if a.status.done then
        waitingRead r idx sub (wordStart s x.id idx) (a.body.length / 8) a.ty (max 8 a.body.length) none s
      else none
    match wait with
    | some s => ([], s)
    | none => ([{ a with ty := if a.status.done then a.ty else ty }], t)) s)

/-- The chunks of a READ_BLOCK: `left` elements from `start`; `fuel` bounds the chunks. A refused chunk ends the transfer
(R591). -/
def readChunks (x : Session) (idx sub sel el chunk : Nat) : Nat → Nat → Nat → Nat → State → List Answer × State
  | 0, _, _, _, s => ([], s)
  | fuel + 1, start, left, off, s =>
    if left = 0 then ([], s)
    else
      let k := min (min chunk (bodyLimit x) / el) left
      match blockRead x.id idx sub start k s with
      | (.error st, _) => ([{ status := st, offset := off }], s)
      | (.ok l, s) =>
        let s := setStart x.id idx sel (start + k) s
        let (as_, s) := readChunks x idx sub sel el chunk fuel (start + k) (left - k) (off + k * el) s
        ({ status := .ok, ty := 11, offset := off, body := l } :: as_, s)

/-- READ_BLOCK (R589-R593, R841); bank and far words in an active run as in READ. -/
def execReadBlock (r : Req) (idx sub start total : Nat) (s : State) : Host.Outcome State Fault Refusal :=
  .next (serve r 7 idx sub (fun x s =>
    if !x.negotiated || !(bitOf x.agreed 1) then ([{ status := .notAgreed }], s)
    else match blockInfo idx sub with
    | none => ([{ status := .badIndex }], s)
    | some (sel, el, chunk, _) =>
      match checkCommon s x idx sub false with
      | .error st => ([{ status := st }], s)
      | .ok _ =>
        if total = 0 || 65536 < total || total % el != 0 || blockElements s x.id idx sub < start + total / el ||
            bodyLimit x < el then ([{ status := .badLength }], s)
        else if domainBlocked s x.id idx sub then ([{ status := .domainOff }], s)
        else
          let (as_, t) := readChunks x idx sub sel el chunk (total / el) start (total / el) 0 (setStart x.id idx sel start s)
          let part := el * (min chunk (bodyLimit x) / el)
          let wait := if as_.all (fun a => a.status.done) then
              waitingRead r idx sub start (total / el) 11 (max 8 part) (some (idx, sel, start, selOf s x.id idx sel))
                (setStart x.id idx sel start s)
            else none
          match wait with
          | some s => ([], s)
          | none => (as_, t)) s)

end Sys2Proof.Machine
end

