-- ==== Sys2Proof/Machine/Write.lean ====
section
/-! DEFINITION. What a WRITE does to an object that has no row of its own (chapter 9, with the object tables of every
chapter), and which row a WRITE of every other object is. -/

namespace Sys2Proof.Machine

/-! ### Selectors -/

/-- What a write stores in a per-session selector; none for a value that the selector does not take (R13, R97, R98). A
lane address with a reserved bit set names nothing. -/
def selectorValue (s : State) (idx sub v : Nat) : Option Nat :=
  let below (n : Nat) : Option Nat := if v < n then some v else none
  let tile : Option Nat := if v < 2 ^ 18 then (addrTile v).map (fun _ => v) else none
  match okey idx sub with
  | 0x301001 | 0x320001 | 0x321001 => if v < 2 ^ 18 then (addrLane s v).map (fun _ => v) else none
  | 0x310001 => if v < 2 ^ 18 then (addrCluster s v).map (fun _ => v) else none
  | 0x381001 | 0x401001 | 0x481003 | 0x4B0001 | 0x420001 => tile
  | 0x301002 | 0x381003 => below 2048
  | 0x310002 | 0x381002 | 0x601001 => below 2
  | 0x310003 | 0x320002 | 0x530001 | 0x5B0001 | 0x682001 => below 1024
  | 0x320003 => below 3
  | 0x420002 | 0x1E0001 => below 4
  | 0x491001 | 0x241001 => below 64
  | 0x510001 | 0x682801 => below 4194304
  | 0x681001 => below 8192
  | 0x686001 => below 320
  | 0x688001 => below 524288
  | _ => some v

/-! ### The chapters' own checks -/

/-- Command objects whose codes other than those of the rows are reserved (R13). -/
def isCommand (idx sub : Nat) : Bool :=
  [0x340001, 0x311002, 0x390002, 0x3C0004, 0x411002, 0x480008, 0x490003, 0x520001, 0x683001, 0x620001, 0x604006, 0x603004,
   0x1E0005, 0x738001, 0x820003].contains (okey idx sub) ||
  (decide (0x6C00 ≤ idx ∧ idx < 0x6C08) && sub == 7)

/-- R361: objects of Lantern that keep their values while an acquisition is armed. -/
def lanternSetting (idx : Nat) : Bool :=
  [0x5100, 0x5200, 0x5300, 0x5680, 0x5700, 0x5800, 0x5810].contains idx ||
  decide (0x5400 ≤ idx ∧ idx < 0x5410) || decide (0x5500 ≤ idx ∧ idx < 0x5504) ||
  decide (0x5600 ≤ idx ∧ idx < 0x5680)

/-- R375: whether CNT_OP pairs at bit lo hold a reserved code. -/
def cntOpBad (v lo : Nat) : Bool := (List.range 4).any (fun c => fld v (lo + 2 * c) 2 == 3)

/-- R333: whether a selection of groups or of the tap vector is one that the session may make. -/
def selectionDenied (s : State) (n idx sub v : Nat) : Bool :=
  !(mayRead s n) &&
  (if idx = 0x5100 && sub = 8 then
      (nsOf (s.lan.probeMap.map (fun p => pmGroup p.2))).any (fun g => bitOf v g && !(groupPublic s g))
    else if 0x5400 ≤ idx && idx < 0x5410 && sub = 1 then
      (decide (v < 65536) && !(groupPublic s v)) || (v == 65536 && s.o 0x5100 0x0B == 0)
    else idx = 0x5700 && sub = 5 && !(groupPublic s (v % 65536)))

/-- Whether a value lies in the range or among the codes that the object's row or rule gives; reserved bits are 0 (R12,
R13). -/
def valueInRange (s : State) (idx sub v : Nat) : Bool :=
  if idx = 0x3430 then variantsOk (fun i => if i = sub then v else s.o 0x3430 i)
  else if 0x3500 ≤ idx && idx < 0x3540 then (if sub = 1 then decide (1 ≤ v ∧ v ≤ 64) else segmentOk v)
  else if 0x5400 ≤ idx && idx < 0x5410 then (sub != 1 || decide (v ≤ 0x10001)) && (sub != 4 || decide (v < 8))
  else if 0x5500 ≤ idx && idx < 0x5504 then decide (v < 2 ^ 48)
  else if 0x5600 ≤ idx && idx < 0x5680 then
    (if sub = 3 then !(cntOpBad v 0) else !(cntOpBad v 22) && v % 2 ^ 22 == 0 && !(bitOf v 38))
  else if idx = 0x5810 then v ≤ 319 || v == 0xFFFF
  else if 0x6C00 ≤ idx && idx < 0x6C08 then
    match sub with
    | 1 => v ≤ 3
    | 3 => fld v 4 2 != 3 && decide (v < 1024)
    | 0x0A => decide (1 ≤ v ∧ v ≤ 256)
    | _ => true
  else if idx = 0x7100 then apertureOk (decide (5 ≤ sub)) v
  else if 0x7800 ≤ idx && idx < 0x7D00 then timeRangeOk idx sub v
  else match okey idx sub with
  | 0x340002 => v != 0
  | 0x340006 => v ≤ 2
  | 0x3C0001 | 0x3C0002 => v ≤ 7
  | 0x3C0003 => decide (1 ≤ v ∧ v ≤ 10000)
  | 0x520003 => v ≤ 1
  | 0x520005 => v != 0
  | 0x568002 => v ≤ 7
  | 0x570001 => decide (2 ≤ v ∧ v ≤ 2 ^ 20)
  | 0x570002 => v ≤ 256
  | 0x570005 => decide (v < 2 ^ 17)
  | 0x22000A => decide (v < 64)
  | 0x605003 => decide (v < 16)
  | 0x580002 => v ≤ 7
  | 0x590001 => decide (1 ≤ v ∧ v ≤ 4000)
  | 0x480001 => v == 0 || decide (1024 ≤ v)
  | 0x610001 => v % 8 == 0
  | 0x110004 => decide (576 ≤ v ∧ v ≤ 6208)
  | 0x112001 => decide (5 ≤ v ∧ v ≤ 3600)
  | 0x701007 => decide (1 ≤ v ∧ v ≤ 60000)
  | 0x200003 => v ≤ 1
  | 0x204002 => decide (1 ≤ v ∧ v ≤ 10)
  | 0x204003 => decide (30 ≤ v ∧ v ≤ 33)
  | 0x210001 => v ≤ 4
  | 0x240003 => decide (85000 ≤ v ∧ v ≤ 100000)
  | 0x820001 => decide (1 ≤ v ∧ v ≤ 3)
  | 0x830008 => decide (100 ≤ v ∧ v ≤ 10000)
  | 0x883002 => v ≤ 1
  | _ => true

/-- The defining chapter's own checks on a write of value v (check 10 of Table 9-4), with the first that fails. -/
def writeRefusal (s : State) (n idx sub v : Nat) : Option Status :=
  if isCommand idx sub then
    some (if (idx = 0x6040 || idx = 0x1E00 || idx = 0x6030) && !(inService s) then .denied else .badValue)
  else if idx = 0x3210 && !(mayRead s n) then some .denied
  else if isSelector idx sub then (if (selectorValue s idx sub v).isNone then some .badValue else none)
  else if okey idx sub = 0x340006 && inRun s then some .runLocked
  else if (okey idx sub = 0x604005 || okey idx sub = 0x1E0004) && !(inService s) then some .denied
  else if idx = 0x6100 && (sub = 1 || sub = 2) && (lockedRange s).isSome then some .busy
  else if lanternSetting idx && s.lan.ctx.acq != .disarmed then some .busy
  else if selectionDenied s n idx sub v then some .denied
  else if valueInRange s idx sub v then none else some .badValue

/-! ### Effects -/

/-- What an object holds of a value written: bits 0 and 1 of 6050h:03 stay 1. -/
def keptBits (idx sub v : Nat) : Nat := if okey idx sub = 0x605003 then v ||| 3 else v

/-- 6100h:01 or 6100h:02 names a staged image: one that has passed its check keeps the result (R530), any other is being
loaded. -/
def stagedRange (s : State) : State :=
  s.setO 0x6100 4 (if s.img.passed = some (s.o 0x6100 1, s.o 0x6100 2) then 3 else 1)

/-- What an accepted write of value v changes. -/
def writeEffect (n idx sub v : Nat) (data : List Octet) (s : State) : State :=
  if isSelector idx sub then setSel n idx sub ((selectorValue s idx sub v).getD v) s
  else if 0x6C00 ≤ idx && idx < 0x6C08 && sub = 5 then modSerial (idx - 0x6C00) (fun p => { p with tx := p.tx ++ data }) s
  else
    let w := keptBits idx sub v
    match okey idx sub with
    | 0x110004 => s.modSess n (fun y => { y with maxDatagram := w })
    | 0x530002 => setSeg (selOf s n 0x5300 1) { segOf s (selOf s n 0x5300 1) with start := w } s
    | 0x530003 => setSeg (selOf s n 0x5300 1) { segOf s (selOf s n 0x5300 1) with blocks := w } s
    | 0x570005 => { s with lan := { s.lan with minmax := Sparse.set0 s.lan.minmax (selOf s n 0x5700 4) w } }
    | 0x604005 => { s with keys := { s.keys with wrapped := data } }
    | 0x1E0004 => { s with keys := { s.keys with credWrapped := data } }
    | 0x340006 =>
      let same : Bool := s.o 0x3400 6 == w
      let s := s.setO 0x3400 6 w
      let s := if same then s else { s with run := { s.run with frame := none } }
      if w = 2 then s else targetOff s
    | 0x610001 | 0x610002 => stagedRange (s.setO idx sub w)
    | 0x383002 => identityChanged (s.setO 0x3830 2 w)
    | 0x6C0001 | 0x6C0101 | 0x6C0201 | 0x6C0301 | 0x6C0401 | 0x6C0501 | 0x6C0601 | 0x6C0701 => flashFollow (s.setO idx sub w)
    | 0x683002 =>
      let s := s.setO 0x6830 2 w
      if w = 0 && !s.tif.live then { s with tif := { s.tif with padHold := none } } else s
    | 0x881001 =>
      let on : Bool := s.o 0x8810 1 == 0 && w == 1
      let s := s.setO 0x8810 1 w
      if on && traceOn s then syncRec (nextCyc s) s.run.variant 0 s else s
    | _ => s.setO idx sub w

/-- A WRITE of more octets than a transmit queue holds. -/
def serialTooLong (idx sub : Nat) (d : List Octet) : Bool :=
  decide (0x6C00 ≤ idx ∧ idx < 0x6C08) && sub == 5 && decide (256 < d.length)

/-- Handler of a write to an object without a row of its own. -/
def objectWrite (idx sub : Nat) (d : WVal) : WriteFn := fun n s =>
  let v := match findObj idx sub with | some o => decodeVal o.ty d.data | none => 0
  if 0x6C00 ≤ idx && idx < 0x6C08 && sub = 5 && 256 < (s.serialPort (idx - 0x6C00)).tx.length + d.data.length then (.busy, s)
  else if okey idx sub = 0x200002 then modeHandler v s
  else if okey idx sub = 0x830001 then slotPeriodWrite v s
  else match writeRefusal s n idx sub v with
  | some st => (st, s)
  | none => (.ok, writeEffect n idx sub v d.data s)

/-! ### Rows that a WRITE may be -/

/-- Command code of a WRITE frame of a U8 command object; 0 where TYPE or length is another's. -/
def commandCode (v : WVal) : Nat :=
  if v.ty = 2 then (match v.data with | [o] => o.toNat | _ => 0) else 0

/-- Rows of the command objects, by object and code. -/
def commandRow (r : Req) (idx sub c : Nat) : Option (State → Host.Outcome State Fault Refusal) :=
  match okey idx sub, c with
  | 0x340001, 1 => some (execRun r)
  | 0x340001, 2 => some (execStop r)
  | 0x340001, 3 => some (execStep r)
  | 0x340001, 4 => some (execRunTo r)
  | 0x340001, 5 => some (execAbort r)
  | 0x340001, 6 => some (execDesignReset r)
  | 0x340001, 7 => some (execPark r)
  | 0x340001, 8 => some (execStateLoad r)
  | 0x311002, 1 => some (execDictSwapRequest r)
  | 0x311002, 2 => some (execDictSwapCancel r)
  | 0x390002, 1 => some (execXswapRequest r)
  | 0x390002, 2 => some (execXswapCancel r)
  | 0x390002, 3 => some (execJoinedSwapRequest r)
  | 0x3C0004, 1 => some (execLaneTestStart r)
  | 0x3C0004, 2 => some (execLaneTestAbort r)
  | 0x411002, 1 => some (execLayoutApply r)
  | 0x411002, 2 => some (execLayoutRevert r)
  | 0x480008, 1 => some (execCheckpointCommand r)
  | 0x490003, 1 => some (execRestore r)
  | 0x520001, 1 => some (execArm r)
  | 0x520001, 2 => some (execDisarm r)
  | 0x520001, 3 => some (execForceTrigger r)
  | 0x683001, 1 => some (execTifReset r)
  | 0x620001, 1 => some (execImageCheck r)
  | 0x620001, 2 => some (execImageCheckApply r)
  | 0x620001, 3 => some (execImageDiscard r)
  | _, _ => none

/-- Rows of the command objects of keys, update, statistics, tests and modes. -/
def serviceRow (r : Req) (idx sub c : Nat) : Option (State → Host.Outcome State Fault Refusal) :=
  match okey idx sub, c with
  | 0x604006, 1 => some (execLoadVbat r)
  | 0x604006, 2 => some (execProgramEfuse r)
  | 0x604006, 3 => some (execZeroiseVbat r)
  | 0x604006, 4 => some (execSetEfuseOnly r)
  | 0x603004, 1 => some (execUpdVerify r)
  | 0x603004, 2 => some (execUpdCancel r)
  | 0x1E0005, 1 => some (execCredLoad r)
  | 0x1E0005, 2 => some (execCredClear r)
  | 0x738001, 1 => some (execStatsClear r)
  | 0x738001, 2 => some (execStatsFreeze r)
  | 0x738001, 3 => some (execStatsResume r)
  | 0x820003, 1 => some (execOdStart r)
  | 0x820003, 2 => some (execOdAbort r)
  | 0x200002, 1 => some (execModeStandby r)
  | 0x200002, 2 => some (execModeAnalyzer r)
  | 0x200002, 3 => some (execModeIdle r)
  | 0x200002, 4 => some (execModeService r)
  | 0x200002, 5 => some (execShutdown r [] 0 0)
  | 0x200002, 6 => some (execReboot r)
  | _, _ => none

/-- Rows of value objects, by object. -/
def valueRow (r : Req) (idx sub : Nat) (v : WVal) : Option (State → Host.Outcome State Fault Refusal) :=
  match okey idx sub with
  | 0x301003 => some (execImWordWrite r (.word v))
  | 0x301004 => some (execImWordWrite r (.run v))
  | 0x310004 => some (execDictEntryWrite r (.word v))
  | 0x310005 => some (execDictEntryWrite r (.run v))
  | 0x310006 => some (execDictSeal r v)
  | 0x320004 => some (execLbsWrite r (.word v))
  | 0x320005 => some (execLbsWrite r (.run v))
  | 0x321003 => some (execDeposit r v)
  | 0x346002 => some (execStepFreqRequest r v)
  | 0x381004 => some (execExsEntryWrite r (.word v))
  | 0x381005 => some (execExsEntryWrite r (.run v))
  | 0x381006 => some (execExsSeal r v)
  | 0x383003 => some (execSystemMembersWrite r v)
  | 0x420004 => some (execDmWordWrite r (.word v))
  | 0x420005 => some (execDmWordWrite r (.run v))
  | 0x421002 => some (execFarWordWrite r (.word v))
  | 0x421003 => some (execFarWordWrite r (.run v))
  | 0x5A0001 => some (execHostMark r v)
  | 0x510002 => some (execProbeMapWrite r (.word v))
  | 0x510003 => some (execProbeMapWrite r (.run v))
  | 0x681002 => some (execCellConfigWrite r (.word v))
  | 0x681003 => some (execCellConfigWrite r (.run v))
  | 0x688002 => some (execUfProgram r (.run v))
  | 0x688003 => some (execUfErase r v)
  | 0x686002 => some (execPinConfigWrite r v)
  | 0x682002 => some (execOutputMapWrite r v)
  | 0x682802 => some (execInjectionMapWrite r (.word v))
  | 0x682803 => some (execInjectionMapWrite r (.run v))
  | 0x684001 => some (execPatStartWrite r v)
  | 0x610003 => some (execStageDataWrite r (.run v))
  | 0x640001 => some (execOwnerToken r v)
  | 0x603002 => some (execUpdDataWrite r (.run v))
  | 0x603003 => some (execUpdLengthWrite r v)
  | 0x780008 => some (execSetTime r v)
  | 0x201001 => some (execStepRefWrite r v)
  | 0x203001 => some (execGateForced r v)
  | 0x883001 => some (execSinkWrite r v)
  | 0x881003 => some (execSeqUnsuppress r v)
  | 0x882001 => some (execCoreTraceWrite r v)
  | _ => none

/-- Rows of value objects that stand in ranges. -/
def rangeRow (r : Req) (idx sub : Nat) (v : WVal) : Option (State → Host.Outcome State Fault Refusal) :=
  if 0x3A00 ≤ idx && idx < 0x3A08 && sub = 1 then some (execLinkEnableWrite r (idx - 0x3A00) v)
  else if idx = 0x4010 && 2 ≤ sub && sub ≤ 0x0B then some (execPortBindingWrite r sub v)
  else if 0x6870 ≤ idx && idx < 0x6874 && sub = 1 then some (execOscFreqWrite r (idx - 0x6870) v)
  else if 0x6850 ≤ idx && idx < 0x685A && sub = 1 then some (execBankVoltageWrite r (idx - 0x6850) v)
  else if 0x6C00 ≤ idx && idx < 0x6C08 && sub = 7 then
    match commandCode v with
    | 1 => some (execSpSend r (idx - 0x6C00))
    | 2 => some (execSpI2cRead r (idx - 0x6C00))
    | 3 => some (execSpI2cWriteRead r (idx - 0x6C00))
    | 4 => some (execSpAbort r (idx - 0x6C00))
    | _ => none
  else if idx = 0x7700 then some (execMsixMapWrite r sub v)
  else if idx = 0x7820 then some (execPtpConfigWrite r sub v)
  else if idx = 0x7B00 && 2 ≤ sub && sub ≤ 4 then some (execIpAddressWrite r sub v)
  else if idx = 0x2050 then some (execCkoutWrite r sub v)
  else if 0x2300 ≤ idx && idx < 0x2314 && sub = 2 then some (execDomainRequest r (idx - 0x2300) v)
  else none

/-- The row that a WRITE frame is, where its object has one. -/
def rowOf (r : Req) (idx sub : Nat) (v : WVal) : Option (State → Host.Outcome State Fault Refusal) :=
  (valueRow r idx sub v).or ((commandRow r idx sub (commandCode v)).or
    ((serviceRow r idx sub (commandCode v)).or (rangeRow r idx sub v)))

/-- WRITE: of an object that has a row of its own, that row; of every other object, the checks of Table 9-4 and its
chapter, then the value. -/
def execWrite (r : Req) (idx sub : Nat) (v : WVal) (s : State) : Host.Outcome State Fault Refusal :=
  match rowOf r idx sub v with
  | some f => f s
  | none => .next (serveRun r idx sub v (fun _ _ => serialTooLong idx sub v.data) (objectWrite idx sub v) s)

/-- The row that a WRITE_BLOCK frame is. -/
def blockRow (r : Req) (idx sub start : Nat) (data : List Octet) : Option (State → Host.Outcome State Fault Refusal) :=
  let w : WForm := .block start data
  match okey idx sub with
  | 0x301004 => some (execImWordWrite r w)
  | 0x310005 => some (execDictEntryWrite r w)
  | 0x381005 => some (execExsEntryWrite r w)
  | 0x420005 => some (execDmWordWrite r w)
  | 0x421003 => some (execFarWordWrite r w)
  | 0x510003 => some (execProbeMapWrite r w)
  | 0x603002 => some (execUpdDataWrite r w)
  | 0x610003 => some (execStageDataWrite r w)
  | 0x681003 => some (execCellConfigWrite r w)
  | 0x682803 => some (execInjectionMapWrite r w)
  | 0x688002 => some (execUfProgram r w)
  | _ => none

/-- WRITE_BLOCK (R592, R593): of a block object that takes writes, its row; every other one is refused. -/
def execWriteBlock (r : Req) (idx sub start : Nat) (data : List Octet) (s : State) : Host.Outcome State Fault Refusal :=
  match blockRow r idx sub start data with
  | some f => f s
  | none => .next (serveBlock r idx sub start data (fun _ _ _ => false) (fun _ _ s => (.denied, s)) s)

end Sys2Proof.Machine
end

