-- ==== Sys2Proof/Machine/Acp.lean ====
section
/-! DEFINITION. Sessions of the Azmuax Control Protocol (chapter 9): opening, negotiation, subscriptions, closing, and
frames that are discarded. -/

namespace Sys2Proof.Machine

/-! ### Opening a session (R570-R578) -/

/-- What R577 calls a source: the mailbox, or a UDP source address on either port. -/
def sourceOf (carrier src : Nat) : Nat × Nat := if carrier = 2 then (2, 0) else (0, src)

/-- Whether a source is locked out. -/
def isLocked (s : State) (p : Nat × Nat) : Bool := s.acp.locked.any (fun l => l.1 == p.1 && l.2.1 == p.2)

/-- Whether a frame of a carrier reaches the protocol: not in OFF and STANDBY, and R616 for the mailbox. -/
def frameTaken (s : State) (carrier : Nat) : Bool := decide (2 ≤ s.pwr.mode) && carrierTakes s carrier

/-- Send CHALLENGE: untagged, SEQ 0, with a fresh nonce; over UDP to where the OPEN frame came from (R694). -/
def challenge (via : Via) (session : Nat) (st : Status) (nonce : BitVec 128) (s : State) : State :=
  let s' := s.emit (.challenge via session st nonce (s.moduleId % 128))
  if via.carrier = 2 then
    let body := octetsBE 16 nonce.toNat ++ [BitVec.ofNat 8 (s.moduleId % 128), 0, 0, 0]
    replyRingPut (headerOctets { session, op := 2, last := true, seq := 0, echo := 0, status := st, idx := 0, sub := 0, ty := 0
                                 offset := 0, body } true ++ body) s'
  else match transmit via.carrier 16 s' with
    | (true, s) => s
    | (false, s) => s.emit (.discarded via.carrier)

/-- The status of the CHALLENGE that answers OPEN (R571, R575). -/
def openStatus (s : State) (carrier level : Nat) : Status :=
  if 3 < level then .badValue
  else if 16 ≤ s.acp.sessions.length then .busy
  else if carrier != 2 && accessKey s level == 0 then .denied
  else .ok

/-- Answer OPEN with the module awake. -/
def openAwake (carrier src srcPort mac level : Nat) (nonce : BitVec 128) (s : State) : State :=
  let st := openStatus s carrier level
  let via : Via := { carrier, mac, vid := s.o 0x7A00 5, dst := src, dstPort := srcPort }
  let (mine, s) := s.takeNonce
  if st = .ok then
    let n := s.acp.nextId
    let x : Session := { id := n, level, carrier, src, srcPort, mac, clientNonce := nonce, moduleNonce := mine, since := s.now }
    let s := { s with acp := { s.acp with sessions := s.acp.sessions ++ [x], nextId := n + 1 } }
    challenge via n st mine s
  else challenge via 0 st mine s

/-- OPEN (R571, R575, R577): a session is reserved, or the CHALLENGE says why not; a locked-out source gets nothing. -/
def execOpenFrame (carrier : Nat) (src : Sender) (srcPort level : Nat) (nonce : BitVec 128) (s : State) : Host.Outcome State Fault Refusal :=
  .next (if !(frameTaken s carrier) || isLocked s (sourceOf carrier src.addr) then s
    else chooseDepth (openAwake carrier src.addr srcPort src.mac level nonce (wakeDepth s)))

/-- K_S of a reserved session (step 3). -/
def sessionKey (s : State) (x : Session) : BitVec 256 :=
  Config.hkdfSha256 (octetsBE 16 x.clientNonce.toNat ++ octetsBE 16 x.moduleNonce.toNat)
    (octetsBE 32 (accessKey s x.level).toNat) (ascii "CH9 session" ++ octetsBE 4 x.id)

/-- CLIENT_PROOF and MODULE_PROOF (steps 4 and 5). -/
def proofOf (s : State) (x : Session) (text : String) : BitVec 256 :=
  Config.hmacSha256 (octetsBE 32 (accessKey s x.level).toNat)
    (ascii text ++ octetsBE 16 x.clientNonce.toNat ++ octetsBE 16 x.moduleNonce.toNat ++ octetsBE 4 x.id ++ octetsBE 1 x.level)

/-- The tag that a PROVE frame of a session must carry (R568, step 4). -/
def proveTag (s : State) (x : Session) (proof : BitVec 256) : Nat :=
  let f : Frame := { session := x.id, op := 3, last := false, seq := 1, echo := 0, status := .ok, idx := 0, sub := 0, ty := 0
                     offset := 0, body := octetsBE 32 proof.toNat }
  frameTag (sessionKey s x) (headerOctets f false ++ f.body)

/-- R577: one more failure of the frame's source; the eighth within 60 s locks the source out. -/
def proveFailed (r : Req) (x : Session) (s : State) : State :=
  let p := sourceOf r.carrier r.src
  let s := s.incO 0x1140 2 1
  let fails := (p.1, p.2, s.now) :: s.acp.fails.filter (fun f => decide (s.now < f.2.2 + 60000000000))
  let mine := fails.filter (fun f => f.1 == p.1 && f.2.1 == p.2)
  if mine.length < 8 then { s with acp := { s.acp with fails } }
  else
    let s := { s with acp := { s.acp with
      fails := fails.filter (fun f => !(f.1 == p.1 && f.2.1 == p.2))
      locked := (p.1, p.2, s.now) :: s.acp.locked } }
    raise 0x1103 (pU32 p.2 ++ pU8 x.level) (s.incO 0x1140 4 1)

/-- Step 5: the session is open. -/
def proveAccepted (r : Req) (x : Session) (s : State) : State :=
  let key := sessionKey s x
  let mine := proofOf s x "CH9 confirm"
  let s := s.modSess x.id (fun y => { y with isOpen := true, key, high := 1, seen := [1], lastAt := s.now })
  let s := answer r 3 0 0 [{ status := .ok, body := octetsBE 32 mine.toNat }] s
  raise 0x1101 (pU32 x.id ++ pU8 x.level ++ pU8 x.carrier ++ pU32 (if x.carrier = 2 then 0 else x.src)) s

/-- PROVE with the module awake. In a session that is open, the replay rules apply, and a second proof is refused. -/
def proveAwake (r : Req) (proof : BitVec 256) (s : State) : State :=
  match s.sess r.session with
  | none => s.incO 0x1140 1 1
  | some x =>
    if x.carrier != r.carrier then s.incO 0x1140 1 1
    else if x.isOpen then serveAwake r 3 0 0 (fun _ s => ([{ status := .badValue }], s)) s
    else if r.seq = 1 && r.tag = proveTag s x proof && proof = proofOf s x "CH9 prove" then proveAccepted r x s
    else proveFailed r x s

/-- PROVE (R577). -/
def execProve (r : Req) (proof : BitVec 256) (s : State) : Host.Outcome State Fault Refusal :=
  .next (if !(frameTaken s r.carrier) then s else chooseDepth (proveAwake r proof (wakeDepth s)))

/-- PROVE_TIMEOUT (R576): a reserved session is released without reply. -/
def execProveTimeout (n : Nat) (s : State) : Host.Outcome State Fault Refusal :=
  .next { s with acp := { s.acp with sessions := s.acp.sessions.filter (fun x => x.isOpen || x.id != n) } }

/-- SOURCE_UNLOCK (R577): the 60 s of a lockout have passed. -/
def execSourceUnlock (carrier src : Nat) (s : State) : Host.Outcome State Fault Refusal :=
  let p := sourceOf carrier src
  .next { s with acp := { s.acp with locked := s.acp.locked.filter (fun l => !(l.1 == p.1 && l.2.1 == p.2)) } }

/-! ### Negotiation and subscriptions -/

/-- Feature bits that the Chotric 9X offers and licenses (Table 9-9). -/
def offeredFeatures : Nat := 0xFFFF

/-- NEGOTIATE (R587, R588). -/
def execNegotiate (r : Req) (requested : BitVec 128) (s : State) : Host.Outcome State Fault Refusal :=
  .next (serve r 4 0 0 (fun x s =>
    if x.negotiated || !(requested.getLsbD 0) then ([{ status := .badValue }], s)
    else
      let agreed := requested.toNat &&& offeredFeatures
      ([{ status := .ok, body := octetsLE 16 offeredFeatures ++ octetsLE 16 agreed }],
        s.modSess x.id (fun y => { y with negotiated := true, requested := requested.toNat, agreed }))) s)

/-- Filters of a SUBSCRIBE body: CODE and MASK, 2 octets each. -/
def bodyFilters (body : List Octet) : List (Nat × Nat) :=
  (chunks 4 body).map (fun c => (natBE (c.take 2), natBE (c.drop 2)))

/-- SUBSCRIBE (R589, R596, R597). A record still queued that the new filters do not take is not sent. -/
def execSubscribe (r : Req) (body : List Octet) (s : State) : Host.Outcome State Fault Refusal :=
  .next (serve r 9 0 0 (fun x s =>
    if !x.negotiated || !(bitOf x.agreed 2) then ([{ status := .notAgreed }], s)
    else if body.length % 4 != 0 || 64 < body.length then ([{ status := .badLength }], s)
    else ([{ status := .ok }], s.modSess x.id (fun y =>
      let y := { y with filters := bodyFilters body }
      { y with queue := y.queue.filter (fun r => wants y r.code) }))) s)

/-! ### Closing (R585, R586) -/

/-- Whether the module accepts a request and has room to serve it (R569, R581, R583). -/
def accepts (s : State) (r : Req) : Bool :=
  frameTaken s r.carrier &&
  (match sessionFor s r with
   | some x => seqFresh x r.seq && decide (x.waiting.length < 8)
   | none => false)

/-- CLOSE: the module answers OK and sends no further frames (cause 0). -/
def execClose (r : Req) (s : State) : Host.Outcome State Fault Refusal :=
  let t := serve r 0x0B 0 0 (fun _ s => ([{ status := .ok }], s)) s
  .next (if accepts s r then chooseDepth (closeSession r.session 0 t) else t)

/-- BAD_FRAME (R569): discarded without reply, and counted. -/
def execBadFrame (carrier : Nat) (_frame : List Octet) (s : State) : Host.Outcome State Fault Refusal :=
  .next (if frameTaken s carrier then s.incO 0x1140 1 1 else s)

/-- SESSION_IDLE_TIMEOUT: no accepted request for 1120h:01 seconds (cause 1). -/
def execSessionIdleTimeout (n : Nat) (s : State) : Host.Outcome State Fault Refusal :=
  .next (match s.sess n with
    | some x => if x.isOpen then chooseDepth (closeSession n 1 s) else s
    | none => s)

/-- Undo an operation that is refused with TIMEOUT (R563): a read, with the start selector that it moved, and the check of an image. -/
def undoWaiting (n q : Nat) (s : State) : State :=
  let mine (r : HostRead) : Bool := r.session == n && r.seq == q
  let s := (s.mem.reads.filter mine).foldl (fun s r => match r.block with
    | some (idx, sel, _, old) => setStart n idx sel old s
    | none => s) s
  let s := { s with mem := { s.mem with reads := s.mem.reads.filter (fun r => !(mine r)) } }
  match s.img.check with
  | some c =>
    if c.session = n && c.seq = q then
      { s.setO 0x6100 4 c.before with img := { s.img with check := none, passed := c.kept } }
    else s
  | none => s

/-- SERVICE_TIMEOUT (R563): an accepted operation that waits for its answer is refused with TIMEOUT. -/
def execServiceTimeout (n q : Nat) (s : State) : Host.Outcome State Fault Refusal :=
  .next (match s.sess n with
    | some x => if x.waiting.any (fun w => w.seq == q) then answerWaiting n q .timeout (undoWaiting n q s) else s
    | none => s)

end Sys2Proof.Machine
end

