-- ==== Sys2Proof/Machine/Dispatch.lean ====
section
/-! DEFINITION. The one dispatch: one arm per command, each a direct call of its meaning. -/

namespace Sys2Proof.Machine

/-- The effect of a command on everything but the queue. -/
def exec (i : Instr) (s : State) : Host.Outcome State Fault Refusal :=
  match i with
  | .sweepStep upsets => Sys2Proof.Machine.execSweepStep upsets s
  | .commitWindow env => Sys2Proof.Machine.execCommitWindow env s
  | .waitBlock env => Sys2Proof.Machine.execWaitBlock env s
  | .holdCausesCleared => Sys2Proof.Machine.execHoldCausesCleared s
  | .sweepStart syncHigh => Sys2Proof.Machine.execSweepStart syncHigh s
  | .syncTimeout => Sys2Proof.Machine.execSyncTimeout s
  | .run r => Sys2Proof.Machine.execRun r s
  | .stop r => Sys2Proof.Machine.execStop r s
  | .step r => Sys2Proof.Machine.execStep r s
  | .runTo r => Sys2Proof.Machine.execRunTo r s
  | .abort r => Sys2Proof.Machine.execAbort r s
  | .designReset r => Sys2Proof.Machine.execDesignReset r s
  | .park r => Sys2Proof.Machine.execPark r s
  | .stateLoad r => Sys2Proof.Machine.execStateLoad r s
  | .stepFreqRequest r v => Sys2Proof.Machine.execStepFreqRequest r v s
  | .taperIncrement => Sys2Proof.Machine.execTaperIncrement s
  | .taperRampDone => Sys2Proof.Machine.execTaperRampDone s
  | .stepRefWrite r v => Sys2Proof.Machine.execStepRefWrite r v s
  | .referenceLost src => Sys2Proof.Machine.execReferenceLost src s
  | .referenceRestored src => Sys2Proof.Machine.execReferenceRestored src s
  | .pllFailed pll => Sys2Proof.Machine.execPllFailed pll s
  | .clockForced root => Sys2Proof.Machine.execClockForced root s
  | .imWordWrite r w => Sys2Proof.Machine.execImWordWrite r w s
  | .dictEntryWrite r w => Sys2Proof.Machine.execDictEntryWrite r w s
  | .dictSeal r v => Sys2Proof.Machine.execDictSeal r v s
  | .dictSwapRequest r => Sys2Proof.Machine.execDictSwapRequest r s
  | .dictSwapCancel r => Sys2Proof.Machine.execDictSwapCancel r s
  | .lbsWrite r w => Sys2Proof.Machine.execLbsWrite r w s
  | .deposit r v => Sys2Proof.Machine.execDeposit r v s
  | .exsEntryWrite r w => Sys2Proof.Machine.execExsEntryWrite r w s
  | .exsSeal r v => Sys2Proof.Machine.execExsSeal r v s
  | .xswapRequest r => Sys2Proof.Machine.execXswapRequest r s
  | .xswapCancel r => Sys2Proof.Machine.execXswapCancel r s
  | .joinedSwapRequest r => Sys2Proof.Machine.execJoinedSwapRequest r s
  | .linkEnableWrite r port v => Sys2Proof.Machine.execLinkEnableWrite r port v s
  | .trainingDone port t partner => Sys2Proof.Machine.execTrainingDone port t partner s
  | .identityReceived port ident => Sys2Proof.Machine.execIdentityReceived port ident s
  | .identitySend port => Sys2Proof.Machine.execIdentitySend port s
  | .superframeReceived f => Sys2Proof.Machine.execSuperframeReceived f s
  | .portRetrain port => Sys2Proof.Machine.execPortRetrain port s
  | .status port arg => Sys2Proof.Machine.execStatus port arg s
  | .stoppedFwd port origin => Sys2Proof.Machine.execStoppedFwd port origin s
  | .faultFwd port origin => Sys2Proof.Machine.execFaultFwd port origin s
  | .echo port hold => Sys2Proof.Machine.execEcho port hold s
  | .echoReply port gone hold => Sys2Proof.Machine.execEchoReply port gone hold s
  | .spareReq port lane => Sys2Proof.Machine.execSpareReq port lane s
  | .spareRequestSend port lane symbols lockLost spareErrors => Sys2Proof.Machine.execSpareRequestSend port lane symbols lockLost spareErrors s
  | .laneSpared port lane => Sys2Proof.Machine.execLaneSpared port lane s
  | .guardMessageReceived port words => Sys2Proof.Machine.execGuardMessageReceived port words s
  | .laneTestStart r => Sys2Proof.Machine.execLaneTestStart r s
  | .laneTestAbort r => Sys2Proof.Machine.execLaneTestAbort r s
  | .laneTestDone errors marginV marginH => Sys2Proof.Machine.execLaneTestDone errors marginV marginH s
  | .systemMembersWrite r v => Sys2Proof.Machine.execSystemMembersWrite r v s
  | .farDelivery tile failed => Sys2Proof.Machine.execFarDelivery tile failed s
  | .farWriteRetired tile => Sys2Proof.Machine.execFarWriteRetired tile s
  | .correctionWriteBack bank word => Sys2Proof.Machine.execCorrectionWriteBack bank word s
  | .dmWordWrite r w => Sys2Proof.Machine.execDmWordWrite r w s
  | .farWordWrite r w => Sys2Proof.Machine.execFarWordWrite r w s
  | .portBindingWrite r sub v => Sys2Proof.Machine.execPortBindingWrite r sub v s
  | .layoutApply r => Sys2Proof.Machine.execLayoutApply r s
  | .layoutRevert r => Sys2Proof.Machine.execLayoutRevert r s
  | .layoutApplied => Sys2Proof.Machine.execLayoutApplied s
  | .checkpointCommand r => Sys2Proof.Machine.execCheckpointCommand r s
  | .deferredSnapshot => Sys2Proof.Machine.execDeferredSnapshot s
  | .drainComplete upsets micros => Sys2Proof.Machine.execDrainComplete upsets micros s
  | .stimulusRecordAccepted => Sys2Proof.Machine.execStimulusRecordAccepted s
  | .restore r => Sys2Proof.Machine.execRestore r s
  | .replayDone => Sys2Proof.Machine.execReplayDone s
  | .spareSubstituted => Sys2Proof.Machine.execSpareSubstituted s
  | .clusterRecovered => Sys2Proof.Machine.execClusterRecovered s
  | .arm r => Sys2Proof.Machine.execArm r s
  | .disarm r => Sys2Proof.Machine.execDisarm r s
  | .forceTrigger r => Sys2Proof.Machine.execForceTrigger r s
  | .hostMark r v => Sys2Proof.Machine.execHostMark r v s
  | .probeMapWrite r w => Sys2Proof.Machine.execProbeMapWrite r w s
  | .timeRecord segment => Sys2Proof.Machine.execTimeRecord segment s
  | .captureAccept => Sys2Proof.Machine.execCaptureAccept s
  | .extCalibrated residual failed => Sys2Proof.Machine.execExtCalibrated residual failed s
  | .extSample high frac => Sys2Proof.Machine.execExtSample high frac s
  | .cellConfigWrite r w => Sys2Proof.Machine.execCellConfigWrite r w s
  | .tifReset r => Sys2Proof.Machine.execTifReset r s
  | .oscFreqWrite r k v => Sys2Proof.Machine.execOscFreqWrite r k v s
  | .ufRead => Sys2Proof.Machine.execUfRead s
  | .ufErase r v => Sys2Proof.Machine.execUfErase r v s
  | .ufProgram r w => Sys2Proof.Machine.execUfProgram r w s
  | .spSend r port => Sys2Proof.Machine.execSpSend r port s
  | .spI2cRead r port => Sys2Proof.Machine.execSpI2cRead r port s
  | .spI2cWriteRead r port => Sys2Proof.Machine.execSpI2cWriteRead r port s
  | .spAbort r port => Sys2Proof.Machine.execSpAbort r port s
  | .serialDone port status received sent => Sys2Proof.Machine.execSerialDone port status received sent s
  | .busStuck port => Sys2Proof.Machine.execBusStuck port s
  | .uartReceive port o => Sys2Proof.Machine.execUartReceive port o s
  | .bankVoltageWrite r bank v => Sys2Proof.Machine.execBankVoltageWrite r bank v s
  | .bankFault bank millivolts => Sys2Proof.Machine.execBankFault bank millivolts s
  | .pinConfigWrite r v => Sys2Proof.Machine.execPinConfigWrite r v s
  | .outputMapWrite r v => Sys2Proof.Machine.execOutputMapWrite r v s
  | .injectionMapWrite r w => Sys2Proof.Machine.execInjectionMapWrite r w s
  | .patStartWrite r v => Sys2Proof.Machine.execPatStartWrite r v s
  | .stageDataWrite r w => Sys2Proof.Machine.execStageDataWrite r w s
  | .imageCheck r => Sys2Proof.Machine.execImageCheck r s
  | .imageCheckApply r => Sys2Proof.Machine.execImageCheckApply r s
  | .imageDiscard r => Sys2Proof.Machine.execImageDiscard r s
  | .imageCheckDone => Sys2Proof.Machine.execImageCheckDone s
  | .regionWriteDone => Sys2Proof.Machine.execRegionWriteDone s
  | .shadowApplyDone => Sys2Proof.Machine.execShadowApplyDone s
  | .ownerToken r v => Sys2Proof.Machine.execOwnerToken r v s
  | .loadVbat r => Sys2Proof.Machine.execLoadVbat r s
  | .programEfuse r => Sys2Proof.Machine.execProgramEfuse r s
  | .zeroiseVbat r => Sys2Proof.Machine.execZeroiseVbat r s
  | .setEfuseOnly r => Sys2Proof.Machine.execSetEfuseOnly r s
  | .tamperZeroised detector => Sys2Proof.Machine.execTamperZeroised detector s
  | .updLengthWrite r v => Sys2Proof.Machine.execUpdLengthWrite r v s
  | .updDataWrite r w => Sys2Proof.Machine.execUpdDataWrite r w s
  | .updVerify r => Sys2Proof.Machine.execUpdVerify r s
  | .updCancel r => Sys2Proof.Machine.execUpdCancel r s
  | .boot failedStacks millis => Sys2Proof.Machine.execBoot failedStacks millis s
  | .doneRise => Sys2Proof.Machine.execDoneRise s
  | .doneTimeout => Sys2Proof.Machine.execDoneTimeout s
  | .openFrame carrier src srcPort level nonce => Sys2Proof.Machine.execOpenFrame carrier src srcPort level nonce s
  | .prove r proof => Sys2Proof.Machine.execProve r proof s
  | .proveTimeout session => Sys2Proof.Machine.execProveTimeout session s
  | .sourceUnlock carrier src => Sys2Proof.Machine.execSourceUnlock carrier src s
  | .negotiate r requested => Sys2Proof.Machine.execNegotiate r requested s
  | .read r idx sub ty => Sys2Proof.Machine.execRead r idx sub ty s
  | .write r idx sub v => Sys2Proof.Machine.execWrite r idx sub v s
  | .readBlock r idx sub start total => Sys2Proof.Machine.execReadBlock r idx sub start total s
  | .writeBlock r idx sub start data => Sys2Proof.Machine.execWriteBlock r idx sub start data s
  | .subscribe r body => Sys2Proof.Machine.execSubscribe r body s
  | .close r => Sys2Proof.Machine.execClose r s
  | .badFrame carrier frame => Sys2Proof.Machine.execBadFrame carrier frame s
  | .sessionIdleTimeout session => Sys2Proof.Machine.execSessionIdleTimeout session s
  | .serviceTimeout session seq => Sys2Proof.Machine.execServiceTimeout session seq s
  | .credLoad r => Sys2Proof.Machine.execCredLoad r s
  | .credClear r => Sys2Proof.Machine.execCredClear r s
  | .pcieReset kind => Sys2Proof.Machine.execPcieReset kind s
  | .bar2Read offset length => Sys2Proof.Machine.execBar2Read offset length s
  | .bar2Write offset data => Sys2Proof.Machine.execBar2Write offset data s
  | .apWrite n base value => Sys2Proof.Machine.execApWrite n base value s
  | .mbSlotSubmit slot length => Sys2Proof.Machine.execMbSlotSubmit slot length s
  | .mbControlWrite offset value => Sys2Proof.Machine.execMbControlWrite offset value s
  | .mailboxRingFull event => Sys2Proof.Machine.execMailboxRingFull event s
  | .dmaDoorbell engine offset value => Sys2Proof.Machine.execDmaDoorbell engine offset value s
  | .dmaDescriptorDone engine d => Sys2Proof.Machine.execDmaDescriptorDone engine d s
  | .dmaEnable engine => Sys2Proof.Machine.execDmaEnable engine s
  | .dmaStop engine => Sys2Proof.Machine.execDmaStop engine s
  | .pcieCreditStall millis => Sys2Proof.Machine.execPcieCreditStall millis s
  | .packetReceived p => Sys2Proof.Machine.execPacketReceived p s
  | .routingTableSwitch router => Sys2Proof.Machine.execRoutingTableSwitch router s
  | .statsClear r => Sys2Proof.Machine.execStatsClear r s
  | .statsFreeze r => Sys2Proof.Machine.execStatsFreeze r s
  | .statsResume r => Sys2Proof.Machine.execStatsResume r s
  | .msixMapWrite r sub v => Sys2Proof.Machine.execMsixMapWrite r sub v s
  | .frcWrap => Sys2Proof.Machine.execFrcWrap s
  | .setTime r v => Sys2Proof.Machine.execSetTime r v s
  | .ptpMessage port src m rxStamp => Sys2Proof.Machine.execPtpMessage port src m rxStamp s
  | .pathFreezeEnd => Sys2Proof.Machine.execPathFreezeEnd s
  | .masterLost => Sys2Proof.Machine.execMasterLost s
  | .ptpTransmit kind collided => Sys2Proof.Machine.execPtpTransmit kind collided s
  | .tcFollowupMissed port => Sys2Proof.Machine.execTcFollowupMissed port s
  | .ptpConfigWrite r sub v => Sys2Proof.Machine.execPtpConfigWrite r sub v s
  | .phyPoll port st => Sys2Proof.Machine.execPhyPoll port st s
  | .mgmtFrame f => Sys2Proof.Machine.execMgmtFrame f s
  | .switchForward f => Sys2Proof.Machine.execSwitchForward f s
  | .macAging mac => Sys2Proof.Machine.execMacAging mac s
  | .reassemblyExpiry src ident => Sys2Proof.Machine.execReassemblyExpiry src ident s
  | .dhcpRenew addr netmask lease => Sys2Proof.Machine.execDhcpRenew addr netmask lease s
  | .addressProbe conflict => Sys2Proof.Machine.execAddressProbe conflict s
  | .ipAddressWrite r sub v => Sys2Proof.Machine.execIpAddressWrite r sub v s
  | .modeStandby r => Sys2Proof.Machine.execModeStandby r s
  | .modeAnalyzer r => Sys2Proof.Machine.execModeAnalyzer r s
  | .modeIdle r => Sys2Proof.Machine.execModeIdle r s
  | .modeService r => Sys2Proof.Machine.execModeService r s
  | .shutdown r findings stepsDone millis => Sys2Proof.Machine.execShutdown r findings stepsDone millis s
  | .reboot r => Sys2Proof.Machine.execReboot r s
  | .idleWake => Sys2Proof.Machine.execIdleWake s
  | .wakeLate micros => Sys2Proof.Machine.execWakeLate micros s
  | .vinGood straps resetHigh => Sys2Proof.Machine.execVinGood straps resetHigh s
  | .vinUndervoltage => Sys2Proof.Machine.execVinUndervoltage s
  | .vinOvervoltage => Sys2Proof.Machine.execVinOvervoltage s
  | .resetNLow => Sys2Proof.Machine.execResetNLow s
  | .resetNRise => Sys2Proof.Machine.execResetNRise s
  | .pfail => Sys2Proof.Machine.execPfail s
  | .pfailNHigh => Sys2Proof.Machine.execPfailNHigh s
  | .standbyWake => Sys2Proof.Machine.execStandbyWake s
  | .dutyAdjust p => Sys2Proof.Machine.execDutyAdjust p s
  | .thermalHalt p => Sys2Proof.Machine.execThermalHalt p s
  | .thermalTrip => Sys2Proof.Machine.execThermalTrip s
  | .powerLimitChanged phases => Sys2Proof.Machine.execPowerLimitChanged phases s
  | .domainRequest r d v => Sys2Proof.Machine.execDomainRequest r d v s
  | .gateForced r v => Sys2Proof.Machine.execGateForced r v s
  | .ckoutWrite r sub v => Sys2Proof.Machine.execCkoutWrite r sub v s
  | .scheduledTest findings stepsDone millis => Sys2Proof.Machine.execScheduledTest findings stepsDone millis s
  | .testProgressRecord findings stepsDone millis => Sys2Proof.Machine.execTestProgressRecord findings stepsDone millis s
  | .odStart r => Sys2Proof.Machine.execOdStart r s
  | .odAbort r => Sys2Proof.Machine.execOdAbort r s
  | .ondemandDone passed detail deviation => Sys2Proof.Machine.execOndemandDone passed detail deviation s
  | .tallowPatrol area words passMillis => Sys2Proof.Machine.execTallowPatrol area words passMillis s
  | .tallowVote copy => Sys2Proof.Machine.execTallowVote copy s
  | .tallowReset stalled => Sys2Proof.Machine.execTallowReset stalled s
  | .sinkWrite r v => Sys2Proof.Machine.execSinkWrite r v s
  | .seqUnsuppress r v => Sys2Proof.Machine.execSeqUnsuppress r v s
  | .coreTraceWrite r v => Sys2Proof.Machine.execCoreTraceWrite r v s
  | .traceOverflow => Sys2Proof.Machine.execTraceOverflow s
  | .symbolLockLost port lane => Sys2Proof.Machine.execSymbolLockLost port lane s
  | .transportLost port => Sys2Proof.Machine.execTransportLost port s
  | .ringConsumerWrite ring value => Sys2Proof.Machine.execRingConsumerWrite ring value s
  | .msixUnmask vector => Sys2Proof.Machine.execMsixUnmask vector s
  | .configurationRequest write offset value => Sys2Proof.Machine.execConfigurationRequest write offset value s
  | .ufOperationDone => Sys2Proof.Machine.execUfOperationDone s
  | .updateEraseDone => Sys2Proof.Machine.execUpdateEraseDone s
  | .bankRailSettled bank => Sys2Proof.Machine.execBankRailSettled bank s
  | .tifClockEdge clock target => Sys2Proof.Machine.execTifClockEdge clock target s
  | .laneTest port arg errors => Sys2Proof.Machine.execLaneTest port arg errors s
  | .tapInstruction code => Sys2Proof.Machine.execTapInstruction code s

end Sys2Proof.Machine
end

