-- ==== Sys2Proof/Safety.lean ====
section
/-! DEFINITION. What counts as a safe step and a sound state, in the terms that the statements use. -/

namespace Sys2Proof

open Sys2Proof.Machine

/-- A sound state: the objects and the DRAM are in their canonical form, so that equal contents are equal data; the event
log holds at most its 1,024 records (R599), the host write queue at most 1,024 words (4220h:01) and the deposit queue at
most 256 entries (3210h:04). -/
structure Sound (s : State) : Prop where
  objects : Sparse.wf okDflt s.obj = true
  dram : Memory.wf s.mem.dram = true
  log : s.acp.log.length ≤ 1024
  writes : s.mem.hostQ.length ≤ 1024
  deposits : s.lanes.deposits.length ≤ 256

/-- A frame that reaches its command's own checks: the module is powered and in no idle depth, the carrier takes frames, the session x is open
on it, SEQ lies in the window, and fewer than eight operations of the session wait (R561, R569, R581, R602, R616). -/
structure Reaches (r : Req) (x : Session) (s : State) : Prop where
  awake : 2 ≤ s.pwr.mode
  depth : s.pwr.depth = 0
  carrier : carrierTakes s r.carrier = true
  session : sessionFor s r = some x
  fresh : seqFresh x r.seq = true
  room : x.waiting.length < 8

/-- The state in which an accepted request of session x is carried out: its SEQ is recorded (R581). -/
def accepted (r : Req) (x : Session) (s : State) : State := s.modSess x.id (acceptSeq r.seq s.now)

/-- A request whose operation left state s is answered with one STATUS, and the module chooses its idle depth again (R561, R736). -/
def replied (r : Req) (op idx sub : Nat) (st : Status) (s : State) : State :=
  chooseDepth (answer r op idx sub [{ status := st }] s)

/-- The request of a row that a tagged frame is and that does nothing beyond serving it. (PROVE opens a session; CLOSE, OWNER_TOKEN,
IP_ADDRESS_WRITE, MODE_STANDBY, SHUTDOWN and REBOOT, and the WRITE frames that are these rows, go on after the answer.) -/
def requestOf : Instr → Option Req
  | .run r => some r
  | .stop r => some r
  | .step r => some r
  | .runTo r => some r
  | .abort r => some r
  | .designReset r => some r
  | .park r => some r
  | .stateLoad r => some r
  | .stepFreqRequest r _ => some r
  | .stepRefWrite r _ => some r
  | .imWordWrite r _ => some r
  | .dictEntryWrite r _ => some r
  | .dictSeal r _ => some r
  | .dictSwapRequest r => some r
  | .dictSwapCancel r => some r
  | .lbsWrite r _ => some r
  | .deposit r _ => some r
  | .exsEntryWrite r _ => some r
  | .exsSeal r _ => some r
  | .xswapRequest r => some r
  | .xswapCancel r => some r
  | .joinedSwapRequest r => some r
  | .linkEnableWrite r _ _ => some r
  | .laneTestStart r => some r
  | .laneTestAbort r => some r
  | .systemMembersWrite r _ => some r
  | .dmWordWrite r _ => some r
  | .farWordWrite r _ => some r
  | .portBindingWrite r _ _ => some r
  | .layoutApply r => some r
  | .layoutRevert r => some r
  | .checkpointCommand r => some r
  | .restore r => some r
  | .arm r => some r
  | .disarm r => some r
  | .forceTrigger r => some r
  | .hostMark r _ => some r
  | .probeMapWrite r _ => some r
  | .cellConfigWrite r _ => some r
  | .tifReset r => some r
  | .oscFreqWrite r _ _ => some r
  | .ufErase r _ => some r
  | .ufProgram r _ => some r
  | .spSend r _ => some r
  | .spI2cRead r _ => some r
  | .spI2cWriteRead r _ => some r
  | .spAbort r _ => some r
  | .bankVoltageWrite r _ _ => some r
  | .pinConfigWrite r _ => some r
  | .outputMapWrite r _ => some r
  | .injectionMapWrite r _ => some r
  | .patStartWrite r _ => some r
  | .stageDataWrite r _ => some r
  | .imageCheck r => some r
  | .imageCheckApply r => some r
  | .imageDiscard r => some r
  | .loadVbat r => some r
  | .programEfuse r => some r
  | .zeroiseVbat r => some r
  | .setEfuseOnly r => some r
  | .updLengthWrite r _ => some r
  | .updDataWrite r _ => some r
  | .updVerify r => some r
  | .updCancel r => some r
  | .negotiate r _ => some r
  | .read r _ _ _ => some r
  | .readBlock r _ _ _ _ => some r
  | .writeBlock r _ _ _ _ => some r
  | .subscribe r _ => some r
  | .credLoad r => some r
  | .credClear r => some r
  | .statsClear r => some r
  | .statsFreeze r => some r
  | .statsResume r => some r
  | .msixMapWrite r _ _ => some r
  | .setTime r _ => some r
  | .ptpConfigWrite r _ _ => some r
  | .modeAnalyzer r => some r
  | .modeIdle r => some r
  | .modeService r => some r
  | .domainRequest r _ _ => some r
  | .gateForced r _ => some r
  | .ckoutWrite r _ _ => some r
  | .odStart r => some r
  | .odAbort r => some r
  | .sinkWrite r _ => some r
  | .seqUnsuppress r _ => some r
  | .coreTraceWrite r _ => some r
  | _ => none

/-- Objects that sending a frame or an event may change: the mailbox's, and the counts of frames that left a management port and of what
they met on its link. -/
def toldObject (idx sub : Nat) : Bool := idx == 0x7600 || ((idx == 0x7900 || idx == 0x7901) && (6 ≤ sub && sub ≤ 9))

/-- Objects that serving a frame and resting may change: those that sending changes, the states of the PLLs and clocks, the step
frequency, the counts of delivered packets, the time that a gate took to close, and the state of a lane test that ends with its port. -/
def restObject (idx sub : Nat) : Bool :=
  toldObject idx sub || [0x2020, 0x2028, 0x3460, 0x7420].contains idx || decide (0x7300 ≤ idx ∧ idx ≤ 0x7310) ||
  (decide (0x7500 ≤ idx ∧ idx < 0x7600) && sub == 4) || (idx == 0x3C00 && sub == 5)

/-- The state planes and parity of every lane of b are those of a; only temporaries and delivered bits differ. -/
def PlanesKept (a b : Sparse LaneRec) : Prop :=
  Sparse.wf (fun _ => ({} : LaneRec)) a = true → Sparse.wf (fun _ => ({} : LaneRec)) b = true ∧
    ∀ p, (Sparse.get (fun _ => ({} : LaneRec)) b p).cur = (Sparse.get (fun _ => {}) a p).cur ∧
      (Sparse.get (fun _ => ({} : LaneRec)) b p).nxt = (Sparse.get (fun _ => {}) a p).nxt ∧
      (Sparse.get (fun _ => ({} : LaneRec)) b p).sh = (Sparse.get (fun _ => {}) a p).sh

/-- What resting leaves of a PARKED design: the bank words and the planes of every lane as they were (R733), and the instruction tier as it
was or as the held images give it (R734). -/
def Rested (s t : State) : Prop :=
  t.mem.bank = s.mem.bank ∧ PlanesKept s.lanes.lbs t.lanes.lbs ∧ (t.lanes.im = s.lanes.im ∨ t.lanes.im = s.img.tierIm) ∧
    (t.lanes.dict = s.lanes.dict ∨ t.lanes.dict = s.img.tierDict) ∧ (t.ex.bank = s.ex.bank ∨ t.ex.bank = s.img.tierEx)

/-- The frame of serving and resting: t differs from s only in sessions and what was sent, in the ports and domains, clocks and
objects of an idle depth, in what the domains that a depth switches off held (Table 12-11; of a PARKED design as `Rested` says), and in
the packets of the network. -/
structure Undisturbed (s t : State) : Prop where
  pending : t.pending = s.pending
  free : t.free = s.free
  moduleId : t.moduleId = s.moduleId
  dswap : t.dswap = s.dswap
  xswap : t.xswap = s.xswap
  mem : t.mem = { s.mem with bank := t.mem.bank, bankErr := t.mem.bankErr, fixed := t.mem.fixed }
  run : t.run = s.run
  lan : t.lan = s.lan
  tif : t.tif = s.tif
  img : t.img = s.img
  boot : t.boot = s.boot
  keys : t.keys = s.keys
  time : t.time = s.time
  net : t.net = s.net
  test : t.test = s.test
  trace : t.trace = s.trace
  tap : t.tap = s.tap
  acp : t.acp = { s.acp with sessions := t.acp.sessions }
  ex : t.ex = { s.ex with ports := t.ex.ports, testBack := t.ex.testBack, bank := t.ex.bank, bankErr := t.ex.bankErr }
  lanes : t.lanes = { s.lanes with lbs := t.lanes.lbs, im := t.lanes.im, imErr := t.lanes.imErr, imFixed := t.lanes.imFixed,
                                   dict := t.lanes.dict, dictErr := t.lanes.dictErr }
  rew : t.rew = { s.rew with parkRestore := t.rew.parkRestore }
  pwr : t.pwr = { s.pwr with dom := t.pwr.dom, gate := t.pwr.gate, depth := t.pwr.depth }
  clk : t.clk = { s.clk with ramp := t.clk.ramp, due := t.clk.due, back := t.clk.back, newRef := t.clk.newRef, want := t.clk.want,
                             rootsDue := t.clk.rootsDue }
  host : t.host = { s.host with met := t.host.met, rpProd := t.host.rpProd, evProd := t.host.evProd, pend := t.host.pend,
                                heldPkts := t.host.heldPkts, noc := t.host.noc }
  parked : s.run.state = .parked → Rested s t
  objects : ∀ i j, restObject i j = false → j < 256 → t.o i j = s.o i j

/-- A WRITE of value v to idx:sub that is command c: whenever the request reaches its checks, passes those of Table 9-4 and meets
`pre`, the command completes with STATUS OK and the effect `eff`; both are of the state that has accepted the request. -/
def WriteDone (c : Instr) (r : Req) (idx sub : Nat) (v : WVal) (pre : Session → State → Prop) (eff : Session → State → State) :
    Prop :=
  ∀ x s, Reaches r x s → checkWrite s x idx sub v false = none → pre x (accepted r x s) →
    exec c s = .next (replied r 6 idx sub .ok (eff x (accepted r x s)))

/-- The same for a WRITE that is refused by its chapter with STATUS st: nothing but the acceptance of the request has happened. -/
def WriteRefused (c : Instr) (r : Req) (idx sub : Nat) (v : WVal) (st : Status) (pre : Session → State → Prop) : Prop :=
  ∀ x s, Reaches r x s → checkWrite s x idx sub v false = none → pre x (accepted r x s) →
    exec c s = .next (replied r 6 idx sub st (accepted r x s))

/-- The same for a WRITE that takes effect and is answered with STATUS st (PENDING, Table 9-5). -/
def WriteAnswered (c : Instr) (r : Req) (idx sub : Nat) (v : WVal) (st : Status) (pre : Session → State → Prop)
    (eff : Session → State → State) : Prop :=
  ∀ x s, Reaches r x s → checkWrite s x idx sub v false = none → pre x (accepted r x s) →
    exec c s = .next (replied r 6 idx sub st (eff x (accepted r x s)))

/-- A row that stores elements, in each of the three forms that reach it: WRITE of the element object, WRITE of the block object,
and WRITE_BLOCK, whose START is in the selector before the data are stored and is advanced by the elements stored. Whenever the
form passes the checks of Table 9-4 with the chapter's rule on its length, and `pre` holds of its data, it completes with STATUS
OK and the effect `eff`. -/
structure FormDone (c : WForm → Instr) (r : Req) (idx sub1 sub2 : Nat) (long : List Octet → LengthFn)
    (pre : Bool → List Octet → Session → State → Prop) (eff : Bool → List Octet → Session → State → State) : Prop where
  word : ∀ v x s, Reaches r x s →
    checkWrite s x idx sub1 v (sub1 == sub2 && long v.data x.id (accepted r x s)) = none → pre true v.data x (accepted r x s) →
    exec (c (.word v)) s = .next (replied r 6 idx sub1 .ok (eff true v.data x (accepted r x s)))
  run : ∀ v x s, Reaches r x s → checkWrite s x idx sub2 v (long v.data x.id (accepted r x s)) = none →
    pre false v.data x (accepted r x s) →
    exec (c (.run v)) s = .next (replied r 6 idx sub2 .ok (eff false v.data x (accepted r x s)))
  block : ∀ start data x s sel el n m s1, Reaches r x s → x.negotiated = true → bitOf x.agreed 1 = true →
    blockInfo idx sub2 = some (sel, el, n, m) → s1 = setStart x.id idx sel start (accepted r x s) →
    checkWrite s1 x idx sub2 { ty := 11, data } (long data x.id s1) = none → pre false data x s1 →
    exec (c (.block start data)) s = .next (replied r 8 idx sub2 .ok
      (setStart x.id idx sel (start + data.length / el) (eff false data x s1)))

/-- The words of a form that a row of the design memories stores: in bank 4·tile + 4200h:02 from word 4200h:03 on. -/
def bankHostWords (tile : Nat) (d : List Octet) (x : Session) (s : State) : List HostWr :=
  (((chunks 8 d).map natBE).zipIdx).map fun y =>
    { far := false, addr := bankKey (4 * tile + selOf s x.id 0x4200 2 % 4) (selOf s x.id 0x4200 3 + y.2),
      data := BitVec.ofNat 64 y.1, be := 255 }

/-- The same of the far region, from far word 4210h:01 on. -/
def farHostWords (d : List Octet) (x : Session) (s : State) : List HostWr :=
  (((chunks 8 d).map natBE).zipIdx).map fun y =>
    { far := true, addr := selOf s x.id 0x4210 1 + y.2, data := BitVec.ofNat 64 y.1, be := 255 }

/-- Host words in a run enter the host write queue (R295); at any other time they are stored in order, each with its record for the
stimulus log (R297, R299). -/
def queuedOrStored (ws : List HostWr) (s : State) : State :=
  if inRun s then { s with mem := { s.mem with hostQ := s.mem.hostQ ++ ws } }
  else ws.foldl (fun t w => modRec t.run.cycle.toNat (fun q => { q with hws := q.hws ++ [w] }) (storeHost w t)) (discardKept s)

/-- The probe map with entries stored from index i on. -/
def probeMapWith (i : Nat) (es : List Nat) (s : State) : Sparse Nat :=
  (es.zipIdx).foldl (fun m y => Sparse.set0 m (i + y.2) y.1) s.lan.probeMap

/-- The states in which run command n of 3400h:01 is accepted (Table 2-7). -/
def commandAccepted : Nat → RunState → Bool
  | 1, st => st == .stopped || st == .stepping || st == .stopping || st == .parked || st == .running
  | 2, st => st == .running || st == .stepping || st == .stopped || st == .recovering
  | 3, st => st == .stopped || st == .parked
  | 4, st => st == .stopped || st == .parked || st == .running
  | 5, st => st != .noDesign
  | 6, st => st == .stopped || st == .faulted || st == .parked
  | 7, st => st == .stopped
  | 8, st => st == .stopped || st == .faulted
  | _, _ => false

/-- The modes and run states that Table 12-9 lists for mode command c; bootFailed says that the boot has failed. -/
def modeAccepted (c m : Nat) (st : RunState) (bootFailed : Bool) : Bool :=
  let halted := m == 5 && (st == .stopped || st == .faulted)
  match c with
  | 1 => m == 3
  | 2 => m == 3 && (st == .noDesign || st == .parked)
  | 3 => m == 8 || m == 11 || halted || (m == 3 && st == .parked)
  | 4 => (m == 3 && st == .noDesign) || (m == 2 && bootFailed)
  | 5 => m == 3 || halted || m == 8 || m == 11
  | 6 => m == 3 || halted || m == 8 || m == 11 || (m == 2 && bootFailed)
  | _ => false

/-- The U8 value of a command code. -/
def codeVal (n : Nat) : WVal := { ty := 2, data := [BitVec.ofNat 8 n] }

end Sys2Proof
end

