-- ==== Sys2Proof/Certificates/Slice0/Obligations.lean ====
section
/-! DEFINITION. The statements for the provers. -/

open Sys2Proof Sys2Proof.Machine

/-! ### The block as a whole -/

/-- A step with commands waiting carries out the one at the front, on the state with the queue's rest. -/
def Obligations.StepCarriesOutFront : Prop :=
  ∀ (c : Instr) (rest : List Instr) (s : State), s.pending = c :: rest → step s = exec c { s with pending := rest }

/-- A step with nothing waiting lets local time pass (model's choice, log 9): while PD4 is on the FRC advances by 1, and with all
ports off or lost, no packet, table change or closing gate in the host network and no lease that ends, nothing changes but the time
base, the line time, the network's clock and ALERT_N, which follows its conditions (R745); while it is off, nothing changes. R229, R230: at a superframe boundary of the line, a port in LINKED sends a
FILL superframe: 34 slot positions whose exchange bits are all 0, with the sideband words that wait at the port.
(Model's choice: the boundary as a count of quarter-nanoseconds of local time: log 66.) -/
def Obligations.IdleStepLetsTimePass : Prop :=
  (∀ s : State, s.pending = [] → ∃ t, step s = .next t ∧
    (domState s 4 = 2 → t.pwr.alert = alertN t ∧
      ((∀ p, p < 8 → (s.port p).state = .off ∨ (s.port p).state = .lost) → nocBusy s.host.noc = false → s.net.leaseEnd = 0 →
        t.time.frc = s.time.frc + 1 ∧ (alertN s ≠ s.pwr.alert → Emission.alertN (alertN s) ∈ t.out) ∧
        t = { s with time := t.time, ex := { s.ex with lineTime := t.ex.lineTime }, host := { s.host with noc := t.host.noc },
                     pwr := { s.pwr with alert := alertN s }, out := t.out })) ∧
    (domState s 4 ≠ 2 → t = s)) ∧
  ∀ (s : State) (p : Nat), s.pending = [] → domState s 4 = 2 → nocBusy s.host.noc = false → s.net.leaseEnd = 0 → 81 ≤ s.ex.lineTime → p < 8 → s.ex.ports.length = 8 →
    (s.port p).state = .linked → (∀ q, q < 8 → q ≠ p → (s.port q).state = .off ∨ (s.port q).state = .lost) →
    ∃ t slots spareFor switch, step s = .next t ∧ slots.length = 34 ∧ (∀ x ∈ slots, x.bits = []) ∧
      Emission.superframe p 0 0 0 0 spareFor switch slots ∈ t.out

/-- Every command whose unit numbers name units of the module answers a next state, whatever the state; a command that names an absent
unit stops by name and changes nothing.
(Model's choice: events whose condition does not hold change nothing: log 10.) -/
def Obligations.WellFormedCommandsComplete : Prop :=
  ∀ (c : Instr) (s : State), (c.wellFormed = true → ∃ t, exec c s = .next t) ∧ (c.wellFormed = false → exec c s = .fault .absentUnit)

/-- The state after reset is sound. -/
def Obligations.ResetIsSound : Prop := Sound State.reset

/-- Every step keeps a sound state sound: the objects and the DRAM stay in their canonical form, the event log keeps at most 1,024
records, the host write queue at most 1,024 words and the deposit queue at most 256 entries. -/
def Obligations.EveryStepKeepsSound : Prop := ∀ s t : State, Sound s → step s = .next t → Sound t

/-- After reset every local bit reads 0 in all three planes (R27), and so do the temporaries; the module is OFF, no session is open, no
design is loaded, and no command waits.
(Model's choice: all but the planes: log 1.) -/
def Obligations.ResetLeavesTheModuleEmpty : Prop :=
  (∀ p, (State.reset.lane p).cur = 0 ∧ (State.reset.lane p).nxt = 0 ∧ (State.reset.lane p).sh = 0 ∧ (State.reset.lane p).tmp = 0) ∧
  State.reset.pwr.mode = 0 ∧ State.reset.acp.sessions = [] ∧ State.reset.run.state = .noDesign ∧ State.reset.pending = []

/-! ### The service of a request -/

/-- Answering a request and choosing an idle depth again leave the design, its memories, the keys, images, tests and time base as the
operation left them; only sessions, what was sent, and what rests in an idle depth may differ. Outside IDLE nothing rests. Acceptance of a
request changes nothing but its session. -/
def Obligations.ServiceLeavesTheDesign : Prop :=
  (∀ (r : Req) (op idx sub : Nat) (st : Status) (s : State), Undisturbed s (replied r op idx sub st s) ∧
    (s.pwr.mode ≠ 3 → (replied r op idx sub st s).lanes = s.lanes ∧ (replied r op idx sub st s).mem = s.mem ∧
      (replied r op idx sub st s).ex = s.ex ∧ (replied r op idx sub st s).pwr = s.pwr ∧ (replied r op idx sub st s).clk = s.clk)) ∧
  ∀ (r : Req) (x : Session) (s : State), Undisturbed s (accepted r x s) ∧ (accepted r x s).obj = s.obj ∧
    (accepted r x s).out = s.out ∧ (accepted r x s).pwr = s.pwr

/-- The reply to a request with one answer: the session's next frame, with the request's SEQ in ECHO and the STATUS of the answer, goes
out on the session's carrier, and is kept with the replies to the 8 most recent requests (R580, R582). -/
def Obligations.ReplyIsSentAndKept : Prop :=
  ∀ (r : Req) (op idx sub : Nat) (a : Answer) (s : State) (x : Session), s.sess r.session = some x →
    let f : Frame := { session := x.id, op, last := true, seq := x.txSeq + 1, echo := r.seq % 2 ^ 32, status := a.status, idx, sub,
                       ty := a.ty, offset := a.offset, body := a.body }
    Emission.frame (viaOf x s) f (tagOf x.key f true) ∈ (answer r op idx sub [a] s).out ∧
    (answer r op idx sub [a] s).sess r.session =
      some { x with txSeq := x.txSeq + 1, kept := ({ seq := r.seq, tag := r.tag, frames := [f] } :: x.kept).take 8 }

/-- In OFF and STANDBY the module serves no request: the state is as before. -/
def Obligations.AsleepModuleServesNoRequest : Prop :=
  ∀ (c : Instr) (r : Req) (s : State), requestOf c = some r → s.pwr.mode < 2 → exec c s = .next s

/-- A request whose SEQ the window does not take is not carried out (R581, R582): the kept reply goes out again when SEQ and tag are
those of a kept request, and 1140h:03 counts it otherwise. A request for a session that is not open on its carrier is discarded and
counted in 1140h:01 (R569, R602). -/
def Obligations.StaleAndStrayRequestsAreNotCarriedOut : Prop :=
  ∀ (c : Instr) (r : Req) (s : State), requestOf c = some r → 2 ≤ s.pwr.mode → s.pwr.depth = 0 → carrierTakes s r.carrier = true →
    (∀ x, sessionFor s r = some x → seqFresh x r.seq = false →
      exec c s = .next (chooseDepth (match keptFor x r with
        | some k => k.frames.foldl (fun s f => carry x f true s) s
        | none => s.incO 0x1140 3 1))) ∧
    (sessionFor s r = none → exec c s = .next (chooseDepth (s.incO 0x1140 1 1)))

/-! ### Sweeps and commits (chapter 2) -/

/-- The events of a run: where each of them acts, and what it does there.
SWEEP_START: SYNC sampled high at C15 or W15 starts the next sweep of a module that has released it, and one that begins a run owes a
SYNC record; where a cluster failed after C8 of the commit the run halts instead (R93, R436), and SYNC is held; sampled low it is
remembered (R141, R147). The ports that the step leaves free serve waiting host reads and corrected words (R292). SWEEP_STEP carries out the next executed step. COMMIT_WINDOW carries out the
commit once no executed step is left (R122, R133). WAIT_BLOCK is one wait block. HOLD_CAUSES_CLEARED releases SYNC at a W8 with no
hold cause active (R140). SYNC_TIMEOUT raises 3441h once for the window (R147, R150).
(Model's choice: the commit window as one command: log 11.) -/
def Obligations.SweepEventsComplete : Prop :=
  (∀ s : State, (s.run.phase = .starting ∨ s.run.phase = .commit ∧ s.run.settled = true) → s.run.released = true →
    failsLate s = false → exec (.sweepStart true) s =
      .next (hostStep (beginSweep (if s.run.phase = .starting then { s with trace := { s.trace with syncDue := some 1 } } else s)))) ∧
  (∀ s : State, s.run.released = true → failsLate s = true →
    exec (.sweepStart true) s = .next { lateFailures s with run := { (lateFailures s).run with released := false } }) ∧
  (∀ s : State, (s.run.phase = .starting ∨ s.run.phase = .commit ∧ s.run.settled = true) →
    exec (.sweepStart false) s =
      .next { s with run := { s.run with syncLevel := false, lowSince := s.run.lowSince.or (some s.now) } }) ∧
  (∀ (upsets : List Upset) (s : State) (i : Nat) (rest : List Nat), s.run.phase = .sweep → s.run.todo = i :: rest →
    exec (.sweepStep upsets) s = .next (hostStep (sweepStep i upsets s))) ∧
  (∀ (env : CommitEnv) (s : State), s.run.phase = .sweep → s.run.todo = [] →
    exec (.commitWindow env) s = .next (commitWindow env s)) ∧
  (∀ (env : CommitEnv) (s : State), (s.run.phase = .starting ∨ s.run.phase = .commit ∧ s.run.settled = true) →
    exec (.waitBlock env) s = .next (waitBlock env s)) ∧
  (∀ s : State, (s.run.phase = .starting ∨ s.run.phase = .commit ∧ s.run.settled = true) → s.run.released = false →
    activeHolds s = 0 → failsLate s = false → ∃ t, exec .holdCausesCleared s = .next t ∧ t.run.released = true ∧ t.run.heldNow = 0 ∧
      t = { s with run := t.run, ex := { s.ex with ports := t.ex.ports } } ∧
      ∀ p, p < 8 → (s.port p).state = .exchange → (t.port p).ctl = (s.port p).ctl ++ [1024 + statusArg t]) ∧
  (∀ s : State, s.run.timedOut = false → s.run.holdStop = false → s.ex.stopSeen = [] → s.o 0x3440 1 ≠ 0 →
    s.run.lowSince ≠ none →
    exec .syncTimeout s = .next (raise 0x3441
      (pU8 s.moduleId ++ pBits16 (activeHolds s) ++ pU8 s.run.released.toNat ++ pU8 (neighbourHolds s) ++ pCycle s)
      { s with run := { s.run with timedOut := true } }))

/-- One executed step advances the sweep by one step: it is no longer due, and one more has been executed. -/
def Obligations.SweepStepAdvancesTheSweep : Prop :=
  ∀ (upsets : List Upset) (s : State) (i : Nat) (rest : List Nat), s.run.phase = .sweep → s.run.todo = i :: rest →
    ∃ t, exec (.sweepStep upsets) s = .next t ∧ t.run.todo.length + 1 = s.run.todo.length

/-! ### Run control (chapter 2) -/

/-- The run commands in the states that accept them (Table 2-7), with the effect of each: RUN starts a run, or takes over a stepped or
stopping one (R165), and does nothing while RUNNING (R157); STOP posts stop cause 1 (R163); STEP runs 3400h:02 cycles (R166); RUN_TO
sets the goal; ABORT stops at once (R170-R172); DESIGN_RESET and STATE_LOAD make an initial state (R174, R175); PARK takes a
checkpoint and holds the design in IDLE (R176).
(Model's choice: RUN in RUNNING and in STOPPING: log 22.) -/
def Obligations.RunCommandsComplete : Prop :=
  (∀ r, WriteDone (.run r) r 0x3400 1 (codeVal 1)
    (fun _ s => (s.run.state = .stopped ∨ s.run.state = .parked) ∧ (runAdmit false s).1 = none)
    (fun _ s => startRun .running (runAdmit false s).2)) ∧
  (∀ r, WriteDone (.run r) r 0x3400 1 (codeVal 1) (fun _ s => s.run.state = .running) (fun _ s => s)) ∧
  (∀ r, WriteDone (.run r) r 0x3400 1 (codeVal 1)
    (fun _ s => (s.run.state = .stepping ∨ s.run.state = .stopping) ∧ (runAdmit true s).1 = none)
    (fun _ s =>
      let t := (runAdmit true s).2
      enterRunning { t with run := { t.run with
        stepLeft := 0, causes := t.run.causes.filter (fun c => !(c == 1 || c == 2 || c == 6)) } })) ∧
  (∀ r, WriteDone (.stop r) r 0x3400 1 (codeVal 2)
    (fun _ s => s.run.state = .running ∨ s.run.state = .stepping ∨ s.run.state = .recovering) (fun _ s => postStop 1 s)) ∧
  (∀ r, WriteDone (.stop r) r 0x3400 1 (codeVal 2) (fun _ s => s.run.state = .stopped) (fun _ s => s)) ∧
  (∀ r, WriteDone (.step r) r 0x3400 1 (codeVal 3)
    (fun _ s => (s.run.state = .stopped ∨ s.run.state = .parked) ∧ (runAdmit false s).1 = none)
    (fun _ s =>
      let t := (runAdmit false s).2
      startRun .stepping { t with run := { t.run with stepLeft := t.o 0x3400 2 } })) ∧
  (∀ r, WriteDone (.runTo r) r 0x3400 1 (codeVal 4)
    (fun _ s => (s.run.state = .stopped ∨ s.run.state = .parked) ∧ s.run.cycle.toNat < s.o 0x3400 3 ∧ (runAdmit false s).1 = none)
    (fun _ s =>
      let t := (runAdmit false s).2
      startRun .running { t with run := { t.run with runTo := some (s.o 0x3400 3) } })) ∧
  (∀ r, WriteDone (.runTo r) r 0x3400 1 (codeVal 4)
    (fun _ s => s.run.state = .running ∧ s.run.cycle.toNat < s.o 0x3400 3 ∧ (runAdmit true s).1 = none)
    (fun _ s =>
      let t := (runAdmit true s).2
      { t with run := { t.run with runTo := some (s.o 0x3400 3) } })) ∧
  (∀ r, WriteDone (.abort r) r 0x3400 1 (codeVal 5)
    (fun _ s => s.run.state ≠ .noDesign ∧ s.run.state ≠ .stopped ∧ s.run.state ≠ .faulted ∧ s.run.state ≠ .parked)
    (fun _ s => abortNow s)) ∧
  (∀ r, WriteDone (.abort r) r 0x3400 1 (codeVal 5)
    (fun _ s => s.run.state = .stopped ∨ s.run.state = .faulted ∨ s.run.state = .parked) (fun _ s => s)) ∧
  (∀ r, WriteDone (.designReset r) r 0x3400 1 (codeVal 6)
    (fun _ s => (s.run.state = .stopped ∨ s.run.state = .faulted ∨ s.run.state = .parked) ∧
      ¬ (s.img.hasFar = true ∧ s.o 0x6100 6 = 0)) (fun _ s => designResetNow s)) ∧
  (∀ r, WriteDone (.park r) r 0x3400 1 (codeVal 7) (fun _ s => s.run.state = .stopped)
    (fun _ s =>
      let t := dropTx (targetOff (checkpointNow 4 s))
      setRunState .parked { t with run := { t.run with
        phase := .idle, released := false, heldNow := 0, timedOut := false, lowSince := none } })) ∧
  (∀ r, WriteDone (.stateLoad r) r 0x3400 1 (codeVal 8) (fun _ s => s.run.state = .stopped ∨ s.run.state = .faulted)
    (fun _ s => initialState 3 (mapLanes (fun _ x => { x with nxt := x.cur, badNxt := x.badCur }) s)))

/-- R156: a command that is not accepted in the current state is answered with BUSY when the state is RUNNING, STEPPING, STOPPING,
WAITING or RECOVERING, and with BAD_VALUE in any other state. R159: RUN_TO with 3400h:03 not greater than the counter is refused with
BAD_VALUE (in a state that accepts RUN_TO). -/
def Obligations.RunCommandsAreRefused : Prop :=
  (∀ (n : Nat) (c : Req → Instr) (r : Req),
    (n, c) ∈ [(1, Instr.run), (2, Instr.stop), (3, Instr.step), (4, Instr.runTo), (5, Instr.abort), (6, Instr.designReset),
      (7, Instr.park), (8, Instr.stateLoad)] →
    WriteRefused (c r) r 0x3400 1 (codeVal n) .busy (fun _ s => commandAccepted n s.run.state = false ∧
      s.run.state ∈ [.running, .stepping, .stopping, .waiting, .recovering]) ∧
    WriteRefused (c r) r 0x3400 1 (codeVal n) .badValue (fun _ s => commandAccepted n s.run.state = false ∧
      s.run.state ∉ [.running, .stepping, .stopping, .waiting, .recovering])) ∧
  ∀ r : Req, WriteRefused (.runTo r) r 0x3400 1 (codeVal 4) .badValue
    (fun _ s => commandAccepted 4 s.run.state = true ∧ s.o 0x3400 3 ≤ s.run.cycle.toNat)

/-! ### Clocks (chapters 2 and 12) -/

/-- The writes of the clock objects, with the effect of each: 3460h:02 is set, and its change starts, is scheduled, or waits for
the ramp in progress (R184, R855); 2010h:01 is set, takes back a change that is under way, and otherwise starts the ramp down when the step PLLs
run, after a ramp that runs already (R715); 2050h:01-03 is set and CKOUT follows (R719); 2030h:01 is set, each newly set block closes or, while its DMA engine carries out a descriptor, waits for it (R717), and cores 1 to 3 run
again when their bit is cleared (R800).
(Model's choice: CKOUT and sources: log 56.) -/
def Obligations.ClockWritesComplete : Prop :=
  (∀ r v, WriteDone (.stepFreqRequest r v) r 0x3460 2 v
    (fun _ s => 400000 ≤ natBE v.data ∧ natBE v.data ≤ 1600000 ∧ natBE v.data % 12500 = 0 ∧ s.o 0x3460 4 ≠ 1 ∧ s.clk.fosc = false ∧
      (s.o 0x3460 3 = 0 ∨ s.run.cycle.toNat < s.o 0x3460 3) ∧ ckoutLifted s (natBE v.data) = false)
    (fun _ s =>
      identityChanged (freqState ({ s with clk := { s.clk with want := true } }.setO 0x3460 2 (natBE v.data))))) ∧
  (∀ r v, WriteDone (.stepRefWrite r v) r 0x2010 1 v (fun _ s => natBE v.data ≤ 1 ∧ natBE v.data = s.o 0x2010 1) (fun _ s => s)) ∧
  (∀ r v, WriteDone (.stepRefWrite r v) r 0x2010 1 v
    (fun _ s => natBE v.data ≤ 1 ∧ natBE v.data ≠ s.o 0x2010 1 ∧ s.clk.newRef ≠ some (natBE v.data) ∧ stepPllsRun s = true)
    (fun _ s =>
      let t := s.setO 0x2010 1 (natBE v.data)
      let t := { t with clk := { t.clk with newRef := some (s.o 0x2010 1) } }
      if s.clk.ramp.isSome then t else sourceDown t)) ∧
  (∀ r v, WriteDone (.stepRefWrite r v) r 0x2010 1 v
    (fun _ s => natBE v.data ≤ 1 ∧ natBE v.data ≠ s.o 0x2010 1 ∧ s.clk.newRef ≠ some (natBE v.data) ∧ stepPllsRun s = false)
    (fun _ s => s.setO 0x2010 1 (natBE v.data))) ∧
  (∀ r v, WriteDone (.stepRefWrite r v) r 0x2010 1 v
    (fun _ s => natBE v.data ≤ 1 ∧ natBE v.data ≠ s.o 0x2010 1 ∧ s.clk.newRef = some (natBE v.data))
    (fun _ s =>
      let t := s.setO 0x2010 1 (natBE v.data)
      { t with clk := { t.clk with newRef := none } })) ∧
  (∀ r sub v src dv on, WriteDone (.ckoutWrite r sub v) r 0x2050 sub v
    (fun _ s => src = (if sub = 1 then natBE v.data else s.o 0x2050 1) ∧ dv = (if sub = 2 then natBE v.data else s.o 0x2050 2) ∧
      on = (if sub = 3 then natBE v.data == 1 else s.o 0x2050 3 == 1) ∧ src ≤ 15 ∧ 0 < dv ∧ dv ≤ 65536 ∧
      (on = true → ckoutHz s src ≤ 400000000 * dv))
    (fun _ s => (s.setO 0x2050 sub (natBE v.data)).emit (.ckout (if on then src else 2 ^ 8) dv))) ∧
  (∀ r v m new, WriteDone (.gateForced r v) r 0x2030 1 v
    (fun _ s => m = natLE v.data ∧ m < 2 ^ 12 ∧ new = (ones 12 m).filter (fun b => !(bitOf (s.o 0x2030 1) b)) ∧
      new.any (gateBusy s) = false)
    (fun _ s =>
      let t := (s.setO 0x2030 1 m).setO 0x2030 2 (s.o 0x2030 2 &&& m)
      let t := { t with host := { t.host with gating := t.host.gating.filter (fun x => bitOf m x.1) } }
      let t := new.foldl (fun t b => gateBlock b t) t
      let back := if bitOf (s.o 0x2030 1) 11 && !(bitOf m 11) then t.o 0x8820 1 &&& 14 else 0
      coreStart back t))

/-- The events of the clocks, where each acts. One Taper increment of a ramp (R711); the end of a commanded ramp (R185); a lost or
restored reference, whose bit of 2010h:02 follows it and which moves root 8 between WICK's crystal and the on-die oscillator when it is XTB (R700, R701, R705); a failed PLL with its reference present (R706, Table 12-3); a forced root (R707, R708).
(Model's choice: source numbers and forced roots: logs 56, 57.) -/
def Obligations.ClockEventsComplete : Prop :=
  (∀ (s : State) (q : Ramp), s.clk.ramp = some q → q.i < q.n →
    exec .taperIncrement s = .next
      (({ s with clk := { s.clk with ramp := some { q with i := q.i + 1 } } }).setO 0x3460 1 (rampFreq q.f0 q.f1 q.n (q.i + 1)))) ∧
  (∀ (s : State) (q : Ramp), s.clk.ramp = some q → q.n ≤ q.i → q.kind = 0 → s.clk.newRef = none →
    exec .taperRampDone s = .next
      (let t := ((endRamp s).setO 0x2028 2 q.n).setO 0x2028 3 (4 * q.n)
       freqChanged (freqState t))) ∧
  (∀ (src : RefSrc) (s : State), (if src = .xtb then s.clk.xtbLost else refMissing s src) = false → refWatched s src = true →
    ∃ t, exec (.referenceLost src) s = .next t ∧ t.o 0x2010 2 = putBit (s.o 0x2010 2) (refNo src) false ∧
      (src = .xtb → t.o 0x2010 3 = 0) ∧ t.run = s.run ∧ t.lanes = s.lanes ∧ t.mem = s.mem) ∧
  (∀ (src : RefSrc) (s : State), (if src = .xtb then s.clk.xtbLost else refMissing s src) = true →
    ∃ t, exec (.referenceRestored src) s = .next t ∧ t.o 0x2010 2 = putBit (s.o 0x2010 2) (refNo src) true ∧
      (src = .xtb → t.o 0x2010 3 = 1) ∧ t.run = s.run ∧ t.lanes = s.lanes ∧ t.mem = s.mem) ∧
  (∀ (p : Nat) (s : State), p < 8 → refMissing s (pllRef s p) = false → (pllState s p = 1 ∨ pllState s p = 2) →
    exec (.pllFailed p) s = .next
      (let t := raise 0x2023 (pU32 p) (setPll p 4 s)
       if p < 4 then toFosc t else if p = 4 then forceRoot 4 (ilyanRootLost t) else if p = 5 then forceRoot 5 (dramRootLost t) else t)) ∧
  (∀ (n : Nat) (s : State), n < 9 → (2 ≤ s.pwr.mode ∨ s.pwr.mode = 1 ∧ n = 8) →
    exec (.clockForced n) s = .next (forceRoot n (if n < 4 ∧ s.clk.newRef = none then toFosc s else s)))

/-- R186: a request outside 400,000 to 1,600,000 kHz, or not a multiple of 12,500 kHz, is refused with BAD_VALUE. R187: a request while
3460h:04 is 1 is refused with BUSY (one that R186 does not refuse). R720: one that would lift an enabled CKOUT above 400 MHz is refused
with BAD_VALUE. -/
def Obligations.StepFrequencyRequestsAreRefused : Prop :=
  ∀ r v,
    WriteRefused (.stepFreqRequest r v) r 0x3460 2 v .badValue
      (fun _ _ => natBE v.data < 400000 ∨ 1600000 < natBE v.data ∨ natBE v.data % 12500 ≠ 0) ∧
    WriteRefused (.stepFreqRequest r v) r 0x3460 2 v .badValue (fun _ s => s.o 0x3460 4 ≠ 1 ∧ s.clk.fosc = false ∧ ckoutLifted s (natBE v.data) = true) ∧
    WriteRefused (.stepFreqRequest r v) r 0x3460 2 v .busy
      (fun _ s => 400000 ≤ natBE v.data ∧ natBE v.data ≤ 1600000 ∧ natBE v.data % 12500 = 0 ∧ s.o 0x3460 4 = 1)

/-! ### Lanes and dictionaries (chapter 1) -/

/-- R16: the result of a lane at a step is bit i of the truth table TT[FN], with i = 32·A5 + 16·A4 + 8·A3 + 4·A2 + 2·A1 + A0 and Ax the
bit that the lane reads from the address in field Ax. The result goes into the results of the step; everything else of the word follows. -/
def Obligations.LaneResultIsTruthTableBit : Prop :=
  ∀ (step word : Nat) (inj imps : List Nat) (ll : Nat) (o : LaneOut) (s s1 s2 : State) (w : BitVec 128) (tt : Word64) (i : Nat),
    fetchWord (physLane s ll) word s = (some w, s1) →
    fetchEntry (physLane s ll / 64) (wFn w)
      (((List.range 6).map (wA w)).foldl (fun t a => checkOperand (physLane s ll) (s1.lane (physLane s ll)) a t) s1) = (some tt, s2) →
    let a (x : Nat) : Nat := (readBit s2 inj ll (s1.lane (physLane s ll)) (wA w x)).toNat
    i = 32 * a 5 + 16 * a 4 + 8 * a 3 + 4 * a 2 + 2 * a 1 + a 0 →
    (laneWord step word inj imps ll (o, s)).1.res = if tt.getLsbD i then o.res ++ [ll] else o.res

/-- R21 and R22: the result of a word whose DST is in 0-383 is written, when its write lands, into the next plane only with ST, and into
both planes without it; with NOP it is not written. -/
def Obligations.ResultWritesItsPlanes : Prop :=
  ∀ (p : Nat) (w : BitVec 128) (r cap imp : Bool) (s : State), wNop w = false → wDst w < 384 →
    ∃ q rest, wordWrites p w r cap imp = q :: rest ∧
      applyWrite s q = s.setLane p
        (if wSt w then { s.lane p with nxt := putBv (s.lane p).nxt (wDst w) r }
         else { s.lane p with cur := putBv (s.lane p).cur (wDst w) r, nxt := putBv (s.lane p).nxt (wDst w) r })

/-- The rows that store the contents of the lanes, in every form: an instruction word goes into the selected lane (R79), an entry into
the shadow bank, which is unsealed, or into the active bank of a module that is not in a run, which takes a checkpoint (R47). A write of
local bits goes into one bit, or into addresses 0-1007 (R103, R104). A deposit waits for the next commit in a run (R107), and is applied
at once otherwise (R108).
(Model's choice: writes while PARKED: log 65.) -/
def Obligations.LaneContentsWritesComplete : Prop :=
  (∀ r p, FormDone (.imWordWrite r) r 0x3010 3 4 (blockTooLong 0x3010 4 2048)
    (fun _ d x s => addrLane s (selOf s x.id 0x3010 1) = some p ∧
      ((chunks 16 d).map (fun o => BitVec.ofNat 128 (natBE o))).any wReserved = false)
    (fun _ d x s =>
      let w := selOf s x.id 0x3010 2
      let t := (((chunks 16 d).map (fun o => BitVec.ofNat 128 (natBE o))).zipIdx).foldl (fun t y =>
        let t := t.setIm p (w + y.2) y.1
        { t with lanes := { t.lanes with imHost := nsAdd (2048 * p + w + y.2) t.lanes.imHost } }) s
      { t with img := { t.img with touched := true } })) ∧
  (∀ r pc b, FormDone (.dictEntryWrite r) r 0x3100 4 5 (blockTooLong 0x3100 5 1024)
    (fun _ _ x s => addrCluster s (selOf s x.id 0x3100 1) = some pc ∧ 16 ≤ selOf s x.id 0x3100 3 ∧
      (selOf s x.id 0x3100 2 = 1 ∧ activeAnswer s = none ∧ b = dictActive s pc ∨
       selOf s x.id 0x3100 2 ≠ 1 ∧ shadowLocked false (pc / 17) s = false ∧ b = 1 - dictActive s pc))
    (fun _ d x s =>
      let e := selOf s x.id 0x3100 3
      let t := (((chunks 8 d).map natBE).zipIdx).foldl (fun t y =>
        let t := t.setDict pc b (e + y.2) (BitVec.ofNat 64 y.1)
        { t with lanes := { t.lanes with dictHost := nsAdd (dictKey pc b (e + y.2)) t.lanes.dictHost } }) s
      let t := { t with img := { t.img with touched := true } }
      if selOf s x.id 0x3100 2 = 1 then checkpointFresh 1 4 t
      else { t with lanes := { t.lanes with dictSealed := t.lanes.dictSealed.filter (fun y => y != pc) } })) ∧
  (∀ r v p, WriteDone (.lbsWrite r (.word v)) r 0x3200 4 v
    (fun x s => addrLane s (selOf s x.id 0x3200 1) = some p ∧ selOf s x.id 0x3200 3 ≠ 2 ∧ selOf s x.id 0x3200 2 < 1008)
    (fun x s =>
      let a := selOf s x.id 0x3200 2
      let b := natBE v.data == 1
      let t := s.setLane p (if selOf s x.id 0x3200 3 = 1 ∧ a < 384 then (s.lane p).writeNext a b else (s.lane p).write a b)
      if a < 384 then patchPark (selOf s x.id 0x3200 1) a b t else t)) ∧
  (∀ r v, WriteDone (.lbsWrite r (.run v)) r 0x3200 5 v
    (fun x s => addrLane s (selOf s x.id 0x3200 1) ≠ none ∧ selOf s x.id 0x3200 3 ≠ 2)
    (fun x s => (writeLbs x.id ((List.range 1008).map (fun i => (i, (natLE v.data).testBit i))) true s).2)) ∧
  (∀ r v, WriteDone (.deposit r v) r 0x3210 3 v
    (fun x s => mayRead s x.id = true ∧ selOf s x.id 0x3210 2 ≤ 383 ∧ addrLane s (selOf s x.id 0x3210 1) ≠ none ∧
      s.lanes.deposits.length < 256 ∧ inRun s = true)
    (fun x s => { s with lanes := { s.lanes with deposits := s.lanes.deposits ++
      [{ lane := selOf s x.id 0x3210 1, addr := selOf s x.id 0x3210 2, bit := natBE v.data == 1 }] } })) ∧
  (∀ r v, WriteDone (.deposit r v) r 0x3210 3 v
    (fun x s => mayRead s x.id = true ∧ selOf s x.id 0x3210 2 ≤ 383 ∧ addrLane s (selOf s x.id 0x3210 1) ≠ none ∧
      s.lanes.deposits.length < 256 ∧ inRun s = false)
    (fun x s =>
      let d : Deposit := { lane := selOf s x.id 0x3210 1, addr := selOf s x.id 0x3210 2, bit := natBE v.data == 1 }
      patchPark d.lane d.addr d.bit (depositAt s.run.cycle.toNat (discardKept s) d)))

/-- R49: when the value written to 3100h:06 equals the CRC of the selected cluster's shadow bank, the module seals the bank and answers
OK; otherwise it answers BAD_VALUE and leaves the bank unsealed. The seal reads every entry of the bank, and what it corrects counts
(R44). A pending swap may take effect at the seal outside a run (R51). -/
def Obligations.DictionarySealNeedsTheCrc : Prop :=
  ∀ r v pc,
    WriteDone (.dictSeal r v) r 0x3100 6 v
      (fun x s => addrCluster s (selOf s x.id 0x3100 1) = some pc ∧ natBE v.data = dictCrc s pc (1 - dictActive s pc))
      (fun _ s =>
        let t := countDictReads pc (1 - dictActive s pc) s
        settleSwaps { t with lanes := { t.lanes with dictSealed := nsAdd pc t.lanes.dictSealed } }) ∧
    WriteAnswered (.dictSeal r v) r 0x3100 6 v .badValue
      (fun x s => addrCluster s (selOf s x.id 0x3100 1) = some pc ∧ natBE v.data ≠ dictCrc s pc (1 - dictActive s pc))
      (fun _ s => countDictReads pc (1 - dictActive s pc) s)

/-! ### Swaps and the exchange (chapters 1 and 3) -/

/-- The requests and cancels of the bank swaps. A request fixes its scopes and is answered OK when every shadow bank in scope is sealed,
and PENDING otherwise (R52, R53, R221); a joined one replaces what is pending (R223). A cancel of either kind drops a joined swap whole
(R54, R223). Outside a run a swap whose scope is sealed takes effect at once (R51).
(Model's choice: scopes: log 16.) -/
def Obligations.SwapCommandsComplete : Prop :=
  (∀ r st t, WriteAnswered (.dictSwapRequest r) r 0x3110 2 (codeVal 1) st
    (fun _ s => s.run.state ≠ .recovering ∧ s.dswap.joined = false ∧ s.xswap.joined = false ∧
      t = { s with dswap := { state := 2, scope := s.o 0x3110 1, joined := false } } ∧ st = if dictReady t then .ok else .pending)
    (fun _ _ => settleSwaps t)) ∧
  (∀ r st t, WriteAnswered (.xswapRequest r) r 0x3900 2 (codeVal 1) st
    (fun _ s => s.run.state ≠ .recovering ∧ s.dswap.joined = false ∧ s.xswap.joined = false ∧
      t = { s with xswap := { state := 2, scope := s.o 0x3900 1, joined := false } } ∧ st = if exsReady t then .ok else .pending)
    (fun _ _ => settleSwaps t)) ∧
  (∀ r st t, WriteAnswered (.joinedSwapRequest r) r 0x3900 2 (codeVal 3) st
    (fun _ s => s.run.state ≠ .recovering ∧
      t = { s with dswap := { state := 2, scope := s.o 0x3110 1, joined := true },
                   xswap := { state := 2, scope := s.o 0x3900 1, joined := true } } ∧
      st = if dictReady t && exsReady t then .ok else .pending)
    (fun _ _ => settleSwaps t)) ∧
  (∀ r, WriteDone (.dictSwapCancel r) r 0x3110 2 (codeVal 2) (fun _ s => s.dswap.joined = false ∧ s.xswap.joined = false)
    (fun _ s => { s with dswap := if s.dswap.waiting then {} else s.dswap })) ∧
  (∀ r, WriteDone (.xswapCancel r) r 0x3900 2 (codeVal 2) (fun _ s => s.dswap.joined = false ∧ s.xswap.joined = false)
    (fun _ s => { s with xswap := if s.xswap.waiting then {} else s.xswap })) ∧
  (∀ r c sub idx, (c, idx, sub) ∈ [(Instr.dictSwapCancel r, 0x3110, 2), (Instr.xswapCancel r, 0x3900, 2)] →
    WriteDone c r idx sub (codeVal 2) (fun _ s => s.dswap.joined = true ∨ s.xswap.joined = true)
      (fun _ s => { s with dswap := if s.dswap.waiting then {} else s.dswap, xswap := if s.xswap.waiting then {} else s.xswap }))

/-- The rows that store and seal the exchange schedule: an entry without reserved bits and with valid fields goes into the selected bank,
a shadow bank is unsealed by it (R218), and the CRC of the shadow bank seals it. -/
def Obligations.ExchangeWritesComplete : Prop :=
  (∀ r tile b, FormDone (.exsEntryWrite r) r 0x3810 4 5 (blockTooLong 0x3810 5 2048)
    (fun _ d x s => addrTile (selOf s x.id 0x3810 1) = some tile ∧
      ((chunks 384 d).map (fun o => BitVec.ofNat 3072 (natBE o))).any (fun v => decide (2 ^ 3024 ≤ v.toNat) || !(exsValid v)) = false ∧
      (selOf s x.id 0x3810 2 = 1 ∧ activeAnswer s = none ∧ b = exsActive s tile ∨
       selOf s x.id 0x3810 2 ≠ 1 ∧ shadowLocked true tile s = false ∧ b = 1 - exsActive s tile))
    (fun _ d x s =>
      let t := (((chunks 384 d).map (fun o => BitVec.ofNat 3072 (natBE o))).zipIdx).foldl
        (fun t y => t.setExs tile b (selOf s x.id 0x3810 3 + y.2) y.1) s
      let t := { t with img := { t.img with touched := true } }
      if selOf s x.id 0x3810 2 = 1 then checkpointFresh 1 4 t
      else { t with ex := { t.ex with sealed := t.ex.sealed.filter (fun y => y != tile) } })) ∧
  (∀ r v tile, WriteDone (.exsSeal r v) r 0x3810 6 v
    (fun x s => addrTile (selOf s x.id 0x3810 1) = some tile ∧ natBE v.data = exsCrc s tile (1 - exsActive s tile))
    (fun _ s =>
      let t := countExsReads tile (1 - exsActive s tile) s
      settleSwaps { t with ex := { t.ex with sealed := nsAdd tile t.ex.sealed } })) ∧
  (∀ r v tile, WriteAnswered (.exsSeal r v) r 0x3810 6 v .badValue
    (fun x s => addrTile (selOf s x.id 0x3810 1) = some tile ∧ natBE v.data ≠ exsCrc s tile (1 - exsActive s tile))
    (fun _ s => countExsReads tile (1 - exsActive s tile) s))

/-! ### Ilyan ports (chapter 3) -/

/-- The rows that bring a port up and down, where they act: 3A0nh:01 starts training or turns the port off; training that finds nothing
to refuse, with the lanes in order or in reversed order (R227) and with those that the health map has as failed (R769), links the port and the two ends exchange IDENTITY (R243-R245); 1 ms after it was lost a port trains again, and a data lane
without lock loses the port while the spare is in use (R248); a received or sent IDENTITY judges the port (R245, R246); 3830h:03 is set
and announced (R242). -/
def Obligations.PortRowsComplete : Prop :=
  (∀ r p v, p < 8 → WriteDone (.linkEnableWrite r p v) r (0x3A00 + p) 1 v (fun _ _ => True)
    (fun _ s => if natBE v.data = 1 then startTraining p (s.setO (0x3A00 + p) 1 1) else portOff p (s.setO (0x3A00 + p) 1 0))) ∧
  (∀ (p : Nat) (r q : TrainResult) (i : Identity) (s : State), p < 8 → (s.port p).state = .training →
    q = { r with failedLanes := nsOf (r.failedLanes ++ failedLanesOf s p 0), sendFailed := nsOf (r.sendFailed ++ failedLanesOf s p 1) } →
    orderFits q id = true ∨ orderFits q reversedLane = true →
    q.failedLanes.length < 2 → q.sendFailed.length < 2 → q.drift = false → transitOf q.echoGone q.hold + 8 ≤ 192 →
    exec (.trainingDone p r i) s = .next
      (let t := modPort p (fun y => { y with
         reversed := !(orderFits q id) && orderFits q reversedLane, polarity := q.polarity, transit := transitOf q.echoGone q.hold, trainingTime := q.micros,
         spareFor := match q.failedLanes with | [l] => if l < 8 then l else 15 | _ => 15,
         txSpareFor := match q.sendFailed with | [l] => if l < 8 then l else 15 | _ => 15, txSwitch := none }) s
       let t := (modPort p (fun y => { y with state := .linked, reason := 0 }) t).incO (0x3A00 + p) 0x0D 1
       takeIdentity p i (queueIdentity p t))) ∧
  (∀ (p : Nat) (i : Identity) (s : State), p < 8 → framed s p = true →
    exec (.identityReceived p i) s = .next (evalPort p
      (modPort p (fun q => { q with partner := some i, partnerId := i.moduleId, partnerPort := i.port }) s))) ∧
  (∀ (p : Nat) (s : State), p < 8 → framed s p = true →
    exec (.identitySend p) s = .next (evalPort p (queueIdentity p s))) ∧
  (∀ (p : Nat) (s : State), p < 8 → (s.port p).state = .lost → (s.port p).lostAt + 1000000 ≤ s.now →
    exec (.portRetrain p) s = .next (startTraining p (modPort p (fun q => { q with state := .off }) s))) ∧
  (∀ (p lane : Nat) (s : State), p < 8 → lane < 8 → framed s p = true → (s.port p).spareFor ≠ 15 →
    exec (.symbolLockLost p lane) s = .next (loseP p s)) ∧
  (∀ r v, WriteDone (.systemMembersWrite r v) r 0x3830 3 v (fun _ s => bitOf (natLE v.data) s.moduleId = true)
    (fun _ s => identityChanged (s.setO 0x3830 3 (natLE v.data))))

/-- R245: a LINKED port whose applied image enables it for exchange enters EXCHANGE when codes 5-10 of Table 3-11 all pass. When one
fails, the port enters REFUSED and reports the lowest failing code. -/
def Obligations.LinkedPortIsJudged : Prop :=
  ∀ (p : Nat) (i : Identity) (s : State), (s.port p).state = .linked → (s.port p).enabled = true →
    (s.port p).partner = some i →
    let a := ownIdentity s p
    let codes : List (Nat × Bool) := [(5, a.moduleId == i.moduleId), (6, a.systemId != i.systemId),
      (7, a.imageTag != i.imageTag || a.imageTag == 0), (8, a.freqCode != i.freqCode), (9, a.guardLead != 2 || i.guardLead != 2),
      (10, a.members != i.members || !(bitOf a.members a.moduleId) || !(bitOf a.members i.moduleId))]
    match codes.find? (fun c => c.2) with
    | none => ((evalPort p s).port p).state = .exchange
    | some c => ((evalPort p s).port p).state = .refused ∧ ((evalPort p s).port p).reason = c.1

/-- A received superframe, whatever the state: on a port that is not framed nothing happens. On a framed port the counters of Table
3-18 rise by what its decoder met. A header whose check fails, or with a reserved TYPE, is counted and nothing else of it is taken; the
eighth failing header in a row loses the port (R236, R248). Otherwise the receiver follows SPARE_FOR (R256); a FILL superframe is
counted; a DATA superframe on a port in EXCHANGE, in a run or while a sweep or commit window is open, is compared with this end's own tag and its sweep slots wait to be released
(R250-R252, R268); and of either kind the sideband words that no uncorrectable codeword holds are taken in the order of their slots
(R237). A superframe for a port that does not exist stops by name.
(Model's choice: the line code: log 74; the sideband: log 66.) -/
def Obligations.SuperframeReceivedCompletes : Prop :=
  ∀ (f : RxSuperframe) (s : State),
    (8 ≤ f.port → exec (.superframeReceived f) s = .fault .absentUnit) ∧
    (f.port < 8 → framed s f.port = false → exec (.superframeReceived f) s = .next s) ∧
    (f.port < 8 → framed s f.port = true →
    let ix := 0x3B00 + f.port
    let a := ((f.corrected.zipIdx).foldl (fun s x =>
      if x.2 < 8 then s.incO ix (x.2 + 1) x.1
      else if x.2 = 8 ∧ (s.port f.port).spareFor = 15 then s.incO ix 9 x.1 else s) s)
    let bad := (nsOf f.badWords).filter (fun i => decide (i < 7))
    let b := ((a.incO ix 0x0A 7).incO ix 0x0B (min 7 f.correctedWords)).incO ix 0x0C bad.length
    (f.hcrc ≠ crc16 92 (sfHeader f) →
      exec (.superframeReceived f) s = .next
        (let c := b.incO ix 0x0C 1
         let d := modPort f.port (fun q => { q with badRun := (c.port f.port).badRun + 1 }) c
         if 8 ≤ (c.port f.port).badRun + 1 then loseP f.port d else d)) ∧
    (f.hcrc = crc16 92 (sfHeader f) → 2 ≤ f.typ →
      exec (.superframeReceived f) s = .next (modPort f.port (fun q => { q with badRun := 0 }) (b.incO ix 0x0C 1))) ∧
    (f.hcrc = crc16 92 (sfHeader f) → f.typ < 2 →
      let c := followSpare f.port f.spareFor (modPort f.port (fun q => { q with badRun := 0 }) b)
      let d := if f.typ = 0 then c.incO ix 0x0E 1
        else if (c.port f.port).state = .exchange ∧ (inRun c = true ∨ c.run.phase ≠ .idle) then takeData f bad c else c
      exec (.superframeReceived f) s = .next ((f.slots.zipIdx).foldl (fun t x =>
        if bad.any (fun i => codewordHoldsSide i x.2) then t else sideWord f.port t x.1.side) d)))

/-- The control and guard messages of a port, in every state. A message for a port that does not exist stops by name; one on a port
that is not framed (for an echo: one that is off or lost; for a guard message: one not in EXCHANGE) changes nothing. Otherwise STATUS
shows the partner holding, and stopped where its bit says so (R239); STOPPED_FWD and FAULT_FWD are recorded, the first FAULT_FWD of an
origin in a commit window raises 3F05h, and both are sent on, once in the window, on every port in EXCHANGE but the one they came by
(R240, R270); ECHO is answered and its reply gives the transit, which refuses a framed port when fewer than 8 steps are left (R243,
R244); SPARE_REQ for a data lane schedules the switch of the transmitter while its spare is free (R255) and is sent, while the spare of
that direction is free, for a lane with more corrected symbols than its limit or without lock, if the spare has fewer errors than the
limit (R254); LANE_SPARED moves a free receiver to the spare and raises 3B81h (R256, R257); the words of a guard message are taken in
order: a first word begins one, sixteen make one, and a message without a first word or cut short is discarded and counted (R262, R265).
(Model's choice: guard messages: log 66.) -/
def Obligations.PortMessagesComplete : Prop :=
  (∀ (p arg : Nat) (s : State), p < 8 → exec (.status p arg) s = .next
    (if framed s p = true then
       let t := modPort p (fun q => { q with holding := bitOf arg 9 }) s
       if bitOf arg 8 = true then
         forwardOrigin false (arg % 128) (some p) { t with ex := { t.ex with stopSeen := nsAdd (arg % 128) t.ex.stopSeen } }
       else t
     else s)) ∧
  (∀ (p origin : Nat) (s : State), p < 8 → exec (.stoppedFwd p origin) s = .next
    (if framed s p = true then
       forwardOrigin false (origin % 128) (some p) { s with ex := { s.ex with stopSeen := nsAdd (origin % 128) s.ex.stopSeen } }
     else s)) ∧
  (∀ (p origin : Nat) (s : State), p < 8 → exec (.faultFwd p origin) s = .next
    (if framed s p = true then
       let t := s.setO 0x3F00 6 (origin % 128)
       if (origin % 128) ∈ s.ex.faultSeen then forwardOrigin true (origin % 128) (some p) t
       else forwardOrigin true (origin % 128) (some p) (raise 0x3F05 (pU8 (origin % 128) ++ pU8 p ++ pCycle t)
         { t with ex := { t.ex with faultSeen := nsAdd (origin % 128) t.ex.faultSeen } })
     else s)) ∧
  (∀ (fault : Bool) (o p q : Nat) (s : State), q < 8 → s.ex.ports.length = 8 →
    ((forwardOrigin fault o (some p) s).port q).ctl =
      if o ∉ (if fault then s.ex.faultFwd else s.ex.stopFwd) ∧ q ≠ p ∧ (s.port q).state = .exchange
      then (s.port q).ctl ++ [(if fault then 3 else 2) * 1024 + o % 1024] else (s.port q).ctl) ∧
  (∀ (p hold : Nat) (s : State), p < 8 → exec (.echo p hold) s = .next
    (if (s.port p).state = .off ∨ (s.port p).state = .lost then s
     else modPort p (fun q => { q with ctl := q.ctl ++ [7 * 1024 + hold % 1024] }) s)) ∧
  (∀ (p gone hold : Nat) (s : State), p < 8 → exec (.echoReply p gone hold) s = .next
    (if (s.port p).state = .off ∨ (s.port p).state = .lost then s
     else
       let tr := (gone - hold + 1) / 2 + 12
       let t := modPort p (fun q => { q with transit := tr }) s
       if framed s p = true ∧ 192 - tr < 8 ∧ ¬((s.port p).state = .refused ∧ (s.port p).reason ≤ 4) then
         let u := modPort p (fun q => { q with state := .refused, reason := 4 }) t
         if (s.port p).state = .refused then u else raise 0x3A83 (pU8 p ++ pU8 4 ++ pU8 (s.port p).partnerId) u
       else t)) ∧
  (∀ (p lane : Nat) (s : State), p < 8 → exec (.spareReq p lane) s = .next
    (if framed s p = true ∧ lane < 8 ∧ (s.port p).txSpareFor = 15 ∧ (s.port p).txSwitch = none then
       modPort p (fun q => { q with txSwitch := some lane }) s
     else s)) ∧
  (∀ (p lane symbols : Nat) (lock : Bool) (errs : Nat) (s : State), p < 8 →
    exec (.spareRequestSend p lane symbols lock errs) s = .next
      (if framed s p = true ∧ lane < 8 ∧ (s.port p).spareFor = 15 ∧ errs < s.o (0x3A00 + p) 0x0A ∧
          (s.o (0x3A00 + p) 0x0A < symbols ∨ lock = true) then
         modPort p (fun q => { q with ctl := q.ctl ++ [4 * 1024 + lane] }) s
       else s)) ∧
  (∀ (p lane : Nat) (s : State), p < 8 → exec (.laneSpared p lane) s = .next
    (if framed s p = true ∧ lane < 8 ∧ (s.port p).spareFor = 15 then
       let t := modPort p (fun q => { q with spareFor := lane }) s
       let u := if t.ex.test = some (p, lane) then t.setO 0x3C00 5 2 else suspectLane (18 * p + lane) t
       raise 0x3B81 (pU8 p ++ pU32 lane ++ pCycle u) u
     else s)) ∧
  (∀ (p : Nat) (ws : List Nat) (s : State), p < 8 → exec (.guardMessageReceived p ws) s = .next
    (if (s.port p).state = .exchange then ws.foldl (fun t w => guardWord p w t) s else s)) ∧
  (∀ (p w : Nat) (s : State), bitOf w 13 = true → guardWord p w s =
    modPort p (fun q => { q with guard := [w], guardSkip := 0 })
      (if (s.port p).guard = [] then s else s.incO (0x3B00 + p) 0x0D 1)) ∧
  (∀ (p w : Nat) (s : State), bitOf w 13 = false → (s.port p).guard = [] → guardWord p w s =
    if (s.port p).guardSkip = 0 then modPort p (fun q => { q with guard := [], guardSkip := 15 }) (s.incO (0x3B00 + p) 0x0D 1)
    else modPort p (fun q => { q with guard := [], guardSkip := (s.port p).guardSkip - 1 }) s) ∧
  (∀ (p w : Nat) (s : State), bitOf w 13 = false → (s.port p).guard ≠ [] → guardWord p w s =
    (let ws := (s.port p).guard ++ [w]
     if ws.length < 16 then modPort p (fun q => { q with guard := ws, guardSkip := 0 }) s
     else
       let t := modPort p (fun q => { q with guard := [], guardSkip := 0 }) s
       match cycleOfLow t (fld (guardBits ws) 192 16) with
       | none => t
       | some k => mergeGuard (stepsSinceC1 t) k (fld (guardBits ws) 64 128) (fld (guardBits ws) 0 64) t)) ∧
  ∀ (p : Nat) (s : State), 8 ≤ p → ∀ a b c lock e ws,
    exec (.status p a) s = .fault .absentUnit ∧ exec (.stoppedFwd p a) s = .fault .absentUnit ∧
    exec (.faultFwd p a) s = .fault .absentUnit ∧ exec (.echo p a) s = .fault .absentUnit ∧
    exec (.echoReply p a b) s = .fault .absentUnit ∧ exec (.spareReq p a) s = .fault .absentUnit ∧
    exec (.spareRequestSend p a c lock e) s = .fault .absentUnit ∧ exec (.laneSpared p a) s = .fault .absentUnit ∧
    exec (.guardMessageReceived p ws) s = .fault .absentUnit

/-- The lane test, where its rows act: the request takes the spare of the direction for the lane and tells the partner; a message of the
partner starts the test here too; an end with no bit error and the margins of step 5 passes; an abort returns the lane (R260).
(Model's choice: an abort while no test runs answers OK and changes nothing: log 66.) -/
def Obligations.LaneTestCompletes : Prop :=
  (∀ r p lane, WriteDone (.laneTestStart r) r 0x3C00 4 (codeVal 1)
    (fun _ s => p = s.o 0x3C00 1 ∧ lane = s.o 0x3C00 2 ∧ (s.port p).spareFor = 15 ∧ (s.port p).txSpareFor = 15 ∧
      (s.port p).txSwitch = none ∧ s.ex.test = none ∧ s.ex.testBack = none ∧ domState s (portDomain p) = 2 ∧
      ((s.port p).state = .linked ∨ (s.port p).state = .exchange))
    (fun _ s =>
      let t := { s with ex := { s.ex with test := some (p, lane) } }
      scheduleSpare p lane (sendCtl p 5 lane ((t.setO 0x3C00 5 1).setO 0x3C00 6 0)))) ∧
  (∀ r, WriteDone (.laneTestAbort r) r 0x3C00 4 (codeVal 2) (fun _ s => s.ex.test = none) (fun _ s => s)) ∧
  (∀ r p lane, WriteDone (.laneTestAbort r) r 0x3C00 4 (codeVal 2) (fun _ s => s.ex.test = some (p, lane))
    (fun _ s => endLaneTest p lane 3 (s.o 0x3C00 7) (sendCtl p 5 (0x300 + lane) s))) ∧
  (∀ (p lane errs mv mh : Nat) (s : State), s.ex.test = some (p, lane) →
    exec (.laneTestDone errs mv mh) s = .next
      (let pass := errs = 0 ∧ 15 ≤ mv ∧ 10 ≤ mh
       endLaneTest p lane (if pass then 1 else 2) (errs % 2 ^ 64)
         (sendCtl p 5 ((if pass then 0x100 else 0x200) + lane) ((s.setO 0x3C00 8 (mv % 256)).setO 0x3C00 9 (mh % 256))))) ∧
  (∀ (p arg errs : Nat) (s : State), p < 8 → framed s p = true → arg % 16 < 8 → fld arg 4 4 = 0 → fld arg 8 2 = 0 → s.ex.test = none →
    s.ex.testBack = none → (s.port p).txSpareFor = 15 → (s.port p).txSwitch = none →
    exec (.laneTest p arg errs) s = .next (scheduleSpare p (arg % 16)
      ((({ s with ex := { s.ex with test := some (p, arg % 16) } }).setO 0x3C00 5 1).setO 0x3C00 6 0)))

/-- R275: a write to 3830h:03 that does not include 3830h:01 is refused with BAD_VALUE. R259: a lane test request is refused with BUSY
when the spare of either direction is already in use, or when a test is running on any port (a test that is returning its lanes
included). It is refused with DOMAIN_OFF when the port's domain is off, and with BAD_VALUE when the port is not in LINKED or EXCHANGE. -/
def Obligations.PortRequestsAreRefused : Prop :=
  (∀ r v, WriteRefused (.systemMembersWrite r v) r 0x3830 3 v .badValue (fun _ s => bitOf (natLE v.data) s.moduleId = false)) ∧
  ∀ (r : Req) (used : State → Prop),
    (∀ s, used s ↔ ((s.port (s.o 0x3C00 1)).spareFor ≠ 15 ∨ (s.port (s.o 0x3C00 1)).txSpareFor ≠ 15 ∨
      (s.port (s.o 0x3C00 1)).txSwitch ≠ none ∨ s.ex.test ≠ none ∨ s.ex.testBack ≠ none)) →
    WriteRefused (.laneTestStart r) r 0x3C00 4 (codeVal 1) .busy (fun _ s => used s) ∧
    WriteRefused (.laneTestStart r) r 0x3C00 4 (codeVal 1) .domainOff
      (fun _ s => ¬ used s ∧ domState s (portDomain (s.o 0x3C00 1)) ≠ 2) ∧
    WriteRefused (.laneTestStart r) r 0x3C00 4 (codeVal 1) .badValue
      (fun _ s => ¬ used s ∧ domState s (portDomain (s.o 0x3C00 1)) = 2 ∧
        (s.port (s.o 0x3C00 1)).state ≠ .linked ∧ (s.port (s.o 0x3C00 1)).state ≠ .exchange)

/-! ### Design memories (chapter 4) -/

/-- The rows that store design-memory contents: words of a bank or of the far region wait in the host write queue in a run (R295) and
are stored at once otherwise, with a record for the stimulus log (R297, R299), whenever the queue has room for them (R298). -/
def Obligations.MemoryContentsWritesComplete : Prop :=
  (∀ r tile, FormDone (.dmWordWrite r) r 0x4200 4 5 (blockTooLong 0x4200 5 65536)
    (fun _ d x s => addrTile (selOf s x.id 0x4200 1) = some tile ∧ s.mem.hostQ.length + (bankHostWords tile d x s).length ≤ 1024)
    (fun _ d x s => queuedOrStored (bankHostWords tile d x s) s)) ∧
  (∀ r, FormDone (.farWordWrite r) r 0x4210 2 3 (fun d n s => blockTooLong 0x4210 3 (farSize s) d n s)
    (fun b d x s => (b = true → selOf s x.id 0x4210 1 < farSize s) ∧ s.mem.hostQ.length + (farHostWords d x s).length ≤ 1024)
    (fun _ d x s => queuedOrStored (farHostWords d x s) s))

/-- The other rows of the design memories: a port is bound to a cluster that no other port of the tile has, or unbound (R276); the
compatibility word is kept; an apply that Table 4-6 admits, with the stacks it sets to 0 on, begins and, when it completes, gives the layout, zeroes the regions whose
units changed, withdraws the checkpoints with the CHECKPOINT units and raises 4111h (R318-R320); far data arrive, far writes whose block
needs no copy retire (R414), and a corrected word is written back when R292 allows an access on the port that read it (R301, R313).
(Model's choice: payload of 4111h: log 58.) -/
def Obligations.MemoryRowsComplete : Prop :=
  (∀ r v tile sub, 2 ≤ sub → sub ≤ 0x0A → WriteDone (.portBindingWrite r sub v) r 0x4010 sub v
    (fun x s => addrTile (selOf s x.id 0x4010 1) = some tile ∧ natBE v.data ≤ 15 ∧
      (∀ q < 9, q ≠ sub - 2 → portOwner s tile q ≠ some (natBE v.data)))
    (fun _ s => { s with mem := { s.mem with owner := Sparse.set0 s.mem.owner (9 * tile + (sub - 2)) (natBE v.data + 1) } })) ∧
  (∀ r v tile sub, 2 ≤ sub → sub ≤ 0x0A → WriteDone (.portBindingWrite r sub v) r 0x4010 sub v
    (fun x s => addrTile (selOf s x.id 0x4010 1) = some tile ∧ natBE v.data = 255)
    (fun _ s => { s with mem := { s.mem with owner := Sparse.set0 s.mem.owner (9 * tile + (sub - 2)) 0 } })) ∧
  (∀ r v tile, WriteDone (.portBindingWrite r 0x0B v) r 0x4010 0x0B v (fun x s => addrTile (selOf s x.id 0x4010 1) = some tile)
    (fun _ s => { s with mem := { s.mem with compat := Sparse.set0 s.mem.compat tile (natLE v.data) } })) ∧
  (∀ r, WriteDone (.layoutApply r) r 0x4110 2 (codeVal 1) (fun _ s => layoutRefusal s = none ∧ ∀ c ∈ changedCodes s.mem.layout (pendingLayout s), c ≠ 0 →
      ∀ u ∈ unitsOf (pendingLayout s) c, gateShut s (13 + u / 32) = false)
    (fun _ s => { s with mem := { s.mem with applying := true, applyTo := pendingLayout s } })) ∧
  (∀ s : State, s.mem.applying = true →
    exec .layoutApplied s = .next
      (let l := s.mem.applyTo
       let ch := changedCodes s.mem.layout l
       let t := if ch.contains 3 then withdrawAll 6 s else s
       let t := dramZero (ch.flatMap (fun c => unitsOf l c)) { t with mem := { t.mem with layout := l, applying := false, applyTo := [] } }
       let t := if ch.contains 3 then { t with rew := { t.rew with log := [] } } else t
       raise 0x4111 ((List.range 8).flatMap (fun c => pU8 (unitsOf l c).length) ++ pU8 (ch.contains 3).toNat)
         (let t := if ch.contains 4 then { t with mem := { t.mem with farErr := [] } } else t
          if ch.contains 7 then { t with img := { t.img with planes := [], banks := [] } } else t))) ∧
  (∀ (tile : Nat) (failed : Bool) (s : State) (d : FarDel), tile < 128 → s.run.phase = .commit →
    s.mem.farDel.find? (fun d => d.tile == tile && !d.done && d.data.isSome) = some d →
    exec (.farDelivery tile failed) s = .next (farDeliver { d with ready := true, failed := d.failed || failed }
      (modFar tile d.cluster (fun x => { x with ready := true, failed := x.failed || failed }) s))) ∧
  (∀ (tile : Nat) (s : State), tile < 128 →
    exec (.farWriteRetired tile) s = .next { s with mem := { s.mem with farWrites := s.mem.farWrites.filter (fun t =>
      t != tile || s.mem.farWait.contains t) } }) ∧
  (∀ (bank word ab k : Nat) (s t : State), bank < 512 → k = bankKey bank (word % 65536) →
    s.mem.fixed.find? (fun x => x.1 == k) = some (k, ab) → portFree s (bank / 4) (2 * (bank % 4) + ab) = true →
    t = takePort (bank / 4) (2 * (bank % 4) + ab) s →
    exec (.correctionWriteBack bank word) s = .next { t with mem := { t.mem with
      bankErr := Sparse.erase t.mem.bankErr k, fixed := t.mem.fixed.filter (fun x => x.1 != k) } }) ∧
  (∀ (bank word : Nat) (s : State), bank < 512 → (∀ y ∈ s.mem.fixed, y.1 = bankKey bank (word % 65536) →
      portFree s (bank / 4) (2 * (bank % 4) + y.2) = false) →
    exec (.correctionWriteBack bank word) s = .next s)

/-- R277: a write to the port-binding objects that would bind two ports to one cluster, or that names a cluster outside 0-15 other than
the code for unbound, is refused with BAD_VALUE, and no binding changes. R393: a second write to 5A00h:01 before the commit at which the
first is written is refused with BUSY. -/
def Obligations.BindingsAndMarksAreRefused : Prop :=
  (∀ r v, WriteRefused (.hostMark r v) r 0x5A00 1 v .busy (fun _ s => s.lan.hostMark ≠ none)) ∧
  ∀ r v tile sub, 2 ≤ sub → sub ≤ 0x0A → WriteRefused (.portBindingWrite r sub v) r 0x4010 sub v .badValue
    (fun x s => addrTile (selOf s x.id 0x4010 1) = some tile ∧ natBE v.data ≠ 255 ∧
      (15 < natBE v.data ∨ ∃ q < 9, q ≠ sub - 2 ∧ portOwner s tile q = some (natBE v.data)))

/-- R322: writing 2 to 4110h:02 copies the applied layout back into 4110h:01. -/
def Obligations.LayoutRevertCopiesTheLayout : Prop :=
  ∀ r, WriteDone (.layoutRevert r) r 0x4110 2 (codeVal 2) (fun _ _ => True)
    (fun _ s => s.setO 0x4110 1 (layoutValue s.mem.layout))

/-! ### Rewind (chapter 6) -/

/-- The rows of Rewind, where they act: a commanded checkpoint is due at the next commit (R399); a deferred snapshot is taken once the
drain before it has ended (R400); a drain completes; DRAM has taken the stimulus record (R421); a restore that R433 admits enters RECOVERING and
replays cycles c to t, or ends at once for t = c - 1 (R431); the end of a host's replay stops the module (R431); a recovery that has
replayed the failing cycle lets the run continue (R440-R442).
(Model's choice: checkpoints and recoveries: logs 26, 28.) -/
def Obligations.RewindRowsComplete : Prop :=
  (∀ r, WriteDone (.checkpointCommand r) r 0x4800 8 (codeVal 1)
    (fun _ s => ∀ c, (completeCkpts s).getLast? = some c → c.cycle + 1024 ≤ s.run.cycle.toNat + 1)
    (fun _ s => { s with rew := { s.rew with cmdDue := true } })) ∧
  (∀ s : State, s.rew.deferred = true → draining s = false →
    exec .deferredSnapshot s = .next
      (let t := snapshot true s.run.cycle.toNat (s.rew.dueCause.getD 0) s
       { t with rew := { t.rew with deferred := false, dueCause := none } })) ∧
  (∀ (us : List Upset) (micros : Nat) (s : State), exec (.drainComplete us micros) s = .next (finishDrain micros (placeUpsets us s))) ∧
  (∀ s : State, exec .stimulusRecordAccepted s = .next { s with rew := { s.rew with logHold := false } }) ∧
  (∀ r k, WriteDone (.restore r) r 0x4900 3 (codeVal 1)
    (fun _ s => restoreRefusal s = none ∧ (completeCkpts s).find? (fun k => k.cycle == s.o 0x4900 1) = some k)
    (fun _ s =>
      let q : Replay := { host := true, first := k.cycle, last := s.o 0x4900 2, since := s.now, resume := .stopped, recovered := [],
                          finished := false }
      let t := setRunState .recovering { s with rew := { s.rew with parkRestore := false } }
      let t := startReplay k q false (t.setO 0x4900 4 1)
      if s.o 0x4900 2 < k.cycle then
        hostRestoreDone { q with finished := true } { t with run := { t.run with phase := .idle } }
      else t)) ∧
  (∀ (s : State) (q : Replay), s.run.replay = some q → q.host = true → q.finished = true →
    exec .replayDone s = .next (hostRestoreDone q s)) ∧
  (∀ (s : State) (q : Replay), s.run.replay = some q → q.host = false → q.finished = true →
    exec .clusterRecovered s = .next
      (let t := rewriteDone q.first q.last s
       let t := q.recovered.foldl (recoveryEvent q)
         (lateSwaps { t with run := { t.run with replay := none, holdRecovery := false } })
       if t.run.causes.isEmpty then (if q.resume = .stepping then setRunState .stepping t else enterRunning t)
       else stopWith t.run.causes (causeState (t.run.causes.foldl max 0)) t)) ∧
  (∀ (s w u : State) (k : Ckpt), s.run.state = .recovering → s.run.holdRecovery = true → s.run.failed ≠ [] → u.run.replay = none →
    w = finishDrain (drainMicros s) s →
    substituteAll (s.run.cycle.toNat - 1) w.run.failed
      (suspectFailed (w.run.failed.filter (fun y => !(s.run.failed.contains y))) w) = (true, u) →
    newestAt (s.run.cycle.toNat - 1) u = some k →
    exec .spareSubstituted s = .next (startReplay k
      { host := false, first := k.cycle, last := s.run.cycle.toNat - 1, since := u.run.haltAt, resume := u.run.before,
        recovered := w.run.failed.map (fun y => (y.1, y.2, s.run.cycle.toNat - 1, u.run.haltAt)), finished := false }
      true u))

/-! ### Lantern (chapter 5) -/

/-- The rows of Lantern, where they act: ARM begins the segments and the capture (R351), DISARM takes effect at once outside a run and at
the next commit in one (R359), a forced trigger waits for the first cycle that settles after it (R360), a host mark waits for the next
commit; a probe map entry is kept; a TIME record is put each 5900h:01 ms, at most one in a cycle and none in a cycle of a run whose commit owes a
TIMEMAP record (R344); capture holds end; a calibration gives the channels that it
kept (R385-R388); an external sample goes to the analyzer or to the run.
(Model's choice: pre-trigger records and TIMEMAP: log 30.) -/
def Obligations.LanternRowsComplete : Prop :=
  (∀ r, WriteDone (.arm r) r 0x5200 1 (codeVal 1) (fun x s => armRefusal s x.id = none)
    (fun x s => (armNow x.id s).2)) ∧
  (∀ r, WriteDone (.disarm r) r 0x5200 1 (codeVal 2) (fun _ s => s.lan.ctx.acq = .disarmed) (fun _ s => s)) ∧
  (∀ r, WriteDone (.disarm r) r 0x5200 1 (codeVal 2) (fun _ s => s.lan.ctx.acq ≠ .disarmed ∧ inRun s = true)
    (fun _ s => { s with lan := { s.lan with disarmDue := true } })) ∧
  (∀ r, WriteDone (.disarm r) r 0x5200 1 (codeVal 2) (fun _ s => s.lan.ctx.acq ≠ .disarmed ∧ inRun s = false)
    (fun _ s => disarmNow s)) ∧
  (∀ r, WriteDone (.forceTrigger r) r 0x5200 1 (codeVal 3) (fun _ _ => True)
    (fun _ s => { s with lan := { s.lan with force := true } })) ∧
  (∀ r v, WriteDone (.hostMark r v) r 0x5A00 1 v (fun _ s => s.lan.hostMark = none)
    (fun _ s => { s with lan := { s.lan with hostMark := some (natBE v.data) } })) ∧
  (∀ r es, FormDone (.probeMapWrite r) r 0x5100 2 3 (blockTooLong 0x5100 3 4194304)
    (fun b d x s => es = (if b then [natBE d] else (chunks 4 d).map natBE) ∧ mayRead s x.id = true ∧ s.lan.ctx.acq = .disarmed ∧
      (∀ e ∈ es, fld e 22 8 = 0) ∧ mapClash (probeMapWith (selOf s x.id 0x5100 1) es s) = false)
    (fun _ _ x s => { s with lan := { s.lan with probeMap := probeMapWith (selOf s x.id 0x5100 1) es s } })) ∧
  (∀ (g : Nat) (s : State), (segOf s g).state = 1 → s.lan.ctx.acq ≠ .disarmed → (segOf s g).stamp + s.o 0x5900 1 * 1000000 ≤ s.now →
    timedIn s.run.cycle.toNat s (segOf s g) = false → ¬ (inRun s = true ∧ s.lan.timeMap ≠ none) →
    exec (.timeRecord g) s = .next
      (let t := putRecord g 7 false s.now (cycleField s) [cycleField s] s
       setSeg g { segOf t g with timed := 1 + t.run.cycle.toNat } t)) ∧
  (∀ s : State, exec .captureAccept s = .next { s with lan := { s.lan with capHold := false } }) ∧
  (∀ (residual : Nat) (failed : List Nat) (s : State), s.o 0x5800 4 = 1 → (∀ j ∈ failed, j ∉ s.test.booted.delays) →
    ∃ t, exec (.extCalibrated residual failed) s = .next t ∧
      t.o 0x5800 1 = ofOnes ((ones 320 (s.o 0x5800 1)).filter (fun j => !(failed.contains j))) ∧
      t.o 0x5800 4 = (if ofOnes ((ones 320 (s.o 0x5800 1)).filter (fun j => failed.contains j)) = 0 then 2 else 3) ∧
      t.o 0x5800 5 = s.run.cycle.toNat ∧ t.run = s.run ∧ t.lanes = s.lanes ∧ t.mem = s.mem) ∧
  (∀ (high : List Nat) (frac : Nat) (s : State), s.o 0x5800 1 ≠ 0 → s.pwr.mode = 8 →
    exec (.extSample high frac) s = .next (analyzerSample ((nsOf high).filter (fun j => bitOf (s.o 0x5800 1) j)) frac s)) ∧
  (∀ (high : List Nat) (frac : Nat) (s : State), s.o 0x5800 1 ≠ 0 → s.pwr.mode ≠ 8 → inRun s = true →
    exec (.extSample high frac) s = .next (runSample ((nsOf high).filter (fun j => bitOf (s.o 0x5800 1) j)) frac s))

/-! ### Target interface fabric (chapter 7) -/

/-- The rows that store what the fabric is made of: configuration words without reserved bits are loaded (R454, R499); injection entries
(R500), output-map entries (R472) and pin words (Table 7-11, R495) are kept; 6840h:01 moves the pattern reader (R858); TIF_RESET gives
the flip-flops their INIT values (R460); an oscillator takes a frequency in its range (R462); a bank takes a voltage, and its rail starts
to settle (R494), but for the voltage that a good bank already has, which changes nothing.
(Model's choice: ranges: log 18; the same voltage again: log 63.) -/
def Obligations.FabricWritesComplete : Prop :=
  (∀ r, FormDone (.cellConfigWrite r) r 0x6810 2 3 (blockTooLong 0x6810 3 8192)
    (fun _ d _ _ => (chunks 32 d).any (fun o => cellReserved (natBE o)) = false)
    (fun _ d x s => flashFollow ((((chunks 32 d).map natBE).zipIdx).foldl (fun t y =>
      let t := loadCell (selOf s x.id 0x6810 1 + y.2) (BitVec.ofNat 256 y.1) t
      { t with tif := { t.tif with hostCells := nsAdd (selOf s x.id 0x6810 1 + y.2) t.tif.hostCells } }) s))) ∧
  (∀ r, FormDone (.injectionMapWrite r) r 0x6828 2 3 (blockTooLong 0x6828 3 4194304)
    (fun _ d _ _ => ((chunks 2 d).map natBE).any (fun e => fld e 10 4 != 0 || (!(bitOf e 14) && fld e 0 10 != 0)) = false)
    (fun _ d x s => { s with tif := { s.tif with
      imap := (((chunks 2 d).map natBE).zipIdx).foldl (fun m y => Sparse.set0 m (selOf s x.id 0x6828 1 + y.2) y.1) s.tif.imap } })) ∧
  (∀ r v, WriteDone (.outputMapWrite r v) r 0x6820 2 v
    (fun x s => fld (natBE v.data) 22 9 = 0 ∧ (bitOf (natBE v.data) 31 = true →
      s.tif.omap.any (fun p => p.1 != selOf s x.id 0x6820 1 && bitOf p.2 31 && fld p.2 0 22 == fld (natBE v.data) 0 22) = false))
    (fun x s =>
      let e := fld (natBE v.data) 31 1 * 2 ^ 31 + fld (natBE v.data) 0 22
      { s with tif := { s.tif with omap := Sparse.set0 s.tif.omap (selOf s x.id 0x6820 1) e } })) ∧
  (∀ r v vb, WriteDone (.pinConfigWrite r v) r 0x6860 2 v
    (fun x s => vb = s.o (0x6850 + selOf s x.id 0x6860 1 / 32) 1 ∧ fld (natBE v.data) 8 2 ≠ 3 ∧ fld (natBE v.data) 6 2 ≠ 3 ∧
      fld (natBE v.data) 0 3 = 0 ∧ fld (natBE v.data) 10 6 = 0 ∧ ¬ (fld (natBE v.data) 6 2 = 2 ∧ (vb = 1 ∨ vb = 2)))
    (fun x s => flashFollow { s with tif := { s.tif with pins := Sparse.set0 s.tif.pins (selOf s x.id 0x6860 1) (natBE v.data) } })) ∧
  (∀ r v, WriteDone (.patStartWrite r v) r 0x6840 1 v (fun _ _ => natBE v.data % 8 = 0)
    (fun _ s =>
      let t := s.setO 0x6840 1 (natBE v.data)
      { t with tif := { t.tif with patPos := natBE v.data }, run := { t.run with frame := none } })) ∧
  (∀ r, WriteDone (.tifReset r) r 0x6830 1 (codeVal 1) (fun _ _ => True) (fun _ s => ffInit s)) ∧
  (∀ r k v, k < 4 → WriteDone (.oscFreqWrite r k v) r (0x6870 + k) 1 v
    (fun _ _ => 50000 ≤ natBE v.data ∧ natBE v.data ≤ 400000 ∧ natBE v.data % 100 = 0)
    (fun _ s => s.setO (0x6870 + k) 1 (natBE v.data))) ∧
  (∀ r b v, b < 10 → WriteDone (.bankVoltageWrite r b v) r (0x6850 + b) 1 v
    (fun _ s => natBE v.data ≤ 5 ∧ ((natBE v.data = 1 ∨ natBE v.data = 2) → strongPins s b = false))
    (fun _ s => if natBE v.data = s.o (0x6850 + b) 1 ∧ s.o (0x6850 + b) 2 = 2 then s
      else flashFollow ((s.setO (0x6850 + b) 1 (natBE v.data)).setO (0x6850 + b) 2 (if natBE v.data = 0 then 0 else 1))))

/-- R472: a write to 6820h:02 that names one index in two entries is refused with BAD_VALUE, and nothing is written. -/
def Obligations.OutputMapNamesAnIndexOnce : Prop :=
  ∀ r v, WriteRefused (.outputMapWrite r v) r 0x6820 2 v .badValue
    (fun x s => bitOf (natBE v.data) 31 = true ∧
      ∃ p ∈ s.tif.omap, p.1 ≠ selOf s x.id 0x6820 1 ∧ bitOf p.2 31 = true ∧ fld p.2 0 22 = fld (natBE v.data) 0 22)

/-- The user flash, the serial ports, the banks and the clocks of the fabric, where their rows act: a rising edge of RD takes
the address and reads it; an erase clears the sector and a
program stores into its erased octets, each busy until it is done (R463); a serial command starts in a mode that serves it, and ends with
its status and 6C81h (R464-R466), having received what the fabric gives the port, which on a line of one level is that level (R458); where
a pin or a bank changes, the flash follows its inputs; the rail of a bank settles, or fails with 6851h (R494); a clock edge steps the flip-flops of its
domain.
(Model's choice: serial ports and user flash: logs 63, 64.) -/
def Obligations.FabricUnitsComplete : Prop :=
  (∀ s : State, tifRuns s = true → s.tif.ufRd = false → tval s tifFuel (.wire (128 * 63 + 19) 0) = some true →
    exec .ufRead s = .next
      (let t := (flashAddr s).2
       flashRead { t with tif := { t.tif with ufRd := true, ufAddr := (flashAddr s).1 } })) ∧
  (∀ r v sec, WriteDone (.ufErase r v) r 0x6880 3 v
    (fun x s => natBE v.data = 1 ∧ s.tif.ufBusy = none ∧ sec = selOf s x.id 0x6880 1 / 4096)
    (fun _ s => { s with tif := { s.tif with
      flash := Sparse.clear s.tif.flash (4096 * sec) (4096 * (sec + 1)), ufBusy := some (sec, true) } })) ∧
  (∀ r, FormDone (.ufProgram r) r 0x6880 2 2 flashTooLong (fun _ _ _ s => s.tif.ufBusy = none)
    (fun _ d x s =>
      let a := selOf s x.id 0x6880 1
      { s with tif := { s.tif with
        flash := (d.zipIdx).foldl (fun m y =>
          if Sparse.get (fun _ => (255 : Octet)) m (a + y.2) = 255 then Sparse.set (fun _ => (255 : Octet)) m (a + y.2) y.1 else m)
          s.tif.flash,
        ufBusy := some (a / 4096, false) } })) ∧
  (∀ s : State, s.tif.ufBusy ≠ none →
    exec .ufOperationDone s = .next
      (let t := { s with tif := { s.tif with ufBusy := none } }
       if s.tif.ufRd = true ∧ s.tif.ufValid = false then flashRead t else t)) ∧
  (∀ (r : Req) (k n : Nat) (c : Req → Nat → Instr), k < 8 → (n, c) ∈ [(1, Instr.spSend), (2, Instr.spI2cRead), (3, Instr.spI2cWriteRead)] →
    WriteDone (c r k) r (0x6C00 + k) 7 (codeVal n)
      (fun _ s => (s.serialPort k).running = 0 ∧ s.o (0x6C00 + k) 1 ≠ 0 ∧ (2 ≤ n → s.o (0x6C00 + k) 1 = 3))
      (fun _ s => flashFollow ((modSerial k (fun p => { p with running := n }) s).setO (0x6C00 + k) 9 1))) ∧
  (∀ r k, k < 8 → WriteDone (.spAbort r k) r (0x6C00 + k) 7 (codeVal 4) (fun _ _ => True)
    (fun _ s => if (s.serialPort k).running = 0 then s else endSerial k 6 [] 0 s)) ∧
  (∀ (k status : Nat) (l : List Octet) (sent : Nat) (s : State), k < 8 → (s.serialPort k).running ≠ 0 →
    steadyLine s k (if s.o (0x6C00 + k) 1 = 3 then 1 else 2) = none →
    exec (.serialDone k status l sent) s = .next
      (endSerial k (if s.o (0x6C00 + k) 1 = 3 ∧ (status = 3 ∨ status = 4) then status else 2)
        (if s.o (0x6C00 + k) 1 = 3 ∧ 2 ≤ (s.serialPort k).running then l.take (s.o (0x6C00 + k) 0x0A)
         else if s.o (0x6C00 + k) 1 = 2 then l else [])
        (min sent (s.serialPort k).tx.length) s)) ∧
  (∀ (k status : Nat) (l : List Octet) (sent : Nat) (b : Bool) (s : State), k < 8 → (s.serialPort k).running ≠ 0 →
    s.o (0x6C00 + k) 1 ≠ 3 → steadyLine s k 2 = some b →
    exec (.serialDone k status l sent) s = .next
      (endSerial k 2 (if s.o (0x6C00 + k) 1 = 2 then List.replicate l.length (if b then 255 else 0) else [])
        (min sent (s.serialPort k).tx.length) s)) ∧
  (∀ (k status : Nat) (l : List Octet) (sent : Nat) (s : State), k < 8 → (s.serialPort k).running ≠ 0 →
    s.o (0x6C00 + k) 1 = 3 → steadyLine s k 1 = some true →
    exec (.serialDone k status l sent) s = .next (endSerial k 3 [] (min sent (s.serialPort k).tx.length) s)) ∧
  (∀ (k : Nat) (s : State), k < 8 → (s.serialPort k).running ≠ 0 → s.o (0x6C00 + k) 1 = 3 →
    exec (.busStuck k) s = .next (endSerial k 5 [] 0 s)) ∧
  (∀ (k : Nat) (o : Octet) (s : State), k < 8 → s.o (0x6C00 + k) 1 = 1 → steadyLine s k 1 = none →
    exec (.uartReceive k o) s = .next (if (s.serialPort k).rx.length < 256 then modSerial k (fun p => { p with rx := p.rx ++ [o] }) s
      else s.incO (0x6C00 + k) 8 1)) ∧
  (∀ (b : Nat) (s : State), b < 10 → s.o (0x6850 + b) 2 = 1 → exec (.bankRailSettled b) s = .next (flashFollow (s.setO (0x6850 + b) 2 2))) ∧
  (∀ (b mv : Nat) (s : State), b < 10 → s.o (0x6850 + b) 2 = 2 →
    exec (.bankFault b mv) s = .next (raise 0x6851 (pU8 b ++ pU32 mv) (flashFollow (s.setO (0x6850 + b) 2 3)))) ∧
  (∀ (clock : Nat) (l : List (Nat × Bool)) (s : State), 0 < clock → clock ≤ 14 → (clock < 5 → s.o (0x6870 + (clock - 1)) 2 ≠ 0) →
    exec (.tifClockEdge clock l) s = .next (flashFollow (clockEdge clock { s with tif := { s.tif with target := l } })))

/-! ### Images, keys and updates (chapter 8) -/

/-- The rows of image staging and application, where they act: image octets go to the position (R524, R525); a check begins and its
answer waits (R529); a discard ends the result (R530); the end of a check answers what waits, and reports the first fault with 6202h or
begins the application; a region is written while it is in reset (R534), and released at once when the module is stopped, with the deposits that waited for it and the
swaps whose scope it seals (R51, R277, R539); a
SHADOW application ends with its banks sealed (R540, R542).
(Model's choice: order of the checks and what staging keeps: logs 41, 42.) -/
def Obligations.ImageRowsComplete : Prop :=
  (∀ r, FormDone (.stageDataWrite r) r 0x6100 3 3 stageTooLong (fun _ _ _ s => lockedRange s = none)
    (fun _ d x s => stageWrite (s.o 0x6100 1 + selOf s x.id 0x6100 8) d s)) ∧
  (∀ (n : Nat) (c : Req → Instr) (r : Req) (x : Session) (s : State), (n, c) ∈ [(1, Instr.imageCheck), (2, Instr.imageCheckApply)] →
    Reaches r x s → checkWrite s x 0x6200 1 (codeVal n) false = none → imageBlocked (n == 2) (accepted r x s) = false →
    imageRefusal (accepted r x s) = none →
    exec (c r) s = .next (chooseDepth
      (let a := accepted r x s
       let q : ImgCheck := { off := a.o 0x6100 1, len := a.o 0x6100 2, apply := n == 2, session := x.id, seq := r.seq,
                             before := a.o 0x6100 4, kept := a.img.passed }
       let t : State := { a.setO 0x6100 4 2 with img := { a.img with check := some q, passed := none } }
       t.modSess x.id (fun y => { y with
         waiting := y.waiting ++ [{ seq := r.seq, tag := r.tag, op := 6, idx := 0x6200, sub := 1 }] })))) ∧
  (∀ r, WriteDone (.imageDiscard r) r 0x6200 1 (codeVal 3) (fun _ s => lockedRange s = none)
    (fun _ s => { s.setO 0x6100 4 0 with img := { s.img with passed := none } })) ∧
  (∀ (s a : State) (c : ImgCheck), s.img.check = some c → a = wakeDepth { s with img := { s.img with check := none } } →
    exec .imageCheckDone s = .next (chooseDepth (match checkImage a c.off c.len with
      | .error (reason, frame, unit) => raise 0x6202 (pU8 reason ++ pU32 frame ++ pU32 unit)
          (answerWaiting c.session c.seq .rejectedImage
            ((((a.setO 0x6100 4 6).setO 0x6200 2 reason).setO 0x6200 3 frame).setO 0x6200 4 unit))
      | .ok (h, fs) =>
        let b := answerWaiting c.session c.seq .ok a
        let t : State := { b.setO 0x6100 4 3 with img := { b.img with passed := some (c.off, c.len) } }
        if c.apply then beginApply h fs c.off c.len t else t))) ∧
  (∀ (s : State) (a : Applying), s.img.applying = some a → a.hdr.typ = 1 → a.inReset = true → a.written = false → a.stopped = true →
    exec .regionWriteDone s = .next (chooseDepth
      (let t := regionDeposits a (writeRegion a.hdr a.frames (wakeDepth s))
       let w := carrySwaps false { t with img := { t.img with applying := none } }
       let t := checkpointNow 3 w.2
       releaseRegion a t.run.cycle.toNat (if w.1 then withdrawOlder 4 t else t)))) ∧
  (∀ (s : State) (a : Applying), s.img.applying = some a → a.hdr.typ = 1 → a.inReset = true → a.written = false → a.stopped = false →
    exec .regionWriteDone s = .next
      (let t := writeRegion a.hdr a.frames (wakeDepth s)
       { t with img := { t.img with applying := some { a with written := true } } })) ∧
  (∀ (s : State) (a : Applying), s.img.applying = some a → a.hdr.typ = 2 → exec .shadowApplyDone s = .next (finishShadow a s))

/-- R515: every key command that is carried out raises event 6041h, with the command and the new KCV. The four commands of 6040h:06 in
SERVICE: LOAD_VBAT and PROGRAM_EFUSE take the key that opens under the session's wrapping key, and answer AUTH_FAIL when none does (R514), ZEROISE_VBAT destroys the VBAT key,
SET_EFUSE_ONLY sets 6040h:07; sessions of a level whose access key changes close (R574).
(Model's choice: the KCV that 6041h gives for ZEROISE_VBAT and SET_EFUSE_ONLY: log 37.) -/
def Obligations.KeyCommandsComplete : Prop :=
  (∀ r st, WriteAnswered (.loadVbat r) r 0x6040 6 (codeVal 1) st
    (fun x s => inService s = true ∧ s.o 0x6040 7 ≠ 1 ∧ st = (match unwrapKey s x.id s.keys.wrapped with | some _ => .ok | none => .authFail))
    (fun x s => match unwrapKey s x.id s.keys.wrapped with
      | some k => raise 0x6041 (pU8 1 ++ pU32 (kcv k)) (keysChanged s x.id (putVbat (some k) 1 s))
      | none => s)) ∧
  (∀ r st, WriteAnswered (.programEfuse r) r 0x6040 6 (codeVal 2) st
    (fun x s => inService s = true ∧ s.o 0x6040 1 ≠ 1 ∧ st = (match unwrapKey s x.id s.keys.wrapped with | some _ => .ok | none => .authFail))
    (fun x s => match unwrapKey s x.id s.keys.wrapped with
      | some k => raise 0x6041 (pU8 2 ++ pU32 (kcv k)) (keysChanged s x.id
          ((({ s with keys := { s.keys with efuse := some k } }).setO 0x6040 1 1).setO 0x6040 2 (kcv k)))
      | none => s)) ∧
  (∀ r, WriteDone (.zeroiseVbat r) r 0x6040 6 (codeVal 3) (fun _ s => inService s = true)
    (fun x s => raise 0x6041 (pU8 3 ++ pU32 0) (keysChanged s x.id (putVbat none 2 s)))) ∧
  (∀ r, WriteDone (.setEfuseOnly r) r 0x6040 6 (codeVal 4) (fun _ s => inService s = true ∧ s.o 0x6040 1 ≠ 0)
    (fun _ s => raise 0x6041 (pU8 4 ++ pU32 (kcvOf s.keys.efuse)) (s.setO 0x6040 7 1)))

/-- The other rows of the keys and the rows of an update, where they act: a tamper detector that is enabled destroys the VBAT key and the
credentials; a credential is loaded or cleared (R573, R574); an update erases the idle slot, takes octets, is verified and committed, or
is cancelled (R522); the OWNER_TOKEN of an applied FULL image opens the readback of its session, and raises 6401h.
(Model's choice: updates in SERVICE only: log 38.) -/
def Obligations.UpdateAndCredentialRowsComplete : Prop :=
  (∀ (d : Nat) (s : State), d < 4 → bitOf (s.o 0x6050 3) d = true → (d = 0 → s.pwr.vinGood = false) → awakeMode s = false →
    exec (.tamperZeroised d) s = .next
      (let t := putVbat none 2 s
       let t := { t with keys := { t.keys with creds := [none, none, none, none], tamper := putBit s.keys.tamper d true } }
       let t := t.setO 0x6050 1 (putBit (s.o 0x6050 1) d true)
       if d = 0 then t.setO 0x2200 6 0 else t)) ∧
  (∀ (d : Nat) (s : State), d < 4 → 0 < d → bitOf (s.o 0x6050 3) d = true → awakeMode s = true →
    exec (.tamperZeroised d) s = .next
      (let t := putVbat none 2 s
       let t := { t with keys := { t.keys with creds := [none, none, none, none], tamper := putBit s.keys.tamper d true } }
       keysChanged s 0 (t.setO 0x6050 1 (putBit (s.o 0x6050 1) d true)))) ∧
  (∀ r st, WriteAnswered (.credLoad r) r 0x1E00 5 (codeVal 1) st
    (fun x s => inService s = true ∧ st = (match unwrapKey s x.id s.keys.credWrapped with | some _ => .ok | none => .authFail))
    (fun x s => match unwrapKey s x.id s.keys.credWrapped with
      | some k => keysChanged s x.id { s with keys := { s.keys with creds := s.keys.creds.set (selOf s x.id 0x1E00 1) (some k) } }
      | none => s)) ∧
  (∀ r, WriteDone (.credClear r) r 0x1E00 5 (codeVal 2) (fun _ s => inService s = true)
    (fun x s => keysChanged s x.id { s with keys := { s.keys with creds := s.keys.creds.set (selOf s x.id 0x1E00 1) none } })) ∧
  (∀ r v, WriteDone (.updLengthWrite r v) r 0x6030 3 v (fun _ s => inService s = true ∧ s.o 0x6030 5 ≠ 1)
    (fun _ s =>
      let t := writeDirectory (idleSlot s) {} s
      let t := { t with boot := { t.boot with flash := t.boot.flash.set (idleSlot s) [] } }
      ((t.setO 0x6030 3 (natBE v.data)).setO 0x6030 5 1).setO 0x6030 6 0)) ∧
  (∀ s : State, s.o 0x6030 5 = 1 → exec .updateEraseDone s = .next (s.setO 0x6030 5 2)) ∧
  (∀ r, FormDone (.updDataWrite r) r 0x6030 2 2 (blockTooLong 0x6030 2 slotSize)
    (fun _ _ _ s => inService s = true ∧ s.o 0x6030 5 = 2) (fun _ d _ s => slotWrite (idleSlot s) (s.o 0x6030 1) d s)) ∧
  (∀ r st, WriteAnswered (.updVerify r) r 0x6030 4 (codeVal 1) st
    (fun _ s => inService s = true ∧ s.o 0x6030 5 = 2 ∧ st = (match checkUpdate s with | .ok _ => .ok | .error _ => .rejectedImage))
    (fun _ s => match checkUpdate s with
      | .ok b => commitUpdate b s
      | .error (reason, _) =>
        ((writeDirectory (idleSlot s) { state := 2, seq := 0, len := 0 } s).setO 0x6030 5 5).setO 0x6030 6 reason)) ∧
  (∀ r, WriteDone (.updCancel r) r 0x6030 4 (codeVal 2) (fun _ s => inService s = true)
    (fun _ s => (s.setO 0x6030 3 0).setO 0x6030 5 0)) ∧
  (∀ (r : Req) (v : WVal) (x : Session) (s : State), Reaches r x s → checkWrite s x 0x6400 1 v false = none → s.img.full = true →
    (Config.hmacSha256 (octetsBE 32 (kImg (accepted r x s)).toNat) v.data).toNat >>> 128 = s.img.ownerTag →
    exec (.ownerToken r v) s = .next
      (let t := replied r 6 0x6400 1 .ok
        (raise 0x6401 (pU32 x.id) ((accepted r x s).modSess x.id (fun y => { y with token := true })))
       if 8 ≤ x.tokenFails then closeSession r.session 2 t else t))

/-! ### Boot (chapter 8) -/

/-- The rows of the boot, where they act. BOOT in a module that has just entered BOOT tries the valid slots in order: the first whose
stream passes configures the module, and the failures before it are reported; with none, 6000h:01 is 6 and 6003h gives the reasons
(R517). DONE ends a configuration that waits for it, and DONE_TIMEOUT reports it once.
(Model's choice: order of the boot's events: log 39.) -/
def Obligations.BootRowsComplete : Prop :=
  (∀ (fs : List Nat) (ms : Nat) (s t u : State) (found : Option (Nat × BootStream)) (bad : List (Nat × Nat)) (why : Nat → Nat),
    s.pwr.mode = 2 → s.o 0x6000 1 = 0 →
    t = bootPll 7 (bootPll 6 (bootSources (bootHealth (owedEvents (bootLine 1 (s.emit (.done false))))))) →
    trySlots fs (bootOrder t) t = (found, bad, u) →
    (∀ i, why i = ((bad.find? (fun y => y.1 == i)).map (fun y => y.2)).getD 1) →
    exec (.boot fs ms) s = .next (match found with
      | some (i, b) => bad.foldl (fun v y => raise 0x6002 (pU8 y.1 ++ pU8 y.2) v) (configure i b ms u)
      | none =>
        let v := modBoot (fun y => { y with reasons := [why 0, why 1] }) u
        raise 0x6003 (pU8 (why 0) ++ pU8 (why 1)) ((if bad.isEmpty then v.setO 0x6000 3 1 else v).setO 0x6000 1 6))) ∧
  (∀ s : State, s.pwr.mode = 2 → s.o 0x6000 1 = 4 → exec .doneRise s = .next (bootComplete (s.setO 0x6020 2 1))) ∧
  (∀ s : State, s.pwr.mode = 2 → s.o 0x6000 1 = 4 → s.boot.doneTimedOut = false →
    exec .doneTimeout s = .next (raise 0x6021 (pU32 (s.o 0x6020 1)) (modBoot (fun y => { y with doneTimedOut := true }) s)))

/-! ### The Azmuax Control Protocol (chapter 9) -/

/-- Sessions. OPEN reserves a session and is answered with CHALLENGE (R571); the right PROVE opens it and raises 1101h, a wrong one is
counted (R577); a reservation without proof ends after 2 s (R576), a lockout after 60 s (R577); NEGOTIATE fixes the agreed features
(R587), SUBSCRIBE the filters, which the records still queued must pass (R596); CLOSE is answered and closes the session with cause 0, silence closes it with cause 1 (R585); an
operation not done in time is undone and answered with TIMEOUT (R563); a bad frame is counted (R569).
(Model's choice: session numbers and what a failed PROVE leaves: log 35.) -/
def Obligations.SessionRowsComplete : Prop :=
  (∀ (carrier src port mac level : Nat) (nonce : BitVec 128) (s t u : State) (mine : BitVec 128), frameTaken s carrier = true →
    isLocked s (sourceOf carrier src) = false → t = wakeDepth s → openStatus t carrier level = .ok → t.takeNonce = (mine, u) →
    exec (.openFrame carrier { mac, addr := src } port level nonce) s = .next (chooseDepth
      (let x : Session := { id := u.acp.nextId, level, carrier, src, srcPort := port, mac, clientNonce := nonce, moduleNonce := mine,
                            since := u.now }
       let l := u.acp.sessions ++ [x]
       challenge { carrier, mac, vid := t.o 0x7A00 5, dst := src, dstPort := port } u.acp.nextId .ok mine
         { u with acp := { u.acp with nextId := u.acp.nextId + 1, sessions := l } }))) ∧
  (∀ (r : Req) (proof : BitVec 256) (s t : State) (x : Session), frameTaken s r.carrier = true → t = wakeDepth s →
    t.sess r.session = some x → x.carrier = r.carrier → x.isOpen = false → r.seq = 1 → r.tag = proveTag t x proof →
    proof = proofOf t x "CH9 prove" → exec (.prove r proof) s = .next (chooseDepth (proveAccepted r x t))) ∧
  (∀ (r : Req) (proof : BitVec 256) (s t : State) (x : Session), frameTaken s r.carrier = true → t = wakeDepth s →
    t.sess r.session = some x → x.carrier = r.carrier → x.isOpen = false → ¬ (r.seq = 1 ∧ r.tag = proveTag t x proof ∧
      proof = proofOf t x "CH9 prove") → exec (.prove r proof) s = .next (chooseDepth (proveFailed r x t))) ∧
  (∀ (n : Nat) (s : State), exec (.proveTimeout n) s =
    .next { s with acp := { s.acp with sessions := s.acp.sessions.filter (fun x => x.isOpen || x.id != n) } }) ∧
  (∀ (carrier src : Nat) (s : State) (l : List (Nat × Nat × Nat)),
    l = s.acp.locked.filter (fun y => !(y.1 == (sourceOf carrier src).1 && y.2.1 == (sourceOf carrier src).2)) →
    exec (.sourceUnlock carrier src) s = .next { s with acp := { s.acp with locked := l } }) ∧
  (∀ (r : Req) (q : BitVec 128) (x : Session) (s : State), Reaches r x s → x.negotiated = false → q.getLsbD 0 = true →
    exec (.negotiate r q) s = .next (chooseDepth (answer r 4 0 0
      [{ status := .ok, body := octetsLE 16 0xFFFF ++ octetsLE 16 (q.toNat &&& 0xFFFF) }]
      ((accepted r x s).modSess x.id (fun y => { y with negotiated := true, requested := q.toNat, agreed := q.toNat &&& 0xFFFF }))))) ∧
  (∀ (r : Req) (body : List Octet) (x : Session) (s : State), Reaches r x s → x.negotiated = true → bitOf x.agreed 2 = true →
    body.length % 4 = 0 → body.length ≤ 64 →
    exec (.subscribe r body) s = .next (replied r 9 0 0 .ok
      ((accepted r x s).modSess x.id (fun y =>
        let y := { y with filters := bodyFilters body }
        { y with queue := y.queue.filter (fun e => wants y e.code) })))) ∧
  (∀ (r : Req) (x : Session) (s : State), Reaches r x s →
    exec (.close r) s = .next (chooseDepth (closeSession r.session 0 (replied r 0x0B 0 0 .ok (accepted r x s))))) ∧
  (∀ (carrier : Nat) (f : List Octet) (s : State), frameTaken s carrier = true →
    exec (.badFrame carrier f) s = .next (s.incO 0x1140 1 1)) ∧
  (∀ (n : Nat) (x : Session) (s : State), s.sess n = some x → x.isOpen = true →
    exec (.sessionIdleTimeout n) s = .next (chooseDepth (closeSession n 1 s))) ∧
  (∀ (n q : Nat) (x : Session) (s : State), s.sess n = some x → x.waiting.any (fun w => w.seq == q) = true →
    exec (.serviceTimeout n q) s = .next (answerWaiting n q .timeout (undoWaiting n q s)))

/-- READ, READ_BLOCK, WRITE and WRITE_BLOCK. A READ that passes the checks of Table 9-4 is answered with the object's octets; a
READ_BLOCK with its chunks (R589-R593). A READ of a bank or far word in an active run waits for the steps that R292 allows (R294), and
its answer with it. A WRITE to an object without a row of its own that no chapter refuses changes the object; a
WRITE_BLOCK of bank words stores them and advances the selector. -/
def Obligations.ObjectAccessCompletes : Prop :=
  (∀ (r : Req) (idx sub ty : Nat) (x : Session) (s t : State) (d : ObjDesc) (l : List Octet), Reaches r x s →
    checkCommon (accepted r x s) x idx sub false = .ok d → (ty = 0 ∨ ty = d.ty.code) → tooLong x ((d.ty.size).getD 0) = false →
    startsPastEnd (accepted r x s) x.id idx sub = false → domainBlocked (accepted r x s) x.id idx sub = false →
    readOctets d x idx sub (accepted r x s) = (.ok l, t) → tooLong x l.length = false →
    exec (.read r idx sub ty) s = .next (chooseDepth
      (match waitingRead r idx sub (wordStart (accepted r x s) x.id idx) (l.length / 8) d.ty.code (max 8 l.length) none (accepted r x s) with
       | some u => u.modSess x.id (fun y => { y with
           waiting := y.waiting ++ [{ seq := r.seq, tag := r.tag, op := 5, idx, sub }] })
       | none => answer r 5 idx sub [{ status := .ok, ty := d.ty.code, body := l }] t))) ∧
  (∀ (r : Req) (idx sub start total sel el chunk m : Nat) (x : Session) (s t : State) (d : ObjDesc) (as_ : List Answer),
    Reaches r x s → x.negotiated = true → bitOf x.agreed 1 = true → blockInfo idx sub = some (sel, el, chunk, m) →
    checkCommon (accepted r x s) x idx sub false = .ok d → 0 < total → total ≤ 65536 → total % el = 0 →
    start + total / el ≤ blockElements (accepted r x s) x.id idx sub → el ≤ bodyLimit x →
    domainBlocked (accepted r x s) x.id idx sub = false → as_ ≠ [] →
    readChunks x idx sub sel el chunk (total / el) start (total / el) 0 (setStart x.id idx sel start (accepted r x s)) = (as_, t) →
    exec (.readBlock r idx sub start total) s = .next (chooseDepth
      (match (if as_.all (fun a => a.status.done) then waitingRead r idx sub start (total / el) 11
          (max 8 (el * (min chunk (bodyLimit x) / el))) (some (idx, sel, start, selOf (accepted r x s) x.id idx sel))
          (setStart x.id idx sel start (accepted r x s)) else none) with
       | some u => u.modSess x.id (fun y => { y with
           waiting := y.waiting ++ [{ seq := r.seq, tag := r.tag, op := 7, idx, sub }] })
       | none => answer r 7 idx sub as_ t))) ∧
  (∀ (r : Req) (idx sub n : Nat) (v : WVal) (x : Session) (s : State) (d : ObjDesc), Reaches r x s → rowOf r idx sub v = none →
    findObj idx sub = some d → n = decodeVal d.ty v.data → ¬ (0x6C00 ≤ idx ∧ idx < 0x6C08) → okey idx sub ≠ 0x200002 →
    okey idx sub ≠ 0x830001 → checkWrite s x idx sub v false = none → writeRefusal (accepted r x s) x.id idx sub n = none →
    exec (.write r idx sub v) s = .next (replied r 6 idx sub .ok (writeEffect x.id idx sub n v.data (accepted r x s)))) ∧
  (∀ (r : Req) (start tile : Nat) (data : List Octet) (x : Session) (s t : State), Reaches r x s → x.negotiated = true →
    bitOf x.agreed 1 = true → t = setStart x.id 0x4200 3 start (accepted r x s) →
    checkWrite t x 0x4200 5 { ty := 11, data } (blockTooLong 0x4200 5 65536 data x.id t) = none →
    addrTile (selOf t x.id 0x4200 1) = some tile → t.mem.hostQ.length + (bankHostWords tile data x t).length ≤ 1024 →
    exec (.writeBlock r 0x4200 5 start data) s = .next (replied r 8 0x4200 5 .ok
      (setStart x.id 0x4200 3 (start + data.length / 8) (queuedOrStored (bankHostWords tile data x t) t))))

/-- A WRITE that carries the code of a command object is that command, and a WRITE_BLOCK of a block object is its row. -/
def Obligations.WriteOfACommandCodeIsTheCommand : Prop :=
  (∀ (r : Req) (s : State) (idx sub n : Nat) (c : Req → Instr), (idx, sub, n, c) ∈
    [(0x3400, 1, 1, Instr.run), (0x3400, 1, 2, Instr.stop), (0x3400, 1, 3, Instr.step), (0x3400, 1, 4, Instr.runTo),
     (0x3400, 1, 5, Instr.abort), (0x3400, 1, 6, Instr.designReset), (0x3400, 1, 7, Instr.park), (0x3400, 1, 8, Instr.stateLoad),
     (0x3110, 2, 1, Instr.dictSwapRequest), (0x3110, 2, 2, Instr.dictSwapCancel), (0x3900, 2, 1, Instr.xswapRequest),
     (0x3900, 2, 2, Instr.xswapCancel), (0x3900, 2, 3, Instr.joinedSwapRequest), (0x3C00, 4, 1, Instr.laneTestStart),
     (0x3C00, 4, 2, Instr.laneTestAbort), (0x4110, 2, 1, Instr.layoutApply), (0x4110, 2, 2, Instr.layoutRevert),
     (0x4800, 8, 1, Instr.checkpointCommand), (0x4900, 3, 1, Instr.restore), (0x5200, 1, 1, Instr.arm), (0x5200, 1, 2, Instr.disarm),
     (0x5200, 1, 3, Instr.forceTrigger), (0x6830, 1, 1, Instr.tifReset), (0x6200, 1, 1, Instr.imageCheck),
     (0x6200, 1, 2, Instr.imageCheckApply), (0x6200, 1, 3, Instr.imageDiscard), (0x6040, 6, 1, Instr.loadVbat),
     (0x6040, 6, 2, Instr.programEfuse), (0x6040, 6, 3, Instr.zeroiseVbat), (0x6040, 6, 4, Instr.setEfuseOnly),
     (0x6030, 4, 1, Instr.updVerify), (0x6030, 4, 2, Instr.updCancel), (0x1E00, 5, 1, Instr.credLoad), (0x1E00, 5, 2, Instr.credClear),
     (0x7380, 1, 1, Instr.statsClear), (0x7380, 1, 2, Instr.statsFreeze), (0x7380, 1, 3, Instr.statsResume),
     (0x8200, 3, 1, Instr.odStart), (0x8200, 3, 2, Instr.odAbort), (0x2000, 2, 1, Instr.modeStandby), (0x2000, 2, 2, Instr.modeAnalyzer),
     (0x2000, 2, 3, Instr.modeIdle), (0x2000, 2, 4, Instr.modeService), (0x2000, 2, 6, Instr.reboot)] →
    exec (.write r idx sub (codeVal n)) s = exec (c r) s) ∧
  (∀ (r : Req) (s : State) (idx sub start : Nat) (data : List Octet) (c : Req → WForm → Instr), (idx, sub, c) ∈
    [(0x3010, 4, Instr.imWordWrite), (0x3100, 5, Instr.dictEntryWrite), (0x3810, 5, Instr.exsEntryWrite), (0x4200, 5, Instr.dmWordWrite),
     (0x4210, 3, Instr.farWordWrite), (0x5100, 3, Instr.probeMapWrite), (0x6030, 2, Instr.updDataWrite), (0x6100, 3, Instr.stageDataWrite),
     (0x6810, 3, Instr.cellConfigWrite), (0x6828, 3, Instr.injectionMapWrite), (0x6880, 2, Instr.ufProgram)] →
    exec (.writeBlock r idx sub start data) s = exec (c r (.block start data)) s)

/-- R588: a NEGOTIATE without bit 0 of REQUESTED is refused with BAD_VALUE, and nothing is agreed. A second NEGOTIATE in a session is
refused with BAD_VALUE, and the agreed set stays unchanged. R597: SUBSCRIBE with more than 16 filters, or with a body whose length is not a multiple of 4 octets, is refused with BAD_LENGTH (in
a session that agreed on events, R589). -/
def Obligations.NegotiateAndSubscribeAreChecked : Prop :=
  (∀ (r : Req) (q : BitVec 128) (x : Session) (s : State), Reaches r x s → (q.getLsbD 0 = false ∨ x.negotiated = true) →
    exec (.negotiate r q) s = .next (replied r 4 0 0 .badValue (accepted r x s))) ∧
  ∀ (r : Req) (body : List Octet) (x : Session) (s : State), Reaches r x s → x.negotiated = true → bitOf x.agreed 2 = true →
    (16 * 4 < body.length ∨ body.length % 4 ≠ 0) →
    exec (.subscribe r body) s = .next (replied r 9 0 0 .badLength (accepted r x s))

/-- R15: a read or write of an index that no chapter defines returns BAD_INDEX, and one that belongs to a feature that was not agreed in
negotiation returns NOT_AGREED; nothing else happens. -/
def Obligations.AbsentObjectsAreRefused : Prop :=
  ∀ (r : Req) (idx sub ty : Nat) (v : WVal) (x : Session) (s : State), Reaches r x s → x.negotiated = true → rowOf r idx sub v = none →
    (findObj idx sub = none →
      exec (.read r idx sub ty) s = .next (chooseDepth (answer r 5 idx sub [{ status := .badIndex, ty }] (accepted r x s))) ∧
      exec (.write r idx sub v) s = .next (replied r 6 idx sub .badIndex (accepted r x s))) ∧
    (findObj idx sub ≠ none → bitOf x.agreed (featureOf idx sub) = false →
      exec (.read r idx sub ty) s = .next (chooseDepth (answer r 5 idx sub [{ status := .notAgreed, ty }] (accepted r x s))) ∧
      exec (.write r idx sub v) s = .next (replied r 6 idx sub .notAgreed (accepted r x s)))

/-! ### Host link and packet network (chapter 10) -/

/-- The rows of BAR0 and BAR2 while the endpoint answers and is not in D3hot: each wakes the module, has its effect, and lets the module
choose a depth again. Apertures (R609-R613), mailbox slots (R614-R618), MSI-X (R608), DMA engines and rings (R619-R622). A write of BAR0 acts on the register that R607 gives its
offset and length, and one of a request slot stores its octets there; a write of CONTROL takes STOP before ENABLE.
(Model's choice: BAR0 registers without a row, and both bits of CONTROL: log 60.) -/
def Obligations.HostAccessesComplete : Prop :=
  ∀ s : State, endpointOn s = true → s.host.d3hot = false →
    (∀ off n, exec (.bar2Read off n) s = .next (chooseDepth (bar2Read off n (wakeDepth s)))) ∧
    (∀ off d, exec (.bar2Write off d) s = .next (chooseDepth (bar2Write off d (wakeDepth s)))) ∧
    (∀ n base v, n < 4 → apertureOk base (if base then v % 2 ^ 64 else v % 256) = true →
      exec (.apWrite n base v) s = .next (chooseDepth
        ((wakeDepth s).setO 0x7100 (if base then 5 + n else 1 + n) (if base then v % 2 ^ 64 else v % 256)))) ∧
    (∀ slot len, slot < 4 → (wakeDepth s).host.slotLen.getD slot 0 = 0 → 48 ≤ len → len ≤ 6208 →
      exec (.mbSlotSubmit slot len) s = .next (chooseDepth (takeSlots
        { wakeDepth s with host := { (wakeDepth s).host with slotLen := (wakeDepth s).host.slotLen.set slot len } }))) ∧
    (∀ off size v, exec (.mbControlWrite off { size, num := v }) s = .next (chooseDepth (barWrite off size v (wakeDepth s)))) ∧
    (∀ off size v, 0x8000 ≤ off → ¬ (size = 4 ∧ off % 4 = 0 ∨ size = 8 ∧ off % 8 = 0) →
      exec (.mbControlWrite off { size, num := v }) s = .next (chooseDepth (wakeDepth s))) ∧
    (∀ off v, 0x8000 ≤ off → off % 4 = 0 → wideReg (off / 8 * 8) = false →
      exec (.mbControlWrite off { size := 4, num := v }) s = .next (chooseDepth (barReg off (v % 2 ^ 32) (wakeDepth s)))) ∧
    (∀ off size v, off + size ≤ 0x8000 → 0 < size →
      exec (.mbControlWrite off { size, num := v }) s = .next (chooseDepth { wakeDepth s with host := { (wakeDepth s).host with
        slots := (List.range size).foldl (fun m i => Sparse.set (fun _ => 0) m (off + i) (BitVec.ofNat 8 (v / 2 ^ (8 * i))))
          (wakeDepth s).host.slots } })) ∧
    (∀ v, v < 64 → exec (.msixUnmask v) s = .next (chooseDepth (unmaskVector v (wakeDepth s)))) ∧
    (∀ e v, e < 8 → dmaGated (wakeDepth s) e = false → exec (.dmaDoorbell e 0x0C v) s = .next (chooseDepth
      (modEng e (fun g => if g.running then { g with ringProd := v % 2 ^ 32 } else dmaNext { g with ringProd := v % 2 ^ 32 })
        (wakeDepth s)))) ∧
    (∀ e, e < 8 → dmaGated (wakeDepth s) e = false → exec (.dmaEnable e) s = .next (chooseDepth
      (modEng e (fun g => if g.running then { g with enable := true, stop := false, failed := false }
        else dmaNext { g with enable := true, stop := false, failed := false }) (wakeDepth s)))) ∧
    (∀ e, e < 8 → dmaGated (wakeDepth s) e = false → exec (.dmaStop e) s = .next (chooseDepth
      (modEng e (fun g => { g with enable := false, stop := true, waiting := false }) (wakeDepth s)))) ∧
    (∀ e d, e < 8 → (s.eng e).running = true → exec (.dmaDescriptorDone e d) s = .next (chooseDepth (dmaDone e d (wakeDepth s)))) ∧
    (∀ v, exec (.ringConsumerWrite 0 v) s = .next (chooseDepth (takeSlots (ringEased
      { wakeDepth s with host := { (wakeDepth s).host with rpCons := v % 2 ^ 32 } })))) ∧
    (∀ v, exec (.ringConsumerWrite 1 v) s = .next (chooseDepth (drainQueues (ringEased
      { wakeDepth s with host := { (wakeDepth s).host with evCons := v % 2 ^ 32 } })))) ∧
    (∀ e v, e < 8 → exec (.ringConsumerWrite (2 + e) v) s = .next (chooseDepth
      (modEng e (fun g => if g.running then { g with compCons := v % 2 ^ 32 } else dmaNext { g with compCons := v % 2 ^ 32 })
        (wakeDepth s))))

/-- The other rows of the host link and of the packet network, where they act: a reset of the link clears BAR0 and closes the mailbox
(R605); a stall of the credits is recorded and reported once (R606 and 7012h); a configuration request is answered (R604, R606); a full
ring is reported once (R617); a packet between two endpoints of the network crosses it, unless an earlier packet of its initiator holds
its tag (R626-R632), and any other reaches the gate of its endpoint (R637); a new routing table of a router waits until no worm is in
flight through that router, and is counted when it takes effect (R643, R644); the statistics are
cleared, frozen and resumed (R647); an event map entry is stored (R648).
(Model's choice: packets and configuration words: logs 40, 62.) -/
def Obligations.HostEventsComplete : Prop :=
  (∀ (kind : Nat) (s : State), kind < 3 → endpointOn s = true →
    exec (.pcieReset kind) s = .next
      (let t := s.host.gating.foldl (fun t x => closeGate false x.1 t) (resetBar0 (closeMailbox s))
       let t := if kind = 2 then t else ((t.setO 0x7000 3 0).setO 0x7000 4 0).setO 0x7000 5 0
       raise 0x7011 (pU8 kind) (t.incO 0x7010 5 1))) ∧
  (∀ (ms : Nat) (s : State), endpointOn s = true → 0 < ms →
    exec (.pcieCreditStall ms) s = .next
      (let t := s.maxO 0x7010 6 ms
       if ms < t.o 0x7010 7 ∨ t.host.stalled = true then t
       else raise 0x7012 (pU32 ms) { t with host := { t.host with stalled := true } })) ∧
  (∀ (off v : Nat) (s : State), endpointOn s = true → s.boot.firmware = true →
    exec (.configurationRequest true off v) s = .next ((configWrite off v (linkUp s)).emit (.configReply false 0))) ∧
  (∀ (off v : Nat) (s : State), endpointOn s = true → s.boot.firmware = true →
    exec (.configurationRequest false off v) s = .next
      ((configRead off (linkUp s)).2.emit (.configReply false (configRead off (linkUp s)).1))) ∧
  (∀ s : State, s.host.mbOn = true → s.host.evSize ≤ ringUsed s.host.evProd s.host.evCons → s.host.fullRaised.getD 1 false = false →
    exec (.mailboxRingFull true) s = .next (raise 0x7601 (pU8 1)
      { s with host := { s.host with fullRaised := s.host.fullRaised.set 1 true } })) ∧
  (∀ s : State, s.host.mbOn = true → s.host.rpSize ≤ ringUsed s.host.rpProd s.host.rpCons → s.host.fullRaised.getD 0 false = false →
    exec (.mailboxRingFull false) s = .next (raise 0x7601 (pU8 0)
      { s with host := { s.host with fullRaised := s.host.fullRaised.set 0 true } })) ∧
  (∀ (p : NocPacket) (s : State), domState s 2 = 2 → crossable p = false →
    exec (.packetReceived p) s = .next (gatePacket (stampAge p s.host.noc) s)) ∧
  (∀ (p : NocPacket) (s : State), domState s 2 = 2 → crossable p = true → pktRequest p = true →
    s.host.noc.tags.any (fun x => x.1 == p.src && x.2.1 == p.tag) = true → exec (.packetReceived p) s = .next s) ∧
  (∀ (p : NocPacket) (s t : State), domState s 2 = 2 → crossable p = true → t = countSent p s →
    (pktRequest p = true → s.host.noc.tags.any (fun x => x.1 == p.src && x.2.1 == p.tag) = false) →
    exec (.packetReceived p) s = .next
      (let u := if pktRequest p then modNoc (fun n => { n with tags := n.tags ++
           [(p.src, p.tag, if p.opcode = 1 then p.size else 0, p.initiator, n.clock % 2 ^ 16)] }) t else t
       crossNetwork t.host.noc.nextId 512 (modNoc (inject p) u))) ∧
  (∀ (router : Nat) (s t : State), router < 28 → domState s 2 = 2 →
    t = modNoc (fun n => { n with newTables := n.newTables.filter (fun x => x.1 != router) ++ [(router, xyTable router)] }) s →
    exec (.routingTableSwitch router) s = .next (switchTables t)) ∧
  (∀ (router : Nat) (s t : State), router < 28 → domState s 2 = 2 → s.host.noc.newTables = [] → wormThrough s.host.noc router = true →
    t = modNoc (fun n => { n with newTables := [(router, xyTable router)] }) s → exec (.routingTableSwitch router) s = .next t) ∧
  (∀ r, WriteDone (.statsClear r) r 0x7380 1 (codeVal 1) (fun _ _ => True)
    (fun _ s => { s with obj := s.obj.filter (fun y => !(decide (0x7300 ≤ y.1 / 256 ∧ y.1 / 256 ≤ 0x7310))) })) ∧
  (∀ r, WriteDone (.statsFreeze r) r 0x7380 1 (codeVal 2) (fun _ _ => True) (fun _ s => s.setO 0x7380 2 1)) ∧
  (∀ r, WriteDone (.statsResume r) r 0x7380 1 (codeVal 3) (fun _ _ => True) (fun _ s => s.setO 0x7380 2 0)) ∧
  (∀ r sub v, WriteDone (.msixMapWrite r sub v) r 0x7700 sub v (fun _ _ => fld (natBE v.data) 32 31 = 0)
    (fun _ s => s.setO 0x7700 sub (natBE v.data)))

/-- R613: a write to AP_REGION_n or AP_BASE_n with a reserved code, or with a base that is not a multiple of 1 GiB, is ignored and
counted in 7100h:0B. (Codes 8-255 are reserved.) R648: a write to 7700h with
any of bits [62:32] set, or to 7100h:01-08 with a value that R613 ignores, is refused with BAD_VALUE. -/
def Obligations.BadHostMapsAreRefused : Prop :=
  (∀ (s : State) (n v : Nat), endpointOn s = true → s.host.d3hot = false → n < 4 →
    (7 < v % 256 → exec (.apWrite n false v) s = .next (chooseDepth ((wakeDepth s).incO 0x7100 0x0B 1))) ∧
    (v % 2 ^ 30 ≠ 0 → exec (.apWrite n true v) s = .next (chooseDepth ((wakeDepth s).incO 0x7100 0x0B 1)))) ∧
  (∀ r sub v, WriteRefused (.msixMapWrite r sub v) r 0x7700 sub v .badValue (fun _ _ => fld (natBE v.data) 32 31 ≠ 0)) ∧
  (∀ r n v, n < 4 → WriteRefused (.write r 0x7100 (1 + n) v) r 0x7100 (1 + n) v .badValue (fun _ _ => 7 < natBE v.data)) ∧
  (∀ r n v, n < 4 → WriteRefused (.write r 0x7100 (5 + n) v) r 0x7100 (5 + n) v .badValue (fun _ _ => natBE v.data % 2 ^ 30 ≠ 0))

/-! ### Time base and management ports (chapter 11) -/

/-- R652: system time is FRC + OFFSET + floor(RATE · (FRC - ANCHOR) / 2^32). R658: a write to SET_TIME steps system time by the written
value minus the system time at the write. It is refused with BUSY while the PTP port state is UNCALIBRATED (8) or SLAVE (9). -/
def Obligations.SystemTimeIsComputedAndSet : Prop :=
  (∀ s : State, ∃ q : Int, sysTime s = (s.time.frc.toNat : Int) + s.time.offset + q ∧
    2 ^ 32 * q ≤ s.time.rate * ((s.time.frc.toNat : Int) - (s.time.anchor : Int)) ∧
    s.time.rate * ((s.time.frc.toNat : Int) - (s.time.anchor : Int)) < 2 ^ 32 * (q + 1)) ∧
  ∀ r v,
    WriteDone (.setTime r v) r 0x7800 8 v (fun _ s => s.o 0x7820 0x0D ≠ 8 ∧ s.o 0x7820 0x0D ≠ 9)
      (fun _ s => stepTime ((natBE v.data : Int) - sysTime s) s) ∧
    WriteRefused (.setTime r v) r 0x7800 8 v .busy (fun _ s => s.o 0x7820 0x0D = 8 ∨ s.o 0x7820 0x0D = 9) ∧
    ∀ (d : Int) (s : State), (stepTime d s).time.offset = s.time.offset + d

/-- The rows of the time base and of PTP, where they act: the FRC reaches its next wrap; a message is counted and handled by a clock that
runs (R666-R676); the master is lost (R664); a frozen servo goes on (R677); the clock sends its own messages on every linked port
(R669); a follow-up that does not come is counted (R673); a clock setting is stored.
(Model's choice: the PTP port state: logs 32, 48.) -/
def Obligations.TimeRowsComplete : Prop :=
  (∀ s : State, domState s 4 = 2 →
    exec .frcWrap s = .next (advanceFrc (BitVec.ofNat 64 ((s.now / 2 ^ 32 + 1) * 2 ^ 32)) s)) ∧
  (∀ (p src : Nat) (m : PtpMsg) (stamp : Nat) (s : State), p < 2 → domState s 4 = 2 →
    clockRuns (s.incO (0x7830 + p) 8 1) = true → ptpPort (s.incO (0x7830 + p) 8 1) p = true →
    exec (.ptpMessage p src m stamp) s = .next (ptpHandle p src m stamp (s.incO (0x7830 + p) 8 1))) ∧
  (∀ s : State, clockRuns s = true →
    exec .masterLost s = .next
      (let t := if s.time.master ≠ none ∧ s.o 0x7810 1 ≠ 3 ∧ s.o 0x7810 1 ≠ 5 then enterHoldover s else s
       (forgetMaster t).setO 0x7820 0x0D (if t.o 0x7820 2 = 2 then 6 else 4))) ∧
  (∀ s : State, s.o 0x7810 1 = 4 → exec .pathFreezeEnd s = .next (setServo 1 { s with time := { s.time with inLock := 0 } })) ∧
  (∀ (kind : Nat) (l : List Nat) (s : State), clockRuns s = true → ownKindDue s kind = true →
    exec (.ptpTransmit kind l) s = .next
      ((List.range 2).foldl (fun t p =>
        if ptpPort t p then ownCopy kind s.time.nextSeq (l.contains p && t.o (0x7900 + p) 3 == 0) p t else t)
        { s with time := { s.time with nextSeq := (s.time.nextSeq + 1) % 65536 } })) ∧
  (∀ (p : Nat) (s : State) (e : Nat × Nat × Nat × Int), p < 2 → s.net.tc.find? (fun y => y.1 == p) = some e →
    exec (.tcFollowupMissed p) s = .next ((modNet (fun n => { n with tc := n.tc.erase e }) s).incO (0x7830 + p) 0x0A 1)) ∧
  (∀ r sub v t, WriteDone (.ptpConfigWrite r sub v) r 0x7820 sub v (fun _ s => clockWrite sub (natBE v.data) s = (.ok, t)) (fun _ _ => t))

/-- The rows of the management ports, where they act on a powered module: a PHY is read, and its link change stored and reported (R678); a lost
transport closes its sessions (R585); the switch learns source addresses, counts and forwards a good frame of a linked port, unless it is for the internal port or no port takes it (R682, R684); a MAC address ages
out; DHCP renews; an address that a probe found free is used, one in conflict is given up, with a DECLINE where DHCP gave it, and tried again (R692); a frame that the internal port
accepts passes the limiter and is handled (R686-R690); a reassembly expires; the address mode is written and takes effect.
(Model's choice: addresses and switch: logs 50, 51.) -/
def Obligations.NetworkRowsComplete : Prop :=
  (∀ (p : Nat) (q : PhyStatus) (s : State), p < 2 → netOn s = true → q.link = true → q.speed ≤ 2 → s.o (0x7900 + p) 1 = 0 →
    exec (.phyPoll p q) s = .next
      (let t := (s.emit (.mdio p (s.o (0x7900 + p) 4) 0)).emit (.mdio p (s.o (0x7900 + p) 4) 1)
       let t := modNet (fun n => { n with badDuplex := n.badDuplex.set p false }) t
       let t := ((t.setO (0x7900 + p) 1 1).setO (0x7900 + p) 2 q.speed).setO (0x7900 + p) 3 q.fullDuplex.toNat
       drainQueues (raise 0x7901 (pU8 p ++ pU8 1 ++ pU8 q.speed ++ pU8 q.fullDuplex.toNat) t))) ∧
  (∀ (p : Nat) (s : State), p < 2 → netOn s = true → s.o (0x7900 + p) 1 ≠ 1 →
    exec (.transportLost p) s = .next (((s.acp.sessions.filter (fun x => x.isOpen && x.carrier == p)).map (fun x => x.id)).foldl
      (fun t n => closeSession n 4 t) s)) ∧
  (∀ (f : EthFrame) (s t : State), f.port < 2 → netOn s = true → s.o (0x7900 + f.port) 1 = 1 → macError f = false →
    t = s.incO (0x7900 + f.port) 5 1 → t.o 0x7A00 1 = 1 → linkLocal f.dst = false → isMulticast f.dst = false →
    (t.net.macs.find? (fun e => e.1 == f.dst)).map (fun e => e.2.1) ≠ some f.port →
    exec (.switchForward f) s = .next (let u := learnMac f.src f.port t
      if f.dst = macAddress ∨ forwards f.port (1 - f.port) f u = false then u else forwardTo f.port (1 - f.port) f u)) ∧
  (∀ (mac : Nat) (s : State),
    exec (.macAging mac) s = .next (modNet (fun n => { n with macs := n.macs.filter (fun e => e.1 != mac) }) s)) ∧
  (∀ (a m l : Nat) (s : State), netOn s = true → s.o 0x7B00 2 = 1 → s.net.renewAt ≠ 0 →
    exec (.dhcpRenew a m l) s = .next (dhcpAnswer (a % 2 ^ 32) (m % 2 ^ 32) l (sendDhcp 3 s.net.addr 2 s))) ∧
  (∀ s : State, netOn s = true → s.net.probing ≠ 0 → s.o 0x7B00 5 ≠ 3 →
    exec (.addressProbe none) s = .next (changeAddress s.net.probing
      ((modNet (fun n => { n with probing := 0 }) s).setO 0x7B00 5 2))) ∧
  (∀ s : State, netOn s = true → s.o 0x7B00 5 = 3 → exec (.addressProbe none) s = .next (retryAddress s)) ∧
  (∀ (mac a : Nat) (s : State), netOn s = true → a = (if s.net.probing = 0 then s.net.addr else s.net.probing) → a ≠ 0 →
    exec (.addressProbe (some mac)) s = .next
      (let t := changeAddress 0 (raise 0x7B02 (pU32 a ++ octetsBE 6 mac) (s.setO 0x7B00 5 3))
       if t.o 0x7B00 2 = 1 then sendDhcp 4 a 0 (modNet (fun n => { n with probing := 0, leaseEnd := 0, renewAt := 0 }) t)
       else modNet (fun n => { n with probing := a }) t)) ∧
  (∀ (f : EthFrame) (s t u : State), f.port < 2 → netOn s = true → s.o (0x7900 + f.port) 1 = 1 → macError f = false →
    t = (let a := s.incO (0x7900 + f.port) 5 1
         if a.o 0x7A00 1 = 1 then learnMac f.src f.port a else a) → vlanOk t f = true → hostAccepts t f = true →
    (∀ b d src m, f.payload = .ptp b d src m → t.time.master ≠ some src) → limiterTake (limiterKey f) t = (true, u) →
    exec (.mgmtFrame f) s = .next (hostHandle f u)) ∧
  (∀ (src ident : Nat) (s : State), s.net.frags.any (fun g => g.src == src && g.ident == ident) = true →
    exec (.reassemblyExpiry src ident) s = .next
      ((modNet (fun n => { n with frags := n.frags.filter (fun g => !(g.src == src && g.ident == ident)) }) s).incO 0x7C00 5 1)) ∧
  (∀ (r : Req) (sub : Nat) (v : WVal) (x : Session) (s t : State), Reaches r x s → checkWrite s x 0x7B00 sub v false = none →
    addressWrite sub (natBE v.data) (accepted r x s) = (.ok, t) →
    exec (.ipAddressWrite r sub v) s = .next (applyAddress (replied r 6 0x7B00 sub .ok t)))

/-! ### Power, modes and temperature (chapter 12) -/

/-- The supply and the control lands, where they act. VIN good reads the straps and leads to STANDBY, and to BOOT with RESET_N high
(Table 12-10, R829); a module that is OFF by command stays there (R727). A supply outside its limits leads to OFF with cause 2 or 3
(Table 12-13); RESET_N low, PFAIL_N low and the thermal trip lead to STANDBY with causes 6, 4 and 5 (R730, R741, R752), which read 0 without VBAT (R740), and no design,
session or memory content is left. A rising edge of RESET_N, PFAIL_N high for 10 ms and an expired wake time lead to BOOT (R728, R743).
(Model's choice: events of mode changes: log 53.) -/
def Obligations.SupplyEventsComplete : Prop :=
  (∀ (straps : Nat) (rh : Bool) (s : State), s.pwr.mode = 0 → s.pwr.offByCommand = false →
    ∃ t, exec (.vinGood straps rh) s = .next t ∧ t.moduleId = straps % 128 ∧ t.pwr.mode = (if rh then 2 else 1) ∧
      t.pwr.resetHigh = rh ∧ t.pwr.vinGood = true ∧ t.run = State.reset.run ∧ t.lanes = State.reset.lanes ∧ t.mem = State.reset.mem) ∧
  (∀ (straps : Nat) (rh : Bool) (s : State), s.pwr.offByCommand = true → exec (.vinGood straps rh) s = .next s) ∧
  (∀ (c : Instr) (n : Nat) (s : State), (c, n) ∈ [(Instr.vinUndervoltage, 2), (Instr.vinOvervoltage, 3)] →
    ∃ t, exec c s = .next t ∧ t.pwr.mode = 0 ∧ t.pwr.vinGood = false ∧ (n = 2 → t.pwr.offByCommand = false) ∧
      (s.pwr.mode ≠ 0 → t.o 0x2200 6 = (if s.pwr.vbatGone then 0 else n) ∧ t.acp = State.reset.acp ∧ t.run = State.reset.run ∧ t.lanes = State.reset.lanes ∧
        t.mem = State.reset.mem)) ∧
  (∀ (c : Instr) (n : Nat) (s : State), s.pwr.mode ≠ 0 →
    (c = .resetNLow ∧ 2 ≤ s.pwr.mode ∧ n = 6 ∨ c = .pfail ∧ s.pwr.pfailLow = false ∧ n = 4 ∨ c = .thermalTrip ∧ n = 5) →
    ∃ t, exec c s = .next t ∧ t.pwr.mode = 1 ∧ t.o 0x2200 6 = (if s.pwr.vbatGone then 0 else n) ∧ t.run = State.reset.run ∧ t.lanes = State.reset.lanes ∧
      t.mem = State.reset.mem ∧ t.rew = State.reset.rew ∧ t.acp = State.reset.acp) ∧
  (∀ s : State, s.pwr.mode = 1 → s.pwr.resetHigh = false → (s.pwr.pfailDown = false ∨ s.pwr.pfailLow = false) →
    ∃ t, exec .resetNRise s = .next t ∧ t.pwr.mode = 2 ∧ t.pwr.resetHigh = true ∧ t.pwr.tripped = false) ∧
  (∀ s : State, s.pwr.mode = 1 → s.pwr.pfailDown = true → s.pwr.resetHigh = true → s.pwr.vinGood = true → s.pwr.tripped = false →
    ∃ t, exec .pfailNHigh s = .next t ∧ t.pwr.mode = 2 ∧ t.pwr.pfailLow = false) ∧
  (∀ s : State, s.o 0x2000 5 ≠ 0 → mayBoot s = true → ∃ t, exec .standbyWake s = .next t ∧ t.pwr.mode = 2)

/-- Temperature, power and the idle depths, where they act. Each ms the duty falls by 1, but not below 2, while Tj or the power is too
high, and otherwise rises by at most 1 (R747); Tj comes from the sensors that the health map has not excluded (R756); Tj at 105 °C stops a run that goes on with cause 6 (R750); a module in an idle depth
wakes for a known event, and reports a wake that takes too long (R737, R739); a boundary-scan instruction other than BYPASS and IDCODE
takes effect only in STANDBY, or in BOOT before step 2 (R819).
(Model's choice: rise of the duty and choice of depths: logs 54, 55.) -/
def Obligations.TemperatureAndDepthRowsComplete : Prop :=
  (∀ (p : PowerSample) (s : State), 2 ≤ s.pwr.mode → usedSample p s = p →
    ∃ t, exec (.dutyAdjust p) s = .next t ∧
      (toSigned 32 (s.o 0x2400 3) ≤ p.tj ∨ s.o 0x2200 4 < p.power → t.o 0x2400 6 = max 2 (s.o 0x2400 6 - 1)) ∧
      (p.tj < toSigned 32 (s.o 0x2400 3) → p.power ≤ s.o 0x2200 4 →
        t.o 0x2400 6 = s.o 0x2400 6 ∨ t.o 0x2400 6 = s.o 0x2400 6 + 1 ∧ s.o 0x2400 6 < 16 ∧
          p.tj < toSigned 32 (s.o 0x2400 3) - 2000 ∧ 100 * p.power ≤ 95 * s.o 0x2200 4)) ∧
  (∀ (p : PowerSample) (s : State), 2 ≤ s.pwr.mode →
    exec (.dutyAdjust p) s = exec (.dutyAdjust (usedSample p s)) s ∧ exec (.thermalHalt p) s = exec (.thermalHalt (usedSample p s)) s) ∧
  (∀ (p : PowerSample) (s : State), 2 ≤ s.pwr.mode → usedSample p s = p →
    ∃ t, exec (.thermalHalt p) s = .next t ∧ t.o 0x2400 1 = ofSigned 32 p.tj ∧ t.pwr.haltLevel = decide (105000 ≤ p.tj) ∧
      (105000 ≤ p.tj → s.pwr.haltLevel = false → (s.run.state = .running ∨ s.run.state = .stepping) →
        t.run.state = .stopping ∧ 6 ∈ t.run.causes) ∧
      t.lanes = s.lanes ∧ t.mem = s.mem) ∧
  (∀ (s : State) (n : Nat), s.pwr.mode = 3 → s.pwr.depth ≠ 0 → leftOf s s.pwr.depth = some n →
    n ≤ 1000 * (wakeMicros s.pwr.depth + s.o 0x2100 2) → exec .idleWake s = .next (chooseDepth (wakeDepth s))) ∧
  (∀ (micros : Nat) (s : State), s.pwr.mode = 3 → s.pwr.depth ≠ 0 → micros < 2 ^ 32 →
    exec (.wakeLate micros) s = .next (chooseDepth
      (if wakeMicros s.pwr.depth < micros then raise 0x2101 (pU8 s.pwr.depth ++ pU32 micros) (wakeDepth s) else wakeDepth s))) ∧
  (∀ (code : Nat) (s : State), s.pwr.mode ≠ 0 →
    exec (.tapInstruction code) s = .next
      (if code ≤ 1 ∨ s.pwr.mode = 1 ∨ s.pwr.mode = 2 ∧ s.o 0x6000 1 = 0 then ({ s with tap := code }).emit (.tap code) else s))

/-- R744: the power limit is 250 W · g / 48 for g working phases, in mW. When fewer phases work, the others are disabled and event 2203h
is raised with their number and the new limit.
(Model's choice: rounding down to whole mW: log 54.) -/
def Obligations.PowerLimitFollowsTheWorkingPhases : Prop :=
  ∀ (g : Nat) (s : State), 2 ≤ s.pwr.mode → g < s.o 0x2200 5 →
    ∃ t e, exec (.powerLimitChanged g) s = .next t ∧ t.o 0x2200 4 = 250000 * g / 48 ∧ t.o 0x2200 5 = g ∧
      t.acp.log.head? = some e ∧ e.code = 0x2203 ∧ e.payload = pU8 g ++ pU32 (250000 * g / 48) ∧ t.run = s.run ∧ t.lanes = s.lanes ∧
      t.mem = s.mem

/-- The mode commands where Table 12-9 lists them, and the domains that the host switches. ANALYZER starts the calibration of the
external channels; IDLE unloads a loaded design (R732); SERVICE starts the stacks that a failed boot left off (Table 12-8), and leaves the target domain as it was (R497); STANDBY, SHUTDOWN and
REBOOT act after the answer: STANDBY loses the design, SHUTDOWN runs its test when 2000h:04 is 1, giving up an image in application (R543), and both end in STANDBY or OFF as
2000h:03 says, REBOOT in BOOT, with cause 1. 2300h+d:02 switches a free domain (R725).
(Model's choice: effects after the answer: log 53.) -/
def Obligations.ModeRowsComplete : Prop :=
  (∀ r, WriteDone (.modeAnalyzer r) r 0x2000 2 (codeVal 2)
    (fun _ s => inRun s = false ∧ modeAccepted 2 s.pwr.mode s.run.state (s.o 0x6000 1 == 6) = true)
    (fun _ s => calibrateEntry (setMode 8 s))) ∧
  (∀ r, WriteDone (.modeIdle r) r 0x2000 2 (codeVal 3)
    (fun _ s => inRun s = false ∧ modeAccepted 3 s.pwr.mode s.run.state (s.o 0x6000 1 == 6) = true)
    (fun _ s => if s.pwr.mode = 8 ∨ s.pwr.mode = 11 then setMode 3 s else unload s)) ∧
  (∀ r, WriteDone (.modeService r) r 0x2000 2 (codeVal 4)
    (fun _ s => inRun s = false ∧ modeAccepted 4 s.pwr.mode s.run.state (s.o 0x6000 1 == 6) = true)
    (fun _ s => ffInit (targetOff (setMode 11
      (if s.pwr.mode = 2 then (List.range 4).foldl (fun t q => wakeDomain (13 + q) t) s else s))))) ∧
  (∀ (r : Req) (x : Session) (s : State), Reaches r x s → checkWrite (takeDue s).2 x 0x2000 2 (codeVal 1) false = none →
    inRun s = false → modeAccepted 1 s.pwr.mode s.run.state (s.o 0x6000 1 == 6) = true →
    ∃ t, exec (.modeStandby r) s = .next t ∧ t.pwr.mode = 1 ∧ t.run = State.reset.run ∧ t.lanes = State.reset.lanes ∧
      t.mem = State.reset.mem ∧ t.acp = State.reset.acp) ∧
  (∀ (r : Req) (fs : List TestFinding) (done ms : Nat) (x : Session) (s u v : State), Reaches r x s →
    checkWrite (takeDue s).2 x 0x2000 2 (codeVal 5) false = none → inRun s = false →
    modeAccepted 5 s.pwr.mode s.run.state (s.o 0x6000 1 == 6) = true →
    u = shutdownBegin 5 (wakeDepth (takeDue (replied r 6 0x2000 2 .ok
      (modPwr (fun p => { p with due := 5 }) (accepted r x (takeDue s).2)))).2) →
    v = testSteps fs done ms (startTest false (enterSelfTest { u with img := { u.img with applying := none } })) →
    exec (.shutdown r fs done ms) s = .next
      (if u.o 0x2000 4 = 1 then if v.test.running then v else shutdownEnd false v else shutdownEnd false u)) ∧
  (∀ (r : Req) (x : Session) (s : State), Reaches r x s → checkWrite (takeDue s).2 x 0x2000 2 (codeVal 6) false = none →
    inRun s = false → modeAccepted 6 s.pwr.mode s.run.state (s.o 0x6000 1 == 6) = true →
    ∃ t, exec (.reboot r) s = .next t ∧ t.pwr.mode = 2 ∧ t.o 0x2200 6 = (if s.pwr.vbatGone then 0 else 1) ∧ t.run = State.reset.run ∧ t.lanes = State.reset.lanes ∧
      t.mem = State.reset.mem) ∧
  (∀ s : State, (shutdownEnd false s).pwr.mode = (if s.o 0x2000 3 = 1 then 1 else 0) ∧
    (shutdownEnd false s).o 0x2200 6 = (if s.pwr.vbatGone then 0 else 1) ∧
    (shutdownEnd false s).pwr.offByCommand = (if s.o 0x2000 3 = 1 then s.pwr.offByCommand else true)) ∧
  (∀ r d v n, 13 ≤ d → d ≤ 18 → WriteDone (.domainRequest r d v) r (0x2300 + d) 2 v
    (fun _ s => n = natBE v.data ∧ n < 2 ∧ domainFree s d = true)
    (fun _ s =>
      let t := s.setO (0x2300 + d) 2 n
      if n = 1 then setDomain d 0 2 ((domainPorts d).foldl (fun t p => portOff p t)
        (modPwr (fun p => { p with hostOff := nsAdd d p.hostOff }) t))
      else
        let t := modPwr (fun p => { p with hostOff := p.hostOff.filter (fun k => k != d) }) t
        (domainPorts d).foldl (fun t p => startTraining p t) (if modeWants t d then wakeDomain d t else t)))

/-- R726: a mode command is refused with BUSY in RUNNING, STEPPING, STOPPING, WAITING and RECOVERING; in any other mode or run state that
Table 12-9 does not list for the command, with BAD_VALUE. R804: a write to 8830h:01 that selects the parallel sink while bank 9 is off,
or the DRAM sink while the TRACE region has no units, is refused with BAD_VALUE. -/
def Obligations.ModesAndSinksAreRefused : Prop :=
  (∀ (n : Nat) (c : Req → Instr) (r : Req) (x : Session) (s : State),
    (n, c) ∈ [(1, Instr.modeStandby), (2, Instr.modeAnalyzer), (3, Instr.modeIdle), (4, Instr.modeService), (6, Instr.reboot)] ∨
      n = 5 ∧ (∃ fs done ms, c = fun r => .shutdown r fs done ms) →
    Reaches r x s →
    let s0 := if n = 2 ∨ n = 3 ∨ n = 4 then s else (takeDue s).2
    checkWrite s0 x 0x2000 2 (codeVal n) false = none →
    (s.run.state ∈ [.running, .stepping, .stopping, .waiting, .recovering] →
      exec (c r) s = .next (replied r 6 0x2000 2 .busy (accepted r x s0))) ∧
    (s.run.state ∉ [.running, .stepping, .stopping, .waiting, .recovering] →
      modeAccepted n s.pwr.mode s.run.state (s.o 0x6000 1 == 6) = false →
      exec (c r) s = .next (replied r 6 0x2000 2 .badValue (accepted r x s0)))) ∧
  ∀ r v, WriteRefused (.sinkWrite r v) r 0x8830 1 v .badValue (fun _ s =>
    natBE v.data = 2 ∧ s.o (0x6850 + 9) 1 = 0 ∨ natBE v.data = 3 ∧ regionUnits s 6 = [])

/-! ### Self-test (chapter 13) and flow trace (chapter 14) -/

/-- The rows of the tests and of Tallow, where they act. The scheduled test enters SELFTEST from IDLE with NO_DESIGN and is postponed
with event 8011h otherwise (R773, R774); a running test takes steps, and goes on with what it was part of once it commits; an on-command
test keeps its kind and target, isolates its stack, is aborted, or ends with its result (R776-R779); Tallow patrols the words of an area and moves on (R780-R782);
the voter rewrites the copy that disagrees, and counts it (R783); a reset reloads the saved settings and positions (R785).
(Model's choice: Tallow and the test's operands: logs 44, 45.) -/
def Obligations.SelfTestRowsComplete : Prop :=
  (∀ (fs : List TestFinding) (done ms : Nat) (s t : State), s.pwr.mode = 3 → s.run.state = .noDesign → s.test.running = false →
    (s.o 0x8010 1 ≠ 0 ∨ s.test.schedDue = true) → t = testSteps fs done ms (startTest true (enterSelfTest (wakeDepth s))) →
    exec (.scheduledTest fs done ms) s = .next (if t.test.running then t else scheduledEnd t)) ∧
  (∀ (fs : List TestFinding) (done ms : Nat) (s : State), 2 ≤ s.pwr.mode → (s.pwr.mode ≠ 3 ∨ s.run.state ≠ .noDesign) →
    s.test.running = false → s.o 0x8010 1 ≠ 0 → s.test.schedDue = false →
    exec (.scheduledTest fs done ms) s = .next
      (raise 0x8011 (pU8 s.pwr.mode ++ pU8 s.run.state.code) (modTest (fun t => { t with schedDue := true }) s))) ∧
  (∀ (fs : List TestFinding) (done ms : Nat) (s t : State), s.pwr.mode = 10 → s.test.running = true → t = testSteps fs done ms s →
    exec (.testProgressRecord fs done ms) s = .next
      (if t.test.running then t else if t.test.scheduled then scheduledEnd t else shutdownEnd false t)) ∧
  (∀ r, WriteDone (.odStart r) r 0x8200 3 (codeVal 1) (fun _ s => odRefusal s = none)
    (fun _ s =>
      let t := if s.o 0x8200 1 = 1 then setDomain (13 + s.o 0x8200 2) 2 2 s else s
      (modTest (fun y => { y with odKind := t.o 0x8200 1, odTarget := t.o 0x8200 2 }) t).setO 0x8200 4 2)) ∧
  (∀ r, WriteDone (.odAbort r) r 0x8200 3 (codeVal 2) (fun _ _ => True) (fun _ s => if s.o 0x8200 4 = 0 then s else odEnd 3 0 s)) ∧
  (∀ (ok : Bool) (detail : Nat) (dev : List Int) (s : State), s.o 0x8200 4 ≠ 0 → (ok = true ∨ s.test.odKind = 3) →
    exec (.ondemandDone ok detail dev) s = .next (odEnd 1 (detail % 2 ^ 32)
      (if s.test.odKind = 3 then (List.range 4).foldl (fun t i => t.setO 0x8210 (1 + i) (ofSigned 32 (dev.getD i 0))) s else s))) ∧
  (∀ (detail : Nat) (dev : List Int) (s : State), s.o 0x8200 4 ≠ 0 → s.test.odKind ≠ 3 →
    exec (.ondemandDone false detail dev) s = .next (odEnd 2 (detail % 2 ^ 32)
      (if s.test.odKind = 1 then writeHealth (fun h => { h with dramStacks := nsAdd s.test.odTarget h.dramStacks }) s
       else writeHealth (fun h => { h with delays :=
         ((bankLands s.test.odTarget).filter (fun l => bitOf detail (l % 32))).foldl (fun d l => nsAdd l d) h.delays }) s))) ∧
  (∀ (area : Nat) (ws : List PatrolWord) (s t : State), area < 4 → 2 ≤ s.pwr.mode → bitOf (tallowVoted s).enable area = true →
    t = ws.foldl (fun t w => patrolWord area t w) s →
    exec (.tallowPatrol area ws none) s = .next (chooseDepth (modTest
      (fun y => { y with savedPos := y.savedPos.set area ((tallowVoted t).pos.getD area 0 + 1) })
      (setTallow (fun c => { c with pos := c.pos.set area ((tallowVoted t).pos.getD area 0 + 1) }) t)))) ∧
  (∀ (copy : Nat) (s : State), copy < 3 → 2 ≤ s.pwr.mode →
    exec (.tallowVote copy) s = .next ((modTest (fun t => { t with
      tallow := t.tallow.set copy (s.test.tallow.getD (if copy = 0 then 1 else 0) {}) }) s).incO 0x8300 6 1)) ∧
  (∀ (area : Nat) (s : State), 2 ≤ s.pwr.mode →
    exec (.tallowReset (some area)) s = .next
      (let c : TallowCopy := { s.test.saved with pos := s.test.savedPos }
       raise 0x8303 (pU8 1 ++ pU32 area)
         (((modTest (fun t => { t with tallow := [c, c, c] }) s).setO 0x8300 1 c.rate).incO 0x8300 7 1)))

/-- The rows of the flow trace, where they act. A new sink ends the stream on the former one and starts it on the new one (R805); a
Custodian that holds the owner token lifts suppression or lets it return (R797, R798); core trace is switched by a Custodian, or by any
session on a firmware that is not secure: each core newly selected that is not gated starts with a CORE_SYNC record, and each traced core that is no longer selected stops with a STOP record (R799); after an
overflow the stream goes on with OVERFLOW and SYNC once 512 KiB are free (R808).
(Model's choice: padding: log 46.) -/
def Obligations.TraceRowsComplete : Prop :=
  (∀ r v, WriteDone (.sinkWrite r v) r 0x8830 1 v
    (fun _ s => natBE v.data ≤ 3 ∧ natBE v.data ≠ s.o 0x8830 1 ∧ (natBE v.data = 2 → s.o (0x6850 + 9) 1 ≠ 0) ∧
      (natBE v.data = 3 → regionUnits s 6 ≠ []))
    (fun _ s => startStream ((endRec 0 s).setO 0x8830 1 (natBE v.data)))) ∧
  (∀ r v, WriteDone (.seqUnsuppress r v) r 0x8810 3 v
    (fun x s => ∃ y, s.sess x.id = some y ∧ y.level = 3 ∧ y.token = true)
    (fun x s => setLifted (if natBE v.data = 1 then some x.id else none) (s.setO 0x8810 3 (natBE v.data == 1).toNat))) ∧
  (∀ r v, WriteDone (.coreTraceWrite r v) r 0x8820 1 v
    (fun x s => natLE v.data = 0 ∨ s.o 0x8800 5 ≠ 1 ∨ ∃ y, s.sess x.id = some y ∧ y.level = 3)
    (fun x s =>
      let old := s.o 0x8820 1
      let t := (stopCores (old &&& (15 ^^^ natLE v.data)) 0 s).setO 0x8820 1 (natLE v.data)
      let t := coreStart (natLE v.data &&& (15 ^^^ old) &&& (15 ^^^ gatedCores t)) t
      { t with trace := { t.trace with coreBy := if natLE v.data = 0 then none else some x.id } })) ∧
  (∀ s : State, s.trace.dropping = true → s.trace.buf.length + 65536 ≤ traceRoomWords →
    exec .traceOverflow s = .next
      (let n := s.trace.dropped
       let t := { s with trace := { s.trace with dropping := false, dropped := 0 } }
       let t := traceRecord (nextCyc t) [trcHeader 6 0 1 (min n (2 ^ 32 - 1)), s.trace.dropCycle] t
       let t := syncRec (nextCyc t) t.run.variant 2 t
       raise 0x8801 (pU32 (min n (2 ^ 32 - 1)) ++ pCycle ((t.incO 0x8840 2 n).incO 0x8840 3 1))
         ((t.incO 0x8840 2 n).incO 0x8840 3 1)))
end

