-- ==== Sys2Proof/Laws/Serve.lean ====
section
/-! SUPPORT. What the service of one request does, in one lemma per form of service: the prover cites these and never unfolds
`serve`. -/

namespace Sys2Proof.Machine

/-! ### What acceptance leaves alone -/

@[simp] theorem accepted_obj (r : Req) (x : Session) (s : State) : (accepted r x s).obj = s.obj := rfl
@[simp] theorem accepted_o (r : Req) (x : Session) (s : State) (i j : Nat) : (accepted r x s).o i j = s.o i j := rfl
@[simp] theorem accepted_free (r : Req) (x : Session) (s : State) : (accepted r x s).free = s.free := rfl
@[simp] theorem accepted_moduleId (r : Req) (x : Session) (s : State) : (accepted r x s).moduleId = s.moduleId := rfl
@[simp] theorem accepted_out (r : Req) (x : Session) (s : State) : (accepted r x s).out = s.out := rfl
@[simp] theorem accepted_lanes (r : Req) (x : Session) (s : State) : (accepted r x s).lanes = s.lanes := rfl
@[simp] theorem accepted_dswap (r : Req) (x : Session) (s : State) : (accepted r x s).dswap = s.dswap := rfl
@[simp] theorem accepted_xswap (r : Req) (x : Session) (s : State) : (accepted r x s).xswap = s.xswap := rfl
@[simp] theorem accepted_ex (r : Req) (x : Session) (s : State) : (accepted r x s).ex = s.ex := rfl
@[simp] theorem accepted_mem (r : Req) (x : Session) (s : State) : (accepted r x s).mem = s.mem := rfl
@[simp] theorem accepted_run (r : Req) (x : Session) (s : State) : (accepted r x s).run = s.run := rfl
@[simp] theorem accepted_lan (r : Req) (x : Session) (s : State) : (accepted r x s).lan = s.lan := rfl
@[simp] theorem accepted_rew (r : Req) (x : Session) (s : State) : (accepted r x s).rew = s.rew := rfl
@[simp] theorem accepted_tif (r : Req) (x : Session) (s : State) : (accepted r x s).tif = s.tif := rfl
@[simp] theorem accepted_img (r : Req) (x : Session) (s : State) : (accepted r x s).img = s.img := rfl
@[simp] theorem accepted_boot (r : Req) (x : Session) (s : State) : (accepted r x s).boot = s.boot := rfl
@[simp] theorem accepted_keys (r : Req) (x : Session) (s : State) : (accepted r x s).keys = s.keys := rfl
@[simp] theorem accepted_pwr (r : Req) (x : Session) (s : State) : (accepted r x s).pwr = s.pwr := rfl
@[simp] theorem accepted_clk (r : Req) (x : Session) (s : State) : (accepted r x s).clk = s.clk := rfl
@[simp] theorem accepted_time (r : Req) (x : Session) (s : State) : (accepted r x s).time = s.time := rfl
@[simp] theorem accepted_net (r : Req) (x : Session) (s : State) : (accepted r x s).net = s.net := rfl
@[simp] theorem accepted_host (r : Req) (x : Session) (s : State) : (accepted r x s).host = s.host := rfl
@[simp] theorem accepted_test (r : Req) (x : Session) (s : State) : (accepted r x s).test = s.test := rfl
@[simp] theorem accepted_trace (r : Req) (x : Session) (s : State) : (accepted r x s).trace = s.trace := rfl
@[simp] theorem accepted_tap (r : Req) (x : Session) (s : State) : (accepted r x s).tap = s.tap := rfl
@[simp] theorem accepted_now (r : Req) (x : Session) (s : State) : (accepted r x s).now = s.now := rfl

/-- A session that an update of sessions keeps by number is found as its update. -/
theorem find_map_session (l : List Session) (n m : Nat) (f : Session → Session) (hf : ∀ y, (f y).id = y.id) :
    (l.map (fun y => if y.id = n then f y else y)).find? (fun y => y.id == m) =
      (l.find? (fun y => y.id == m)).map (fun y => if y.id = n then f y else y) := by
  induction l with
  | nil => rfl
  | cons a t ih =>
    simp only [List.map_cons, List.find?_cons]
    have h : ((if a.id = n then f a else a).id == m) = (a.id == m) := by
      split
      · rw [hf]
      · rfl
    rw [h]
    cases h2 : (a.id == m) with
    | true => rfl
    | false => exact ih

theorem modSess_sess (s : State) (n m : Nat) (f : Session → Session) (hf : ∀ y, (f y).id = y.id) :
    (s.modSess n f).sess m = (s.sess m).map (fun y => if y.id = n then f y else y) :=
  find_map_session _ _ _ _ hf

theorem acceptSeq_id (q t : Nat) (y : Session) : (acceptSeq q t y).id = y.id := rfl

theorem accepted_sess (r : Req) (x : Session) (s : State) (m : Nat) :
    (accepted r x s).sess m = (s.sess m).map (fun y => if y.id = x.id then acceptSeq r.seq s.now y else y) :=
  modSess_sess _ _ _ _ (acceptSeq_id _ _)

/-- Acceptance changes no selector. -/
@[simp] theorem accepted_selOf (r : Req) (x : Session) (s : State) (n i j : Nat) :
    selOf (accepted r x s) n i j = selOf s n i j := by
  unfold selOf
  rw [accepted_sess]
  cases s.sess n with
  | none => rfl
  | some y =>
    dsimp only [Option.map_some]
    split <;> rfl

/-- Acceptance changes no right to read. -/
@[simp] theorem accepted_mayRead (r : Req) (x : Session) (s : State) (n : Nat) : mayRead (accepted r x s) n = mayRead s n := by
  unfold mayRead
  rw [accepted_sess]
  cases s.sess n with
  | none => rfl
  | some y =>
    dsimp only [Option.map_some, accepted_img]
    split <;> rfl

/-- Acceptance changes no check of Table 9-4. -/
@[simp] theorem accepted_checkWrite (r : Req) (x : Session) (s : State) (y : Session) (i j : Nat) (v : WVal) (b : Bool) :
    checkWrite (accepted r x s) y i j v b = checkWrite s y i j v b := by
  have h1 : checkCommon (accepted r x s) y i j true = checkCommon s y i j true := rfl
  have h2 : domainBlocked (accepted r x s) y.id i j = domainBlocked s y.id i j := by
    unfold domainBlocked domainsNeeded
    simp only [accepted_selOf]
    rfl
  unfold checkWrite
  rw [h1, h2, accepted_run]

@[simp] theorem accepted_addrLane (r : Req) (x : Session) (s : State) (a : Nat) : addrLane (accepted r x s) a = addrLane s a := rfl
@[simp] theorem accepted_addrCluster (r : Req) (x : Session) (s : State) (a : Nat) :
    addrCluster (accepted r x s) a = addrCluster s a := rfl

/-! ### Service -/

/-- A frame that reaches its checks is served awake. -/
theorem serve_eq {r : Req} {x : Session} {s : State} (h : Reaches r x s) (op idx sub : Nat)
    (act : Session → State → List Answer × State) (a : Answer) (l : List Answer) (t : State)
    (ha : act x (accepted r x s) = (a :: l, t)) :
    serve r op idx sub act s = chooseDepth (answer r op idx sub (a :: l) t) := by
  have h1 : ¬ s.pwr.mode < 2 := by have := h.awake; omega
  have h2 : ¬ 8 ≤ x.waiting.length := by have := h.room; omega
  have h3 : wakeDepth s = s := by unfold wakeDepth; rw [if_pos h.depth]
  unfold serve
  rw [h.carrier, decide_eq_false h1, h3]
  simp only [Bool.not_true, Bool.or_self, Bool.false_eq_true, if_false]
  unfold serveAwake
  rw [h.session]
  dsimp only
  rw [if_pos h.fresh, if_neg h2]
  change chooseDepth (match act x (accepted r x s) with | ([], s) => _ | (as_, s) => _) = _
  rw [ha]

/-- A frame that reaches its checks and is answered later waits. -/
theorem serve_later {r : Req} {x : Session} {s : State} (h : Reaches r x s) (op idx sub : Nat)
    (act : Session → State → List Answer × State) (t : State) (ha : act x (accepted r x s) = ([], t)) :
    serve r op idx sub act s = chooseDepth (t.modSess x.id (fun y => { y with
      waiting := y.waiting ++ [{ seq := r.seq, tag := r.tag, op, idx, sub }] })) := by
  have h1 : ¬ s.pwr.mode < 2 := by have := h.awake; omega
  have h2 : ¬ 8 ≤ x.waiting.length := by have := h.room; omega
  have h3 : wakeDepth s = s := by unfold wakeDepth; rw [if_pos h.depth]
  unfold serve
  rw [h.carrier, decide_eq_false h1, h3]
  simp only [Bool.not_true, Bool.or_self, Bool.false_eq_true, if_false]
  unfold serveAwake
  rw [h.session]
  dsimp only
  rw [if_pos h.fresh, if_neg h2]
  change chooseDepth (match act x (accepted r x s) with | ([], s) => _ | (as_, s) => _) = _
  rw [ha]

/-- A WRITE that passes the checks of Table 9-4 answers what its handler answers. -/
theorem serveRun_eq {r : Req} {x : Session} {s : State} (h : Reaches r x s) {idx sub : Nat} {v : WVal} {long : LengthFn}
    {f : WriteFn} (hc : checkWrite s x idx sub v (long x.id (accepted r x s)) = none) {st : Status} {t : State}
    (hf : f x.id (accepted r x s) = (st, t)) :
    serveRun r idx sub v long f s = replied r 6 idx sub st t := by
  unfold serveRun replied
  refine serve_eq h _ _ _ _ _ _ _ ?_
  dsimp only
  rw [accepted_checkWrite, hc, hf]

theorem serveWrite_eq {r : Req} {x : Session} {s : State} (h : Reaches r x s) {idx sub : Nat} {v : WVal}
    (hc : checkWrite s x idx sub v false = none) {f : WriteFn} {st : Status} {t : State}
    (hf : f x.id (accepted r x s) = (st, t)) :
    serveWrite r idx sub v f s = replied r 6 idx sub st t := serveRun_eq (long := fun _ _ => false) h hc hf

/-- A WRITE that fails a check of Table 9-4 answers that check's status and changes nothing. -/
theorem serveRun_refused {r : Req} {x : Session} {s : State} (h : Reaches r x s) {idx sub : Nat} {v : WVal} {long : LengthFn}
    {f : WriteFn} {st : Status} (hc : checkWrite s x idx sub v (long x.id (accepted r x s)) = some st) :
    serveRun r idx sub v long f s = replied r 6 idx sub st (accepted r x s) := by
  unfold serveRun replied
  refine serve_eq h _ _ _ _ _ _ _ ?_
  dsimp only
  rw [accepted_checkWrite, hc]

/-- A WRITE whose answer may come later: what its handler answers now, or a place among the waiting. -/
theorem serveWriteLater_eq {r : Req} {x : Session} {s : State} (h : Reaches r x s) {idx sub : Nat} {v : WVal}
    {f : Nat → State → Option Status × State} (hc : checkWrite s x idx sub v false = none) {t : State}
    (hf : f x.id (accepted r x s) = (none, t)) :
    serveWriteLater r idx sub v f s = chooseDepth (t.modSess x.id (fun y => { y with
      waiting := y.waiting ++ [{ seq := r.seq, tag := r.tag, op := 6, idx, sub }] })) := by
  unfold serveWriteLater
  refine serve_later h _ _ _ _ _ ?_
  rw [accepted_checkWrite, hc, hf]

/-- A WRITE_BLOCK that passes its checks: START is in the selector, the data are stored, the selector is advanced. -/
theorem serveBlock_eq {r : Req} {x : Session} {s : State} (h : Reaches r x s) {idx sub start : Nat} {data : List Octet}
    {long : List Octet → LengthFn} {f : List Octet → WriteFn} {sel el a b : Nat} (hn : x.negotiated = true)
    (hb : bitOf x.agreed 1 = true) (hi : blockInfo idx sub = some (sel, el, a, b))
    (hc : checkWrite (setStart x.id idx sel start (accepted r x s)) x idx sub { ty := 11, data }
      (long data x.id (setStart x.id idx sel start (accepted r x s))) = none) {t : State}
    (hf : f data x.id (setStart x.id idx sel start (accepted r x s)) = (.ok, t)) :
    serveBlock r idx sub start data long f s =
      replied r 8 idx sub .ok (setStart x.id idx sel (start + data.length / el) t) := by
  unfold serveBlock replied
  refine serve_eq h _ _ _ _ _ _ _ ?_
  simp only [hn, hb, hi, hc, hf, Bool.not_true, Bool.or_self, Bool.false_eq_true, if_false, Status.done, if_true]

/-- A row that stores elements completes in every form when its handler answers OK. -/
theorem formDone_of {c : WForm → Instr} {r : Req} {idx sub1 sub2 : Nat} {long : List Octet → LengthFn}
    {one many : List Octet → WriteFn}
    (he : ∀ w s, exec (c w) s = .next (serveForm r idx sub1 sub2 w long one many s))
    {pre : Bool → List Octet → Session → State → Prop} {eff : Bool → List Octet → Session → State → State}
    (h1 : ∀ d x s, pre true d x s → one d x.id s = (.ok, eff true d x s))
    (h2 : ∀ d x s, pre false d x s → many d x.id s = (.ok, eff false d x s)) :
    FormDone c r idx sub1 sub2 long pre eff := by
  refine ⟨?_, ?_, ?_⟩
  · intro v x s h hc hp
    rw [he]
    exact congrArg _ (serveRun_eq (long := fun n s => sub1 == sub2 && long v.data n s) h hc (h1 _ _ _ hp))
  · intro v x s h hc hp
    rw [he]
    exact congrArg _ (serveRun_eq (long := long v.data) h hc (h2 _ _ _ hp))
  · intro start data x s sel el n m s1 h hn hb hi hs hc hp
    subst hs
    rw [he]
    exact congrArg _ (serveBlock_eq h hn hb hi hc (h2 _ _ _ hp))

/-- In OFF and STANDBY, and while the mailbox takes no frame, no request is served. -/
theorem serve_asleep {r : Req} {s : State} (h : s.pwr.mode < 2 ∨ carrierTakes s r.carrier = false) (op idx sub : Nat)
    (act : Session → State → List Answer × State) : serve r op idx sub act s = s := by
  unfold serve
  rcases h with h | h
  · rw [decide_eq_true h]; rfl
  · rw [h]; simp

theorem serveRun_asleep {r : Req} {s : State} (h : s.pwr.mode < 2 ∨ carrierTakes s r.carrier = false) (idx sub : Nat) (v : WVal)
    (long : LengthFn) (f : WriteFn) : serveRun r idx sub v long f s = s := serve_asleep h _ _ _ _

theorem serveWrite_asleep {r : Req} {s : State} (h : s.pwr.mode < 2 ∨ carrierTakes s r.carrier = false) (idx sub : Nat) (v : WVal)
    (f : WriteFn) : serveWrite r idx sub v f s = s := serve_asleep h _ _ _ _

theorem serveWriteLater_asleep {r : Req} {s : State} (h : s.pwr.mode < 2 ∨ carrierTakes s r.carrier = false) (idx sub : Nat)
    (v : WVal) (f : Nat → State → Option Status × State) : serveWriteLater r idx sub v f s = s := serve_asleep h _ _ _ _

theorem serveForm_asleep {r : Req} {s : State} (h : s.pwr.mode < 2 ∨ carrierTakes s r.carrier = false) (idx sub1 sub2 : Nat)
    (w : WForm) (long : List Octet → LengthFn) (one many : List Octet → WriteFn) :
    serveForm r idx sub1 sub2 w long one many s = s := by
  cases w <;> exact serve_asleep h _ _ _ _

theorem onObject_asleep {r : Req} {s : State} (h : s.pwr.mode < 2 ∨ carrierTakes s r.carrier = false) (n count base sub : Nat)
    {f : State → State} (hf : f s = s) : onObject r n count base sub f s = .next s := by
  unfold onObject
  split
  · rw [hf]
  · rw [serve_asleep h]

/-- The session that a request reaches has the request's number and carrier, and is open. -/
theorem Reaches_session {r : Req} {x : Session} {s : State} (h : Reaches r x s) :
    s.sess r.session = some x ∧ x.isOpen = true ∧ x.carrier = r.carrier := by
  have := h.session
  unfold sessionFor at this
  split at this
  · rename_i y hy
    split at this
    · rename_i hc
      cases this
      simp only [Bool.and_eq_true, beq_iff_eq] at hc
      exact ⟨hy, hc.1, hc.2⟩
    · cases this
  · cases this

theorem Reaches_id {r : Req} {x : Session} {s : State} (h : Reaches r x s) : x.id = r.session := by
  have := (Reaches_session h).1
  unfold State.sess at this
  have h2 := List.find?_some this
  simpa using h2

end Sys2Proof.Machine
end

