-- ==== Sys2Proof/Laws/Sparse.lean ====
section
/-! SUPPORT. Sparse maps and the DRAM: a read after a write, and the canonical form that every write keeps. -/

namespace Sys2Proof.Machine

variable {α : Type} [DecidableEq α] (d : Nat → α)

@[simp] theorem sparse_get_nil (k : Nat) : Sparse.get d ([] : Sparse α) k = d k := rfl

omit [DecidableEq α] in
theorem sparse_get_erase_same (m : Sparse α) (k : Nat) : Sparse.get d (Sparse.erase m k) k = d k := by
  induction m with
  | nil => rfl
  | cons p t ih =>
    unfold Sparse.erase at ih ⊢
    by_cases h : p.1 = k
    · simp [h, ih]
    · simp [h, ih, Sparse.get]

omit [DecidableEq α] in
theorem sparse_get_erase_other (m : Sparse α) {k j : Nat} (h : j ≠ k) :
    Sparse.get d (Sparse.erase m k) j = Sparse.get d m j := by
  induction m with
  | nil => rfl
  | cons p t ih =>
    unfold Sparse.erase at ih ⊢
    by_cases hp : p.1 = k
    · have : p.1 ≠ j := fun e => h (e.symm.trans hp)
      simp [hp, ih, Sparse.get]
      intro e; exact absurd e.symm h
    · simp [hp, ih, Sparse.get]

omit [DecidableEq α] in
theorem sparse_get_insert_same (m : Sparse α) (k : Nat) (v : α) (h : ∀ p ∈ m, p.1 ≠ k) :
    Sparse.get d (Sparse.insert k v m) k = v := by
  induction m with
  | nil => simp [Sparse.insert, Sparse.get]
  | cons p t ih =>
    have hp : p.1 ≠ k := h p (by simp)
    have ht := ih (fun q hq => h q (by simp [hq]))
    by_cases hk : k < p.1
    · simp [Sparse.insert, hk, Sparse.get]
    · simp [Sparse.insert, hk, Sparse.get, hp, ht]

omit [DecidableEq α] in
theorem sparse_get_insert_other (m : Sparse α) {k j : Nat} (v : α) (h : j ≠ k) :
    Sparse.get d (Sparse.insert k v m) j = Sparse.get d m j := by
  induction m with
  | nil => simp [Sparse.insert, Sparse.get, Ne.symm h]
  | cons p t ih =>
    by_cases hk : k < p.1
    · simp [Sparse.insert, hk, Sparse.get, Ne.symm h]
    · simp [Sparse.insert, hk, Sparse.get, ih]

/-- A read gives what the last write to the same key stored. -/
@[simp] theorem sparse_get_set_same (m : Sparse α) (k : Nat) (v : α) : Sparse.get d (Sparse.set d m k v) k = v := by
  unfold Sparse.set
  split
  · rename_i h; rw [sparse_get_erase_same, h]
  · apply sparse_get_insert_same
    intro p hp
    simp [Sparse.erase] at hp
    exact hp.2

/-- A write leaves every other key alone. -/
theorem sparse_get_set_other (m : Sparse α) {k j : Nat} (v : α) (h : j ≠ k) :
    Sparse.get d (Sparse.set d m k v) j = Sparse.get d m j := by
  unfold Sparse.set
  split
  · exact sparse_get_erase_other d m h
  · rw [sparse_get_insert_other d _ v h, sparse_get_erase_other d m h]

theorem sparse_wf_cons (p : Nat × α) (t : Sparse α) :
    Sparse.wf d (p :: t) = true ↔ p.2 ≠ d p.1 ∧ (∀ q ∈ t, p.1 < q.1) ∧ Sparse.wf d t = true := by
  simp [Sparse.wf, and_assoc]

theorem sparse_wf_filter (m : Sparse α) (f : Nat × α → Bool) (h : Sparse.wf d m = true) :
    Sparse.wf d (m.filter f) = true := by
  induction m with
  | nil => rfl
  | cons p t ih =>
    obtain ⟨h1, h2, h3⟩ := (sparse_wf_cons d p t).1 h
    by_cases hp : f p
    · rw [List.filter_cons_of_pos hp, sparse_wf_cons]
      exact ⟨h1, fun q hq => h2 q (List.mem_filter.1 hq).1, ih h3⟩
    · rw [List.filter_cons_of_neg hp]; exact ih h3

theorem sparse_insert_mem (k : Nat) (v : α) (m : Sparse α) (q : Nat × α) (h : q ∈ Sparse.insert k v m) :
    q = (k, v) ∨ q ∈ m := by
  induction m with
  | nil => simpa [Sparse.insert] using h
  | cons p t ih =>
    unfold Sparse.insert at h
    split at h
    · simpa using h
    · rcases List.mem_cons.1 h with h | h
      · right; simp [h]
      · rcases ih h with h | h
        · exact .inl h
        · right; simp [h]

theorem sparse_wf_insert (k : Nat) (v : α) (m : Sparse α) (hv : v ≠ d k) (hk : ∀ p ∈ m, p.1 ≠ k)
    (h : Sparse.wf d m = true) : Sparse.wf d (Sparse.insert k v m) = true := by
  induction m with
  | nil => simp [Sparse.insert, Sparse.wf, hv]
  | cons p t ih =>
    obtain ⟨h1, h2, h3⟩ := (sparse_wf_cons d p t).1 h
    unfold Sparse.insert
    split
    · rename_i hlt
      rw [sparse_wf_cons]
      refine ⟨hv, fun q hq => ?_, h⟩
      rcases List.mem_cons.1 hq with rfl | hq
      · exact hlt
      · exact lt_trans hlt (h2 q hq)
    · rename_i hge
      rw [sparse_wf_cons]
      refine ⟨h1, fun q hq => ?_, ih (fun q hq => hk q (by simp [hq])) h3⟩
      rcases sparse_insert_mem k v t q hq with rfl | hq
      · have := hk p (by simp); show p.1 < k; omega
      · exact h2 q hq

/-- A write keeps the canonical form. -/
theorem sparse_wf_set (m : Sparse α) (k : Nat) (v : α) (h : Sparse.wf d m = true) :
    Sparse.wf d (Sparse.set d m k v) = true := by
  unfold Sparse.set
  have he : Sparse.wf d (Sparse.erase m k) = true := sparse_wf_filter d m _ h
  split
  · exact he
  · rename_i hv
    refine sparse_wf_insert d k v _ hv (fun p hp => ?_) he
    simp [Sparse.erase] at hp
    exact hp.2

/-! ### The DRAM -/

/-- Writing one octet keeps the canonical form of the DRAM. -/
theorem dramSet_wf (s : State) (a : Nat) (v : Octet) (h : Memory.wf s.mem.dram = true) :
    Memory.wf (s.dramSet a v).mem.dram = true := sparse_wf_set dramDflt _ a v h

@[simp] theorem dramGet_dramSet_same (s : State) (a : Nat) (v : Octet) : (s.dramSet a v).dramGet a = v :=
  sparse_get_set_same dramDflt _ a v

theorem dramGet_dramSet_other (s : State) {a b : Nat} (v : Octet) (h : b ≠ a) : (s.dramSet a v).dramGet b = s.dramGet b :=
  sparse_get_set_other dramDflt _ v h

/-- Setting units to 0 keeps the canonical form of the DRAM. -/
theorem dramZero_wf (us : List Nat) (s : State) (h : Memory.wf s.mem.dram = true) :
    Memory.wf (dramZero us s).mem.dram = true := sparse_wf_filter dramDflt _ _ h

/-- Writing octets into a region keeps the canonical form of the DRAM. -/
theorem regionWrite_wf (code a : Nat) (l : List Octet) (s : State) (h : Memory.wf s.mem.dram = true) :
    Memory.wf (regionWrite code a l s).mem.dram = true := by
  unfold regionWrite
  generalize l.zipIdx = ps
  generalize regionUnits s code = us
  induction ps generalizing s with
  | nil => exact h
  | cons p t ih => exact ih _ (dramSet_wf s _ _ h)

/-- Storing a far word keeps the canonical form of the DRAM. -/
theorem setFar_wf (s : State) (w : Nat) (v : Word64) (h : Memory.wf s.mem.dram = true) :
    Memory.wf (s.setFar w v).mem.dram = true := by
  unfold State.setFar
  dsimp only
  exact regionWrite_wf 4 (8 * w) (octetsLE 8 v.toNat) s h

end Sys2Proof.Machine
end

