-- ==== Sys2Proof/Laws/Told.lean ====
section
/-! SUPPORT. What an event, a frame and an interrupt leave alone (`Told`): only what was sent, sessions, the mailbox and its counts
change. -/

namespace Sys2Proof.Machine

/-- t differs from s only in what was sent, in the protocol's state, in the host link's, in the counts of the mailbox and in those of the
frames that left a management port. -/
structure Told (s t : State) : Prop where
  pending : t.pending = s.pending
  free : t.free = s.free
  moduleId : t.moduleId = s.moduleId
  lanes : t.lanes = s.lanes
  dswap : t.dswap = s.dswap
  xswap : t.xswap = s.xswap
  ex : t.ex = s.ex
  mem : t.mem = s.mem
  run : t.run = s.run
  lan : t.lan = s.lan
  rew : t.rew = s.rew
  tif : t.tif = s.tif
  img : t.img = s.img
  boot : t.boot = s.boot
  keys : t.keys = s.keys
  pwr : t.pwr = s.pwr
  clk : t.clk = s.clk
  time : t.time = s.time
  net : t.net = s.net
  test : t.test = s.test
  trace : t.trace = s.trace
  tap : t.tap = s.tap
  objects : ∀ i j, toldObject i j = false → j < 256 → t.o i j = s.o i j

theorem told_refl (s : State) : Told s s := by
  constructor <;> first | rfl | exact fun _ _ _ _ => rfl

theorem mk_told
    {pending : List Instr} {obj : Sparse Nat} {free : Nat} {moduleId : Nat} {out : List Emission} {acp : AcpSt} {lanes : LaneSt}
    {dswap : Swap} {xswap : Swap} {ex : ExchSt} {mem : MemSt} {run : RunSt} {lan : LanternSt} {rew : RewSt}
    {tif : TifSt} {img : ImgSt} {boot : BootSt} {keys : KeySt} {pwr : PwrSt} {clk : ClkSt} {time : TimeSt}
    {net : NetSt} {host : HostSt} {test : TestSt} {trace : TraceSt} {tap : Nat}
    {s0 s : State} (h : Told s0 s) (h_obj : obj = s.obj)
    (h_pending : pending = s.pending)
    (h_free : free = s.free)
    (h_moduleId : moduleId = s.moduleId)
    (h_lanes : lanes = s.lanes)
    (h_dswap : dswap = s.dswap)
    (h_xswap : xswap = s.xswap)
    (h_ex : ex = s.ex)
    (h_mem : mem = s.mem)
    (h_run : run = s.run)
    (h_lan : lan = s.lan)
    (h_rew : rew = s.rew)
    (h_tif : tif = s.tif)
    (h_img : img = s.img)
    (h_boot : boot = s.boot)
    (h_keys : keys = s.keys)
    (h_pwr : pwr = s.pwr)
    (h_clk : clk = s.clk)
    (h_time : time = s.time)
    (h_net : net = s.net)
    (h_test : test = s.test)
    (h_trace : trace = s.trace)
    (h_tap : tap = s.tap) :
    Told s0 (State.mk pending obj free moduleId out acp lanes dswap xswap ex mem run lan rew
      tif img boot keys pwr clk time net host test trace tap) := by
  constructor
  · exact h_pending.trans h.pending
  · exact h_free.trans h.free
  · exact h_moduleId.trans h.moduleId
  · exact h_lanes.trans h.lanes
  · exact h_dswap.trans h.dswap
  · exact h_xswap.trans h.xswap
  · exact h_ex.trans h.ex
  · exact h_mem.trans h.mem
  · exact h_run.trans h.run
  · exact h_lan.trans h.lan
  · exact h_rew.trans h.rew
  · exact h_tif.trans h.tif
  · exact h_img.trans h.img
  · exact h_boot.trans h.boot
  · exact h_keys.trans h.keys
  · exact h_pwr.trans h.pwr
  · exact h_clk.trans h.clk
  · exact h_time.trans h.time
  · exact h_net.trans h.net
  · exact h_test.trans h.test
  · exact h_trace.trans h.trace
  · exact h_tap.trans h.tap
  · intro i j hi hj; rw [← h.objects i j hi hj]; unfold State.o; dsimp only; rw [h_obj]

/-- Keys of different objects differ. -/
theorem okey_ne {i j a b : Nat} (hj : j < 256) (hb : b < 256) (h : ¬(i = a ∧ j = b)) : okey i j ≠ okey a b := by
  unfold okey; omega

/-- Keys of objects with different indices differ. -/
theorem okey_idx_ne {i j a b : Nat} (hj : j < 256) (hb : b < 256) (h : i ≠ a) : okey i j ≠ okey a b :=
  okey_ne hj hb (fun e => h e.1)

/-- Keys of objects that a predicate tells apart differ. -/
theorem okey_ne_of {p : Nat → Nat → Bool} {i j a b : Nat} (ha : p a b = true) (hi : p i j = false) (hj : j < 256) (hb : b < 256) :
    okey i j ≠ okey a b :=
  okey_ne hj hb (by rintro ⟨rfl, rfl⟩; rw [ha] at hi; cases hi)

/-- Objects of different keys do not share a value. -/
theorem setO_o_other (s : State) {i j a b v : Nat} (h : okey i j ≠ okey a b) : (s.setO a b v).o i j = s.o i j := by
  unfold State.o State.setO
  exact sparse_get_set_other _ _ _ h

/-- A read of an object gives what was last stored. -/
@[simp] theorem setO_o_same (s : State) (a b v : Nat) : (s.setO a b v).o a b = v := by
  unfold State.o State.setO
  exact sparse_get_set_same _ _ _ _

theorem setO_told {a b v : Nat} {s0 s : State} (ha : toldObject a b = true) (hb : b < 256) (h : Told s0 s) : Told s0 (s.setO a b v) := by
  constructor
  · exact h.pending
  · exact h.free
  · exact h.moduleId
  · exact h.lanes
  · exact h.dswap
  · exact h.xswap
  · exact h.ex
  · exact h.mem
  · exact h.run
  · exact h.lan
  · exact h.rew
  · exact h.tif
  · exact h.img
  · exact h.boot
  · exact h.keys
  · exact h.pwr
  · exact h.clk
  · exact h.time
  · exact h.net
  · exact h.test
  · exact h.trace
  · exact h.tap
  · intro i j hi hj; rw [setO_o_other _ (okey_ne_of ha hi hj hb)]; exact h.objects i j hi hj

theorem incO_told {a b v : Nat} {s0 s : State} (ha : toldObject a b = true) (hb : b < 256) (h : Told s0 s) : Told s0 (s.incO a b v) :=
  setO_told ha hb h

theorem foldl_told {α : Type} {g : State → α → State} {l : List α} {s0 s : State}
    (hg : ∀ s x, Told s0 s → Told s0 (g s x)) (h : Told s0 s) : Told s0 (l.foldl g s) := by
  induction l generalizing s with
  | nil => exact h
  | cons x t ih => exact ih (hg _ _ h)

theorem modSess_told {s0 : State} {s : State} {a1 : Nat} {a2 : Session → Session} (hs : Told s0 s) :
    Told s0 (State.modSess s a1 a2) := by
  unfold State.modSess
  with_reducible refine mk_told ?_ rfl rfl rfl rfl rfl rfl rfl rfl rfl rfl rfl rfl rfl rfl rfl rfl rfl rfl rfl rfl rfl rfl rfl
  with_reducible assumption

theorem emit_told {s0 : State} {s : State} {a1 : Emission} (hs : Told s0 s) :
    Told s0 (State.emit s a1) := by
  unfold State.emit
  with_reducible refine mk_told ?_ rfl rfl rfl rfl rfl rfl rfl rfl rfl rfl rfl rfl rfl rfl rfl rfl rfl rfl rfl rfl rfl rfl rfl
  with_reducible assumption

theorem setSel_told {s0 : State} {a0 : Nat} {a1 : Nat} {a2 : Nat} {a3 : Nat} {s : State} (hs : Told s0 s) :
    Told s0 (setSel a0 a1 a2 a3 s) := by
  unfold setSel
  with_reducible refine modSess_told ?_
  with_reducible assumption

theorem signalVector_told {s0 : State} {a0 : Nat} {s : State} (hs : Told s0 s) :
    Told s0 (signalVector a0 s) := by
  unfold signalVector
  split
  · with_reducible refine mk_told ?_ rfl rfl rfl rfl rfl rfl rfl rfl rfl rfl rfl rfl rfl rfl rfl rfl rfl rfl rfl rfl rfl rfl rfl
    with_reducible assumption
  · with_reducible refine emit_told ?_
    with_reducible assumption

theorem eventRingPut_told {s0 : State} {a0 : List Octet} {s : State} (hs : Told s0 s) :
    Told s0 (eventRingPut a0 s) := by
  unfold eventRingPut
  extract_lets v0 v1 v2 v3 v4 v5
  have q6 : Told s0 v1 := by
    subst v1
    with_reducible refine emit_told ?_
    with_reducible assumption
  clear_value v1
  have q7 : Told s0 v3 := by
    subst v3
    with_reducible refine mk_told ?_ rfl rfl rfl rfl rfl rfl rfl rfl rfl rfl rfl rfl rfl rfl rfl rfl rfl rfl rfl rfl rfl rfl rfl
    with_reducible assumption
  clear_value v3
  have q8 : Told s0 v4 := by
    subst v4
    with_reducible refine incO_told (by decide) (by decide) ?_
    with_reducible assumption
  clear_value v4
  have q9 : Told s0 v5 := by
    subst v5
    split
    · with_reducible refine incO_told (by decide) (by decide) ?_
      with_reducible assumption
    · with_reducible assumption
  clear_value v5
  with_reducible refine signalVector_told ?_
  with_reducible assumption

theorem replyRingPut_told {s0 : State} {a0 : List Octet} {s : State} (hs : Told s0 s) :
    Told s0 (replyRingPut a0 s) := by
  unfold replyRingPut
  extract_lets v0 v1 v2 v3 v4 v5
  have q6 : Told s0 v1 := by
    subst v1
    with_reducible refine emit_told ?_
    with_reducible assumption
  clear_value v1
  have q7 : Told s0 v3 := by
    subst v3
    with_reducible refine mk_told ?_ rfl rfl rfl rfl rfl rfl rfl rfl rfl rfl rfl rfl rfl rfl rfl rfl rfl rfl rfl rfl rfl rfl rfl
    with_reducible assumption
  clear_value v3
  have q8 : Told s0 v4 := by
    subst v4
    with_reducible refine incO_told (by decide) (by decide) ?_
    with_reducible assumption
  clear_value v4
  have q9 : Told s0 v5 := by
    subst v5
    split
    · with_reducible refine incO_told (by decide) (by decide) ?_
      with_reducible assumption
    · with_reducible assumption
  clear_value v5
  with_reducible refine signalVector_told ?_
  with_reducible assumption

/-- Counts of a management port; of another port there is none. -/
theorem portCount_told {s0 : State} {a b v : Nat} {s : State} (ha : a < 2) (hb : 6 ≤ b ∧ b ≤ 9) (hs : Told s0 s) :
    Told s0 (s.incO (0x7900 + a) b v) := by
  refine incO_told ?_ (by omega) hs
  have : a = 0 ∨ a = 1 := by omega
  unfold toldObject
  rcases this with rfl | rfl <;> simp [hb]

/-- What a frame meets on the link of a management port. -/
theorem collide_told {s0 : State} {a n : Nat} {b : Bool} {s : State} (ha : a < 2) (hs : Told s0 s) : Told s0 (collide a n b s).2 := by
  unfold collide
  split
  · exact hs
  · extract_lets s1
    have h1 : Told s0 s1 := portCount_told ha (by decide) hs
    clear_value s1
    repeat' split
    · exact portCount_told ha (by decide) h1
    · exact portCount_told ha (by decide) h1
    · exact h1

/-- A frame of the module's own that leaves at a management port, or is discarded. -/
theorem transmit_told {s0 : State} {a n : Nat} {s : State} (hs : Told s0 s) : Told s0 (transmit a n s).2 := by
  unfold transmit
  split
  · exact hs
  rename_i ha
  replace ha : a < 2 := by omega
  split
  · exact portCount_told ha (by decide) hs
  · extract_lets k
    have h1 : Told s0 { s with host := { s.host with met := k + 1 } } :=
      mk_told hs rfl rfl rfl rfl rfl rfl rfl rfl rfl rfl rfl rfl rfl rfl rfl rfl rfl rfl rfl rfl rfl rfl rfl
    have h2 := collide_told (n := Config.linkCollisions k % (n + 1)) (b := Config.linkLate k) ha h1
    split
    · rename_i e; rw [e] at h2; exact h2
    · rename_i e; rw [e] at h2; exact portCount_told ha (by decide) h2

theorem sendOn_told {s0 : State} {a : Nat} {e : Emission} {s : State} (hs : Told s0 s) : Told s0 (sendOn a e s) := by
  unfold sendOn
  have h := transmit_told (a := a) (n := 16) hs
  split
  · rename_i q; rw [q] at h; exact emit_told h
  · rename_i q; rw [q] at h; exact h

theorem carry_told {s0 : State} {a0 : Session} {a1 : Frame} {a2 : Bool} {s : State} (hs : Told s0 s) :
    Told s0 (carry a0 a1 a2 s) := by
  unfold carry
  extract_lets via s1 oct parts
  have h1 : Told s0 s1 := emit_told hs
  clear_value s1
  split
  · split
    · exact replyRingPut_told h1
    · exact eventRingPut_told h1
  · split
    · have h := transmit_told (a := a0.carrier) (n := 16) h1
      split
      · rename_i q; rw [q] at h; exact h
      · rename_i q; rw [q] at h; exact emit_told h
    · exact foldl_told (fun _ _ h => sendOn_told h) h1

theorem drainQueue_told {s0 : State} {a0 : Nat} {a1 : Nat} {s : State} (hs : Told s0 s) :
    Told s0 (drainQueue a0 a1 s) := by
  induction' a1 with n ih generalizing s0 a0 s
  · unfold drainQueue
    with_reducible assumption
  · unfold drainQueue
    split
    · with_reducible assumption
    · split
      · with_reducible assumption
      · split
        · extract_lets v0 v1
          have q2 : Told s0 v1 := by
            subst v1
            with_reducible refine carry_told ?_
            with_reducible assumption
          clear_value v1
          with_reducible apply ih
          with_reducible refine modSess_told ?_
          with_reducible assumption
        · with_reducible assumption

theorem drainQueues_told {s0 : State} {s : State} (hs : Told s0 s) :
    Told s0 (drainQueues s) := by
  unfold drainQueues
  refine foldl_told ?_ ?_
  · intro z0
    intro z1
    intro z2
    with_reducible refine drainQueue_told ?_
    with_reducible assumption
  · with_reducible assumption

theorem raise_told {s0 : State} {a0 : Nat} {a1 : List Octet} {s : State} (hs : Told s0 s) :
    Told s0 (raise a0 a1 s) := by
  unfold raise
  extract_lets v0 v1 v2 v3
  have q4 : Told s0 v2 := by
    subst v2
    with_reducible refine mk_told ?_ rfl rfl rfl rfl rfl rfl rfl rfl rfl rfl rfl rfl rfl rfl rfl rfl rfl rfl rfl rfl rfl rfl rfl
    with_reducible assumption
  clear_value v2
  have q5 : Told s0 v3 := by
    subst v3
    with_reducible refine drainQueues_told ?_
    with_reducible refine emit_told ?_
    with_reducible assumption
  clear_value v3
  split
  · with_reducible refine signalVector_told ?_
    with_reducible assumption
  · with_reducible assumption

theorem answer_told {s0 : State} {r : Req} {op idx sub : Nat} {l : List Answer} {s : State} (h : Told s0 s) :
    Told s0 (answer r op idx sub l s) := by
  unfold answer
  split
  · exact h
  · extract_lets fs s1
    have h1 : Told s0 s1 := foldl_told (fun _ _ h => carry_told h) h
    clear_value s1
    exact modSess_told h1

theorem answerParts_told {s0 : State} {a0 : Nat} {a1 : Nat} {a2 : List Answer} {s : State} (hs : Told s0 s) :
    Told s0 (answerParts a0 a1 a2 s) := by
  unfold answerParts
  split
  · with_reducible assumption
  · split
    · with_reducible assumption
    · extract_lets v0
      have q1 : Told s0 v0 := by
        subst v0
        with_reducible refine modSess_told ?_
        with_reducible assumption
      clear_value v0
      with_reducible refine answer_told ?_
      with_reducible assumption

theorem answerWaiting_told {s0 : State} {a0 : Nat} {a1 : Nat} {a2 : Status} {s : State} (hs : Told s0 s) :
    Told s0 (answerWaiting a0 a1 a2 s) := answerParts_told hs

theorem answerAllWaiting_told {s0 : State} {a0 : Nat} {a1 : Nat} {a2 : Status} {s : State} (hs : Told s0 s) :
    Told s0 (answerAllWaiting a0 a1 a2 s) := by
  unfold answerAllWaiting
  refine foldl_told ?_ ?_
  · intro z0
    intro z1
    intro z2
    refine foldl_told ?_ ?_
    · intro z3
      intro z4
      intro z5
      with_reducible refine answerWaiting_told ?_
      with_reducible assumption
    · with_reducible assumption
  · with_reducible assumption

@[simp] theorem raise_pending (s : State) (c : Nat) (l : List Octet) : (raise c l s).pending = s.pending := (raise_told (told_refl s)).pending
@[simp] theorem raise_free (s : State) (c : Nat) (l : List Octet) : (raise c l s).free = s.free := (raise_told (told_refl s)).free
@[simp] theorem raise_moduleId (s : State) (c : Nat) (l : List Octet) : (raise c l s).moduleId = s.moduleId := (raise_told (told_refl s)).moduleId
@[simp] theorem raise_lanes (s : State) (c : Nat) (l : List Octet) : (raise c l s).lanes = s.lanes := (raise_told (told_refl s)).lanes
@[simp] theorem raise_dswap (s : State) (c : Nat) (l : List Octet) : (raise c l s).dswap = s.dswap := (raise_told (told_refl s)).dswap
@[simp] theorem raise_xswap (s : State) (c : Nat) (l : List Octet) : (raise c l s).xswap = s.xswap := (raise_told (told_refl s)).xswap
@[simp] theorem raise_ex (s : State) (c : Nat) (l : List Octet) : (raise c l s).ex = s.ex := (raise_told (told_refl s)).ex
@[simp] theorem raise_mem (s : State) (c : Nat) (l : List Octet) : (raise c l s).mem = s.mem := (raise_told (told_refl s)).mem
@[simp] theorem raise_run (s : State) (c : Nat) (l : List Octet) : (raise c l s).run = s.run := (raise_told (told_refl s)).run
@[simp] theorem raise_lan (s : State) (c : Nat) (l : List Octet) : (raise c l s).lan = s.lan := (raise_told (told_refl s)).lan
@[simp] theorem raise_rew (s : State) (c : Nat) (l : List Octet) : (raise c l s).rew = s.rew := (raise_told (told_refl s)).rew
@[simp] theorem raise_tif (s : State) (c : Nat) (l : List Octet) : (raise c l s).tif = s.tif := (raise_told (told_refl s)).tif
@[simp] theorem raise_img (s : State) (c : Nat) (l : List Octet) : (raise c l s).img = s.img := (raise_told (told_refl s)).img
@[simp] theorem raise_boot (s : State) (c : Nat) (l : List Octet) : (raise c l s).boot = s.boot := (raise_told (told_refl s)).boot
@[simp] theorem raise_keys (s : State) (c : Nat) (l : List Octet) : (raise c l s).keys = s.keys := (raise_told (told_refl s)).keys
@[simp] theorem raise_pwr (s : State) (c : Nat) (l : List Octet) : (raise c l s).pwr = s.pwr := (raise_told (told_refl s)).pwr
@[simp] theorem raise_clk (s : State) (c : Nat) (l : List Octet) : (raise c l s).clk = s.clk := (raise_told (told_refl s)).clk
@[simp] theorem raise_time (s : State) (c : Nat) (l : List Octet) : (raise c l s).time = s.time := (raise_told (told_refl s)).time
@[simp] theorem raise_net (s : State) (c : Nat) (l : List Octet) : (raise c l s).net = s.net := (raise_told (told_refl s)).net
@[simp] theorem raise_test (s : State) (c : Nat) (l : List Octet) : (raise c l s).test = s.test := (raise_told (told_refl s)).test
@[simp] theorem raise_trace (s : State) (c : Nat) (l : List Octet) : (raise c l s).trace = s.trace := (raise_told (told_refl s)).trace
@[simp] theorem raise_tap (s : State) (c : Nat) (l : List Octet) : (raise c l s).tap = s.tap := (raise_told (told_refl s)).tap
theorem raise_o (s : State) (c : Nat) (l : List Octet) {i j : Nat} (h : toldObject i j = false) (hj : j < 256) : (raise c l s).o i j = s.o i j :=
  (raise_told (told_refl s)).objects i j h hj

@[simp] theorem answer_pending (s : State) (r : Req) (op idx sub : Nat) (l : List Answer) : (answer r op idx sub l s).pending = s.pending := (answer_told (told_refl s)).pending
@[simp] theorem answer_free (s : State) (r : Req) (op idx sub : Nat) (l : List Answer) : (answer r op idx sub l s).free = s.free := (answer_told (told_refl s)).free
@[simp] theorem answer_moduleId (s : State) (r : Req) (op idx sub : Nat) (l : List Answer) : (answer r op idx sub l s).moduleId = s.moduleId := (answer_told (told_refl s)).moduleId
@[simp] theorem answer_lanes (s : State) (r : Req) (op idx sub : Nat) (l : List Answer) : (answer r op idx sub l s).lanes = s.lanes := (answer_told (told_refl s)).lanes
@[simp] theorem answer_dswap (s : State) (r : Req) (op idx sub : Nat) (l : List Answer) : (answer r op idx sub l s).dswap = s.dswap := (answer_told (told_refl s)).dswap
@[simp] theorem answer_xswap (s : State) (r : Req) (op idx sub : Nat) (l : List Answer) : (answer r op idx sub l s).xswap = s.xswap := (answer_told (told_refl s)).xswap
@[simp] theorem answer_ex (s : State) (r : Req) (op idx sub : Nat) (l : List Answer) : (answer r op idx sub l s).ex = s.ex := (answer_told (told_refl s)).ex
@[simp] theorem answer_mem (s : State) (r : Req) (op idx sub : Nat) (l : List Answer) : (answer r op idx sub l s).mem = s.mem := (answer_told (told_refl s)).mem
@[simp] theorem answer_run (s : State) (r : Req) (op idx sub : Nat) (l : List Answer) : (answer r op idx sub l s).run = s.run := (answer_told (told_refl s)).run
@[simp] theorem answer_lan (s : State) (r : Req) (op idx sub : Nat) (l : List Answer) : (answer r op idx sub l s).lan = s.lan := (answer_told (told_refl s)).lan
@[simp] theorem answer_rew (s : State) (r : Req) (op idx sub : Nat) (l : List Answer) : (answer r op idx sub l s).rew = s.rew := (answer_told (told_refl s)).rew
@[simp] theorem answer_tif (s : State) (r : Req) (op idx sub : Nat) (l : List Answer) : (answer r op idx sub l s).tif = s.tif := (answer_told (told_refl s)).tif
@[simp] theorem answer_img (s : State) (r : Req) (op idx sub : Nat) (l : List Answer) : (answer r op idx sub l s).img = s.img := (answer_told (told_refl s)).img
@[simp] theorem answer_boot (s : State) (r : Req) (op idx sub : Nat) (l : List Answer) : (answer r op idx sub l s).boot = s.boot := (answer_told (told_refl s)).boot
@[simp] theorem answer_keys (s : State) (r : Req) (op idx sub : Nat) (l : List Answer) : (answer r op idx sub l s).keys = s.keys := (answer_told (told_refl s)).keys
@[simp] theorem answer_pwr (s : State) (r : Req) (op idx sub : Nat) (l : List Answer) : (answer r op idx sub l s).pwr = s.pwr := (answer_told (told_refl s)).pwr
@[simp] theorem answer_clk (s : State) (r : Req) (op idx sub : Nat) (l : List Answer) : (answer r op idx sub l s).clk = s.clk := (answer_told (told_refl s)).clk
@[simp] theorem answer_time (s : State) (r : Req) (op idx sub : Nat) (l : List Answer) : (answer r op idx sub l s).time = s.time := (answer_told (told_refl s)).time
@[simp] theorem answer_net (s : State) (r : Req) (op idx sub : Nat) (l : List Answer) : (answer r op idx sub l s).net = s.net := (answer_told (told_refl s)).net
@[simp] theorem answer_test (s : State) (r : Req) (op idx sub : Nat) (l : List Answer) : (answer r op idx sub l s).test = s.test := (answer_told (told_refl s)).test
@[simp] theorem answer_trace (s : State) (r : Req) (op idx sub : Nat) (l : List Answer) : (answer r op idx sub l s).trace = s.trace := (answer_told (told_refl s)).trace
@[simp] theorem answer_tap (s : State) (r : Req) (op idx sub : Nat) (l : List Answer) : (answer r op idx sub l s).tap = s.tap := (answer_told (told_refl s)).tap
theorem answer_o (s : State) (r : Req) (op idx sub : Nat) (l : List Answer) {i j : Nat} (h : toldObject i j = false) (hj : j < 256) : (answer r op idx sub l s).o i j = s.o i j :=
  (answer_told (told_refl s)).objects i j h hj

/-! ### Sessions and what was sent -/

@[simp] theorem signalVector_acp (v : Nat) (s : State) : (signalVector v s).acp = s.acp := by
  unfold signalVector; split <;> rfl

theorem signalVector_out (v : Nat) (s : State) (e : Emission) (h : e ∈ s.out) : e ∈ (signalVector v s).out := by
  unfold signalVector
  split
  · exact h
  · exact List.mem_cons_of_mem _ h

/-- A write into the reply ring changes no session and keeps what was sent. -/
theorem replyRingPut_sent (l : List Octet) (s : State) :
    (replyRingPut l s).acp = s.acp ∧ ∀ e ∈ s.out, e ∈ (replyRingPut l s).out := by
  unfold replyRingPut
  extract_lets h s1 c s2 s3 s4
  have h1 : s1.acp = s.acp ∧ ∀ e ∈ s.out, e ∈ s1.out := ⟨rfl, fun e h => List.mem_cons_of_mem _ h⟩
  clear_value s1
  have h2 : s2.acp = s1.acp ∧ s2.out = s1.out := ⟨rfl, rfl⟩
  clear_value s2
  have h3 : s3.acp = s2.acp ∧ s3.out = s2.out := ⟨rfl, rfl⟩
  clear_value s3
  have h4 : s4.acp = s3.acp ∧ s4.out = s3.out := by
    unfold s4; split
    · exact ⟨rfl, rfl⟩
    · exact ⟨rfl, rfl⟩
  clear_value s4
  refine ⟨by rw [signalVector_acp, h4.1, h3.1, h2.1, h1.1], fun e he => signalVector_out _ _ _ ?_⟩
  rw [h4.2, h3.2, h2.2]; exact h1.2 e he

/-- A write into the event ring changes no session and keeps what was sent. -/
theorem eventRingPut_sent (l : List Octet) (s : State) :
    (eventRingPut l s).acp = s.acp ∧ ∀ e ∈ s.out, e ∈ (eventRingPut l s).out := by
  unfold eventRingPut
  extract_lets h s1 c s2 s3 s4
  have h1 : s1.acp = s.acp ∧ ∀ e ∈ s.out, e ∈ s1.out := ⟨rfl, fun e h => List.mem_cons_of_mem _ h⟩
  clear_value s1
  have h2 : s2.acp = s1.acp ∧ s2.out = s1.out := ⟨rfl, rfl⟩
  clear_value s2
  have h3 : s3.acp = s2.acp ∧ s3.out = s2.out := ⟨rfl, rfl⟩
  clear_value s3
  have h4 : s4.acp = s3.acp ∧ s4.out = s3.out := by
    unfold s4; split
    · exact ⟨rfl, rfl⟩
    · exact ⟨rfl, rfl⟩
  clear_value s4
  refine ⟨by rw [signalVector_acp, h4.1, h3.1, h2.1, h1.1], fun e he => signalVector_out _ _ _ ?_⟩
  rw [h4.2, h3.2, h2.2]; exact h1.2 e he

/-- What a frame meets on its link changes no session and keeps what was sent. -/
theorem transmit_sent (p n : Nat) (s : State) :
    (transmit p n s).2.acp = s.acp ∧ (transmit p n s).2.out = s.out := by
  have hc : ∀ (c : Nat) (b : Bool) (t : State), (collide p c b t).2.acp = t.acp ∧ (collide p c b t).2.out = t.out := by
    intro c b t
    unfold collide
    repeat' split
    all_goals exact ⟨rfl, rfl⟩
  unfold transmit
  split
  · exact ⟨rfl, rfl⟩
  · split
    · exact ⟨rfl, rfl⟩
    · extract_lets k
      have h := hc (Config.linkCollisions k % (n + 1)) (Config.linkLate k) { s with host := { s.host with met := k + 1 } }
      split
      · rename_i e; rw [e] at h; exact h
      · rename_i e; rw [e] at h; exact h

/-- A frame sent on a port changes no session and keeps what was sent. -/
theorem sendOn_sent (p : Nat) (x : Emission) (s : State) :
    (sendOn p x s).acp = s.acp ∧ ∀ e ∈ s.out, e ∈ (sendOn p x s).out := by
  unfold sendOn
  have h := transmit_sent p 16 s
  split
  · rename_i q; rw [q] at h
    exact ⟨h.1, fun e he => List.mem_cons_of_mem _ (by rw [h.2]; exact he)⟩
  · rename_i q; rw [q] at h
    exact ⟨h.1, fun e he => by rw [h.2]; exact he⟩

/-- A frame goes out on its carrier, to where its session's frames go; no session changes, and nothing sent before is lost. -/
theorem carry_sent (x : Session) (f : Frame) (b : Bool) (s : State) :
    (carry x f b s).acp = s.acp ∧ Emission.frame (viaOf x s) f (tagOf x.key f b) ∈ (carry x f b s).out ∧
      ∀ e ∈ s.out, e ∈ (carry x f b s).out := by
  unfold carry
  extract_lets via s1 oct parts
  have h1 : s1.acp = s.acp ∧ Emission.frame via f (tagOf x.key f b) ∈ s1.out ∧ ∀ e ∈ s.out, e ∈ s1.out :=
    ⟨rfl, List.mem_cons_self .., fun e h => List.mem_cons_of_mem _ h⟩
  have hv : viaOf x s = via := rfl
  rw [hv]
  clear_value s1 oct parts
  split
  · split
    · have h2 := replyRingPut_sent oct s1
      exact ⟨h2.1.trans h1.1, h2.2 _ h1.2.1, fun e he => h2.2 _ (h1.2.2 e he)⟩
    · have h2 := eventRingPut_sent oct s1
      exact ⟨h2.1.trans h1.1, h2.2 _ h1.2.1, fun e he => h2.2 _ (h1.2.2 e he)⟩
  · split
    · have h2 := transmit_sent x.carrier 16 s1
      split
      · rename_i q; rw [q] at h2
        exact ⟨h2.1.trans h1.1, by rw [h2.2]; exact h1.2.1, fun e he => by rw [h2.2]; exact h1.2.2 e he⟩
      · rename_i q; rw [q] at h2
        refine ⟨h2.1.trans h1.1, List.mem_cons_of_mem _ (by rw [h2.2]; exact h1.2.1), fun e he => List.mem_cons_of_mem _ ?_⟩
        rw [h2.2]; exact h1.2.2 e he
    · have hf : ∀ (l : List (Nat × Nat × Bool)) (s2 : State),
          (l.foldl (fun s g => sendOn x.carrier (.fragment via g.1 g.2.1 g.2.2 false) s) s2).acp = s2.acp ∧
          ∀ e ∈ s2.out, e ∈ (l.foldl (fun s g => sendOn x.carrier (.fragment via g.1 g.2.1 g.2.2 false) s) s2).out := by
        intro l
        induction l with
        | nil => exact fun _ => ⟨rfl, fun _ h => h⟩
        | cons g t ih =>
          intro s2
          have h := sendOn_sent x.carrier (.fragment via g.1 g.2.1 g.2.2 false) s2
          have h' := ih (sendOn x.carrier (.fragment via g.1 g.2.1 g.2.2 false) s2)
          exact ⟨h'.1.trans h.1, fun e he => h'.2 e (h.2 e he)⟩
      have h2 := hf parts s1
      exact ⟨h2.1.trans h1.1, h2.2 _ h1.2.1, fun e he => h2.2 _ (h1.2.2 e he)⟩

end Sys2Proof.Machine
end

