-- ==== Sys2Proof/Laws/KeptCore.lean ====
section
/-! SUPPORT. What keeps the frame of serving and resting (`Undisturbed`): the forms that the operations of Ops, Depth and Serve are
made of. -/

namespace Sys2Proof.Machine

theorem planesKept_refl (a : Sparse LaneRec) : PlanesKept a a := fun h => ⟨h, fun _ => ⟨rfl, rfl, rfl⟩⟩

theorem planesKept_trans {a b c : Sparse LaneRec} (h : PlanesKept a b) (k : PlanesKept b c) : PlanesKept a c := by
  intro w
  obtain ⟨w1, e1⟩ := h w
  obtain ⟨w2, e2⟩ := k w1
  exact ⟨w2, fun p => ⟨(e2 p).1.trans (e1 p).1, (e2 p).2.1.trans (e1 p).2.1, (e2 p).2.2.trans (e1 p).2.2⟩⟩

/-- Every state keeps itself. -/
theorem kept_refl (s : State) : Undisturbed s s := by
  constructor <;> first | rfl | exact fun _ => ⟨rfl, planesKept_refl _, .inl rfl, .inl rfl, .inl rfl⟩ | exact fun _ _ _ _ => rfl

/-- A record update of the parts that serving and resting may change. -/
theorem mk_kept
    {pending : List Instr} {obj : Sparse Nat} {free : Nat} {moduleId : Nat} {out : List Emission} {acp : AcpSt} {lanes
      : LaneSt} {dswap : Swap} {xswap : Swap} {ex : ExchSt} {mem : MemSt} {run : RunSt} {lan : LanternSt} {rew :
      RewSt} {tif : TifSt} {img : ImgSt} {boot : BootSt} {keys : KeySt} {pwr : PwrSt} {clk : ClkSt} {time : TimeSt}
      {net : NetSt} {host : HostSt} {test : TestSt} {trace : TraceSt} {tap : Nat}
    {s0 s : State} (h : Undisturbed s0 s)
    (h_obj : obj = s.obj)
    (h_pending : pending = s.pending)
    (h_free : free = s.free)
    (h_moduleId : moduleId = s.moduleId)
    (h_dswap : dswap = s.dswap)
    (h_xswap : xswap = s.xswap)
    (h_mem : mem = s.mem)
    (h_run : run = s.run)
    (h_lan : lan = s.lan)
    (h_tif : tif = s.tif)
    (h_img : img = s.img)
    (h_boot : boot = s.boot)
    (h_keys : keys = s.keys)
    (h_time : time = s.time)
    (h_net : net = s.net)
    (h_test : test = s.test)
    (h_trace : trace = s.trace)
    (h_tap : tap = s.tap)
    (h_acp : acp = { s.acp with sessions := acp.sessions })
    (h_ex : ex = { s.ex with ports := ex.ports, testBack := ex.testBack, bankErr := ex.bankErr })
    (h_lanes : lanes = { s.lanes with imErr := lanes.imErr, dictErr := lanes.dictErr })
    (h_rew : rew = { s.rew with parkRestore := rew.parkRestore })
    (h_pwr : pwr = { s.pwr with dom := pwr.dom, gate := pwr.gate, depth := pwr.depth })
    (h_clk : clk = { s.clk with
      ramp := clk.ramp, due := clk.due, back := clk.back, newRef := clk.newRef, want := clk.want, rootsDue := clk.rootsDue })
    (h_host : host = { s.host with
      met := host.met, rpProd := host.rpProd, evProd := host.evProd, pend := host.pend, heldPkts := host.heldPkts, noc := host.noc }) :
    Undisturbed s0 (State.mk pending obj free moduleId out acp lanes dswap xswap ex mem run lan rew
      tif img boot keys pwr clk time net host test trace tap) := by
  constructor
  · exact h_pending.trans h.pending
  · exact h_free.trans h.free
  · exact h_moduleId.trans h.moduleId
  · exact h_dswap.trans h.dswap
  · exact h_xswap.trans h.xswap
  · dsimp only; rw [h_mem]; exact h.mem
  · exact h_run.trans h.run
  · exact h_lan.trans h.lan
  · exact h_tif.trans h.tif
  · exact h_img.trans h.img
  · exact h_boot.trans h.boot
  · exact h_keys.trans h.keys
  · exact h_time.trans h.time
  · exact h_net.trans h.net
  · exact h_test.trans h.test
  · exact h_trace.trans h.trace
  · exact h_tap.trans h.tap
  · dsimp only; rw [h_acp, h.acp]
  · dsimp only; rw [h_ex, h.ex]
  · dsimp only; rw [h_lanes, h.lanes]
  · dsimp only; rw [h_rew, h.rew]
  · dsimp only; rw [h_pwr, h.pwr]
  · dsimp only; rw [h_clk, h.clk]
  · dsimp only; rw [h_host, h.host]
  · intro hp
    obtain ⟨a, b, c, d, e⟩ := h.parked hp
    refine ⟨?_, ?_, ?_, ?_, ?_⟩
    · dsimp only; rw [h_mem]; exact a
    · dsimp only; rw [h_lanes]; exact b
    · dsimp only; rw [h_lanes]; exact c
    · dsimp only; rw [h_lanes]; exact d
    · dsimp only; rw [h_ex]; exact e
  · intro i j hi hj; rw [← h.objects i j hi hj]; unfold State.o; dsimp only; rw [h_obj]

theorem setO_kept {a b v : Nat} {s0 s : State} (ha : restObject a b = true) (hb : b < 256) (h : Undisturbed s0 s) : Undisturbed s0 (s.setO a b v) := by
  have hk : ∀ i j, restObject i j = false → j < 256 → (s.setO a b v).o i j = s.o i j :=
    fun i j hi hj => setO_o_other _ (okey_ne_of ha hi hj hb)
  constructor
  · exact h.pending
  · exact h.free
  · exact h.moduleId
  · exact h.dswap
  · exact h.xswap
  · exact h.mem
  · exact h.run
  · exact h.lan
  · exact h.tif
  · exact h.img
  · exact h.boot
  · exact h.keys
  · exact h.time
  · exact h.net
  · exact h.test
  · exact h.trace
  · exact h.tap
  · exact h.acp
  · exact h.ex
  · exact h.lanes
  · exact h.rew
  · exact h.pwr
  · exact h.clk
  · exact h.host
  · exact h.parked
  · intro i j hi hj; rw [hk i j hi hj]; exact h.objects i j hi hj

theorem incO_kept {a b v : Nat} {s0 s : State} (ha : restObject a b = true) (hb : b < 256) (h : Undisturbed s0 s) : Undisturbed s0 (s.incO a b v) :=
  setO_kept ha hb h

theorem maxO_kept {a b v : Nat} {s0 s : State} (ha : restObject a b = true) (hb : b < 256) (h : Undisturbed s0 s) : Undisturbed s0 (s.maxO a b v) :=
  setO_kept ha hb h

theorem kept_of_eq {s0 : State} {β : Type} {p : β × State} {a : β} {t : State} (h : Undisturbed s0 p.2) (e : p = (a, t)) : Undisturbed s0 t := by
  rw [e] at h; exact h

theorem foldl_kept {α : Type} {g : State → α → State} {l : List α} {s0 s : State}
    (hg : ∀ s x, Undisturbed s0 s → Undisturbed s0 (g s x)) (h : Undisturbed s0 s) : Undisturbed s0 (l.foldl g s) := by
  induction l generalizing s with
  | nil => exact h
  | cons x t ih => exact ih (hg _ _ h)

theorem foldl_kept_mem {α : Type} {g : State → α → State} {l : List α} {s0 s : State}
    (hg : ∀ s x, x ∈ l → Undisturbed s0 s → Undisturbed s0 (g s x)) (h : Undisturbed s0 s) : Undisturbed s0 (l.foldl g s) := by
  induction l generalizing s with
  | nil => exact h
  | cons x t ih =>
    exact ih (fun s y hy h => hg s y (List.mem_cons_of_mem _ hy) h) (hg _ _ (List.mem_cons_self ..) h)

/-- Lanes mapped by a function that keeps their planes. -/
theorem planesKept_map (f : Nat → LaneRec → LaneRec) (hf : ∀ n r, (f n r).cur = r.cur ∧ (f n r).nxt = r.nxt ∧ (f n r).sh = r.sh)
    (a : Sparse LaneRec) :
    PlanesKept a ((a.map (fun p => (p.1, f p.1 p.2))).filter (fun p => decide (p.2 ≠ {}))) := by
  intro w
  induction a with
  | nil => exact ⟨rfl, fun _ => ⟨rfl, rfl, rfl⟩⟩
  | cons q t ih =>
    obtain ⟨k, r⟩ := q
    have w' : Sparse.wf (fun _ => ({} : LaneRec)) t = true ∧ (∀ p ∈ t, k < p.1) := by
      unfold Sparse.wf at w
      simp only [Bool.and_eq_true, List.all_eq_true, decide_eq_true_eq] at w
      exact ⟨w.2, w.1.2⟩
    obtain ⟨w1, e1⟩ := ih w'.1
    have hmem : ∀ p ∈ (t.map (fun p => (p.1, f p.1 p.2))).filter (fun p => decide (p.2 ≠ {})), k < p.1 := by
      intro p hp
      obtain ⟨hp, -⟩ := List.mem_filter.mp hp
      obtain ⟨q, hq, rfl⟩ := List.mem_map.mp hp
      exact w'.2 q hq
    have hget : ∀ (l : Sparse LaneRec), (∀ p ∈ l, k < p.1) → Sparse.get (fun _ => ({} : LaneRec)) l k = {} := by
      intro l hl
      induction l with
      | nil => rfl
      | cons p l ih =>
        have h1 := hl p (List.mem_cons_self ..)
        unfold Sparse.get
        rw [if_neg (by omega)]
        exact ih (fun q hq => hl q (List.mem_cons_of_mem _ hq))
    simp only [List.map_cons, List.filter_cons]
    by_cases h : f k r = {}
    · rw [if_neg (by simp [h])]
      refine ⟨w1, fun p => ?_⟩
      by_cases hp : k = p
      · subst hp
        rw [hget _ hmem]
        unfold Sparse.get
        rw [if_pos rfl]
        have := hf k r
        rw [h] at this
        exact ⟨this.1, this.2.1, this.2.2⟩
      · have := e1 p
        conv => lhs; rhs; unfold Sparse.get
        conv => rhs; lhs; rhs; unfold Sparse.get
        conv => rhs; rhs; rhs; unfold Sparse.get
        simp only [if_neg hp]
        exact this
    · rw [if_pos (by simpa using h)]
      refine ⟨?_, fun p => ?_⟩
      · unfold Sparse.wf
        simp only [Bool.and_eq_true, List.all_eq_true, decide_eq_true_eq]
        exact ⟨⟨h, hmem⟩, w1⟩
      · by_cases hp : k = p
        · subst hp
          unfold Sparse.get
          simp only [if_true]
          exact hf k r
        · have := e1 p
          unfold Sparse.get
          simp only [if_neg hp]
          exact this

theorem mapLanes_kept {f : Nat → LaneRec → LaneRec} {s0 s : State}
    (hf : ∀ n r, (f n r).cur = r.cur ∧ (f n r).nxt = r.nxt ∧ (f n r).sh = r.sh) (h : Undisturbed s0 s) : Undisturbed s0 (mapLanes f s) := by
  constructor
  · exact h.pending
  · exact h.free
  · exact h.moduleId
  · exact h.dswap
  · exact h.xswap
  · exact h.mem
  · exact h.run
  · exact h.lan
  · exact h.tif
  · exact h.img
  · exact h.boot
  · exact h.keys
  · exact h.time
  · exact h.net
  · exact h.test
  · exact h.trace
  · exact h.tap
  · exact h.acp
  · exact h.ex
  · unfold mapLanes; dsimp only; rw [h.lanes]
  · exact h.rew
  · exact h.pwr
  · exact h.clk
  · exact h.host
  · exact fun hp => ⟨(h.parked hp).1, planesKept_trans (h.parked hp).2.1 (planesKept_map f hf _), (h.parked hp).2.2⟩
  · exact h.objects

end Sys2Proof.Machine
end

