-- ==== Sys2Proof/Laws/Kept.lean ====
section
/-! SUPPORT. The frame of serving a frame and of resting, operation by operation (`Undisturbed`). -/

namespace Sys2Proof.Machine

theorem modSess_kept {s0 : State} {s : State} {a1 : Nat} {a2 : Session → Session} (hs : Undisturbed s0 s) :
    Undisturbed s0 (State.modSess s a1 a2) := by
  unfold State.modSess
  with_reducible refine mk_kept ?_ rfl rfl rfl rfl rfl rfl rfl rfl rfl rfl rfl rfl rfl rfl rfl rfl rfl rfl rfl rfl rfl rfl rfl rfl rfl
  with_reducible assumption

theorem modPort_kept {s0 : State} {a0 : Nat} {a1 : Port → Port} {s : State} (hs : Undisturbed s0 s) :
    Undisturbed s0 (modPort a0 a1 s) := by
  unfold modPort
  with_reducible refine mk_kept ?_ rfl rfl rfl rfl rfl rfl rfl rfl rfl rfl rfl rfl rfl rfl rfl rfl rfl rfl rfl rfl rfl rfl rfl rfl rfl
  with_reducible assumption

theorem emit_kept {s0 : State} {s : State} {a1 : Emission} (hs : Undisturbed s0 s) :
    Undisturbed s0 (State.emit s a1) := by
  unfold State.emit
  with_reducible refine mk_kept ?_ rfl rfl rfl rfl rfl rfl rfl rfl rfl rfl rfl rfl rfl rfl rfl rfl rfl rfl rfl rfl rfl rfl rfl rfl rfl
  with_reducible assumption

theorem setSel_kept {s0 : State} {a0 : Nat} {a1 : Nat} {a2 : Nat} {a3 : Nat} {s : State} (hs : Undisturbed s0 s) :
    Undisturbed s0 (setSel a0 a1 a2 a3 s) := by
  unfold setSel
  with_reducible refine modSess_kept ?_
  with_reducible assumption

theorem signalVector_kept {s0 : State} {a0 : Nat} {s : State} (hs : Undisturbed s0 s) :
    Undisturbed s0 (signalVector a0 s) := by
  unfold signalVector
  split
  · with_reducible refine mk_kept ?_ rfl rfl rfl rfl rfl rfl rfl rfl rfl rfl rfl rfl rfl rfl rfl rfl rfl rfl rfl rfl rfl rfl rfl rfl rfl
    with_reducible assumption
  · with_reducible refine emit_kept ?_
    with_reducible assumption

theorem eventRingPut_kept {s0 : State} {a0 : List Octet} {s : State} (hs : Undisturbed s0 s) :
    Undisturbed s0 (eventRingPut a0 s) := by
  unfold eventRingPut
  extract_lets v0 v1 v2 v3 v4 v5
  have q6 : Undisturbed s0 v1 := by
    subst v1
    with_reducible refine emit_kept ?_
    with_reducible assumption
  clear_value v1
  have q7 : Undisturbed s0 v3 := by
    subst v3
    with_reducible refine mk_kept ?_ rfl rfl rfl rfl rfl rfl rfl rfl rfl rfl rfl rfl rfl rfl rfl rfl rfl rfl rfl rfl rfl rfl rfl rfl rfl
    with_reducible assumption
  clear_value v3
  have q8 : Undisturbed s0 v4 := by
    subst v4
    with_reducible refine incO_kept (by decide) (by decide) ?_
    with_reducible assumption
  clear_value v4
  have q9 : Undisturbed s0 v5 := by
    subst v5
    split
    · with_reducible refine incO_kept (by decide) (by decide) ?_
      with_reducible assumption
    · with_reducible assumption
  clear_value v5
  with_reducible refine signalVector_kept ?_
  with_reducible assumption

theorem replyRingPut_kept {s0 : State} {a0 : List Octet} {s : State} (hs : Undisturbed s0 s) :
    Undisturbed s0 (replyRingPut a0 s) := by
  unfold replyRingPut
  extract_lets v0 v1 v2 v3 v4 v5
  have q6 : Undisturbed s0 v1 := by
    subst v1
    with_reducible refine emit_kept ?_
    with_reducible assumption
  clear_value v1
  have q7 : Undisturbed s0 v3 := by
    subst v3
    with_reducible refine mk_kept ?_ rfl rfl rfl rfl rfl rfl rfl rfl rfl rfl rfl rfl rfl rfl rfl rfl rfl rfl rfl rfl rfl rfl rfl rfl rfl
    with_reducible assumption
  clear_value v3
  have q8 : Undisturbed s0 v4 := by
    subst v4
    with_reducible refine incO_kept (by decide) (by decide) ?_
    with_reducible assumption
  clear_value v4
  have q9 : Undisturbed s0 v5 := by
    subst v5
    split
    · with_reducible refine incO_kept (by decide) (by decide) ?_
      with_reducible assumption
    · with_reducible assumption
  clear_value v5
  with_reducible refine signalVector_kept ?_
  with_reducible assumption

/-- Counts of a management port. -/
theorem portCount_kept {s0 : State} {a b v : Nat} {s : State} (ha : a < 2) (hb : 6 ≤ b ∧ b ≤ 9) (hs : Undisturbed s0 s) :
    Undisturbed s0 (s.incO (0x7900 + a) b v) := by
  refine incO_kept ?_ (by omega) hs
  have : a = 0 ∨ a = 1 := by omega
  unfold restObject toldObject
  rcases this with rfl | rfl <;> simp [hb]

theorem collide_kept {s0 : State} {a n : Nat} {b : Bool} {s : State} (ha : a < 2) (hs : Undisturbed s0 s) :
    Undisturbed s0 (collide a n b s).2 := by
  unfold collide
  split
  · exact hs
  · extract_lets s1
    have h1 : Undisturbed s0 s1 := portCount_kept ha (by decide) hs
    clear_value s1
    repeat' split
    · exact portCount_kept ha (by decide) h1
    · exact portCount_kept ha (by decide) h1
    · exact h1

theorem transmit_kept {s0 : State} {a n : Nat} {s : State} (hs : Undisturbed s0 s) : Undisturbed s0 (transmit a n s).2 := by
  unfold transmit
  split
  · exact hs
  rename_i ha
  replace ha : a < 2 := by omega
  split
  · exact portCount_kept ha (by decide) hs
  · extract_lets k
    have h1 : Undisturbed s0 { s with host := { s.host with met := k + 1 } } :=
      mk_kept hs rfl rfl rfl rfl rfl rfl rfl rfl rfl rfl rfl rfl rfl rfl rfl rfl rfl rfl rfl rfl rfl rfl rfl rfl rfl
    have h2 := collide_kept (n := Config.linkCollisions k % (n + 1)) (b := Config.linkLate k) ha h1
    split
    · rename_i e; rw [e] at h2; exact h2
    · rename_i e; rw [e] at h2; exact portCount_kept ha (by decide) h2

theorem sendOn_kept {s0 : State} {a : Nat} {e : Emission} {s : State} (hs : Undisturbed s0 s) : Undisturbed s0 (sendOn a e s) := by
  unfold sendOn
  have h := transmit_kept (a := a) (n := 16) hs
  split
  · rename_i q; rw [q] at h; exact emit_kept h
  · rename_i q; rw [q] at h; exact h

theorem carry_kept {s0 : State} {a0 : Session} {a1 : Frame} {a2 : Bool} {s : State} (hs : Undisturbed s0 s) :
    Undisturbed s0 (carry a0 a1 a2 s) := by
  unfold carry
  extract_lets via s1 oct parts
  have h1 : Undisturbed s0 s1 := emit_kept hs
  clear_value s1
  split
  · split
    · exact replyRingPut_kept h1
    · exact eventRingPut_kept h1
  · split
    · have h := transmit_kept (a := a0.carrier) (n := 16) h1
      split
      · rename_i q; rw [q] at h; exact h
      · rename_i q; rw [q] at h; exact emit_kept h
    · exact foldl_kept (fun _ _ h => sendOn_kept h) h1

theorem drainQueue_kept {s0 : State} {a0 : Nat} {a1 : Nat} {s : State} (hs : Undisturbed s0 s) :
    Undisturbed s0 (drainQueue a0 a1 s) := by
  induction' a1 with n ih generalizing s0 a0 s
  · unfold drainQueue
    with_reducible assumption
  · unfold drainQueue
    split
    · with_reducible assumption
    · split
      · with_reducible assumption
      · split
        · extract_lets v0 v1
          have q2 : Undisturbed s0 v1 := by
            subst v1
            with_reducible refine carry_kept ?_
            with_reducible assumption
          clear_value v1
          with_reducible apply ih
          with_reducible refine modSess_kept ?_
          with_reducible assumption
        · with_reducible assumption

theorem drainQueues_kept {s0 : State} {s : State} (hs : Undisturbed s0 s) :
    Undisturbed s0 (drainQueues s) := by
  unfold drainQueues
  refine foldl_kept ?_ ?_
  · intro z0
    intro z1
    intro z2
    with_reducible refine drainQueue_kept ?_
    with_reducible assumption
  · with_reducible assumption

theorem modNoc_kept {s0 : State} {f : NocSt → NocSt} {s : State} (hs : Undisturbed s0 s) : Undisturbed s0 (modNoc f s) := by
  unfold modNoc
  with_reducible exact mk_kept hs rfl rfl rfl rfl rfl rfl rfl rfl rfl rfl rfl rfl rfl rfl rfl rfl rfl rfl rfl rfl rfl rfl rfl rfl rfl

theorem respond_kept {s0 : State} {a0 : NocPacket} {a1 : Nat} {s : State} (hs : Undisturbed s0 s) :
    Undisturbed s0 (respond a0 a1 s) := by
  unfold respond
  extract_lets q s1
  have h1 : Undisturbed s0 s1 := emit_kept hs
  clear_value s1
  split
  · exact modNoc_kept h1
  · exact h1

theorem endRamp_kept {s0 : State} {s : State} (hs : Undisturbed s0 s) :
    Undisturbed s0 (endRamp s) := by
  unfold endRamp
  with_reducible refine setO_kept (by decide) (by decide) ?_
  with_reducible refine mk_kept ?_ rfl rfl rfl rfl rfl rfl rfl rfl rfl rfl rfl rfl rfl rfl rfl rfl rfl rfl rfl rfl rfl rfl rfl rfl rfl
  with_reducible assumption

theorem countLatency_kept {s0 : State} {i age : Nat} {s : State} (h : Undisturbed s0 s) : Undisturbed s0 (countLatency i age s) := by
  unfold countLatency
  split
  · rename_i hc
    simp only [statsCount, Bool.and_eq_true, decide_eq_true_eq] at hc
    extract_lets ns
    have hi : ∀ j, restObject (0x7300 + i) j = true := by
      intro j
      unfold restObject
      simp only [Bool.or_eq_true, decide_eq_true_eq]
      left; left; right; omega
    have hb : 4 + latencyBin ns < 256 := by
      unfold latencyBin
      repeat' split
      all_goals omega
    exact incO_kept (hi _) hb (maxO_kept (hi _) (by decide) h)
  · exact h

theorem testSettle_kept {s0 : State} {p : Nat} {s : State} (h : Undisturbed s0 s) : Undisturbed s0 (testSettle p s) := by
  unfold testSettle
  extract_lets q
  split
  · refine setO_kept (by decide) (by decide) ?_
    with_reducible exact mk_kept h rfl rfl rfl rfl rfl rfl rfl rfl rfl rfl rfl rfl rfl rfl rfl rfl rfl rfl rfl rfl rfl rfl rfl rfl rfl
  · exact h

theorem startTraining_kept {s0 : State} {a0 : Nat} {s : State} (hs : Undisturbed s0 s) :
    Undisturbed s0 (startTraining a0 s) := by
  unfold startTraining
  split
  · exact testSettle_kept (modPort_kept hs)
  · exact hs

theorem portOff_kept {s0 : State} {a0 : Nat} {s : State} (hs : Undisturbed s0 s) :
    Undisturbed s0 (portOff a0 s) := by
  unfold portOff
  with_reducible refine modPort_kept ?_
  with_reducible assumption

theorem freqState_kept {s0 : State} {s : State} (hs : Undisturbed s0 s) :
    Undisturbed s0 (freqState s) := by
  unfold freqState
  extract_lets v0
  clear_value v0
  with_reducible refine setO_kept (by decide) (by decide) ?_
  with_reducible assumption

theorem takePacket_kept {s0 : State} {a0 : NocPacket} {s : State} (hs : Undisturbed s0 s) :
    Undisturbed s0 (takePacket a0 s) := by
  unfold takePacket
  extract_lets s1 s2
  have h1 : Undisturbed s0 s1 := by
    unfold s1
    split
    · exact countLatency_kept hs
    · exact hs
  clear_value s1
  have h2 : Undisturbed s0 s2 := incO_kept (by decide) (by decide) h1
  clear_value s2
  split
  · split
    · exact respond_kept h2
    · exact h2
  · split
    · exact respond_kept h1
    · exact h1

theorem setPll_kept {s0 : State} {p v : Nat} {s : State} (hp : p < 8) (h : Undisturbed s0 s) : Undisturbed s0 (setPll p v s) := by
  unfold setPll
  exact setO_kept (by decide) (by decide) (setO_kept rfl (by omega) h)

theorem runPll_kept {s0 : State} {p : Nat} {s : State} (hp : p < 8) (h : Undisturbed s0 s) : Undisturbed s0 (runPll p s) := by
  unfold runPll
  split
  · exact h
  · exact setPll_kept hp h

theorem deliverHeld_kept {s0 : State} {a0 : Nat} {s : State} (hs : Undisturbed s0 s) :
    Undisturbed s0 (deliverHeld a0 s) := by
  unfold deliverHeld
  extract_lets v0 v1 v2
  clear_value v0
  have q3 : Undisturbed s0 v2 := by
    subst v2
    with_reducible refine mk_kept ?_ rfl rfl rfl rfl rfl rfl rfl rfl rfl rfl rfl rfl rfl rfl rfl rfl rfl rfl rfl rfl rfl rfl rfl rfl rfl
    with_reducible assumption
  clear_value v2
  refine foldl_kept ?_ ?_
  · intro z4
    intro z5
    intro z6
    with_reducible refine takePacket_kept ?_
    with_reducible assumption
  · with_reducible assumption

theorem settleDomain_kept {s0 : State} {d dom gate : Nat} {s : State} (hd : d < 256) (hs : Undisturbed s0 s) :
    Undisturbed s0 (settleDomain d dom gate s) := by
  unfold settleDomain
  extract_lets s1 s2 p3 s3
  have h1 : Undisturbed s0 s1 := by
    unfold s1
    split
    · refine maxO_kept ?_ (by decide) hs
      unfold restObject
      simp only [Bool.or_eq_true, Bool.and_eq_true, decide_eq_true_eq, beq_self_eq_true, and_true]
      left; right; omega
    · exact hs
  clear_value s1
  have h2 : Undisturbed s0 s2 := modNoc_kept h1
  clear_value s2
  have h3 : Undisturbed s0 s3 := by
    unfold s3
    with_reducible exact mk_kept h2 rfl rfl rfl rfl rfl rfl rfl rfl rfl rfl rfl rfl rfl rfl rfl rfl rfl rfl rfl rfl rfl rfl rfl rfl rfl
  clear_value s3
  split
  · exact deliverHeld_kept h3
  · exact h3

theorem setDomain_kept {s0 : State} {d dom gate : Nat} {s : State} (hd : d < 256) (hs : Undisturbed s0 s) :
    Undisturbed s0 (setDomain d dom gate s) := by
  unfold setDomain
  split
  · extract_lets s1
    have h1 : Undisturbed s0 s1 := modNoc_kept hs
    clear_value s1
    with_reducible exact mk_kept h1 rfl rfl rfl rfl rfl rfl rfl rfl rfl rfl rfl rfl rfl rfl rfl rfl rfl rfl rfl rfl rfl rfl rfl rfl rfl
  · exact settleDomain_kept hd hs

theorem restDomain_kept {s0 : State} {d dom gate : Nat} {s : State} (hd : d < 256) (hs : Undisturbed s0 s) :
    Undisturbed s0 (restDomain d dom gate s) := by
  unfold restDomain
  split
  · exact hs
  · exact setDomain_kept hd hs

/-- A small number of the list that the folds of rest and wake run over. -/
theorem range_lt {n q k : Nat} (h : q ∈ List.range n) (hk : n ≤ k) : q < k := by
  have := List.mem_range.mp h; omega

/-- The step PLLs stop. -/
theorem stopStepPlls_kept {s0 : State} {s : State} (h : Undisturbed s0 s) : Undisturbed s0 (stopStepPlls s) := by
  unfold stopStepPlls
  extract_lets c f s1 s2
  have h1 : Undisturbed s0 s1 := by
    unfold s1
    refine foldl_kept_mem ?_ (endRamp_kept h)
    intro s p hp h
    split
    · exact h
    · exact setPll_kept (range_lt hp (by decide)) h
  clear_value s1 f
  split
  · exact h1
  · refine freqState_kept (setO_kept (by decide) (by decide) (setO_kept (by decide) (by decide) ?_))
    with_reducible exact mk_kept h1 rfl rfl rfl rfl rfl rfl rfl rfl rfl rfl rfl rfl rfl rfl rfl rfl rfl rfl rfl rfl rfl rfl rfl rfl rfl

/-- The step roots start. -/
theorem startRoots_kept {s0 : State} {n : Nat} {s : State} (h : Undisturbed s0 s) : Undisturbed s0 (startRoots n s) := by
  unfold startRoots
  split
  · exact h
  · extract_lets c f r c1 s1
    have h1 : Undisturbed s0 s1 := by
      unfold s1
      with_reducible exact mk_kept h rfl rfl rfl rfl rfl rfl rfl rfl rfl rfl rfl rfl rfl rfl rfl rfl rfl rfl rfl rfl rfl rfl rfl rfl rfl
    clear_value s1
    exact freqState_kept (setO_kept (by decide) (by decide) (setO_kept (by decide) (by decide) (setO_kept (by decide) (by decide) h1)))

/-- What PD5 to PD8 held. -/
theorem loseCompute_kept {s0 : State} {s : State} (h : Undisturbed s0 s) : Undisturbed s0 (loseCompute s) := by
  unfold loseCompute
  split
  · have h1 : Undisturbed s0 (mapLanes (fun _ r => { r with tmp := 0, badTmp := 0, rd := false, ind := false, imp := false }) s) :=
      mapLanes_kept (fun _ _ => ⟨rfl, rfl, rfl⟩) h
    revert h1
    generalize mapLanes (fun _ r => { r with tmp := 0, badTmp := 0, rd := false, ind := false, imp := false }) s = s1
    intro h1
    constructor
    · exact h1.pending
    · exact h1.free
    · exact h1.moduleId
    · exact h1.dswap
    · exact h1.xswap
    · dsimp only; rw [h1.mem]
    · exact h1.run
    · exact h1.lan
    · exact h1.tif
    · exact h1.img
    · exact h1.boot
    · exact h1.keys
    · exact h1.time
    · exact h1.net
    · exact h1.test
    · exact h1.trace
    · exact h1.tap
    · exact h1.acp
    · exact h1.ex
    · exact h1.lanes
    · dsimp only; rw [h1.rew]
    · exact h1.pwr
    · exact h1.clk
    · exact h1.host
    · exact h1.parked
    · exact h1.objects
  · rename_i hp
    constructor
    · exact h.pending
    · exact h.free
    · exact h.moduleId
    · exact h.dswap
    · exact h.xswap
    · dsimp only; rw [h.mem]
    · exact h.run
    · exact h.lan
    · exact h.tif
    · exact h.img
    · exact h.boot
    · exact h.keys
    · exact h.time
    · exact h.net
    · exact h.test
    · exact h.trace
    · exact h.tap
    · exact h.acp
    · exact h.ex
    · dsimp only; rw [h.lanes]
    · exact h.rew
    · exact h.pwr
    · exact h.clk
    · exact h.host
    · exact fun q => absurd (h.run ▸ q) hp
    · exact h.objects

/-- What PD9 to PD12 held. -/
theorem loseTier_kept {s0 : State} {s : State} (h : Undisturbed s0 s) : Undisturbed s0 (loseTier s) := by
  unfold loseTier
  split
  rename_i im dict ex he
  constructor
  · exact h.pending
  · exact h.free
  · exact h.moduleId
  · exact h.dswap
  · exact h.xswap
  · exact h.mem
  · exact h.run
  · exact h.lan
  · exact h.tif
  · exact h.img
  · exact h.boot
  · exact h.keys
  · exact h.time
  · exact h.net
  · exact h.test
  · exact h.trace
  · exact h.tap
  · exact h.acp
  · dsimp only; rw [h.ex]
  · dsimp only; rw [h.lanes]
  · exact h.rew
  · exact h.pwr
  · exact h.clk
  · exact h.host
  · intro q
    obtain ⟨a, b, -, -, -⟩ := h.parked q
    rw [if_pos (h.run ▸ q)] at he
    simp only [Prod.mk.injEq] at he
    obtain ⟨e1, e2, e3⟩ := he
    exact ⟨a, b, .inr (by rw [← e1, h.img]), .inr (by rw [← e2, h.img]), .inr (by rw [← e3, h.img])⟩
  · exact h.objects

/-- A quadrant of the lists that the folds of rest run over. -/
theorem quad_lt {q : Nat} (h : q ∈ [3, 2, 1, 0]) : q < 4 := by
  simp only [List.mem_cons, List.not_mem_nil, or_false] at h
  omega

theorem deepen_kept {s0 : State} {d : Nat} {s : State} (h : Undisturbed s0 s) : Undisturbed s0 (deepen d s) := by
  unfold deepen
  split
  · extract_lets s1 s2 s3
    have h1 : Undisturbed s0 s1 := foldl_kept (fun _ _ h => portOff_kept h) h
    clear_value s1
    have h2 : Undisturbed s0 s2 := restDomain_kept (by decide) (restDomain_kept (by decide) h1)
    clear_value s2
    have h3 : Undisturbed s0 s3 := stopStepPlls_kept h2
    clear_value s3
    split
    · exact h3
    · exact setPll_kept (by decide) h3
  · exact loseCompute_kept (foldl_kept_mem (fun _ _ hq h => by
      have := quad_lt hq
      exact restDomain_kept (by omega) (restDomain_kept (by omega) h)) h)
  · exact loseTier_kept (foldl_kept_mem (fun _ _ hq h => restDomain_kept (by have := quad_lt hq; omega) h) h)
  · extract_lets s1 s2
    have h1 : Undisturbed s0 s1 := foldl_kept_mem (fun _ _ hq h => restDomain_kept (by have := quad_lt hq; omega) h) h
    clear_value s1
    have h2 : Undisturbed s0 s2 := by
      unfold s2
      split
      · exact h1
      · exact setPll_kept (by decide) h1
    clear_value s2
    exact setDomain_kept (by decide) h2
  · exact h

theorem wakeDomain_kept {s0 : State} {d : Nat} {s : State} (hd : d < 256) (h : Undisturbed s0 s) : Undisturbed s0 (wakeDomain d s) :=
  restDomain_kept hd h

theorem wakeDepth_kept {s0 : State} {s : State} (h : Undisturbed s0 s) : Undisturbed s0 (wakeDepth s) := by
  unfold wakeDepth
  split
  · exact h
  · extract_lets d p1 s1 t1 s2 s3 s4 s5
    have h1 : Undisturbed s0 s1 := by
      unfold s1
      with_reducible exact mk_kept h rfl rfl rfl rfl rfl rfl rfl rfl rfl rfl rfl rfl rfl rfl rfl rfl rfl rfl rfl rfl rfl rfl rfl rfl rfl
    clear_value s1
    have g1 : Undisturbed s0 t1 := foldl_kept_mem (fun _ _ hq h => wakeDomain_kept (by have := List.mem_range.mp hq; omega) h)
      (setDomain_kept (by decide) h1)
    clear_value t1
    have h2 : Undisturbed s0 s2 := by
      unfold s2
      split
      · exact runPll_kept (by decide) g1
      · exact h1
    clear_value s2
    have h3 : Undisturbed s0 s3 :=
      foldl_kept_mem (fun s p hp h => runPll_kept (range_lt hp (by decide)) h) (restDomain_kept (by decide) (restDomain_kept (by decide) h2))
    clear_value s3
    have h4 : Undisturbed s0 s4 := by
      unfold s4
      split
      · exact foldl_kept_mem (fun _ _ hq h => by
          have := List.mem_range.mp hq
          exact restDomain_kept (by omega) (restDomain_kept (by omega) h)) h3
      · exact h3
    clear_value s4
    have h5 : Undisturbed s0 s5 := startRoots_kept h4
    clear_value s5
    exact foldl_kept (fun _ _ h => startTraining_kept h) h5

theorem takeDepth_kept {s0 : State} {a0 : Nat} {s : State} (hs : Undisturbed s0 s) :
    Undisturbed s0 (takeDepth a0 s) := by
  unfold takeDepth
  split
  · with_reducible assumption
  · extract_lets v0 v1 v2
    have q3 : Undisturbed s0 v0 := by
      subst v0
      split
      · with_reducible refine wakeDepth_kept ?_
        with_reducible assumption
      · with_reducible assumption
    clear_value v0
    have q4 : Undisturbed s0 v1 := by
      subst v1
      refine foldl_kept ?_ ?_
      · intro z5
        intro z6
        intro z7
        with_reducible refine deepen_kept ?_
        with_reducible assumption
      · with_reducible assumption
    clear_value v1
    with_reducible refine mk_kept ?_ rfl rfl rfl rfl rfl rfl rfl rfl rfl rfl rfl rfl rfl rfl rfl rfl rfl rfl rfl rfl rfl rfl rfl rfl rfl
    with_reducible assumption

theorem chooseDepth_kept {s0 : State} {s : State} (hs : Undisturbed s0 s) :
    Undisturbed s0 (chooseDepth s) := by
  unfold chooseDepth
  split
  · with_reducible refine takeDepth_kept ?_
    with_reducible assumption
  · with_reducible assumption

theorem answer_kept {s0 : State} {r : Req} {op idx sub : Nat} {l : List Answer} {s : State} (h : Undisturbed s0 s) :
    Undisturbed s0 (answer r op idx sub l s) := by
  unfold answer
  split
  · exact h
  · extract_lets fs s1
    have h1 : Undisturbed s0 s1 := foldl_kept (fun _ _ h => carry_kept h) h
    clear_value s1
    exact modSess_kept h1

theorem answerParts_kept {s0 : State} {a0 : Nat} {a1 : Nat} {a2 : List Answer} {s : State} (hs : Undisturbed s0 s) :
    Undisturbed s0 (answerParts a0 a1 a2 s) := by
  unfold answerParts
  split
  · with_reducible assumption
  · split
    · with_reducible assumption
    · extract_lets v0
      have q1 : Undisturbed s0 v0 := by
        subst v0
        with_reducible refine modSess_kept ?_
        with_reducible assumption
      clear_value v0
      with_reducible refine answer_kept ?_
      with_reducible assumption

theorem answerWaiting_kept {s0 : State} {a0 : Nat} {a1 : Nat} {a2 : Status} {s : State} (hs : Undisturbed s0 s) :
    Undisturbed s0 (answerWaiting a0 a1 a2 s) := answerParts_kept hs

theorem answerAllWaiting_kept {s0 : State} {a0 : Nat} {a1 : Nat} {a2 : Status} {s : State} (hs : Undisturbed s0 s) :
    Undisturbed s0 (answerAllWaiting a0 a1 a2 s) := by
  unfold answerAllWaiting
  refine foldl_kept ?_ ?_
  · intro z0
    intro z1
    intro z2
    refine foldl_kept ?_ ?_
    · intro z3
      intro z4
      intro z5
      with_reducible refine answerWaiting_kept ?_
      with_reducible assumption
    · with_reducible assumption
  · with_reducible assumption

end Sys2Proof.Machine
end

