-- ==== Sys2Proof/Laws/SoundCore.lean ====
section
/-! SUPPORT. What keeps a state sound (`Sound`): the forms that every meaning is made of. -/

namespace Sys2Proof.Machine

/-- An outcome whose next state is sound. -/
def OutSound (o : Host.Outcome State Fault Refusal) : Prop := ∀ t, o = .next t → Sound t

theorem next_sound {s : State} (h : Sound s) : OutSound (.next s) := by
  intro t e; cases e; exact h

theorem fault_sound (f : Fault) : OutSound (.fault f) := by
  intro t e; cases e

theorem refused_sound (f : Refusal) : OutSound (.refused f) := by
  intro t e; cases e

/-- A record update that leaves the five parts alone keeps a state sound. -/
theorem mk_sound {pending : List Instr} {obj : Sparse Nat} {free : Nat} {moduleId : Nat} {out : List Emission} {acp : AcpSt}
    {lanes : LaneSt} {dswap : Swap} {xswap : Swap} {ex : ExchSt} {mem : MemSt} {run : RunSt} {lan : LanternSt}
    {rew : RewSt} {tif : TifSt} {img : ImgSt} {boot : BootSt} {keys : KeySt} {pwr : PwrSt} {clk : ClkSt} {time :
    TimeSt} {net : NetSt} {host : HostSt} {test : TestSt} {trace : TraceSt} {tap : Nat}
    {s : State} (h : Sound s) (h1 : obj = s.obj) (h2 : mem.dram = s.mem.dram) (h3 : acp.log = s.acp.log)
    (h4 : mem.hostQ = s.mem.hostQ) (h5 : lanes.deposits = s.lanes.deposits) :
    Sound (State.mk pending obj free moduleId out acp lanes dswap xswap ex mem run lan rew tif img boot keys pwr clk time
      net host test trace tap) := by
  refine ⟨?_, ?_, ?_, ?_, ?_⟩
  · rw [h1]; exact h.objects
  · dsimp only; rw [h2]; exact h.dram
  · dsimp only; rw [h3]; exact h.log
  · dsimp only; rw [h4]; exact h.writes
  · dsimp only; rw [h5]; exact h.deposits

/-- A record update that keeps some of the objects keeps a state sound. -/
theorem mk_sound_filter {pending : List Instr} {obj : Sparse Nat} {free : Nat} {moduleId : Nat} {out : List Emission} {acp : AcpSt}
    {lanes : LaneSt} {dswap : Swap} {xswap : Swap} {ex : ExchSt} {mem : MemSt} {run : RunSt} {lan : LanternSt}
    {rew : RewSt} {tif : TifSt} {img : ImgSt} {boot : BootSt} {keys : KeySt} {pwr : PwrSt} {clk : ClkSt} {time :
    TimeSt} {net : NetSt} {host : HostSt} {test : TestSt} {trace : TraceSt} {tap : Nat}
    {s : State} {f : Nat × Nat → Bool} (h : Sound s) (h1 : obj = s.obj.filter f) (h2 : mem.dram = s.mem.dram) (h3 : acp.log = s.acp.log)
    (h4 : mem.hostQ = s.mem.hostQ) (h5 : lanes.deposits = s.lanes.deposits) :
    Sound (State.mk pending obj free moduleId out acp lanes dswap xswap ex mem run lan rew tif img boot keys pwr clk time
      net host test trace tap) := by
  refine ⟨?_, ?_, ?_, ?_, ?_⟩
  · rw [h1]; exact sparse_wf_filter _ _ _ h.objects
  · dsimp only; rw [h2]; exact h.dram
  · dsimp only; rw [h3]; exact h.log
  · dsimp only; rw [h4]; exact h.writes
  · dsimp only; rw [h5]; exact h.deposits

/-- A record update that only shortens the deposit queue keeps a state sound. -/
theorem mk_sound_le {pending : List Instr} {obj : Sparse Nat} {free : Nat} {moduleId : Nat} {out : List Emission} {acp : AcpSt}
    {lanes : LaneSt} {dswap : Swap} {xswap : Swap} {ex : ExchSt} {mem : MemSt} {run : RunSt} {lan : LanternSt}
    {rew : RewSt} {tif : TifSt} {img : ImgSt} {boot : BootSt} {keys : KeySt} {pwr : PwrSt} {clk : ClkSt} {time :
    TimeSt} {net : NetSt} {host : HostSt} {test : TestSt} {trace : TraceSt} {tap : Nat}
    {s : State} (h : Sound s) (h1 : obj = s.obj) (h2 : mem.dram = s.mem.dram) (h3 : acp.log = s.acp.log)
    (h4 : mem.hostQ = s.mem.hostQ) (h5 : lanes.deposits.length ≤ s.lanes.deposits.length) :
    Sound (State.mk pending obj free moduleId out acp lanes dswap xswap ex mem run lan rew tif img boot keys pwr clk time
      net host test trace tap) := by
  refine ⟨?_, ?_, ?_, ?_, ?_⟩
  · rw [h1]; exact h.objects
  · dsimp only; rw [h2]; exact h.dram
  · dsimp only; rw [h3]; exact h.log
  · dsimp only; rw [h4]; exact h.writes
  · exact h5.trans h.deposits

/-- A state that takes another sound state's objects stays sound. -/
theorem keepObj_sound {s t : State} (ht : Sound t) (hs : Sound s) : Sound { t with obj := s.obj } :=
  ⟨hs.objects, ht.dram, ht.log, ht.writes, ht.deposits⟩

theorem foldl_sound {α : Type} {g : State → α → State} {l : List α} {s : State}
    (hg : ∀ s x, Sound s → Sound (g s x)) (h : Sound s) : Sound (l.foldl g s) := by
  induction l generalizing s with
  | nil => exact h
  | cons x t ih => exact ih (hg s x h)

theorem foldl_sound_fst {α β : Type} {g : State × β → α → State × β} {l : List α} {p : State × β}
    (hg : ∀ p x, Sound p.1 → Sound (g p x).1) (h : Sound p.1) : Sound (l.foldl g p).1 := by
  induction l generalizing p with
  | nil => exact h
  | cons x t ih => exact ih (hg p x h)

theorem foldl_sound_snd {α β : Type} {g : β × State → α → β × State} {l : List α} {p : β × State}
    (hg : ∀ p x, Sound p.2 → Sound (g p x).2) (h : Sound p.2) : Sound (l.foldl g p).2 := by
  induction l generalizing p with
  | nil => exact h
  | cons x t ih => exact ih (hg p x h)

theorem sound_of_eq {α : Type} {p : α × State} {a : α} {s : State} (e : p = (a, s)) (h : Sound p.2) : Sound s := by
  subst e; exact h

theorem sound_of_eq_fst {α : Type} {p : State × α} {a : α} {s : State} (e : p = (s, a)) (h : Sound p.1) : Sound s := by
  subst e; exact h

end Sys2Proof.Machine
end

