-- ==== Sys2Proof/Laws/Drain.lean ====
section
/-! SUPPORT. What the packet network keeps while domains close and drain (R638): the supply's own state, the flash, the keys, the tests,
and every object below 7300h that resting does not change. -/

namespace Sys2Proof.Machine

/-- What the closing and draining of domains keeps. -/
structure Supplied (s t : State) : Prop where
  moduleId : t.moduleId = s.moduleId
  pwr : t.pwr = { s.pwr with dom := t.pwr.dom, gate := t.pwr.gate, depth := t.pwr.depth }
  boot : t.boot = s.boot
  keys : t.keys = s.keys
  tif : t.tif = s.tif
  test : t.test = s.test
  objects : ∀ i j, restObject i j = false → i < 0x7300 → j < 256 → t.o i j = s.o i j

theorem supplied_refl (s : State) : Supplied s s := ⟨rfl, rfl, rfl, rfl, rfl, rfl, fun _ _ _ _ _ => rfl⟩

theorem supplied_trans {a b c : State} (h : Supplied a b) (k : Supplied b c) : Supplied a c := by
  refine ⟨k.moduleId.trans h.moduleId, ?_, k.boot.trans h.boot, k.keys.trans h.keys, k.tif.trans h.tif, k.test.trans h.test,
    fun i j hr hi hj => (k.objects i j hr hi hj).trans (h.objects i j hr hi hj)⟩
  rw [k.pwr, h.pwr]

/-- What resting keeps, closing keeps. -/
theorem supplied_kept {s t : State} (h : Undisturbed s t) : Supplied s t :=
  ⟨h.moduleId, h.pwr, h.boot, h.keys, h.tif, h.test, fun i j hr _ hj => h.objects i j hr hj⟩

theorem supplied_told {s t : State} (h : Told s t) : Supplied s t := by
  refine ⟨h.moduleId, by rw [h.pwr], h.boot, h.keys, h.tif, h.test, fun i j hr _ hj => h.objects i j ?_ hj⟩
  unfold restObject at hr
  simp only [Bool.or_eq_false_iff] at hr
  exact hr.1.1.1.1

/-- A write of an object from 7300h on. -/
theorem setO_supplied {s : State} {a b v : Nat} (ha : 0x7300 ≤ a) (hb : b < 256) : Supplied s (s.setO a b v) := by
  refine ⟨rfl, rfl, rfl, rfl, rfl, rfl, fun i j _ hi hj => ?_⟩
  exact setO_o_other _ (okey_idx_ne hj hb (by omega))

theorem maxO_supplied {s : State} {a b v : Nat} (ha : 0x7300 ≤ a) (hb : b < 256) : Supplied s (s.maxO a b v) := by
  unfold State.maxO; exact setO_supplied ha hb

theorem incO_supplied {s : State} {a b v : Nat} (ha : 0x7300 ≤ a) (hb : b < 256) : Supplied s (s.incO a b v) := by
  unfold State.incO; exact setO_supplied ha hb

theorem modNoc_supplied {f : NocSt → NocSt} {s : State} : Supplied s (modNoc f s) :=
  ⟨rfl, rfl, rfl, rfl, rfl, rfl, fun _ _ _ _ _ => rfl⟩

theorem foldl_supplied {α : Type} {g : State → α → State} (hg : ∀ s a, Supplied s (g s a)) (l : List α) (s : State) :
    Supplied s (l.foldl g s) := by
  induction l generalizing s with
  | nil => exact supplied_refl s
  | cons a l ih => exact supplied_trans (hg s a) (ih (g s a))

theorem settleDomain_supplied (d dom gate : Nat) (s : State) : Supplied s (settleDomain d dom gate s) := by
  unfold settleDomain
  extract_lets s1 s2 p3 s3
  have h1 : Supplied s s1 := by
    unfold s1
    split
    · exact maxO_supplied (by omega) (by decide)
    · exact supplied_refl s
  have h3 : Supplied s1 s3 := ⟨rfl, rfl, rfl, rfl, rfl, rfl, fun _ _ _ _ _ => rfl⟩
  split
  · exact supplied_trans (supplied_trans h1 h3) (supplied_kept (deliverHeld_kept (kept_refl s3)))
  · exact supplied_trans h1 h3

theorem setDomain_supplied (d dom gate : Nat) (s : State) : Supplied s (setDomain d dom gate s) := by
  unfold setDomain
  split
  · exact ⟨rfl, rfl, rfl, rfl, rfl, rfl, fun _ _ _ _ _ => rfl⟩
  · exact settleDomain_supplied d dom gate s

theorem refusedEvent_supplied (d : Nat) (s : State) : Supplied s (refusedEvent d s) := by
  unfold refusedEvent
  extract_lets last
  split
  · exact supplied_refl s
  · refine supplied_trans (b := { s with host := { s.host with refusedAt := Sparse.set0 s.host.refusedAt d (s.now + 1) } })
      ⟨rfl, rfl, rfl, rfl, rfl, rfl, fun _ _ _ _ _ => rfl⟩ (supplied_told (raise_told (told_refl _)))

theorem gateServe_supplied (g : Nat) (p : NocPacket) (s : State) : Supplied s (gateServe g p s) := by
  have take : ∀ u, Supplied u (takePacket p u) := fun u => supplied_kept (takePacket_kept (kept_refl u))
  have resp : ∀ n u, Supplied u (respond p n u) := fun n u => supplied_kept (respond_kept (kept_refl u))
  have rest : Supplied s (chooseDepth (wakeDepth { s with host := { s.host with
      heldPkts := s.host.heldPkts ++ [(endpointDomain p.dst, p)] } })) :=
    supplied_trans (b := { s with host := { s.host with heldPkts := s.host.heldPkts ++ [(endpointDomain p.dst, p)] } })
      ⟨rfl, rfl, rfl, rfl, rfl, rfl, fun _ _ _ _ _ => rfl⟩
      (supplied_kept (chooseDepth_kept (wakeDepth_kept (kept_refl _))))
  unfold gateServe
  dsimp only
  split
  · exact take s
  · split
    · exact resp 1 s
    · exact take s
  · exact rest
  · exact rest
  · split
    · refine supplied_trans ?_ (resp 1 _)
      unfold gateRefuse
      exact supplied_trans (incO_supplied (by omega) (by decide)) (refusedEvent_supplied _ _)
    · unfold gateSink
      exact incO_supplied (by omega) (by decide)

theorem arrivePacket_supplied (g : Nat) (p : NocPacket) (s : State) : Supplied s (arrivePacket g p s) := by
  unfold arrivePacket
  extract_lets back mine s1 s2
  refine supplied_trans (b := s2) ?_ (gateServe_supplied g p s2)
  have h1 : Supplied s s1 := by
    unfold s1
    split
    · exact supplied_kept (countLatency_kept (kept_refl s))
    · exact supplied_refl s
  unfold s2
  split
  · exact supplied_trans h1 modNoc_supplied
  · exact supplied_refl s

theorem ejectFlit_supplied (f : Flit) (s : State) : Supplied s (ejectFlit f s) := by
  unfold ejectFlit
  split
  · exact supplied_refl s
  · extract_lets s1 g
    have h1 : Supplied s s1 := by
      unfold s1
      split
      · exact modNoc_supplied
      · exact supplied_refl s
    split
    · exact supplied_trans (supplied_trans h1 modNoc_supplied) (arrivePacket_supplied _ _ _)
    · exact h1

theorem arbitrate_supplied (r o v : Nat) (s : State) : Supplied s (arbitrate r o v s) := by
  unfold arbitrate
  extract_lets n l
  split
  · exact supplied_refl s
  · split
    · exact supplied_refl s
    · exact supplied_trans (maxO_supplied (by decide) (by decide)) modNoc_supplied

theorem sendFlit_supplied (r o : Nat) (s : State) : Supplied s (sendFlit r o s) := by
  unfold sendFlit
  extract_lets t
  split
  · exact supplied_refl s
  · split
    · exact supplied_refl s
    · dsimp only
      split
      · exact supplied_trans modNoc_supplied (ejectFlit_supplied _ _)
      · exact modNoc_supplied

theorem routerClock_supplied (r : Nat) (s : State) : Supplied s (routerClock r s) := by
  unfold routerClock
  exact supplied_trans (foldl_supplied (fun s o => foldl_supplied (fun s v => arbitrate_supplied r o v s) _ s) _ s)
    (foldl_supplied (fun s o => sendFlit_supplied r o s) _ _)

theorem switchTables_supplied (s : State) : Supplied s (switchTables s) := by
  unfold switchTables
  refine foldl_supplied (fun s x => ?_) _ s
  exact supplied_trans (supplied_trans (incO_supplied (by decide) (by decide)) (maxO_supplied (by decide) (by decide))) modNoc_supplied

theorem finishClosing_supplied (s : State) : Supplied s (finishClosing s) := by
  unfold finishClosing
  refine foldl_supplied (fun s x => ?_) _ s
  split
  · exact supplied_refl s
  · exact settleDomain_supplied _ _ _ s

theorem nocClock_supplied (s : State) : Supplied s (nocClock s) := by
  unfold nocClock
  extract_lets s1 s2
  have h1 : Supplied s s1 := modNoc_supplied
  have h2 : Supplied s1 s2 := foldl_supplied (fun s r => routerClock_supplied r s) _ s1
  exact supplied_trans (supplied_trans (supplied_trans (supplied_trans h1 h2) modNoc_supplied) (switchTables_supplied _))
    (finishClosing_supplied _)

theorem drainGate_supplied (d n : Nat) (s : State) : Supplied s (drainGate d n s) := by
  induction n generalizing s with
  | zero => exact supplied_refl s
  | succ n ih =>
    unfold drainGate
    split
    · exact supplied_trans (nocClock_supplied s) (ih _)
    · exact supplied_refl s

/-- What a power-down closes and drains, it keeps the supply's state of (R638, R724). -/
theorem closeDomains_supplied (s : State) : Supplied s (closeDomains s) := by
  unfold closeDomains
  refine foldl_supplied (fun s d => ?_) _ s
  split
  · exact supplied_refl s
  · exact supplied_trans (setDomain_supplied d 0 2 s) (drainGate_supplied d 512 _)

end Sys2Proof.Machine
end

