-- ==== Sys2Proof/Laws/Octets.lean ====
section
/-! SUPPORT. Octet strings and the CRC of R48: the number that octets spell, and the range of a CRC. -/

namespace Sys2Proof.Machine

theorem natBE_append (l : List Octet) (o : Octet) : natBE (l ++ [o]) = 256 * natBE l + o.toNat := by
  simp [natBE, List.foldl_append]

theorem natBE_foldl (l : List Octet) (a : Nat) : l.foldl (fun a o => 256 * a + o.toNat) a = 256 ^ l.length * a + natBE l := by
  induction l generalizing a with
  | nil => simp [natBE]
  | cons o t ih =>
    have h0 := ih (256 * 0 + o.toNat)
    have h1 := ih (256 * a + o.toNat)
    simp only [natBE, List.foldl_cons, List.length_cons] at *
    rw [h1, h0, pow_succ]; ring

theorem octetsBE_length (k n : Nat) : (octetsBE k n).length = k := by
  induction k with
  | zero => rfl
  | succ k ih => simp [octetsBE, ih]

/-- k octets of a number, read back, give the number modulo 256^k. -/
theorem natBE_octetsBE (k n : Nat) : natBE (octetsBE k n) = n % 256 ^ k := by
  induction k with
  | zero => simp [octetsBE, natBE, Nat.mod_one]
  | succ k ih =>
    have h := natBE_foldl (octetsBE k n) (BitVec.ofNat 8 (n >>> (8 * k))).toNat
    rw [octetsBE_length] at h
    have e : natBE (octetsBE (k + 1) n) = 256 ^ k * (BitVec.ofNat 8 (n >>> (8 * k))).toNat + natBE (octetsBE k n) := by
      rw [← h]; simp [octetsBE, natBE]
    have h8 : (2 : Nat) ^ (8 * k) = 256 ^ k := by rw [pow_mul]; norm_num
    have h2 : (2 : Nat) ^ 8 = 256 := by norm_num
    rw [e, ih, BitVec.toNat_ofNat, Nat.shiftRight_eq_div_pow, h8, h2, pow_succ 256 k, Nat.mod_mul]; ring

theorem crc32Bit_lt {c : Nat} (h : c < 2 ^ 32) : crc32Bit c < 2 ^ 32 := by
  have hs : c >>> 1 < 2 ^ 32 := by rw [Nat.shiftRight_eq_div_pow]; omega
  unfold crc32Bit
  split
  · exact Nat.xor_lt_two_pow hs (by norm_num)
  · exact hs

theorem crc32Octet_lt {c : Nat} (h : c < 2 ^ 32) (o : Octet) : crc32Octet c o < 2 ^ 32 := by
  have ho : o.toNat < 2 ^ 32 := lt_trans o.isLt (by norm_num)
  unfold crc32Octet
  repeat apply crc32Bit_lt
  exact Nat.xor_lt_two_pow h ho

/-- A CRC has 32 bits. -/
theorem crc32_lt (l : List Octet) : crc32 l < 2 ^ 32 := by
  have : ∀ c, c < 2 ^ 32 → l.foldl crc32Octet c < 2 ^ 32 := by
    induction l with
    | nil => intro c h; exact h
    | cons o t ih => intro c h; exact ih _ (crc32Octet_lt h o)
  exact Nat.xor_lt_two_pow (this _ (by norm_num)) (by norm_num)

end Sys2Proof.Machine
end

