-- ==== Sys2Proof/Laws/SoundOps.lean ====
section
/-! SUPPORT. What Machine/Ops.lean does keeps a sound state sound. -/

namespace Sys2Proof.Machine

theorem takeNat_sound {s : State} {a1 : Nat} (hs : Sound s) :
    Sound (State.takeNat s a1).2 := by
  unfold State.takeNat
  dsimp -zeta only
  with_reducible refine mk_sound ?_ rfl rfl rfl rfl rfl
  with_reducible assumption

theorem takeNonce_sound {s : State} (hs : Sound s) :
    Sound (State.takeNonce s).2 := by
  unfold State.takeNonce
  dsimp -zeta only
  with_reducible refine mk_sound ?_ rfl rfl rfl rfl rfl
  with_reducible assumption

theorem modSess_sound {s : State} {a1 : Nat} {a2 : Session → Session} (hs : Sound s) :
    Sound (State.modSess s a1 a2) := by
  unfold State.modSess
  with_reducible refine mk_sound ?_ rfl rfl rfl rfl rfl
  with_reducible assumption

theorem mapLanes_sound {a0 : Nat → LaneRec → LaneRec} {s : State} (hs : Sound s) :
    Sound (mapLanes a0 s) := by
  unfold mapLanes
  with_reducible refine mk_sound ?_ rfl rfl rfl rfl rfl
  with_reducible assumption

theorem setO_sound {s : State} {a1 a2 a3 : Nat} (hs : Sound s) : Sound (s.setO a1 a2 a3) :=
  ⟨sparse_wf_set okDflt _ _ _ hs.objects, hs.dram, hs.log, hs.writes, hs.deposits⟩

theorem modPort_sound {a0 : Nat} {a1 : Port → Port} {s : State} (hs : Sound s) :
    Sound (modPort a0 a1 s) := by
  unfold modPort
  with_reducible refine mk_sound ?_ rfl rfl rfl rfl rfl
  with_reducible assumption

theorem emit_sound {s : State} {a1 : Emission} (hs : Sound s) :
    Sound (State.emit s a1) := by
  unfold State.emit
  with_reducible refine mk_sound ?_ rfl rfl rfl rfl rfl
  with_reducible assumption

theorem takeBit_sound {s : State} (hs : Sound s) :
    Sound (State.takeBit s).2 := by
  unfold State.takeBit
  dsimp -zeta only
  with_reducible refine mk_sound ?_ rfl rfl rfl rfl rfl
  with_reducible assumption

theorem setSel_sound {a0 : Nat} {a1 : Nat} {a2 : Nat} {a3 : Nat} {s : State} (hs : Sound s) :
    Sound (setSel a0 a1 a2 a3 s) := by
  unfold setSel
  with_reducible refine modSess_sound ?_
  with_reducible assumption

theorem signalVector_sound {a0 : Nat} {s : State} (hs : Sound s) :
    Sound (signalVector a0 s) := by
  unfold signalVector
  split
  · with_reducible refine mk_sound ?_ rfl rfl rfl rfl rfl
    with_reducible assumption
  · with_reducible refine emit_sound ?_
    with_reducible assumption

theorem maxO_sound {s : State} {a1 : Nat} {a2 : Nat} {a3 : Nat} (hs : Sound s) :
    Sound (State.maxO s a1 a2 a3) := by
  unfold State.maxO
  with_reducible refine setO_sound ?_
  with_reducible assumption

theorem incO_sound {s : State} {a1 : Nat} {a2 : Nat} {a3 : Nat} (hs : Sound s) :
    Sound (State.incO s a1 a2 a3) := by
  unfold State.incO
  with_reducible refine setO_sound ?_
  with_reducible assumption

theorem collide_sound {a0 : Nat} {a1 : Nat} {a2 : Bool} {s : State} (hs : Sound s) :
    Sound (collide a0 a1 a2 s).2 := by
  unfold collide
  split
  · with_reducible assumption
  · extract_lets v0
    have q1 : Sound v0 := by
      subst v0
      with_reducible refine incO_sound ?_
      with_reducible assumption
    clear_value v0
    split
    · dsimp -zeta only
      with_reducible refine incO_sound ?_
      with_reducible assumption
    · split
      · dsimp -zeta only
        with_reducible refine incO_sound ?_
        with_reducible assumption
      · with_reducible assumption

theorem eventRingPut_sound {a0 : List Octet} {s : State} (hs : Sound s) :
    Sound (eventRingPut a0 s) := by
  unfold eventRingPut
  extract_lets v0 v1 v2 v3 v4 v5
  have q6 : Sound v1 := by
    subst v1
    with_reducible refine emit_sound ?_
    with_reducible assumption
  clear_value v1
  have q7 : Sound v3 := by
    subst v3
    with_reducible refine mk_sound ?_ rfl rfl rfl rfl rfl
    with_reducible assumption
  clear_value v3
  have q8 : Sound v4 := by
    subst v4
    with_reducible refine incO_sound ?_
    with_reducible assumption
  clear_value v4
  have q9 : Sound v5 := by
    subst v5
    split
    · with_reducible refine incO_sound ?_
      with_reducible assumption
    · with_reducible assumption
  clear_value v5
  with_reducible refine signalVector_sound ?_
  with_reducible assumption

theorem transmit_sound {a0 : Nat} {a1 : Nat} {s : State} (hs : Sound s) :
    Sound (transmit a0 a1 s).2 := by
  unfold transmit
  split
  · with_reducible assumption
  · split
    · dsimp -zeta only
      with_reducible refine incO_sound ?_
      with_reducible assumption
    · extract_lets v0 v1
      clear_value v0
      split
      · dsimp -zeta only
        refine sound_of_eq (by with_reducible assumption) ?_
        with_reducible refine collide_sound ?_
        with_reducible refine mk_sound ?_ rfl rfl rfl rfl rfl
        with_reducible assumption
      · dsimp -zeta only
        with_reducible refine incO_sound ?_
        refine sound_of_eq (by with_reducible assumption) ?_
        with_reducible refine collide_sound ?_
        with_reducible refine mk_sound ?_ rfl rfl rfl rfl rfl
        with_reducible assumption

theorem replyRingPut_sound {a0 : List Octet} {s : State} (hs : Sound s) :
    Sound (replyRingPut a0 s) := by
  unfold replyRingPut
  extract_lets v0 v1 v2 v3 v4 v5
  have q6 : Sound v1 := by
    subst v1
    with_reducible refine emit_sound ?_
    with_reducible assumption
  clear_value v1
  have q7 : Sound v3 := by
    subst v3
    with_reducible refine mk_sound ?_ rfl rfl rfl rfl rfl
    with_reducible assumption
  clear_value v3
  have q8 : Sound v4 := by
    subst v4
    with_reducible refine incO_sound ?_
    with_reducible assumption
  clear_value v4
  have q9 : Sound v5 := by
    subst v5
    split
    · with_reducible refine incO_sound ?_
      with_reducible assumption
    · with_reducible assumption
  clear_value v5
  with_reducible refine signalVector_sound ?_
  with_reducible assumption

theorem sendOn_sound {a0 : Nat} {a1 : Emission} {s : State} (hs : Sound s) :
    Sound (sendOn a0 a1 s) := by
  unfold sendOn
  split
  · with_reducible refine emit_sound ?_
    refine sound_of_eq (by with_reducible assumption) ?_
    with_reducible refine transmit_sound ?_
    with_reducible assumption
  · refine sound_of_eq (by with_reducible assumption) ?_
    with_reducible refine transmit_sound ?_
    with_reducible assumption

theorem carry_sound {a0 : Session} {a1 : Frame} {a2 : Bool} {s : State} (hs : Sound s) :
    Sound (carry a0 a1 a2 s) := by
  unfold carry
  extract_lets v0 v1 v2 v3
  have q4 : Sound v1 := by
    subst v1
    with_reducible refine emit_sound ?_
    with_reducible assumption
  clear_value v1
  clear_value v2
  clear_value v3
  split
  · split
    · with_reducible refine replyRingPut_sound ?_
      with_reducible assumption
    · with_reducible refine eventRingPut_sound ?_
      with_reducible assumption
  · split
    · split
      · refine sound_of_eq (by with_reducible assumption) ?_
        with_reducible refine transmit_sound ?_
        with_reducible assumption
      · with_reducible refine emit_sound ?_
        refine sound_of_eq (by with_reducible assumption) ?_
        with_reducible refine transmit_sound ?_
        with_reducible assumption
    · refine foldl_sound ?_ ?_
      · intro z5
        intro z6
        intro z7
        with_reducible refine sendOn_sound ?_
        with_reducible assumption
      · with_reducible assumption

theorem drainQueue_sound {a0 : Nat} {a1 : Nat} {s : State} (hs : Sound s) :
    Sound (drainQueue a0 a1 s) := by
  induction' a1 with n ih generalizing a0 s
  · unfold drainQueue
    with_reducible assumption
  · unfold drainQueue
    split
    · with_reducible assumption
    · split
      · with_reducible assumption
      · split
        · extract_lets v0 v1
          have q2 : Sound v1 := by
            subst v1
            with_reducible refine carry_sound ?_
            with_reducible assumption
          clear_value v1
          with_reducible apply ih
          with_reducible refine modSess_sound ?_
          with_reducible assumption
        · with_reducible assumption

theorem drainQueues_sound {s : State} (hs : Sound s) :
    Sound (drainQueues s) := by
  unfold drainQueues
  refine foldl_sound ?_ ?_
  · intro z0
    intro z1
    intro z2
    with_reducible refine drainQueue_sound ?_
    with_reducible assumption
  · with_reducible assumption

theorem raise_sound {a0 : Nat} {a1 : List Octet} {s : State} (hs : Sound s) :
    Sound (raise a0 a1 s) := by
  unfold raise
  extract_lets v0 v00 v1 v2
  have q1 : Sound v1 := by
    subst v1
    refine ⟨hs.objects, hs.dram, ?_, hs.writes, hs.deposits⟩
    exact List.length_take_le _ _
  clear_value v1
  have q2 : Sound v2 := by
    subst v2
    exact drainQueues_sound (emit_sound q1)
  clear_value v2
  split
  · exact signalVector_sound q2
  · assumption

end Sys2Proof.Machine
end

