-- ==== Sys2Proof/Laws/SoundDepth.lean ====
section
/-! SUPPORT. What Machine/Depth.lean does keeps a sound state sound. -/

namespace Sys2Proof.Machine

theorem testSettle_sound {a0 : Nat} {s : State} (hs : Sound s) :
    Sound (testSettle a0 s) := by
  unfold testSettle
  extract_lets v0 v1
  split
  · with_reducible refine setO_sound ?_
    with_reducible refine mk_sound ?_ rfl rfl rfl rfl rfl
    with_reducible assumption
  · with_reducible assumption

theorem loseCompute_sound {s : State} (hs : Sound s) :
    Sound (loseCompute s) := by
  unfold loseCompute
  split
  · extract_lets v0 v1 v2
    have q3 : Sound v0 := by
      subst v0
      with_reducible refine mapLanes_sound ?_
      with_reducible assumption
    clear_value v0
    with_reducible refine mk_sound ?_ rfl rfl rfl rfl rfl
    with_reducible assumption
  · with_reducible refine mk_sound ?_ rfl rfl rfl rfl rfl
    with_reducible assumption

theorem loseTier_sound {s : State} (hs : Sound s) :
    Sound (loseTier s) := by
  unfold loseTier
  split
  with_reducible refine mk_sound ?_ rfl rfl rfl rfl rfl
  with_reducible assumption

theorem endRamp_sound {s : State} (hs : Sound s) :
    Sound (endRamp s) := by
  unfold endRamp
  with_reducible refine setO_sound ?_
  with_reducible refine mk_sound ?_ rfl rfl rfl rfl rfl
  with_reducible assumption

theorem gateSink_sound {a0 : Nat} {s : State} (hs : Sound s) :
    Sound (gateSink a0 s) := by
  unfold gateSink
  with_reducible refine incO_sound ?_
  with_reducible assumption

theorem countLatency_sound {a0 : Nat} {a1 : Nat} {s : State} (hs : Sound s) :
    Sound (countLatency a0 a1 s) := by
  unfold countLatency
  split
  · extract_lets v0
    clear_value v0
    with_reducible refine incO_sound ?_
    with_reducible refine maxO_sound ?_
    with_reducible assumption
  · with_reducible assumption

theorem startTraining_sound {a0 : Nat} {s : State} (hs : Sound s) :
    Sound (startTraining a0 s) := by
  unfold startTraining
  split
  · with_reducible refine testSettle_sound ?_
    with_reducible refine modPort_sound ?_
    with_reducible assumption
  · with_reducible assumption

theorem portOff_sound {a0 : Nat} {s : State} (hs : Sound s) :
    Sound (portOff a0 s) := by
  unfold portOff
  with_reducible refine modPort_sound ?_
  with_reducible assumption

theorem freqState_sound {s : State} (hs : Sound s) :
    Sound (freqState s) := by
  unfold freqState
  extract_lets v0
  clear_value v0
  with_reducible refine setO_sound ?_
  with_reducible assumption

theorem countSent_sound {a0 : NocPacket} {s : State} (hs : Sound s) :
    Sound (countSent a0 s) := by
  unfold countSent
  split
  · with_reducible refine incO_sound ?_
    with_reducible refine incO_sound ?_
    with_reducible assumption
  · with_reducible assumption

theorem modNoc_sound {a0 : NocSt → NocSt} {s : State} (hs : Sound s) :
    Sound (modNoc a0 s) := by
  unfold modNoc
  with_reducible refine mk_sound ?_ rfl rfl rfl rfl rfl
  with_reducible assumption

theorem refusedEvent_sound {a0 : Nat} {s : State} (hs : Sound s) :
    Sound (refusedEvent a0 s) := by
  unfold refusedEvent
  extract_lets v0 v1
  clear_value v0
  split
  · with_reducible assumption
  · with_reducible refine raise_sound ?_
    with_reducible refine mk_sound ?_ rfl rfl rfl rfl rfl
    with_reducible assumption

theorem respond_sound {a0 : NocPacket} {a1 : Nat} {s : State} (hs : Sound s) :
    Sound (respond a0 a1 s) := by
  unfold respond
  extract_lets v0 v1
  clear_value v0
  have q2 : Sound v1 := by
    subst v1
    with_reducible refine emit_sound ?_
    with_reducible assumption
  clear_value v1
  split
  · with_reducible refine modNoc_sound ?_
    with_reducible assumption
  · with_reducible assumption

theorem setPll_sound {a0 : Nat} {a1 : Nat} {s : State} (hs : Sound s) :
    Sound (setPll a0 a1 s) := by
  unfold setPll
  extract_lets v0
  have q1 : Sound v0 := by
    subst v0
    with_reducible refine setO_sound ?_
    with_reducible assumption
  clear_value v0
  with_reducible refine setO_sound ?_
  with_reducible assumption

theorem gateRefuse_sound {a0 : Nat} {s : State} (hs : Sound s) :
    Sound (gateRefuse a0 s) := by
  unfold gateRefuse
  with_reducible refine refusedEvent_sound ?_
  with_reducible refine incO_sound ?_
  with_reducible assumption

theorem startRoots_sound {a0 : Nat} {s : State} (hs : Sound s) :
    Sound (startRoots a0 s) := by
  unfold startRoots
  split
  · with_reducible assumption
  · extract_lets v0 v1 v2 v3 v4
    clear_value v0
    clear_value v1
    have q5 : Sound v4 := by
      subst v4
      with_reducible refine mk_sound ?_ rfl rfl rfl rfl rfl
      with_reducible assumption
    clear_value v4
    with_reducible refine freqState_sound ?_
    with_reducible refine setO_sound ?_
    with_reducible refine setO_sound ?_
    with_reducible refine setO_sound ?_
    with_reducible assumption

theorem runPll_sound {a0 : Nat} {s : State} (hs : Sound s) :
    Sound (runPll a0 s) := by
  unfold runPll
  split
  · with_reducible assumption
  · with_reducible refine setPll_sound ?_
    with_reducible assumption

theorem takePacket_sound {a0 : NocPacket} {s : State} (hs : Sound s) :
    Sound (takePacket a0 s) := by
  unfold takePacket
  extract_lets v0 v1
  have q2 : Sound v0 := by
    subst v0
    split
    · with_reducible refine countLatency_sound ?_
      with_reducible assumption
    · with_reducible assumption
  clear_value v0
  have q3 : Sound v1 := by
    subst v1
    with_reducible refine incO_sound ?_
    with_reducible assumption
  clear_value v1
  split
  · split
    · with_reducible refine respond_sound ?_
      with_reducible assumption
    · with_reducible assumption
  · split
    · with_reducible refine respond_sound ?_
      with_reducible assumption
    · with_reducible assumption

theorem stopStepPlls_sound {s : State} (hs : Sound s) :
    Sound (stopStepPlls s) := by
  unfold stopStepPlls
  extract_lets v0 v1 v2 v3 v4
  clear_value v0
  clear_value v1
  have q5 : Sound v2 := by
    subst v2
    refine foldl_sound ?_ ?_
    · intro z6
      intro z7
      intro z8
      split
      · with_reducible assumption
      · with_reducible refine setPll_sound ?_
        with_reducible assumption
    · with_reducible refine endRamp_sound ?_
      with_reducible assumption
  clear_value v2
  have q9 : Sound v4 := by
    subst v4
    with_reducible refine mk_sound ?_ rfl rfl rfl rfl rfl
    with_reducible assumption
  clear_value v4
  split
  · with_reducible assumption
  · with_reducible refine freqState_sound ?_
    with_reducible refine setO_sound ?_
    with_reducible refine setO_sound ?_
    with_reducible assumption

theorem deliverHeld_sound {a0 : Nat} {s : State} (hs : Sound s) :
    Sound (deliverHeld a0 s) := by
  unfold deliverHeld
  extract_lets v0 v1 v2
  clear_value v0
  have q3 : Sound v2 := by
    subst v2
    with_reducible refine mk_sound ?_ rfl rfl rfl rfl rfl
    with_reducible assumption
  clear_value v2
  refine foldl_sound ?_ ?_
  · intro z4
    intro z5
    intro z6
    with_reducible refine takePacket_sound ?_
    with_reducible assumption
  · with_reducible assumption

theorem settleDomain_sound {a0 : Nat} {a1 : Nat} {a2 : Nat} {s : State} (hs : Sound s) :
    Sound (settleDomain a0 a1 a2 s) := by
  unfold settleDomain
  extract_lets v0 v1 v2 v3
  have q4 : Sound v0 := by
    subst v0
    split
    · with_reducible refine maxO_sound ?_
      with_reducible assumption
    · with_reducible assumption
  clear_value v0
  have q5 : Sound v1 := by
    subst v1
    with_reducible refine modNoc_sound ?_
    with_reducible assumption
  clear_value v1
  have q6 : Sound v3 := by
    subst v3
    with_reducible refine mk_sound ?_ rfl rfl rfl rfl rfl
    with_reducible assumption
  clear_value v3
  split
  · with_reducible refine deliverHeld_sound ?_
    with_reducible assumption
  · with_reducible assumption

theorem setDomain_sound {a0 : Nat} {a1 : Nat} {a2 : Nat} {s : State} (hs : Sound s) :
    Sound (setDomain a0 a1 a2 s) := by
  unfold setDomain
  split
  · extract_lets v0 v1
    have q2 : Sound v0 := by
      subst v0
      with_reducible refine modNoc_sound ?_
      with_reducible assumption
    clear_value v0
    with_reducible refine mk_sound ?_ rfl rfl rfl rfl rfl
    with_reducible assumption
  · with_reducible refine settleDomain_sound ?_
    with_reducible assumption

theorem restDomain_sound {a0 : Nat} {a1 : Nat} {a2 : Nat} {s : State} (hs : Sound s) :
    Sound (restDomain a0 a1 a2 s) := by
  unfold restDomain
  split
  · with_reducible assumption
  · with_reducible refine setDomain_sound ?_
    with_reducible assumption

theorem deepen_sound {a0 : Nat} {s : State} (hs : Sound s) :
    Sound (deepen a0 s) := by
  unfold deepen
  split
  · extract_lets v0 v1 v2
    have q3 : Sound v0 := by
      subst v0
      refine foldl_sound ?_ ?_
      · intro z4
        intro z5
        intro z6
        with_reducible refine portOff_sound ?_
        with_reducible assumption
      · with_reducible assumption
    clear_value v0
    have q7 : Sound v1 := by
      subst v1
      with_reducible refine restDomain_sound ?_
      with_reducible refine restDomain_sound ?_
      with_reducible assumption
    clear_value v1
    have q8 : Sound v2 := by
      subst v2
      with_reducible refine stopStepPlls_sound ?_
      with_reducible assumption
    clear_value v2
    split
    · with_reducible assumption
    · with_reducible refine setPll_sound ?_
      with_reducible assumption
  · with_reducible refine loseCompute_sound ?_
    refine foldl_sound ?_ ?_
    · intro z9
      intro z10
      intro z11
      with_reducible refine restDomain_sound ?_
      with_reducible refine restDomain_sound ?_
      with_reducible assumption
    · with_reducible assumption
  · with_reducible refine loseTier_sound ?_
    refine foldl_sound ?_ ?_
    · intro z12
      intro z13
      intro z14
      with_reducible refine restDomain_sound ?_
      with_reducible assumption
    · with_reducible assumption
  · extract_lets v15 v16
    have q17 : Sound v15 := by
      subst v15
      refine foldl_sound ?_ ?_
      · intro z18
        intro z19
        intro z20
        with_reducible refine restDomain_sound ?_
        with_reducible assumption
      · with_reducible assumption
    clear_value v15
    have q21 : Sound v16 := by
      subst v16
      split
      · with_reducible assumption
      · with_reducible refine setPll_sound ?_
        with_reducible assumption
    clear_value v16
    with_reducible refine setDomain_sound ?_
    with_reducible assumption
  · with_reducible assumption

theorem wakeDomain_sound {a0 : Nat} {s : State} (hs : Sound s) :
    Sound (wakeDomain a0 s) := by
  unfold wakeDomain
  with_reducible refine restDomain_sound ?_
  with_reducible assumption

theorem wakeDepth_sound {s : State} (hs : Sound s) :
    Sound (wakeDepth s) := by
  unfold wakeDepth
  split
  · with_reducible assumption
  · extract_lets v0 v1 v2 v3 v4 v5 v6 v7
    clear_value v0
    have q8 : Sound v2 := by
      subst v2
      with_reducible refine mk_sound ?_ rfl rfl rfl rfl rfl
      with_reducible assumption
    clear_value v2
    have q9 : Sound v3 := by
      subst v3
      refine foldl_sound ?_ ?_
      · intro z10
        intro z11
        intro z12
        with_reducible refine wakeDomain_sound ?_
        with_reducible assumption
      · with_reducible refine setDomain_sound ?_
        with_reducible assumption
    clear_value v3
    have q13 : Sound v4 := by
      subst v4
      split
      · with_reducible refine runPll_sound ?_
        with_reducible assumption
      · with_reducible assumption
    clear_value v4
    have q14 : Sound v5 := by
      subst v5
      refine foldl_sound ?_ ?_
      · intro z15
        intro z16
        intro z17
        with_reducible refine runPll_sound ?_
        with_reducible assumption
      · with_reducible refine restDomain_sound ?_
        with_reducible refine restDomain_sound ?_
        with_reducible assumption
    clear_value v5
    have q18 : Sound v6 := by
      subst v6
      split
      · refine foldl_sound ?_ ?_
        · intro z19
          intro z20
          intro z21
          with_reducible refine restDomain_sound ?_
          with_reducible refine restDomain_sound ?_
          with_reducible assumption
        · with_reducible assumption
      · with_reducible assumption
    clear_value v6
    have q22 : Sound v7 := by
      subst v7
      with_reducible refine startRoots_sound ?_
      with_reducible assumption
    clear_value v7
    refine foldl_sound ?_ ?_
    · intro z23
      intro z24
      intro z25
      with_reducible refine startTraining_sound ?_
      with_reducible assumption
    · with_reducible assumption

theorem takeDepth_sound {a0 : Nat} {s : State} (hs : Sound s) :
    Sound (takeDepth a0 s) := by
  unfold takeDepth
  split
  · with_reducible assumption
  · extract_lets v0 v1 v2
    have q3 : Sound v0 := by
      subst v0
      split
      · with_reducible refine wakeDepth_sound ?_
        with_reducible assumption
      · with_reducible assumption
    clear_value v0
    have q4 : Sound v1 := by
      subst v1
      refine foldl_sound ?_ ?_
      · intro z5
        intro z6
        intro z7
        with_reducible refine deepen_sound ?_
        with_reducible assumption
      · with_reducible assumption
    clear_value v1
    with_reducible refine mk_sound ?_ rfl rfl rfl rfl rfl
    with_reducible assumption

theorem chooseDepth_sound {s : State} (hs : Sound s) :
    Sound (chooseDepth s) := by
  unfold chooseDepth
  split
  · with_reducible refine takeDepth_sound ?_
    with_reducible assumption
  · with_reducible assumption

theorem gateServe_sound {a0 : Nat} {a1 : NocPacket} {s : State} (hs : Sound s) :
    Sound (gateServe a0 a1 s) := by
  unfold gateServe
  extract_lets v0 v1 v2
  clear_value v0
  split
  · with_reducible refine takePacket_sound ?_
    with_reducible assumption
  · split
    · with_reducible refine respond_sound ?_
      with_reducible assumption
    · with_reducible refine takePacket_sound ?_
      with_reducible assumption
  · with_reducible refine chooseDepth_sound ?_
    with_reducible refine wakeDepth_sound ?_
    with_reducible refine mk_sound ?_ rfl rfl rfl rfl rfl
    with_reducible assumption
  · with_reducible refine chooseDepth_sound ?_
    with_reducible refine wakeDepth_sound ?_
    with_reducible refine mk_sound ?_ rfl rfl rfl rfl rfl
    with_reducible assumption
  · split
    · with_reducible refine respond_sound ?_
      with_reducible refine gateRefuse_sound ?_
      with_reducible assumption
    · with_reducible refine gateSink_sound ?_
      with_reducible assumption

theorem gatePacket_sound {a0 : NocPacket} {s : State} (hs : Sound s) :
    Sound (gatePacket a0 s) := by
  unfold gatePacket
  with_reducible refine gateServe_sound ?_
  with_reducible assumption

end Sys2Proof.Machine
end

