-- ==== Sys2Proof/Laws/SoundNoc.lean ====
section
/-! SUPPORT. What Machine/Noc.lean does keeps a sound state sound. -/

namespace Sys2Proof.Machine

theorem newTable_sound {a0 : Nat} {s : State} (hs : Sound s) :
    Sound (newTable a0 s) := by
  unfold newTable
  with_reducible refine modNoc_sound ?_
  with_reducible assumption

theorem switchTables_sound {s : State} (hs : Sound s) :
    Sound (switchTables s) := by
  unfold switchTables
  refine foldl_sound ?_ ?_
  · intro z0
    intro z1
    intro z2
    extract_lets v3 v4 v5
    clear_value v4
    have q6 : Sound v5 := by
      subst v5
      with_reducible refine maxO_sound ?_
      with_reducible refine incO_sound ?_
      with_reducible assumption
    clear_value v5
    with_reducible refine modNoc_sound ?_
    with_reducible assumption
  · with_reducible assumption

theorem arrivePacket_sound {a0 : Nat} {a1 : NocPacket} {s : State} (hs : Sound s) :
    Sound (arrivePacket a0 a1 s) := by
  unfold arrivePacket
  extract_lets v0 v1 v2 v3
  clear_value v0
  have q4 : Sound v2 := by
    subst v2
    split
    · with_reducible refine countLatency_sound ?_
      with_reducible assumption
    · with_reducible assumption
  clear_value v2
  have q5 : Sound v3 := by
    subst v3
    split
    · with_reducible refine modNoc_sound ?_
      with_reducible assumption
    · with_reducible assumption
  clear_value v3
  with_reducible refine gateServe_sound ?_
  with_reducible assumption

theorem ejectFlit_sound {a0 : Flit} {s : State} (hs : Sound s) :
    Sound (ejectFlit a0 s) := by
  unfold ejectFlit
  split
  · with_reducible assumption
  · extract_lets v0 v1
    have q2 : Sound v0 := by
      subst v0
      split
      · with_reducible refine modNoc_sound ?_
        with_reducible assumption
      · with_reducible assumption
    clear_value v0
    clear_value v1
    split
    · with_reducible refine arrivePacket_sound ?_
      with_reducible refine modNoc_sound ?_
      with_reducible assumption
    · with_reducible assumption

theorem arbitrate_sound {a0 : Nat} {a1 : Nat} {a2 : Nat} {s : State} (hs : Sound s) :
    Sound (arbitrate a0 a1 a2 s) := by
  unfold arbitrate
  extract_lets v0 v1 v2 v3
  clear_value v1
  split
  · with_reducible assumption
  · split
    · with_reducible assumption
    · extract_lets v4 v5
      have q6 : Sound v4 := by
        subst v4
        with_reducible refine maxO_sound ?_
        with_reducible assumption
      clear_value v4
      clear_value v5
      with_reducible refine modNoc_sound ?_
      with_reducible assumption

theorem finishClosing_sound {s : State} (hs : Sound s) :
    Sound (finishClosing s) := by
  unfold finishClosing
  refine foldl_sound ?_ ?_
  · intro z0
    intro z1
    intro z2
    split
    · with_reducible assumption
    · with_reducible refine settleDomain_sound ?_
      with_reducible assumption
  · with_reducible assumption

theorem sendFlit_sound {a0 : Nat} {a1 : Nat} {s : State} (hs : Sound s) :
    Sound (sendFlit a0 a1 s) := by
  unfold sendFlit
  extract_lets v0 v1
  clear_value v0
  split
  · with_reducible assumption
  · split
    · with_reducible assumption
    · extract_lets v2
      have q3 : Sound v2 := by
        subst v2
        with_reducible refine modNoc_sound ?_
        with_reducible assumption
      clear_value v2
      split
      · with_reducible refine ejectFlit_sound ?_
        with_reducible assumption
      · with_reducible assumption

theorem routerClock_sound {a0 : Nat} {s : State} (hs : Sound s) :
    Sound (routerClock a0 s) := by
  unfold routerClock
  extract_lets v0
  have q1 : Sound v0 := by
    subst v0
    refine foldl_sound ?_ ?_
    · intro z2
      intro z3
      intro z4
      refine foldl_sound ?_ ?_
      · intro z5
        intro z6
        intro z7
        with_reducible refine arbitrate_sound ?_
        with_reducible assumption
      · with_reducible assumption
    · with_reducible assumption
  clear_value v0
  refine foldl_sound ?_ ?_
  · intro z8
    intro z9
    intro z10
    with_reducible refine sendFlit_sound ?_
    with_reducible assumption
  · with_reducible assumption

theorem nocClock_sound {s : State} (hs : Sound s) :
    Sound (nocClock s) := by
  unfold nocClock
  extract_lets v0 v1 v2
  have q3 : Sound v0 := by
    subst v0
    with_reducible refine modNoc_sound ?_
    with_reducible assumption
  clear_value v0
  have q4 : Sound v1 := by
    subst v1
    refine foldl_sound ?_ ?_
    · intro z5
      intro z6
      intro z7
      with_reducible refine routerClock_sound ?_
      with_reducible assumption
    · with_reducible assumption
  clear_value v1
  with_reducible refine finishClosing_sound ?_
  with_reducible refine switchTables_sound ?_
  with_reducible refine modNoc_sound ?_
  with_reducible assumption

theorem nocTick_sound {s : State} (hs : Sound s) :
    Sound (nocTick s) := by
  unfold nocTick
  split
  · with_reducible assumption
  · split
    · with_reducible refine nocClock_sound ?_
      with_reducible refine nocClock_sound ?_
      with_reducible assumption
    · with_reducible refine modNoc_sound ?_
      with_reducible assumption

theorem drainGate_sound {a0 : Nat} {a1 : Nat} {s : State} (hs : Sound s) :
    Sound (drainGate a0 a1 s) := by
  induction' a1 with n ih generalizing a0 s
  · unfold drainGate
    with_reducible assumption
  · unfold drainGate
    split
    · with_reducible apply ih
      with_reducible refine nocClock_sound ?_
      with_reducible assumption
    · with_reducible assumption

theorem crossNetwork_sound {a0 : Nat} {a1 : Nat} {s : State} (hs : Sound s) :
    Sound (crossNetwork a0 a1 s) := by
  induction' a1 with n ih generalizing a0 s
  · unfold crossNetwork
    with_reducible assumption
  · unfold crossNetwork
    split
    · with_reducible apply ih
      with_reducible refine nocClock_sound ?_
      with_reducible assumption
    · with_reducible assumption

theorem receivePacket_sound {a0 : NocPacket} {s : State} (hs : Sound s) :
    Sound (receivePacket a0 s) := by
  unfold receivePacket
  split
  · with_reducible refine gatePacket_sound ?_
    with_reducible assumption
  · split
    · with_reducible assumption
    · extract_lets v0 v1
      have q2 : Sound v0 := by
        subst v0
        with_reducible refine countSent_sound ?_
        with_reducible assumption
      clear_value v0
      have q3 : Sound v1 := by
        subst v1
        split
        · with_reducible refine modNoc_sound ?_
          with_reducible assumption
        · with_reducible assumption
      clear_value v1
      with_reducible refine crossNetwork_sound ?_
      with_reducible refine modNoc_sound ?_
      with_reducible assumption

end Sys2Proof.Machine
end

