-- ==== Sys2Proof/Laws/SoundServe.lean ====
section
/-! SUPPORT. What Machine/Serve.lean does keeps a sound state sound. -/

namespace Sys2Proof.Machine

theorem refuse_sound {a0 : Status} {s : State} (hs : Sound s) :
    Sound (refuse a0 s).2 := by
  unfold refuse
  with_reducible assumption

theorem onUnit_sound {a0 : Nat} {a1 : Nat} {s : State} (hs : Sound s) :
    OutSound (onUnit a0 a1 s) := by
  unfold onUnit
  split
  · refine next_sound ?_
    with_reducible assumption
  · exact fault_sound _

theorem setStart_sound {a0 : Nat} {a1 : Nat} {a2 : Nat} {a3 : Nat} {s : State} (hs : Sound s) :
    Sound (setStart a0 a1 a2 a3 s) := by
  unfold setStart
  split
  · with_reducible refine setSel_sound ?_
    with_reducible assumption
  · with_reducible refine setO_sound ?_
    with_reducible assumption

theorem answer_sound {a0 : Req} {a1 : Nat} {a2 : Nat} {a3 : Nat} {a4 : List Answer} {s : State} (hs : Sound s) :
    Sound (answer a0 a1 a2 a3 a4 s) := by
  unfold answer
  split
  · with_reducible assumption
  · extract_lets v0 v1
    clear_value v0
    have q2 : Sound v1 := by
      subst v1
      refine foldl_sound ?_ ?_
      · intro z3
        intro z4
        intro z5
        with_reducible refine carry_sound ?_
        with_reducible assumption
      · with_reducible assumption
    clear_value v1
    with_reducible refine modSess_sound ?_
    with_reducible assumption

theorem serveAwake_sound {a0 : Req} {a1 : Nat} {a2 : Nat} {a3 : Nat} {a4 : Session → State → List Answer × State} {s : State} (ha4 : ∀ x0 x1, Sound x1 → Sound (a4 x0 x1).2) (hs : Sound s) :
    Sound (serveAwake a0 a1 a2 a3 a4 s) := by
  unfold serveAwake
  split
  · with_reducible refine incO_sound ?_
    with_reducible assumption
  · split
    · extract_lets v0
      have q1 : Sound v0 := by
        subst v0
        with_reducible refine modSess_sound ?_
        with_reducible assumption
      clear_value v0
      split
      · with_reducible refine answer_sound ?_
        with_reducible assumption
      · split
        · with_reducible refine modSess_sound ?_
          refine sound_of_eq (by with_reducible assumption) ?_
          with_reducible apply ha4
          with_reducible assumption
        · with_reducible refine answer_sound ?_
          refine sound_of_eq (by with_reducible assumption) ?_
          with_reducible apply ha4
          with_reducible assumption
    · split
      · refine foldl_sound ?_ ?_
        · intro z2
          intro z3
          intro z4
          with_reducible refine carry_sound ?_
          with_reducible assumption
        · with_reducible assumption
      · with_reducible refine incO_sound ?_
        with_reducible assumption

theorem serve_sound {a0 : Req} {a1 : Nat} {a2 : Nat} {a3 : Nat} {a4 : Session → State → List Answer × State} {s : State} (ha4 : ∀ x0 x1, Sound x1 → Sound (a4 x0 x1).2) (hs : Sound s) :
    Sound (serve a0 a1 a2 a3 a4 s) := by
  unfold serve
  split
  · with_reducible assumption
  · with_reducible refine chooseDepth_sound ?_
    with_reducible refine serveAwake_sound ?_ ?_
    · intro z0
      intro z1
      intro z2
      with_reducible apply ha4
      with_reducible assumption
    · with_reducible refine wakeDepth_sound ?_
      with_reducible assumption

theorem answerParts_sound {a0 : Nat} {a1 : Nat} {a2 : List Answer} {s : State} (hs : Sound s) :
    Sound (answerParts a0 a1 a2 s) := by
  unfold answerParts
  split
  · with_reducible assumption
  · split
    · with_reducible assumption
    · extract_lets v0
      have q1 : Sound v0 := by
        subst v0
        with_reducible refine modSess_sound ?_
        with_reducible assumption
      clear_value v0
      with_reducible refine answer_sound ?_
      with_reducible assumption

theorem answerWaiting_sound {a0 : Nat} {a1 : Nat} {a2 : Status} {s : State} (hs : Sound s) :
    Sound (answerWaiting a0 a1 a2 s) := by
  unfold answerWaiting
  with_reducible refine answerParts_sound ?_
  with_reducible assumption

theorem onObject_sound {a0 : Req} {a1 : Nat} {a2 : Nat} {a3 : Nat} {a4 : Nat} {a5 : State → State} {s : State} (ha5 : ∀ x0, Sound x0 → Sound (a5 x0)) (hs : Sound s) :
    OutSound (onObject a0 a1 a2 a3 a4 a5 s) := by
  unfold onObject
  refine next_sound ?_
  split
  · with_reducible apply ha5
    with_reducible assumption
  · with_reducible refine serve_sound ?_ ?_
    · intro z0
      intro z1
      intro z2
      with_reducible assumption
    · with_reducible assumption

theorem answerAllWaiting_sound {a0 : Nat} {a1 : Nat} {a2 : Status} {s : State} (hs : Sound s) :
    Sound (answerAllWaiting a0 a1 a2 s) := by
  unfold answerAllWaiting
  refine foldl_sound ?_ ?_
  · intro z0
    intro z1
    intro z2
    refine foldl_sound ?_ ?_
    · intro z3
      intro z4
      intro z5
      with_reducible refine answerWaiting_sound ?_
      with_reducible assumption
    · with_reducible assumption
  · with_reducible assumption

theorem serveRun_sound {a0 : Req} {a1 : Nat} {a2 : Nat} {a3 : WVal} {a4 : LengthFn} {a5 : WriteFn} {s : State} (ha5 : ∀ x0 x1, Sound x1 → Sound (a5 x0 x1).2) (hs : Sound s) :
    Sound (serveRun a0 a1 a2 a3 a4 a5 s) := by
  unfold serveRun
  with_reducible refine serve_sound ?_ ?_
  · intro z0
    intro z1
    intro z2
    split
    · with_reducible assumption
    · split
      dsimp -zeta only
      refine sound_of_eq (by with_reducible assumption) ?_
      with_reducible apply ha5
      with_reducible assumption
  · with_reducible assumption

theorem serveBlock_sound {a0 : Req} {a1 : Nat} {a2 : Nat} {a3 : Nat} {a4 : List Octet} {a5 : List Octet → LengthFn} {a6 : List Octet → WriteFn} {s : State} (ha6 : ∀ x0 x1 x2, Sound x2 → Sound (a6 x0 x1 x2).2) (hs : Sound s) :
    Sound (serveBlock a0 a1 a2 a3 a4 a5 a6 s) := by
  unfold serveBlock
  with_reducible refine serve_sound ?_ ?_
  · intro z0
    intro z1
    intro z2
    split
    · with_reducible assumption
    · split
      · with_reducible assumption
      · extract_lets v3
        have q4 : Sound v3 := by
          subst v3
          with_reducible refine setStart_sound ?_
          with_reducible assumption
        clear_value v3
        split
        · with_reducible assumption
        · split
          split
          · dsimp -zeta only
            with_reducible refine setStart_sound ?_
            refine sound_of_eq (by with_reducible assumption) ?_
            with_reducible apply ha6
            with_reducible assumption
          · with_reducible assumption
  · with_reducible assumption

theorem serveWrite_sound {a0 : Req} {a1 : Nat} {a2 : Nat} {a3 : WVal} {a4 : WriteFn} {s : State} (ha4 : ∀ x0 x1, Sound x1 → Sound (a4 x0 x1).2) (hs : Sound s) :
    Sound (serveWrite a0 a1 a2 a3 a4 s) := by
  unfold serveWrite
  with_reducible refine serveRun_sound ?_ ?_
  · intro z0
    intro z1
    intro z2
    with_reducible apply ha4
    with_reducible assumption
  · with_reducible assumption

theorem serveForm_sound {a0 : Req} {a1 : Nat} {a2 : Nat} {a3 : Nat} {a4 : WForm} {a5 : List Octet → LengthFn} {a6 : List Octet → WriteFn} {a7 : List Octet → WriteFn} {s : State} (ha6 : ∀ x0 x1 x2, Sound x2 → Sound (a6 x0 x1 x2).2) (ha7 : ∀ x0 x1 x2, Sound x2 → Sound (a7 x0 x1 x2).2) (hs : Sound s) :
    Sound (serveForm a0 a1 a2 a3 a4 a5 a6 a7 s) := by
  unfold serveForm
  split
  · with_reducible refine serveRun_sound ?_ ?_
    · intro z0
      intro z1
      intro z2
      with_reducible apply ha6
      with_reducible assumption
    · with_reducible assumption
  · with_reducible refine serveRun_sound ?_ ?_
    · intro z3
      intro z4
      intro z5
      with_reducible apply ha7
      with_reducible assumption
    · with_reducible assumption
  · with_reducible refine serveBlock_sound ?_ ?_
    · intro z6
      intro z7
      intro z8
      intro z9
      with_reducible apply ha7
      with_reducible assumption
    · with_reducible assumption

theorem serveWriteLater_sound {a0 : Req} {a1 : Nat} {a2 : Nat} {a3 : WVal} {a4 : Nat → State → Option Status × State} {s : State} (ha4 : ∀ x0 x1, Sound x1 → Sound (a4 x0 x1).2) (hs : Sound s) :
    Sound (serveWriteLater a0 a1 a2 a3 a4 s) := by
  unfold serveWriteLater
  with_reducible refine serve_sound ?_ ?_
  · intro z0
    intro z1
    intro z2
    split
    · with_reducible assumption
    · split
      · dsimp -zeta only
        refine sound_of_eq (by with_reducible assumption) ?_
        with_reducible apply ha4
        with_reducible assumption
      · dsimp -zeta only
        refine sound_of_eq (by with_reducible assumption) ?_
        with_reducible apply ha4
        with_reducible assumption
  · with_reducible assumption

end Sys2Proof.Machine
end

