-- ==== Sys2Proof/Laws/SoundStore.lean ====
section
/-! SUPPORT. What Machine/Store.lean does keeps a sound state sound. -/

namespace Sys2Proof.Machine

theorem setLane_sound {s : State} {a1 : Nat} {a2 : LaneRec} (hs : Sound s) :
    Sound (State.setLane s a1 a2) := by
  unfold State.setLane
  with_reducible refine mk_sound ?_ rfl rfl rfl rfl rfl
  with_reducible assumption

theorem withdrawIf_sound {a0 : Ckpt → Bool} {a1 : Nat} {s : State} (hs : Sound s) :
    Sound (withdrawIf a0 a1 s) := by
  unfold withdrawIf
  with_reducible refine mk_sound ?_ rfl rfl rfl rfl rfl
  with_reducible assumption

theorem clearSweep_sound {s : State} (hs : Sound s) :
    Sound (clearSweep s) := by
  unfold clearSweep
  extract_lets v0 v1 v2 v3 v4
  have q5 : Sound v0 := by
    subst v0
    with_reducible refine mapLanes_sound ?_
    with_reducible assumption
  clear_value v0
  with_reducible refine mk_sound ?_ rfl rfl rfl rfl rfl
  with_reducible assumption

theorem uncopyAll_sound {s : State} (hs : Sound s) :
    Sound (uncopyAll s) := by
  unfold uncopyAll
  with_reducible refine mk_sound ?_ rfl rfl rfl rfl rfl
  with_reducible assumption

theorem dramZero_sound {a0 : List Nat} {s : State} (hs : Sound s) : Sound (dramZero a0 s) :=
  ⟨hs.objects, dramZero_wf a0 s hs.dram, hs.log, hs.writes, hs.deposits⟩

theorem setBank_sound {s : State} {a1 : Nat} {a2 : Word64} (hs : Sound s) :
    Sound (State.setBank s a1 a2) := by
  unfold State.setBank
  with_reducible refine mk_sound ?_ rfl rfl rfl rfl rfl
  with_reducible assumption

theorem drainStores_sound {a0 : Nat} {a1 : Nat} {s : State} (hs : Sound s) :
    Sound (drainStores a0 a1 s) := by
  unfold drainStores
  with_reducible refine mk_sound ?_ rfl rfl rfl rfl rfl
  with_reducible assumption

theorem setExs_sound {s : State} {a1 : Nat} {a2 : Nat} {a3 : Nat} {a4 : BitVec 3072} (hs : Sound s) :
    Sound (State.setExs s a1 a2 a3 a4) := by
  unfold State.setExs
  with_reducible refine mk_sound ?_ rfl rfl rfl rfl rfl
  with_reducible assumption

theorem setDict_sound {s : State} {a1 : Nat} {a2 : Nat} {a3 : Nat} {a4 : Word64} (hs : Sound s) :
    Sound (State.setDict s a1 a2 a3 a4) := by
  unfold State.setDict
  split
  · with_reducible assumption
  · with_reducible refine mk_sound ?_ rfl rfl rfl rfl rfl
    with_reducible assumption

theorem countDictReads_sound {a0 : Nat} {a1 : Nat} {s : State} (hs : Sound s) :
    Sound (countDictReads a0 a1 s) := by
  unfold countDictReads
  with_reducible refine incO_sound ?_
  with_reducible assumption

theorem setIm_sound {s : State} {a1 : Nat} {a2 : Nat} {a3 : BitVec 128} (hs : Sound s) :
    Sound (State.setIm s a1 a2 a3) := by
  unfold State.setIm
  with_reducible refine mk_sound ?_ rfl rfl rfl rfl rfl
  with_reducible assumption

theorem modLast_sound {a0 : Ckpt → Bool} {a1 : Ckpt → Ckpt} {s : State} (hs : Sound s) :
    Sound (modLast a0 a1 s) := by
  unfold modLast
  with_reducible refine mk_sound ?_ rfl rfl rfl rfl rfl
  with_reducible assumption

theorem dramSet_sound {s : State} {a1 : Nat} {a2 : Octet} (hs : Sound s) : Sound (s.dramSet a1 a2) :=
  ⟨hs.objects, dramSet_wf s a1 a2 hs.dram, hs.log, hs.writes, hs.deposits⟩

theorem countExsReads_sound {a0 : Nat} {a1 : Nat} {s : State} (hs : Sound s) :
    Sound (countExsReads a0 a1 s) := by
  unfold countExsReads
  extract_lets v0
  clear_value v0
  with_reducible refine incO_sound ?_
  with_reducible assumption

theorem applyWrite_sound {s : State} {a1 : LbsWrite} (hs : Sound s) :
    Sound (applyWrite s a1) := by
  unfold applyWrite
  extract_lets v0
  with_reducible refine setLane_sound ?_
  with_reducible assumption

theorem modNewest_sound {a0 : Ckpt → Ckpt} {s : State} (hs : Sound s) :
    Sound (modNewest a0 s) := by
  unfold modNewest
  with_reducible refine modLast_sound ?_
  with_reducible assumption

theorem modPre_sound {a0 : Ckpt → Ckpt} {s : State} (hs : Sound s) :
    Sound (modPre a0 s) := by
  unfold modPre
  with_reducible refine modLast_sound ?_
  with_reducible assumption

theorem loadPlanes_sound {a0 : Sparse (BitVec 384)} {a1 : Nat → Bool} {s : State} (hs : Sound s) :
    Sound (loadPlanes a0 a1 s) := by
  unfold loadPlanes
  extract_lets v0 v1 v2
  have q3 : Sound v0 := by
    subst v0
    with_reducible refine mapLanes_sound ?_
    with_reducible assumption
  clear_value v0
  refine foldl_sound ?_ ?_
  · intro z4
    intro z5
    intro z6
    split
    · extract_lets v7 v8
      clear_value v7
      with_reducible refine setLane_sound ?_
      with_reducible assumption
    · with_reducible assumption
  · with_reducible assumption

theorem regionWrite_sound {a0 : Nat} {a1 : Nat} {a2 : List Octet} {s : State} (hs : Sound s) :
    Sound (regionWrite a0 a1 a2 s) := by
  unfold regionWrite
  extract_lets v0
  clear_value v0
  refine foldl_sound ?_ ?_
  · intro z1
    intro z2
    intro z3
    with_reducible refine dramSet_sound ?_
    with_reducible assumption
  · with_reducible assumption

theorem markRestart_sound {a0 : Nat} {a1 : Nat} {s : State} (hs : Sound s) :
    Sound (markRestart a0 a1 s) := by
  unfold markRestart
  extract_lets v0 v1
  have q2 : Sound v0 := by
    subst v0
    with_reducible refine modPre_sound ?_
    with_reducible assumption
  clear_value v0
  split
  · with_reducible assumption
  · with_reducible refine mk_sound ?_ rfl rfl rfl rfl rfl
    with_reducible assumption

theorem setFar_sound {s : State} {a1 : Nat} {a2 : Word64} (hs : Sound s) :
    Sound (State.setFar s a1 a2) := by
  unfold State.setFar
  extract_lets v0 v1
  have q2 : Sound v0 := by
    subst v0
    with_reducible refine regionWrite_sound ?_
    with_reducible assumption
  clear_value v0
  with_reducible refine mk_sound ?_ rfl rfl rfl rfl rfl
  with_reducible assumption

theorem freeRing_sound {a0 : Nat} {a1 : Nat} {s : State} (hs : Sound s) :
    Sound (freeRing a0 a1 s) := by
  induction' a1 with n ih generalizing a0 s
  · unfold freeRing
    with_reducible assumption
  · unfold freeRing
    split
    · with_reducible assumption
    · split
      · with_reducible apply ih
        with_reducible refine withdrawIf_sound ?_
        with_reducible assumption
      · with_reducible assumption

theorem preImage_sound {a0 : Bool} {a1 : Nat} {a2 : Option Nat} {a3 : Bool} {s : State} (hs : Sound s) :
    Sound (preImage a0 a1 a2 a3 s) := by
  unfold preImage
  split
  · with_reducible assumption
  · split
    · with_reducible assumption
    · split
      · with_reducible assumption
      · split
        · split
          · with_reducible refine mk_sound ?_ rfl rfl rfl rfl rfl
            with_reducible assumption
          · extract_lets v0 v1 v2 v3 v4 v5 v6
            clear_value v0
            clear_value v1
            clear_value v2
            have q7 : Sound v3 := by
              subst v3
              split
              · with_reducible refine freeRing_sound ?_
                with_reducible assumption
              · with_reducible assumption
            clear_value v3
            have q8 : Sound v4 := by
              subst v4
              with_reducible refine modPre_sound ?_
              with_reducible assumption
            clear_value v4
            have q9 : Sound v6 := by
              subst v6
              with_reducible refine mk_sound ?_ rfl rfl rfl rfl rfl
              with_reducible assumption
            clear_value v6
            split
            · with_reducible refine markRestart_sound ?_
              with_reducible assumption
            · split
              · with_reducible refine markRestart_sound ?_
                with_reducible assumption
              · with_reducible refine incO_sound ?_
                with_reducible assumption
        · split
          · with_reducible refine mk_sound ?_ rfl rfl rfl rfl rfl
            with_reducible assumption
          · extract_lets v10 v11 v12 v13 v14 v15 v16
            clear_value v10
            clear_value v11
            clear_value v12
            have q17 : Sound v13 := by
              subst v13
              split
              · with_reducible refine freeRing_sound ?_
                with_reducible assumption
              · with_reducible assumption
            clear_value v13
            have q18 : Sound v14 := by
              subst v14
              with_reducible refine modPre_sound ?_
              with_reducible assumption
            clear_value v14
            have q19 : Sound v16 := by
              subst v16
              with_reducible refine mk_sound ?_ rfl rfl rfl rfl rfl
              with_reducible assumption
            clear_value v16
            split
            · with_reducible refine markRestart_sound ?_
              with_reducible assumption
            · split
              · with_reducible refine markRestart_sound ?_
                with_reducible assumption
              · with_reducible refine incO_sound ?_
                with_reducible assumption

end Sys2Proof.Machine
end

