-- ==== Sys2Proof/Laws/SoundTrace.lean ====
section
/-! SUPPORT. What Machine/Trace.lean does keeps a sound state sound. -/

namespace Sys2Proof.Machine

theorem parallelWord_sound {a0 : Nat} {s : State} (hs : Sound s) :
    Sound (parallelWord a0 s) := by
  unfold parallelWord
  split
  · with_reducible assumption
  · with_reducible refine emit_sound ?_
    with_reducible assumption

theorem setLifted_sound {a0 : Option Nat} {s : State} (hs : Sound s) :
    Sound (setLifted a0 s) := by
  unfold setLifted
  split
  · with_reducible assumption
  · extract_lets v0 v1 v2
    have q3 : Sound v1 := by
      subst v1
      with_reducible refine mk_sound ?_ rfl rfl rfl rfl rfl
      with_reducible assumption
    clear_value v1
    split
    · with_reducible assumption
    · with_reducible refine raise_sound ?_
      with_reducible refine mk_sound ?_ rfl rfl rfl rfl rfl
      with_reducible assumption

theorem execSeqUnsuppress_sound {a0 : Req} {a1 : WVal} {s : State} (hs : Sound s) :
    OutSound (execSeqUnsuppress a0 a1 s) := by
  unfold execSeqUnsuppress
  refine next_sound ?_
  with_reducible refine serveWrite_sound ?_ ?_
  · intro z0
    intro z1
    intro z2
    extract_lets v3 v4
    clear_value v3
    clear_value v4
    split
    · with_reducible assumption
    · dsimp -zeta only
      with_reducible refine setLifted_sound ?_
      with_reducible refine setO_sound ?_
      with_reducible assumption
  · with_reducible assumption

theorem sinkWord_sound {a0 : Nat} {s : State} (hs : Sound s) :
    Sound (sinkWord a0 s) := by
  unfold sinkWord
  extract_lets v0 v1 v2 v3 v4 v5 v6
  clear_value v0
  have q7 : Sound v2 := by
    subst v2
    with_reducible refine mk_sound ?_ rfl rfl rfl rfl rfl
    with_reducible assumption
  clear_value v2
  clear_value v3
  clear_value v4
  have q8 : Sound v5 := by
    subst v5
    with_reducible refine regionWrite_sound ?_
    with_reducible assumption
  clear_value v5
  have q9 : Sound v6 := by
    subst v6
    with_reducible refine setO_sound ?_
    with_reducible assumption
  clear_value v6
  split
  · with_reducible refine emit_sound ?_
    with_reducible assumption
  · with_reducible refine parallelWord_sound ?_
    split
    · with_reducible refine parallelWord_sound ?_
      with_reducible assumption
    · with_reducible assumption
  · split
    · with_reducible assumption
    · split
      · with_reducible refine setO_sound ?_
        with_reducible assumption
      · with_reducible assumption
  · with_reducible assumption

theorem traceFlush_sound {s : State} (hs : Sound s) :
    Sound (traceFlush s) := by
  unfold traceFlush
  extract_lets v0 v1
  clear_value v0
  with_reducible refine incO_sound ?_
  refine foldl_sound ?_ ?_
  · intro z2
    intro z3
    intro z4
    with_reducible refine sinkWord_sound ?_
    with_reducible assumption
  · with_reducible refine mk_sound ?_ rfl rfl rfl rfl rfl
    with_reducible assumption

theorem traceDrain_sound {a0 : Bool} {s : State} (hs : Sound s) :
    Sound (traceDrain a0 s) := by
  unfold traceDrain
  split
  · with_reducible refine traceFlush_sound ?_
    with_reducible assumption
  · with_reducible assumption

theorem traceSettle_sound {s : State} (hs : Sound s) :
    Sound (traceSettle s) := by
  unfold traceSettle
  split
  · with_reducible refine traceFlush_sound ?_
    with_reducible assumption
  · with_reducible assumption

theorem tracePush_sound {a0 : List Nat} {s : State} (hs : Sound s) :
    Sound (tracePush a0 s) := by
  unfold tracePush
  extract_lets v0 v1 v2
  clear_value v0
  have q3 : Sound v2 := by
    subst v2
    with_reducible refine mk_sound ?_ rfl rfl rfl rfl rfl
    with_reducible assumption
  clear_value v2
  with_reducible refine traceSettle_sound ?_
  with_reducible refine maxO_sound ?_
  with_reducible assumption

theorem traceRaw_sound {a0 : List Nat} {s : State} (hs : Sound s) :
    Sound (traceRaw a0 s) := by
  unfold traceRaw
  split
  · with_reducible refine mk_sound ?_ rfl rfl rfl rfl rfl
    with_reducible assumption
  · with_reducible refine tracePush_sound ?_
    with_reducible assumption

theorem timeRec_sound {a0 : Nat} {s : State} (hs : Sound s) :
    Sound (timeRec a0 s) := by
  unfold timeRec
  extract_lets v0 v1
  have q2 : Sound v0 := by
    subst v0
    with_reducible refine traceRaw_sound ?_
    with_reducible assumption
  clear_value v0
  with_reducible refine mk_sound ?_ rfl rfl rfl rfl rfl
  with_reducible assumption

theorem padFrame_sound {s : State} (hs : Sound s) :
    Sound (padFrame s) := by
  unfold padFrame
  split
  · with_reducible assumption
  · extract_lets v0
    clear_value v0
    split
    · with_reducible refine traceRaw_sound ?_
      with_reducible assumption
    · with_reducible refine traceRaw_sound ?_
      with_reducible assumption

theorem traceFit_sound {a0 : Nat} {a1 : Nat} {s : State} (hs : Sound s) :
    Sound (traceFit a0 a1 s) := by
  unfold traceFit
  extract_lets v0
  have q1 : Sound v0 := by
    subst v0
    split
    · with_reducible refine padFrame_sound ?_
      with_reducible assumption
    · with_reducible assumption
  clear_value v0
  split
  · with_reducible refine timeRec_sound ?_
    with_reducible assumption
  · with_reducible assumption

theorem suppressedRec_sound {a0 : Nat} {s : State} (hs : Sound s) :
    Sound (suppressedRec a0 s) := by
  unfold suppressedRec
  split
  · with_reducible assumption
  · extract_lets v0 v1
    have q2 : Sound v0 := by
      subst v0
      with_reducible refine traceRaw_sound ?_
      with_reducible refine traceFit_sound ?_
      with_reducible assumption
    clear_value v0
    with_reducible refine mk_sound ?_ rfl rfl rfl rfl rfl
    with_reducible assumption

theorem traceRecord_sound {a0 : Nat} {a1 : List Nat} {s : State} (hs : Sound s) :
    Sound (traceRecord a0 a1 s) := by
  unfold traceRecord
  split
  · with_reducible assumption
  · extract_lets v0 v1
    have q2 : Sound v0 := by
      subst v0
      split
      · with_reducible refine suppressedRec_sound ?_
        with_reducible assumption
      · with_reducible assumption
    clear_value v0
    have q3 : Sound v1 := by
      subst v1
      split
      · with_reducible assumption
      · split
        · with_reducible refine padFrame_sound ?_
          with_reducible assumption
        · with_reducible refine timeRec_sound ?_
          with_reducible assumption
    clear_value v1
    with_reducible refine traceRaw_sound ?_
    with_reducible refine traceFit_sound ?_
    with_reducible assumption

theorem endRec_sound {a0 : Nat} {s : State} (hs : Sound s) :
    Sound (endRec a0 s) := by
  unfold endRec
  split
  · with_reducible assumption
  · extract_lets v0
    have q1 : Sound v0 := by
      subst v0
      with_reducible refine traceRecord_sound ?_
      with_reducible assumption
    clear_value v0
    with_reducible refine traceFlush_sound ?_
    with_reducible refine padFrame_sound ?_
    with_reducible assumption

theorem tracePowerDown_sound {a0 : Nat} {s : State} (hs : Sound s) :
    Sound (tracePowerDown a0 s) := by
  unfold tracePowerDown
  split
  · with_reducible assumption
  · extract_lets v0
    have q1 : Sound v0 := by
      subst v0
      with_reducible refine setO_sound ?_
      with_reducible refine endRec_sound ?_
      with_reducible assumption
    clear_value v0
    with_reducible refine raise_sound ?_
    with_reducible assumption

theorem coreStart_sound {a0 : Nat} {s : State} (hs : Sound s) :
    Sound (coreStart a0 s) := by
  unfold coreStart
  refine foldl_sound ?_ ?_
  · intro z0
    intro z1
    intro z2
    split
    with_reducible refine traceRecord_sound ?_
    refine sound_of_eq (by with_reducible assumption) ?_
    with_reducible refine takeNat_sound ?_
    with_reducible assumption
  · with_reducible refine setO_sound ?_
    with_reducible assumption

theorem timeMapRec_sound {s : State} (hs : Sound s) :
    Sound (timeMapRec s) := by
  unfold timeMapRec
  split
  · with_reducible assumption
  · extract_lets v0 v1
    have q2 : Sound v1 := by
      subst v1
      with_reducible refine mk_sound ?_ rfl rfl rfl rfl rfl
      with_reducible assumption
    clear_value v1
    with_reducible refine traceRecord_sound ?_
    with_reducible assumption

theorem stopRec_sound {a0 : Nat} {a1 : Nat} {a2 : Nat} {s : State} (hs : Sound s) :
    Sound (stopRec a0 a1 a2 s) := by
  unfold stopRec
  split
  · with_reducible assumption
  · extract_lets v0
    have q1 : Sound v0 := by
      subst v0
      with_reducible refine suppressedRec_sound ?_
      with_reducible assumption
    clear_value v0
    with_reducible refine traceFlush_sound ?_
    with_reducible refine padFrame_sound ?_
    with_reducible refine traceRecord_sound ?_
    with_reducible assumption

theorem syncRec_sound {a0 : Nat} {a1 : Nat} {a2 : Nat} {s : State} (hs : Sound s) :
    Sound (syncRec a0 a1 a2 s) := by
  unfold syncRec
  split
  · with_reducible assumption
  · extract_lets v0 v1 v2 v3 v4
    clear_value v0
    clear_value v1
    have q5 : Sound v2 := by
      subst v2
      with_reducible refine traceRecord_sound ?_
      with_reducible assumption
    clear_value v2
    have q6 : Sound v3 := by
      subst v3
      refine foldl_sound ?_ ?_
      · intro z7
        intro z8
        intro z9
        split
        with_reducible refine traceRecord_sound ?_
        refine sound_of_eq (by with_reducible assumption) ?_
        with_reducible refine takeNat_sound ?_
        with_reducible assumption
      · with_reducible assumption
    clear_value v3
    with_reducible refine mk_sound ?_ rfl rfl rfl rfl rfl
    with_reducible assumption

theorem startStream_sound {s : State} (hs : Sound s) :
    Sound (startStream s) := by
  unfold startStream
  extract_lets v0 v1 v2 v3
  have q4 : Sound v1 := by
    subst v1
    with_reducible refine mk_sound ?_ rfl rfl rfl rfl rfl
    with_reducible assumption
  clear_value v1
  have q5 : Sound v2 := by
    subst v2
    split
    · with_reducible refine setO_sound ?_
      with_reducible refine setO_sound ?_
      with_reducible assumption
    · with_reducible assumption
  clear_value v2
  have q6 : Sound v3 := by
    subst v3
    with_reducible refine setO_sound ?_
    with_reducible assumption
  clear_value v3
  split
  · with_reducible refine syncRec_sound ?_
    with_reducible assumption
  · with_reducible refine setO_sound ?_
    with_reducible assumption

theorem stopCores_sound {a0 : Nat} {a1 : Nat} {s : State} (hs : Sound s) :
    Sound (stopCores a0 a1 s) := by
  unfold stopCores
  extract_lets v0 v1
  clear_value v0
  have q2 : Sound v1 := by
    subst v1
    refine foldl_sound ?_ ?_
    · intro z3
      intro z4
      intro z5
      with_reducible refine stopRec_sound ?_
      with_reducible assumption
    · with_reducible assumption
  clear_value v1
  with_reducible refine setO_sound ?_
  with_reducible assumption

theorem execTraceOverflow_sound {s : State} (hs : Sound s) :
    OutSound (execTraceOverflow s) := by
  unfold execTraceOverflow
  refine next_sound ?_
  split
  · with_reducible assumption
  · extract_lets v0 v1 v2 v3 v4 v5 v6
    clear_value v0
    clear_value v1
    have q7 : Sound v3 := by
      subst v3
      with_reducible refine mk_sound ?_ rfl rfl rfl rfl rfl
      with_reducible assumption
    clear_value v3
    have q8 : Sound v4 := by
      subst v4
      with_reducible refine traceRecord_sound ?_
      with_reducible assumption
    clear_value v4
    have q9 : Sound v5 := by
      subst v5
      with_reducible refine syncRec_sound ?_
      with_reducible assumption
    clear_value v5
    have q10 : Sound v6 := by
      subst v6
      with_reducible refine incO_sound ?_
      with_reducible refine incO_sound ?_
      with_reducible assumption
    clear_value v6
    with_reducible refine raise_sound ?_
    with_reducible assumption

theorem traceCycle_sound {a0 : Nat} {a1 : Nat} {a2 : Nat} {a3 : Bool} {s : State} (hs : Sound s) :
    Sound (traceCycle a0 a1 a2 a3 s) := by
  unfold traceCycle
  extract_lets v0 v1 v2 v3 v4 v5 v6 v7 v8 v9 v10 v11 v12 v13
  have q14 : Sound v1 := by
    subst v1
    split
    · with_reducible assumption
    · extract_lets v15 v16
      have q17 : Sound v15 := by
        subst v15
        with_reducible refine mk_sound ?_ rfl rfl rfl rfl rfl
        with_reducible assumption
      clear_value v15
      have q18 : Sound v16 := by
        subst v16
        split
        · with_reducible assumption
        · with_reducible refine raise_sound ?_
          with_reducible assumption
      clear_value v16
      split
      · with_reducible refine syncRec_sound ?_
        with_reducible assumption
      · with_reducible assumption
  clear_value v1
  clear_value v3
  have q19 : Sound v4 := by
    subst v4
    with_reducible refine syncRec_sound ?_
    with_reducible assumption
  clear_value v4
  have q20 : Sound v6 := by
    subst v6
    split
    · with_reducible refine mk_sound ?_ rfl rfl rfl rfl rfl
      with_reducible assumption
    · with_reducible assumption
  clear_value v6
  have q21 : Sound v8 := by
    subst v8
    split
    · with_reducible refine syncRec_sound ?_
      with_reducible refine mk_sound ?_ rfl rfl rfl rfl rfl
      with_reducible assumption
    · split
      · with_reducible refine syncRec_sound ?_
        with_reducible assumption
      · with_reducible assumption
  clear_value v8
  have q22 : Sound v9 := by
    subst v9
    with_reducible refine timeMapRec_sound ?_
    with_reducible assumption
  clear_value v9
  have q23 : Sound v10 := by
    subst v10
    with_reducible refine incO_sound ?_
    with_reducible assumption
  clear_value v10
  split
  · with_reducible refine timeMapRec_sound ?_
    with_reducible refine mk_sound ?_ rfl rfl rfl rfl rfl
    with_reducible assumption
  · split
    · with_reducible refine mk_sound ?_ rfl rfl rfl rfl rfl
      with_reducible assumption
    · with_reducible refine traceRecord_sound ?_
      with_reducible assumption

theorem execCoreTraceWrite_sound {a0 : Req} {a1 : WVal} {s : State} (hs : Sound s) :
    OutSound (execCoreTraceWrite a0 a1 s) := by
  unfold execCoreTraceWrite
  refine next_sound ?_
  with_reducible refine serveWrite_sound ?_ ?_
  · intro z0
    intro z1
    intro z2
    extract_lets v3 v4 v5 v6 v7 v8 v9
    clear_value v3
    clear_value v4
    clear_value v5
    have q10 : Sound v6 := by
      subst v6
      with_reducible refine stopCores_sound ?_
      with_reducible assumption
    clear_value v6
    have q11 : Sound v7 := by
      subst v7
      with_reducible refine setO_sound ?_
      with_reducible assumption
    clear_value v7
    have q12 : Sound v8 := by
      subst v8
      with_reducible refine coreStart_sound ?_
      with_reducible assumption
    clear_value v8
    split
    · with_reducible assumption
    · dsimp -zeta only
      with_reducible refine mk_sound ?_ rfl rfl rfl rfl rfl
      with_reducible assumption
  · with_reducible assumption

theorem execSinkWrite_sound {a0 : Req} {a1 : WVal} {s : State} (hs : Sound s) :
    OutSound (execSinkWrite a0 a1 s) := by
  unfold execSinkWrite
  refine next_sound ?_
  with_reducible refine serveWrite_sound ?_ ?_
  · intro z0
    intro z1
    intro z2
    extract_lets v3
    clear_value v3
    split
    · with_reducible assumption
    · split
      · with_reducible assumption
      · split
        · with_reducible assumption
        · split
          · with_reducible assumption
          · dsimp -zeta only
            with_reducible refine startStream_sound ?_
            with_reducible refine setO_sound ?_
            with_reducible refine endRec_sound ?_
            with_reducible assumption
  · with_reducible assumption

theorem closeSession_sound {a0 : Nat} {a1 : Nat} {s : State} (hs : Sound s) :
    Sound (closeSession a0 a1 s) := by
  unfold closeSession
  split
  · with_reducible assumption
  · extract_lets v0 v1 v2 v3 v4 v5
    have q6 : Sound v1 := by
      subst v1
      with_reducible refine mk_sound ?_ rfl rfl rfl rfl rfl
      with_reducible assumption
    clear_value v1
    have q7 : Sound v2 := by
      subst v2
      split
      · with_reducible refine setLifted_sound ?_
        with_reducible refine setO_sound ?_
        with_reducible assumption
      · with_reducible assumption
    clear_value v2
    have q8 : Sound v3 := by
      subst v3
      with_reducible refine setO_sound ?_
      with_reducible refine stopCores_sound ?_
      with_reducible assumption
    clear_value v3
    have q9 : Sound v5 := by
      subst v5
      split
      · with_reducible refine mk_sound ?_ rfl rfl rfl rfl rfl
        with_reducible assumption
      · with_reducible assumption
    clear_value v5
    with_reducible refine raise_sound ?_
    with_reducible assumption

end Sys2Proof.Machine
end

