-- ==== Sys2Proof/Laws/SoundRunOps.lean ====
section
/-! SUPPORT. What Machine/RunOps.lean does keeps a sound state sound. -/

namespace Sys2Proof.Machine

theorem correctBank_sound {a0 : Nat} {a1 : Nat} {s : State} (hs : Sound s) :
    Sound (correctBank a0 a1 s) := by
  unfold correctBank
  extract_lets v0 v1 v2
  have q3 : Sound v0 := by
    subst v0
    with_reducible refine incO_sound ?_
    with_reducible assumption
  clear_value v0
  split
  · with_reducible assumption
  · split
    · with_reducible refine mk_sound ?_ rfl rfl rfl rfl rfl
      with_reducible assumption
    · with_reducible refine mk_sound ?_ rfl rfl rfl rfl rfl
      with_reducible assumption

theorem failCluster_sound {a0 : Nat} {s : State} (hs : Sound s) :
    Sound (failCluster a0 s) := by
  unfold failCluster
  extract_lets v0 v1
  split
  · subst v1
    beta_reduce
    split
    · with_reducible assumption
    · with_reducible refine mk_sound ?_ rfl rfl rfl rfl rfl
      with_reducible assumption
  · split
    · subst v1
      beta_reduce
      split
      · with_reducible assumption
      · with_reducible refine mk_sound ?_ rfl rfl rfl rfl rfl
        with_reducible assumption
    · with_reducible assumption

theorem sendCtl_sound {a0 : Nat} {a1 : Nat} {a2 : Nat} {s : State} (hs : Sound s) :
    Sound (sendCtl a0 a1 a2 s) := by
  unfold sendCtl
  with_reducible refine modPort_sound ?_
  with_reducible assumption

theorem imFailure_sound {a0 : Nat} {a1 : Nat} {s : State} (hs : Sound s) :
    Sound (imFailure a0 a1 s) := by
  unfold imFailure
  extract_lets v0 v1 v2 v3 v4
  have q5 : Sound v0 := by
    subst v0
    with_reducible refine incO_sound ?_
    with_reducible assumption
  clear_value v0
  have q6 : Sound v1 := by
    subst v1
    with_reducible refine setO_sound ?_
    with_reducible assumption
  clear_value v1
  have q7 : Sound v2 := by
    subst v2
    with_reducible refine setO_sound ?_
    with_reducible assumption
  clear_value v2
  have q8 : Sound v3 := by
    subst v3
    with_reducible refine setO_sound ?_
    with_reducible assumption
  clear_value v3
  have q9 : Sound v4 := by
    subst v4
    with_reducible refine raise_sound ?_
    with_reducible assumption
  clear_value v4
  with_reducible refine failCluster_sound ?_
  with_reducible assumption

theorem modeOn_sound {s : State} (hs : Sound s) :
    Sound (modeOn s) := by
  unfold modeOn
  extract_lets v0 v1 v2 v3
  have q4 : Sound v0 := by
    subst v0
    refine foldl_sound ?_ ?_
    · intro z5
      intro z6
      intro z7
      with_reducible refine wakeDomain_sound ?_
      with_reducible assumption
    · with_reducible assumption
  clear_value v0
  have q8 : Sound v1 := by
    subst v1
    with_reducible refine restDomain_sound ?_
    with_reducible refine restDomain_sound ?_
    with_reducible assumption
  clear_value v1
  have q9 : Sound v2 := by
    subst v2
    refine foldl_sound ?_ ?_
    · intro z10
      intro z11
      intro z12
      with_reducible refine restDomain_sound ?_
      with_reducible refine restDomain_sound ?_
      with_reducible assumption
    · with_reducible assumption
  clear_value v2
  have q13 : Sound v3 := by
    subst v3
    split
    · with_reducible assumption
    · with_reducible refine startRoots_sound ?_
      with_reducible assumption
  clear_value v3
  refine foldl_sound ?_ ?_
  · intro z14
    intro z15
    intro z16
    with_reducible refine startTraining_sound ?_
    with_reducible assumption
  · with_reducible assumption

theorem dropTx_sound {s : State} (hs : Sound s) :
    Sound (dropTx s) := by
  unfold dropTx
  with_reducible refine mk_sound ?_ rfl rfl rfl rfl rfl
  with_reducible assumption

theorem modeOff_sound {a0 : Nat} {s : State} (hs : Sound s) :
    Sound (modeOff a0 s) := by
  unfold modeOff
  extract_lets v0 v1 v2 v3
  clear_value v0
  have q4 : Sound v1 := by
    subst v1
    with_reducible refine loseCompute_sound ?_
    refine foldl_sound ?_ ?_
    · intro z5
      intro z6
      intro z7
      with_reducible refine setDomain_sound ?_
      with_reducible refine setDomain_sound ?_
      with_reducible assumption
    · with_reducible assumption
  clear_value v1
  have q8 : Sound v2 := by
    subst v2
    split
    · with_reducible assumption
    · with_reducible refine loseTier_sound ?_
      with_reducible assumption
  clear_value v2
  have q9 : Sound v3 := by
    subst v3
    refine foldl_sound ?_ ?_
    · intro z10
      intro z11
      intro z12
      with_reducible refine portOff_sound ?_
      with_reducible assumption
    · with_reducible assumption
  clear_value v3
  with_reducible refine setDomain_sound ?_
  with_reducible refine setDomain_sound ?_
  with_reducible assumption

theorem newWindow_sound {s : State} (hs : Sound s) :
    Sound (newWindow s) := by
  unfold newWindow
  with_reducible refine mk_sound ?_ rfl rfl rfl rfl rfl
  with_reducible assumption

theorem writeHealth_sound {a0 : Health → Health} {s : State} (hs : Sound s) :
    Sound (writeHealth a0 s) := by
  unfold writeHealth
  extract_lets v0 v1 v2 v3
  have q4 : Sound v3 := by
    subst v3
    with_reducible refine mk_sound ?_ rfl rfl rfl rfl rfl
    with_reducible assumption
  clear_value v3
  with_reducible refine setO_sound ?_
  with_reducible assumption

theorem dictFailure_sound {a0 : Nat} {a1 : Nat} {s : State} (hs : Sound s) :
    Sound (dictFailure a0 a1 s) := by
  unfold dictFailure
  extract_lets v0 v1 v2 v3
  have q4 : Sound v0 := by
    subst v0
    with_reducible refine incO_sound ?_
    with_reducible assumption
  clear_value v0
  have q5 : Sound v1 := by
    subst v1
    with_reducible refine setO_sound ?_
    with_reducible assumption
  clear_value v1
  have q6 : Sound v2 := by
    subst v2
    with_reducible refine setO_sound ?_
    with_reducible assumption
  clear_value v2
  have q7 : Sound v3 := by
    subst v3
    with_reducible refine raise_sound ?_
    with_reducible assumption
  clear_value v3
  with_reducible refine failCluster_sound ?_
  with_reducible assumption

theorem lbsFailure_sound {a0 : Nat} {a1 : Nat} {a2 : Nat} {s : State} (hs : Sound s) :
    Sound (lbsFailure a0 a1 a2 s) := by
  unfold lbsFailure
  extract_lets v0 v1 v2 v3 v4
  have q5 : Sound v0 := by
    subst v0
    with_reducible refine incO_sound ?_
    with_reducible assumption
  clear_value v0
  have q6 : Sound v1 := by
    subst v1
    with_reducible refine setO_sound ?_
    with_reducible assumption
  clear_value v1
  have q7 : Sound v2 := by
    subst v2
    with_reducible refine setO_sound ?_
    with_reducible assumption
  clear_value v2
  have q8 : Sound v3 := by
    subst v3
    with_reducible refine setO_sound ?_
    with_reducible assumption
  clear_value v3
  have q9 : Sound v4 := by
    subst v4
    with_reducible refine raise_sound ?_
    with_reducible assumption
  clear_value v4
  with_reducible refine failCluster_sound ?_
  with_reducible assumption

theorem addCause_sound {a0 : Nat} {s : State} (hs : Sound s) :
    Sound (addCause a0 s) := by
  unfold addCause
  with_reducible refine mk_sound ?_ rfl rfl rfl rfl rfl
  with_reducible assumption

theorem suspectLane_sound {a0 : Nat} {s : State} (hs : Sound s) :
    Sound (suspectLane a0 s) := by
  unfold suspectLane
  with_reducible refine writeHealth_sound ?_
  with_reducible assumption

theorem exsFailure_sound {a0 : Nat} {a1 : Nat} {s : State} (hs : Sound s) :
    Sound (exsFailure a0 a1 s) := by
  unfold exsFailure
  extract_lets v0 v1 v2 v3 v4
  have q5 : Sound v0 := by
    subst v0
    with_reducible refine incO_sound ?_
    with_reducible assumption
  clear_value v0
  have q6 : Sound v1 := by
    subst v1
    with_reducible refine setO_sound ?_
    with_reducible assumption
  clear_value v1
  have q7 : Sound v2 := by
    subst v2
    with_reducible refine setO_sound ?_
    with_reducible assumption
  clear_value v2
  have q8 : Sound v3 := by
    subst v3
    with_reducible refine setO_sound ?_
    with_reducible assumption
  clear_value v3
  have q9 : Sound v4 := by
    subst v4
    with_reducible refine raise_sound ?_
    with_reducible assumption
  clear_value v4
  with_reducible refine addCause_sound ?_
  with_reducible assumption

theorem farFailure_sound {a0 : Nat} {a1 : Nat} {s : State} (hs : Sound s) :
    Sound (farFailure a0 a1 s) := by
  unfold farFailure
  extract_lets v0 v1 v2
  have q3 : Sound v0 := by
    subst v0
    with_reducible refine incO_sound ?_
    with_reducible assumption
  clear_value v0
  have q4 : Sound v1 := by
    subst v1
    with_reducible refine setO_sound ?_
    with_reducible assumption
  clear_value v1
  have q5 : Sound v2 := by
    subst v2
    with_reducible refine raise_sound ?_
    with_reducible assumption
  clear_value v2
  with_reducible refine addCause_sound ?_
  with_reducible assumption

theorem modeDomains_sound {a0 : Nat} {s : State} (hs : Sound s) :
    Sound (modeDomains a0 s) := by
  unfold modeDomains
  split
  · with_reducible refine modeOff_sound ?_
    with_reducible assumption
  · split
    · with_reducible refine modeOn_sound ?_
      with_reducible assumption
    · with_reducible assumption

theorem bankFailure_sound {a0 : Nat} {a1 : Nat} {s : State} (hs : Sound s) :
    Sound (bankFailure a0 a1 s) := by
  unfold bankFailure
  extract_lets v0 v1 v2 v3 v4 v5 v6
  clear_value v0
  have q7 : Sound v1 := by
    subst v1
    with_reducible refine incO_sound ?_
    with_reducible assumption
  clear_value v1
  have q8 : Sound v2 := by
    subst v2
    with_reducible refine setO_sound ?_
    with_reducible assumption
  clear_value v2
  have q9 : Sound v3 := by
    subst v3
    with_reducible refine setO_sound ?_
    with_reducible assumption
  clear_value v3
  have q10 : Sound v4 := by
    subst v4
    with_reducible refine setO_sound ?_
    with_reducible assumption
  clear_value v4
  have q11 : Sound v5 := by
    subst v5
    with_reducible refine setO_sound ?_
    with_reducible assumption
  clear_value v5
  have q12 : Sound v6 := by
    subst v6
    with_reducible refine raise_sound ?_
    with_reducible assumption
  clear_value v6
  split
  · with_reducible refine addCause_sound ?_
    with_reducible assumption
  · with_reducible assumption

theorem suspectCluster_sound {a0 : Nat} {s : State} (hs : Sound s) :
    Sound (suspectCluster a0 s) := by
  unfold suspectCluster
  with_reducible refine writeHealth_sound ?_
  with_reducible assumption

theorem setMode_sound {a0 : Nat} {s : State} (hs : Sound s) :
    Sound (setMode a0 s) := by
  unfold setMode
  split
  · with_reducible assumption
  · extract_lets v0 v1 v2 v3
    clear_value v0
    have q4 : Sound v1 := by
      subst v1
      with_reducible refine setO_sound ?_
      with_reducible refine modeDomains_sound ?_
      with_reducible assumption
    clear_value v1
    have q5 : Sound v3 := by
      subst v3
      with_reducible refine raise_sound ?_
      with_reducible refine mk_sound ?_ rfl rfl rfl rfl rfl
      with_reducible assumption
    clear_value v3
    split
    · with_reducible refine traceSettle_sound ?_
      with_reducible refine stopRec_sound ?_
      with_reducible assumption
    · with_reducible assumption

theorem readBank_sound {a0 : Nat} {a1 : Nat} {a2 : Nat} {s : State} (hs : Sound s) :
    Sound (readBank a0 a1 a2 s).2 := by
  unfold readBank
  split
  · with_reducible assumption
  · dsimp -zeta only
    with_reducible refine correctBank_sound ?_
    with_reducible assumption
  · dsimp -zeta only
    with_reducible refine bankFailure_sound ?_
    with_reducible assumption

theorem forwardOrigin_sound {a0 : Bool} {a1 : Nat} {a2 : Option Nat} {s : State} (hs : Sound s) :
    Sound (forwardOrigin a0 a1 a2 s) := by
  unfold forwardOrigin
  split
  · split
    · with_reducible assumption
    · extract_lets v0 v1
      have q2 : Sound v1 := by
        subst v1
        with_reducible refine mk_sound ?_ rfl rfl rfl rfl rfl
        with_reducible assumption
      clear_value v1
      refine foldl_sound ?_ ?_
      · intro z3
        intro z4
        intro z5
        split
        · with_reducible assumption
        · with_reducible refine sendCtl_sound ?_
          with_reducible assumption
      · with_reducible assumption
  · split
    · with_reducible assumption
    · extract_lets v6 v7
      have q8 : Sound v7 := by
        subst v7
        with_reducible refine mk_sound ?_ rfl rfl rfl rfl rfl
        with_reducible assumption
      clear_value v7
      refine foldl_sound ?_ ?_
      · intro z9
        intro z10
        intro z11
        split
        · with_reducible assumption
        · with_reducible refine sendCtl_sound ?_
          with_reducible assumption
      · with_reducible assumption

theorem lockstepFault_sound {a0 : Nat} {a1 : Nat} {s : State} (hs : Sound s) :
    Sound (lockstepFault a0 a1 s) := by
  unfold lockstepFault
  extract_lets v0 v1 v2 v3 v4 v5 v6 v7 v8
  have q9 : Sound v0 := by
    subst v0
    with_reducible refine incO_sound ?_
    with_reducible assumption
  clear_value v0
  have q10 : Sound v1 := by
    subst v1
    with_reducible refine setO_sound ?_
    with_reducible assumption
  clear_value v1
  have q11 : Sound v2 := by
    subst v2
    with_reducible refine setO_sound ?_
    with_reducible assumption
  clear_value v2
  have q12 : Sound v3 := by
    subst v3
    with_reducible refine setO_sound ?_
    with_reducible assumption
  clear_value v3
  have q13 : Sound v4 := by
    subst v4
    with_reducible refine setO_sound ?_
    with_reducible assumption
  clear_value v4
  have q14 : Sound v5 := by
    subst v5
    split
    · with_reducible refine modPort_sound ?_
      with_reducible assumption
    · with_reducible assumption
  clear_value v5
  have q15 : Sound v6 := by
    subst v6
    split
    · with_reducible assumption
    · with_reducible refine raise_sound ?_
      with_reducible assumption
  clear_value v6
  have q16 : Sound v8 := by
    subst v8
    with_reducible refine mk_sound ?_ rfl rfl rfl rfl rfl
    with_reducible assumption
  clear_value v8
  with_reducible refine forwardOrigin_sound ?_
  split
  · with_reducible refine addCause_sound ?_
    with_reducible assumption
  · with_reducible assumption

theorem setRunState_sound {a0 : RunState} {s : State} (hs : Sound s) :
    Sound (setRunState a0 s) := by
  unfold setRunState
  extract_lets v0 v1
  have q2 : Sound v1 := by
    subst v1
    with_reducible refine mk_sound ?_ rfl rfl rfl rfl rfl
    with_reducible assumption
  clear_value v1
  split
  · with_reducible refine setMode_sound ?_
    with_reducible assumption
  · with_reducible refine setMode_sound ?_
    with_reducible assumption
  · with_reducible refine setMode_sound ?_
    with_reducible assumption
  · with_reducible refine setMode_sound ?_
    with_reducible assumption
  · with_reducible refine setMode_sound ?_
    with_reducible assumption
  · with_reducible refine setMode_sound ?_
    with_reducible assumption
  · with_reducible refine setMode_sound ?_
    with_reducible assumption
  · with_reducible assumption
  · with_reducible assumption

theorem recordStop_sound {a0 : List Nat} {a1 : RunState} {s : State} (hs : Sound s) :
    Sound (recordStop a0 a1 s) := by
  unfold recordStop
  extract_lets v0 v1 v2 v3 v4 v5 v6 v7 v8
  clear_value v0
  clear_value v1
  have q9 : Sound v2 := by
    subst v2
    with_reducible refine setO_sound ?_
    with_reducible assumption
  clear_value v2
  have q10 : Sound v3 := by
    subst v3
    with_reducible refine setO_sound ?_
    with_reducible assumption
  clear_value v3
  have q11 : Sound v4 := by
    subst v4
    with_reducible refine setO_sound ?_
    with_reducible assumption
  clear_value v4
  have q12 : Sound v6 := by
    subst v6
    with_reducible refine mk_sound ?_ rfl rfl rfl rfl rfl
    with_reducible assumption
  clear_value v6
  have q13 : Sound v7 := by
    subst v7
    with_reducible refine setRunState_sound ?_
    with_reducible assumption
  clear_value v7
  have q14 : Sound v8 := by
    subst v8
    with_reducible refine stopRec_sound ?_
    with_reducible assumption
  clear_value v8
  with_reducible refine raise_sound ?_
  with_reducible assumption

end Sys2Proof.Machine
end

