-- ==== Sys2Proof/Laws/SoundFlags.lean ====
section
/-! SUPPORT. What Machine/Flags.lean does keeps a sound state sound. -/

namespace Sys2Proof.Machine

theorem ruleCount_sound {a0 : Nat} {a1 : Nat} {s : State} (hs : Sound s) :
    Sound (ruleCount a0 a1 s) := by
  unfold ruleCount
  split
  · with_reducible assumption
  · extract_lets v0 v1
    have q2 : Sound v0 := by
      subst v0
      with_reducible refine incO_sound ?_
      with_reducible assumption
    clear_value v0
    with_reducible refine mk_sound ?_ rfl rfl rfl rfl rfl
    with_reducible assumption

theorem dmCount_sound {a0 : Nat} {s : State} (hs : Sound s) :
    Sound (dmCount a0 s) := by
  unfold dmCount
  extract_lets v0 v1
  have q2 : Sound v0 := by
    subst v0
    with_reducible refine incO_sound ?_
    with_reducible assumption
  clear_value v0
  with_reducible refine mk_sound ?_ rfl rfl rfl rfl rfl
  with_reducible assumption

end Sys2Proof.Machine
end

