-- ==== Sys2Proof/Laws/SoundLantern.lean ====
section
/-! SUPPORT. What Machine/Lantern.lean does keeps a sound state sound. -/

namespace Sys2Proof.Machine

theorem capPut_sound {a0 : Nat} {a1 : Nat} {s : State} (hs : Sound s) :
    Sound (capPut a0 a1 s) := by
  unfold capPut
  with_reducible refine regionWrite_sound ?_
  with_reducible assumption

theorem modCtx_sound {a0 : LanCtx → LanCtx} {s : State} (hs : Sound s) :
    Sound (modCtx a0 s) := by
  unfold modCtx
  with_reducible refine mk_sound ?_ rfl rfl rfl rfl rfl
  with_reducible assumption

theorem execHostMark_sound {a0 : Req} {a1 : WVal} {s : State} (hs : Sound s) :
    OutSound (execHostMark a0 a1 s) := by
  unfold execHostMark
  refine next_sound ?_
  with_reducible refine serveWrite_sound ?_ ?_
  · intro z0
    intro z1
    intro z2
    split
    · with_reducible assumption
    · dsimp -zeta only
      with_reducible refine mk_sound ?_ rfl rfl rfl rfl rfl
      with_reducible assumption
  · with_reducible assumption

theorem setSeg_sound {a0 : Nat} {a1 : SegSt} {s : State} (hs : Sound s) :
    Sound (setSeg a0 a1 s) := by
  unfold setSeg
  with_reducible refine mk_sound ?_ rfl rfl rfl rfl rfl
  with_reducible assumption

theorem writeProbeMap_sound {a0 : Nat} {a1 : Nat} {a2 : List Nat} {s : State} (hs : Sound s) :
    Sound (writeProbeMap a0 a1 a2 s).2 := by
  unfold writeProbeMap
  split
  · with_reducible assumption
  · split
    · with_reducible assumption
    · split
      · with_reducible assumption
      · extract_lets v0 v1
        clear_value v0
        split
        · with_reducible assumption
        · dsimp -zeta only
          with_reducible refine mk_sound ?_ rfl rfl rfl rfl rfl
          with_reducible assumption

theorem holdProbes_sound {a0 : Nat} {a1 : List Nat} {s : State} (hs : Sound s) :
    Sound (holdProbes a0 a1 s) := by
  unfold holdProbes
  extract_lets v0 v1
  clear_value v0
  with_reducible refine mk_sound ?_ rfl rfl rfl rfl rfl
  with_reducible assumption

theorem execCaptureAccept_sound {s : State} (hs : Sound s) :
    OutSound (execCaptureAccept s) := by
  unfold execCaptureAccept
  refine next_sound ?_
  with_reducible refine mk_sound ?_ rfl rfl rfl rfl rfl
  with_reducible assumption

theorem execProbeMapWrite_sound {a0 : Req} {a1 : WForm} {s : State} (hs : Sound s) :
    OutSound (execProbeMapWrite a0 a1 s) := by
  unfold execProbeMapWrite
  refine next_sound ?_
  with_reducible refine serveForm_sound ?_ ?_ ?_
  · intro z0
    intro z1
    intro z2
    intro z3
    with_reducible refine writeProbeMap_sound ?_
    with_reducible assumption
  · intro z4
    intro z5
    intro z6
    intro z7
    with_reducible refine writeProbeMap_sound ?_
    with_reducible assumption
  · with_reducible assumption

theorem ignoreTrigger_sound {a0 : Nat} {s : State} (hs : Sound s) :
    Sound (ignoreTrigger a0 s) := by
  unfold ignoreTrigger
  extract_lets v0 v1
  have q2 : Sound v0 := by
    subst v0
    with_reducible refine incO_sound ?_
    with_reducible assumption
  clear_value v0
  split
  · with_reducible assumption
  · with_reducible refine mk_sound ?_ rfl rfl rfl rfl rfl
    with_reducible assumption

theorem execForceTrigger_sound {a0 : Req} {s : State} (hs : Sound s) :
    OutSound (execForceTrigger a0 s) := by
  unfold execForceTrigger
  refine next_sound ?_
  with_reducible refine serveWrite_sound ?_ ?_
  · intro z0
    intro z1
    intro z2
    dsimp -zeta only
    with_reducible refine mk_sound ?_ rfl rfl rfl rfl rfl
    with_reducible assumption
  · with_reducible assumption

theorem noteRecords_sound {a0 : Nat} {a1 : List (Nat × Nat × Bool)} {s : State} (hs : Sound s) :
    Sound (noteRecords a0 a1 s) := by
  unfold noteRecords
  extract_lets v0
  with_reducible refine setSeg_sound ?_
  with_reducible assumption

theorem completeBlock_sound {a0 : Nat} {a1 : Nat} {s : State} (hs : Sound s) :
    Sound (completeBlock a0 a1 s) := by
  unfold completeBlock
  extract_lets v0 v1 v2 v3
  clear_value v1
  have q4 : Sound v2 := by
    subst v2
    with_reducible refine capPut_sound ?_
    with_reducible refine capPut_sound ?_
    with_reducible assumption
  clear_value v2
  clear_value v3
  with_reducible refine capPut_sound ?_
  with_reducible assumption

theorem clearSegment_sound {a0 : Nat} {s : State} (hs : Sound s) :
    Sound (clearSegment a0 s) := by
  unfold clearSegment
  with_reducible refine setSeg_sound ?_
  with_reducible assumption

theorem openBlock_sound {a0 : Nat} {a1 : Nat} {s : State} (hs : Sound s) :
    Sound (openBlock a0 a1 s) := by
  unfold openBlock
  extract_lets v0 v1 v2 v3 v4 v5 v6 v7
  clear_value v1
  clear_value v2
  clear_value v3
  have q8 : Sound v4 := by
    subst v4
    with_reducible refine capPut_sound ?_
    with_reducible assumption
  clear_value v4
  have q9 : Sound v5 := by
    subst v5
    with_reducible refine capPut_sound ?_
    with_reducible assumption
  clear_value v5
  have q10 : Sound v6 := by
    subst v6
    with_reducible refine capPut_sound ?_
    with_reducible assumption
  clear_value v6
  have q11 : Sound v7 := by
    subst v7
    with_reducible refine capPut_sound ?_
    with_reducible assumption
  clear_value v7
  with_reducible refine setSeg_sound ?_
  with_reducible assumption

theorem reopenBlock_sound {a0 : Nat} {s : State} (hs : Sound s) :
    Sound (reopenBlock a0 s) := by
  unfold reopenBlock
  extract_lets v0 v1 v2 v3 v4
  clear_value v1
  clear_value v2
  have q5 : Sound v3 := by
    subst v3
    with_reducible refine capPut_sound ?_
    with_reducible assumption
  clear_value v3
  have q6 : Sound v4 := by
    subst v4
    split
    · with_reducible assumption
    · with_reducible refine capPut_sound ?_
      with_reducible assumption
  clear_value v4
  split
  · with_reducible assumption
  · with_reducible refine capPut_sound ?_
    with_reducible assumption

theorem putWord_sound {a0 : Nat} {a1 : Nat} {a2 : Bool} {a3 : Nat} {s : State} (hs : Sound s) :
    Sound (putWord a0 a1 a2 a3 s) := by
  unfold putWord
  extract_lets v0 v1 v2 v3 v4 v5
  have q6 : Sound v0 := by
    subst v0
    split
    · with_reducible refine openBlock_sound ?_
      with_reducible assumption
    · with_reducible assumption
  clear_value v0
  clear_value v2
  have q7 : Sound v3 := by
    subst v3
    split
    · with_reducible refine capPut_sound ?_
      with_reducible assumption
    · with_reducible assumption
  clear_value v3
  have q8 : Sound v4 := by
    subst v4
    with_reducible refine capPut_sound ?_
    with_reducible assumption
  clear_value v4
  have q9 : Sound v5 := by
    subst v5
    with_reducible refine setSeg_sound ?_
    with_reducible assumption
  clear_value v5
  split
  · with_reducible refine completeBlock_sound ?_
    with_reducible assumption
  · with_reducible assumption

theorem beginSegment_sound {a0 : Nat} {s : State} (hs : Sound s) :
    Sound (beginSegment a0 s) := by
  unfold beginSegment
  extract_lets v0 v1
  have q2 : Sound v0 := by
    subst v0
    with_reducible refine clearSegment_sound ?_
    with_reducible assumption
  clear_value v0
  with_reducible refine setSeg_sound ?_
  with_reducible assumption

theorem dropPrivate_sound {s : State} (hs : Sound s) :
    Sound (dropPrivate s) := by
  unfold dropPrivate
  split
  · with_reducible refine setO_sound ?_
    with_reducible assumption
  · with_reducible assumption

theorem padSegment_sound {a0 : Nat} {s : State} (hs : Sound s) :
    Sound (padSegment a0 s) := by
  unfold padSegment
  extract_lets v0 v1 v2 v3
  clear_value v1
  clear_value v2
  have q4 : Sound v3 := by
    subst v3
    with_reducible refine putWord_sound ?_
    with_reducible assumption
  clear_value v3
  split
  · with_reducible assumption
  · refine foldl_sound ?_ ?_
    · intro z5
      intro z6
      intro z7
      with_reducible refine putWord_sound ?_
      with_reducible assumption
    · with_reducible assumption

theorem putRecord_sound {a0 : Nat} {a1 : Nat} {a2 : Bool} {a3 : Nat} {a4 : Nat} {a5 : List Nat} {s : State} (hs : Sound s) :
    Sound (putRecord a0 a1 a2 a3 a4 a5 s) := by
  unfold putRecord
  split
  · with_reducible assumption
  · extract_lets v0
    have q1 : Sound v0 := by
      subst v0
      with_reducible refine putWord_sound ?_
      with_reducible assumption
    clear_value v0
    refine foldl_sound ?_ ?_
    · intro z2
      intro z3
      intro z4
      with_reducible refine putWord_sound ?_
      with_reducible assumption
    · with_reducible assumption

theorem storeCycle_sound {a0 : Nat} {s : State} (hs : Sound s) :
    Sound (storeCycle a0 s) := by
  unfold storeCycle
  extract_lets v0 v1 v2 v3 v4 v5 v6 v7 v8 v9 v10 v11 v12 v13 v14 v15 v16
  clear_value v0
  clear_value v1
  clear_value v2
  clear_value v3
  clear_value v4
  clear_value v6
  clear_value v7
  clear_value v8
  clear_value v9
  have q17 : Sound v11 := by
    subst v11
    subst v10
    beta_reduce
    extract_lets v18 v19 v20
    clear_value v19
    clear_value v20
    with_reducible refine setSeg_sound ?_
    with_reducible refine putRecord_sound ?_
    with_reducible assumption
  clear_value v11
  have q21 : Sound v13 := by
    subst v13
    split
    · subst v10
      beta_reduce
      extract_lets v22 v23 v24
      clear_value v23
      clear_value v24
      with_reducible refine setSeg_sound ?_
      with_reducible refine putRecord_sound ?_
      with_reducible assumption
    · split
      · with_reducible refine modCtx_sound ?_
        with_reducible refine setSeg_sound ?_
        with_reducible assumption
      · split
        · with_reducible refine setSeg_sound ?_
          with_reducible assumption
        · subst v10
          beta_reduce
          extract_lets v25 v26 v27
          clear_value v26
          clear_value v27
          with_reducible refine setSeg_sound ?_
          with_reducible refine putRecord_sound ?_
          with_reducible assumption
  clear_value v13
  with_reducible refine modCtx_sound ?_
  with_reducible assumption

theorem trigger_sound {a0 : Nat} {a1 : Nat} {a2 : LanDecision} {s : State} (hs : Sound s) :
    Sound (trigger a0 a1 a2 s) := by
  unfold trigger
  extract_lets v0 v1 v2 v3 v4 v5 v6 v7 v8 v9 v10
  clear_value v1
  have q11 : Sound v2 := by
    subst v2
    with_reducible refine putRecord_sound ?_
    with_reducible assumption
  clear_value v2
  have q12 : Sound v4 := by
    subst v4
    with_reducible refine setSeg_sound ?_
    with_reducible assumption
  clear_value v4
  have q13 : Sound v5 := by
    subst v5
    with_reducible refine raise_sound ?_
    with_reducible assumption
  clear_value v5
  clear_value v6
  have q14 : Sound v7 := by
    subst v7
    with_reducible refine putRecord_sound ?_
    with_reducible assumption
  clear_value v7
  have q15 : Sound v9 := by
    subst v9
    with_reducible refine setSeg_sound ?_
    with_reducible assumption
  clear_value v9
  have q16 : Sound v10 := by
    subst v10
    with_reducible refine raise_sound ?_
    with_reducible assumption
  clear_value v10
  split
  · split
    · with_reducible refine ignoreTrigger_sound ?_
      with_reducible assumption
    · with_reducible refine modCtx_sound ?_
      with_reducible assumption
  · split
    · with_reducible refine ignoreTrigger_sound ?_
      with_reducible assumption
    · with_reducible refine modCtx_sound ?_
      with_reducible assumption
  · with_reducible refine ignoreTrigger_sound ?_
    with_reducible assumption
  · with_reducible refine ignoreTrigger_sound ?_
    with_reducible assumption
  · with_reducible refine ignoreTrigger_sound ?_
    with_reducible assumption
  · with_reducible assumption

theorem flushExt_sound {s : State} (hs : Sound s) :
    Sound (flushExt s) := by
  unfold flushExt
  split
  · with_reducible assumption
  · extract_lets v0 v1 v2 v3 v4 v5 v6 v7 v8 v9
    clear_value v0
    clear_value v1
    clear_value v2
    clear_value v3
    clear_value v4
    clear_value v5
    have q10 : Sound v6 := by
      subst v6
      with_reducible refine putRecord_sound ?_
      with_reducible assumption
    clear_value v6
    have q11 : Sound v8 := by
      subst v8
      split
      · with_reducible refine noteRecords_sound ?_
        with_reducible refine setSeg_sound ?_
        with_reducible assumption
      · with_reducible refine noteRecords_sound ?_
        with_reducible assumption
    clear_value v8
    with_reducible refine mk_sound ?_ rfl rfl rfl rfl rfl
    with_reducible assumption

theorem closeSegment_sound {a0 : Nat} {a1 : Bool} {s : State} (hs : Sound s) :
    Sound (closeSegment a0 a1 s) := by
  unfold closeSegment
  extract_lets v0 v1 v2 v3
  have q4 : Sound v1 := by
    subst v1
    with_reducible refine setSeg_sound ?_
    with_reducible assumption
  clear_value v1
  have q5 : Sound v2 := by
    subst v2
    with_reducible refine padSegment_sound ?_
    with_reducible assumption
  clear_value v2
  have q6 : Sound v3 := by
    subst v3
    with_reducible refine modCtx_sound ?_
    with_reducible assumption
  clear_value v3
  with_reducible refine raise_sound ?_
  with_reducible assumption

theorem execExtCalibrated_sound {a0 : Nat} {a1 : List Nat} {s : State} (hs : Sound s) :
    OutSound (execExtCalibrated a0 a1 s) := by
  unfold execExtCalibrated
  refine next_sound ?_
  split
  · with_reducible assumption
  · extract_lets v0 v1 v2 v3 v4 v5 v6 v7 v8 v9
    clear_value v1
    clear_value v2
    have q10 : Sound v3 := by
      subst v3
      split
      · with_reducible assumption
      · with_reducible refine flushExt_sound ?_
        with_reducible assumption
    clear_value v3
    have q11 : Sound v4 := by
      subst v4
      with_reducible refine setO_sound ?_
      with_reducible assumption
    clear_value v4
    have q12 : Sound v5 := by
      subst v5
      with_reducible refine setO_sound ?_
      with_reducible assumption
    clear_value v5
    have q13 : Sound v6 := by
      subst v6
      with_reducible refine setO_sound ?_
      with_reducible assumption
    clear_value v6
    have q14 : Sound v7 := by
      subst v7
      with_reducible refine setO_sound ?_
      with_reducible assumption
    clear_value v7
    have q15 : Sound v8 := by
      subst v8
      with_reducible refine modCtx_sound ?_
      with_reducible assumption
    clear_value v8
    have q16 : Sound v9 := by
      subst v9
      with_reducible refine raise_sound ?_
      with_reducible assumption
    clear_value v9
    split
    · with_reducible assumption
    · with_reducible refine raise_sound ?_
      with_reducible assumption

theorem acqAdvance_sound {a0 : Bool} {a1 : Bool} {s : State} (hs : Sound s) :
    Sound (acqAdvance a0 a1 s) := by
  unfold acqAdvance
  extract_lets v0 v1 v2 v3
  clear_value v1
  have q4 : Sound v2 := by
    subst v2
    with_reducible refine closeSegment_sound ?_
    split
    · with_reducible refine flushExt_sound ?_
      with_reducible assumption
    · with_reducible assumption
  clear_value v2
  have q5 : Sound v3 := by
    subst v3
    with_reducible refine beginSegment_sound ?_
    with_reducible assumption
  clear_value v3
  split
  · with_reducible refine modCtx_sound ?_
    with_reducible assumption
  · with_reducible refine modCtx_sound ?_
    with_reducible assumption
  · split
    · split
      · with_reducible refine modCtx_sound ?_
        with_reducible assumption
      · with_reducible refine raise_sound ?_
        with_reducible refine modCtx_sound ?_
        with_reducible assumption
    · with_reducible refine modCtx_sound ?_
      with_reducible assumption
  · with_reducible refine modCtx_sound ?_
    with_reducible assumption
  · with_reducible assumption

theorem branchActions_sound {a0 : Nat} {a1 : Bool} {a2 : LanDecision} {s : State} (hs : Sound s) :
    Sound (branchActions a0 a1 a2 s) := by
  unfold branchActions
  split
  · with_reducible assumption
  · extract_lets v0 v1 v2 v3 v4 v5 v6 v7 v8 v9 v10 v11 v12
    clear_value v0
    clear_value v1
    clear_value v2
    have q13 : Sound v3 := by
      subst v3
      with_reducible refine incO_sound ?_
      with_reducible assumption
    clear_value v3
    have q14 : Sound v4 := by
      subst v4
      split
      · split
        · with_reducible refine putRecord_sound ?_
          with_reducible assumption
        · with_reducible assumption
      · with_reducible assumption
    clear_value v4
    have q15 : Sound v5 := by
      subst v5
      with_reducible refine modCtx_sound ?_
      with_reducible assumption
    clear_value v5
    have q16 : Sound v6 := by
      subst v6
      split
      · with_reducible refine flushExt_sound ?_
        with_reducible assumption
      · with_reducible assumption
    clear_value v6
    have q17 : Sound v7 := by
      subst v7
      split
      · split
        · with_reducible refine putRecord_sound ?_
          with_reducible assumption
        · with_reducible assumption
      · with_reducible assumption
    clear_value v7
    have q18 : Sound v9 := by
      subst v9
      split
      · with_reducible assumption
      · with_reducible refine modCtx_sound ?_
        with_reducible assumption
    clear_value v9
    have q19 : Sound v10 := by
      subst v10
      split
      · with_reducible refine incO_sound ?_
        with_reducible assumption
      · with_reducible assumption
    clear_value v10
    have q20 : Sound v12 := by
      subst v12
      split
      · with_reducible refine mk_sound ?_ rfl rfl rfl rfl rfl
        with_reducible assumption
      · with_reducible assumption
    clear_value v12
    split
    · with_reducible refine raise_sound ?_
      with_reducible refine incO_sound ?_
      with_reducible assumption
    · with_reducible assumption

theorem lanDecide_sound {a0 : Bool} {s : State} (hs : Sound s) :
    Sound (lanDecide a0 s).2 := by
  unfold lanDecide
  extract_lets v0 v1 v2 v3 v4 v5 v6 v7 v8 v9 v10
  clear_value v0
  clear_value v1
  clear_value v2
  clear_value v3
  clear_value v4
  clear_value v5
  clear_value v6
  have q11 : Sound v8 := by
    subst v8
    refine foldl_sound ?_ ?_
    · intro z12
      intro z13
      intro z14
      split
      · with_reducible refine incO_sound ?_
        with_reducible assumption
      · with_reducible assumption
    · with_reducible assumption
  clear_value v8
  clear_value v9
  have q15 : Sound v10 := by
    subst v10
    with_reducible refine modCtx_sound ?_
    with_reducible assumption
  clear_value v10
  with_reducible assumption

theorem flushMinMax_sound {s : State} (hs : Sound s) :
    Sound (flushMinMax s) := by
  unfold flushMinMax
  extract_lets v0 v1 v2 v3 v4
  clear_value v1
  clear_value v2
  clear_value v3
  have q5 : Sound v4 := by
    subst v4
    with_reducible refine noteRecords_sound ?_
    with_reducible refine putRecord_sound ?_
    with_reducible assumption
  clear_value v4
  split
  · with_reducible assumption
  · with_reducible refine modCtx_sound ?_
    with_reducible assumption

theorem execTimeRecord_sound {a0 : Nat} {s : State} (hs : Sound s) :
    OutSound (execTimeRecord a0 s) := by
  unfold execTimeRecord
  extract_lets v0 v1 v2
  have q3 : Sound v1 := by
    subst v1
    with_reducible refine putRecord_sound ?_
    with_reducible assumption
  clear_value v1
  refine next_sound ?_
  split
  · with_reducible refine setSeg_sound ?_
    with_reducible assumption
  · with_reducible assumption

theorem addSample_sound {a0 : Nat} {a1 : Nat} {a2 : Nat} {a3 : List Nat} {s : State} (hs : Sound s) :
    Sound (addSample a0 a1 a2 a3 s) := by
  unfold addSample
  extract_lets v0 v1 v2 v3
  clear_value v0
  have q4 : Sound v3 := by
    subst v3
    with_reducible refine mk_sound ?_ rfl rfl rfl rfl rfl
    with_reducible assumption
  clear_value v3
  split
  · with_reducible refine flushExt_sound ?_
    with_reducible assumption
  · with_reducible assumption

theorem reduceCycle_sound {a0 : Nat} {s : State} (hs : Sound s) :
    Sound (reduceCycle a0 s) := by
  unfold reduceCycle
  split
  · with_reducible assumption
  · extract_lets v0 v1
    clear_value v0
    have q2 : Sound v1 := by
      subst v1
      split
      · with_reducible refine modCtx_sound ?_
        with_reducible assumption
      · with_reducible assumption
    clear_value v1
    split
    · with_reducible refine flushMinMax_sound ?_
      with_reducible assumption
    · with_reducible assumption

theorem disarmNow_sound {s : State} (hs : Sound s) :
    Sound (disarmNow s) := by
  unfold disarmNow
  split
  · with_reducible refine mk_sound ?_ rfl rfl rfl rfl rfl
    with_reducible assumption
  · extract_lets v0 v1 v2 v3 v4 v5 v6 v7
    have q8 : Sound v0 := by
      subst v0
      with_reducible refine flushMinMax_sound ?_
      with_reducible refine flushExt_sound ?_
      with_reducible assumption
    clear_value v0
    have q9 : Sound v1 := by
      subst v1
      split
      · with_reducible refine closeSegment_sound ?_
        with_reducible assumption
      · with_reducible assumption
    clear_value v1
    have q10 : Sound v3 := by
      subst v3
      subst v2
      beta_reduce
      split
      · with_reducible refine padSegment_sound ?_
        with_reducible refine setSeg_sound ?_
        with_reducible assumption
      · with_reducible assumption
    clear_value v3
    have q11 : Sound v4 := by
      subst v4
      subst v2
      beta_reduce
      split
      · with_reducible refine padSegment_sound ?_
        with_reducible refine setSeg_sound ?_
        with_reducible assumption
      · with_reducible assumption
    clear_value v4
    with_reducible refine mk_sound ?_ rfl rfl rfl rfl rfl
    with_reducible assumption

theorem armNow_sound {a0 : Nat} {s : State} (hs : Sound s) :
    Sound (armNow a0 s).2 := by
  unfold armNow
  split
  · with_reducible assumption
  · extract_lets v0 v1 v2 v3 v4 v5
    have q6 : Sound v0 := by
      subst v0
      refine foldl_sound ?_ ?_
      · intro z7
        intro z8
        intro z9
        with_reducible refine clearSegment_sound ?_
        with_reducible assumption
      · with_reducible assumption
    clear_value v0
    clear_value v1
    have q10 : Sound v2 := by
      subst v2
      refine foldl_sound ?_ ?_
      · intro z11
        intro z12
        intro z13
        with_reducible refine beginSegment_sound ?_
        with_reducible assumption
      · with_reducible assumption
    clear_value v2
    clear_value v3
    dsimp -zeta only
    with_reducible refine mk_sound ?_ rfl rfl rfl rfl rfl
    with_reducible assumption

theorem timeMapRecords_sound {a0 : Nat} {s : State} (hs : Sound s) :
    Sound (timeMapRecords a0 s) := by
  unfold timeMapRecords
  extract_lets v0 v1 v2 v3 v4
  clear_value v0
  split
  · with_reducible assumption
  · split
    · with_reducible assumption
    · extract_lets v5 v6 v7 v8
      have q9 : Sound v5 := by
        subst v5
        refine foldl_sound ?_ ?_
        · intro z10
          intro z11
          intro z12
          extract_lets v13 v14
          have q15 : Sound v13 := by
            subst v13
            with_reducible refine putRecord_sound ?_
            with_reducible assumption
          clear_value v13
          with_reducible refine setSeg_sound ?_
          with_reducible assumption
        · with_reducible assumption
      clear_value v5
      with_reducible refine mk_sound ?_ rfl rfl rfl rfl rfl
      with_reducible assumption

theorem execDisarm_sound {a0 : Req} {s : State} (hs : Sound s) :
    OutSound (execDisarm a0 s) := by
  unfold execDisarm
  refine next_sound ?_
  with_reducible refine serveWrite_sound ?_ ?_
  · intro z0
    intro z1
    intro z2
    split
    · with_reducible assumption
    · split
      · dsimp -zeta only
        with_reducible refine mk_sound ?_ rfl rfl rfl rfl rfl
        with_reducible assumption
      · dsimp -zeta only
        with_reducible refine disarmNow_sound ?_
        with_reducible assumption
  · with_reducible assumption

theorem lanternCommit_sound {a0 : Nat} {s : State} (hs : Sound s) :
    Sound (lanternCommit a0 s) := by
  unfold lanternCommit
  extract_lets v0 v1 v2 v3 v4 v5 v6 v7 v8 v9 v10 v11 v12 v13 v14 v15 v16 v17 v18 v19
  have q20 : Sound v1 := by
    subst v1
    with_reducible refine timeMapRecords_sound ?_
    with_reducible refine flushExt_sound ?_
    with_reducible assumption
  clear_value v1
  clear_value v3
  have q21 : Sound v4 := by
    subst v4
    split
    · subst v2
      beta_reduce
      split
      · with_reducible assumption
      · extract_lets v22 v23
        have q24 : Sound v22 := by
          subst v22
          split
          · with_reducible refine putRecord_sound ?_
            with_reducible assumption
          · with_reducible assumption
        clear_value v22
        with_reducible refine mk_sound ?_ rfl rfl rfl rfl rfl
        with_reducible assumption
    · split
      extract_lets v25 v26 v27 v28 v29 v30 v31 v32 v33 v34 v35
      clear_value v25
      clear_value v26
      have q36 : Sound v27 := by
        subst v27
        with_reducible refine reduceCycle_sound ?_
        refine sound_of_eq (by with_reducible assumption) ?_
        with_reducible refine lanDecide_sound ?_
        with_reducible assumption
      clear_value v27
      have q37 : Sound v28 := by
        subst v28
        split
        · with_reducible refine storeCycle_sound ?_
          with_reducible assumption
        · with_reducible assumption
      clear_value v28
      clear_value v29
      have q38 : Sound v30 := by
        subst v30
        split
        · with_reducible refine incO_sound ?_
          with_reducible assumption
        · with_reducible assumption
      clear_value v30
      have q39 : Sound v31 := by
        subst v31
        split
        · with_reducible refine trigger_sound ?_
          with_reducible assumption
        · with_reducible assumption
      clear_value v31
      have q40 : Sound v32 := by
        subst v32
        with_reducible refine branchActions_sound ?_
        with_reducible assumption
      clear_value v32
      have q41 : Sound v33 := by
        subst v33
        subst v2
        beta_reduce
        split
        · with_reducible assumption
        · extract_lets v42 v43
          have q44 : Sound v42 := by
            subst v42
            split
            · with_reducible refine putRecord_sound ?_
              with_reducible assumption
            · with_reducible assumption
          clear_value v42
          with_reducible refine mk_sound ?_ rfl rfl rfl rfl rfl
          with_reducible assumption
      clear_value v33
      have q45 : Sound v34 := by
        subst v34
        with_reducible refine acqAdvance_sound ?_
        with_reducible assumption
      clear_value v34
      with_reducible refine mk_sound ?_ rfl rfl rfl rfl rfl
      with_reducible assumption
  clear_value v4
  have q46 : Sound v5 := by
    subst v5
    split
    · with_reducible refine disarmNow_sound ?_
      with_reducible assumption
    · with_reducible assumption
  clear_value v5
  with_reducible refine mk_sound ?_ rfl rfl rfl rfl rfl
  with_reducible assumption

theorem execArm_sound {a0 : Req} {s : State} (hs : Sound s) :
    OutSound (execArm a0 s) := by
  unfold execArm
  refine next_sound ?_
  with_reducible refine serveWrite_sound ?_ ?_
  · intro z0
    intro z1
    intro z2
    with_reducible refine armNow_sound ?_
    with_reducible assumption
  · with_reducible assumption

theorem lanternImage_sound {a0 : Bool} {s : State} (hs : Sound s) :
    Sound (lanternImage a0 s) := by
  unfold lanternImage
  extract_lets v0 v1
  have q2 : Sound v0 := by
    subst v0
    with_reducible refine setO_sound ?_
    with_reducible refine disarmNow_sound ?_
    with_reducible assumption
  clear_value v0
  with_reducible refine mk_sound ?_ rfl rfl rfl rfl rfl
  with_reducible assumption

theorem analyzerSample_sound {a0 : List Nat} {a1 : Nat} {s : State} (hs : Sound s) :
    Sound (analyzerSample a0 a1 s) := by
  unfold analyzerSample
  extract_lets v0 v1 v2 v3 v4 v5 v6 v7 v8 v9 v10 v11 v12 v13
  clear_value v0
  have q14 : Sound v3 := by
    subst v3
    with_reducible refine mk_sound ?_ rfl rfl rfl rfl rfl
    with_reducible assumption
  clear_value v3
  clear_value v4
  split
  · with_reducible assumption
  · split
    extract_lets v15 v16 v17 v18 v19 v20 v21 v22 v23
    clear_value v15
    have q24 : Sound v16 := by
      subst v16
      split
      · with_reducible refine modCtx_sound ?_
        with_reducible refine addSample_sound ?_
        refine sound_of_eq (by with_reducible assumption) ?_
        with_reducible refine lanDecide_sound ?_
        with_reducible assumption
      · refine sound_of_eq (by with_reducible assumption) ?_
        with_reducible refine lanDecide_sound ?_
        with_reducible assumption
    clear_value v16
    clear_value v17
    have q25 : Sound v18 := by
      subst v18
      split
      · with_reducible refine flushExt_sound ?_
        with_reducible assumption
      · with_reducible assumption
    clear_value v18
    have q26 : Sound v19 := by
      subst v19
      split
      · with_reducible refine incO_sound ?_
        with_reducible assumption
      · with_reducible assumption
    clear_value v19
    have q27 : Sound v20 := by
      subst v20
      split
      · with_reducible refine trigger_sound ?_
        with_reducible assumption
      · with_reducible assumption
    clear_value v20
    have q28 : Sound v21 := by
      subst v21
      with_reducible refine branchActions_sound ?_
      with_reducible assumption
    clear_value v21
    have q29 : Sound v22 := by
      subst v22
      with_reducible refine acqAdvance_sound ?_
      with_reducible assumption
    clear_value v22
    with_reducible refine mk_sound ?_ rfl rfl rfl rfl rfl
    with_reducible assumption

theorem runSample_sound {a0 : List Nat} {a1 : Nat} {s : State} (hs : Sound s) :
    Sound (runSample a0 a1 s) := by
  unfold runSample
  extract_lets v0 v1 v2 v3 v4 v5
  clear_value v0
  clear_value v1
  clear_value v2
  clear_value v3
  have q6 : Sound v5 := by
    subst v5
    with_reducible refine mk_sound ?_ rfl rfl rfl rfl rfl
    with_reducible assumption
  clear_value v5
  split
  · with_reducible assumption
  · with_reducible refine addSample_sound ?_
    with_reducible assumption

theorem execExtSample_sound {a0 : List Nat} {a1 : Nat} {s : State} (hs : Sound s) :
    OutSound (execExtSample a0 a1 s) := by
  unfold execExtSample
  extract_lets v0
  clear_value v0
  refine next_sound ?_
  split
  · with_reducible assumption
  · split
    · with_reducible refine analyzerSample_sound ?_
      with_reducible assumption
    · split
      · with_reducible refine runSample_sound ?_
        with_reducible assumption
      · with_reducible assumption

end Sys2Proof.Machine
end

