-- ==== Sys2Proof/Laws/SoundRewind.lean ====
section
/-! SUPPORT. What Machine/Rewind.lean does keeps a sound state sound. -/

namespace Sys2Proof.Machine

theorem execStimulusRecordAccepted_sound {s : State} (hs : Sound s) :
    OutSound (execStimulusRecordAccepted s) := by
  unfold execStimulusRecordAccepted
  refine next_sound ?_
  with_reducible refine mk_sound ?_ rfl rfl rfl rfl rfl
  with_reducible assumption

theorem degrade_sound {a0 : Nat} {s : State} (hs : Sound s) :
    Sound (degrade a0 s) := by
  unfold degrade
  with_reducible refine mk_sound ?_ rfl rfl rfl rfl rfl
  with_reducible assumption

theorem guardToCkpt_sound {a0 : Nat} {a1 : Nat × Nat} {s : State} (hs : Sound s) :
    Sound (guardToCkpt a0 a1 s) := by
  unfold guardToCkpt
  with_reducible refine mk_sound ?_ rfl rfl rfl rfl rfl
  with_reducible assumption

theorem upsetDict_sound {a0 : Nat} {a1 : Nat} {a2 : Nat} {a3 : Nat} {s : State} (hs : Sound s) :
    Sound (upsetDict a0 a1 a2 a3 s) := by
  unfold upsetDict
  split
  · with_reducible assumption
  · with_reducible refine mk_sound ?_ rfl rfl rfl rfl rfl
    with_reducible assumption

theorem discardAfter_sound {a0 : Nat} {s : State} (hs : Sound s) :
    Sound (discardAfter a0 s) := by
  unfold discardAfter
  extract_lets v0 v1 v2
  clear_value v0
  clear_value v1
  with_reducible refine mk_sound ?_ rfl rfl rfl rfl rfl
  with_reducible assumption

theorem applyPre_sound {a0 : Ckpt} {s : State} (hs : Sound s) :
    Sound (applyPre a0 s) := by
  unfold applyPre
  refine foldl_sound ?_ ?_
  · intro z0
    intro z1
    intro z2
    refine foldl_sound ?_ ?_
    · intro z3
      intro z4
      intro z5
      split
      · with_reducible refine setFar_sound ?_
        with_reducible assumption
      · with_reducible refine setBank_sound ?_
        with_reducible assumption
    · with_reducible assumption
  · with_reducible assumption

theorem flipCell_sound {a0 : Nat} {a1 : List Nat} {s : State} (hs : Sound s) :
    Sound (flipCell a0 a1 s) := by
  unfold flipCell
  with_reducible refine mk_sound ?_ rfl rfl rfl rfl rfl
  with_reducible assumption

theorem rewindRecords_sound {a0 : Nat} {a1 : Nat} {s : State} (hs : Sound s) :
    Sound (rewindRecords a0 a1 s) := by
  unfold rewindRecords
  extract_lets v0 v1 v2 v3
  clear_value v0
  have q4 : Sound v2 := by
    subst v2
    with_reducible refine mk_sound ?_ rfl rfl rfl rfl rfl
    with_reducible assumption
  clear_value v2
  have q5 : Sound v3 := by
    subst v3
    refine foldl_sound ?_ ?_
    · intro z6
      intro z7
      intro z8
      with_reducible refine putRecord_sound ?_
      with_reducible refine reopenBlock_sound ?_
      with_reducible assumption
    · with_reducible assumption
  clear_value v3
  with_reducible refine modCtx_sound ?_
  with_reducible assumption

theorem modRec_sound {a0 : Nat} {a1 : LogRec → LogRec} {s : State} (hs : Sound s) :
    Sound (modRec a0 a1 s) := by
  unfold modRec
  split
  · with_reducible assumption
  · split
    · with_reducible refine mk_sound ?_ rfl rfl rfl rfl rfl
      with_reducible assumption
    · with_reducible refine mk_sound ?_ rfl rfl rfl rfl rfl
      with_reducible assumption

theorem substitute_sound {a0 : Nat} {a1 : Nat} {s : State} (hs : Sound s) :
    Sound (substitute a0 a1 s) := by
  unfold substitute
  extract_lets v0 v1 v2 v3 v4 v5 v6 v7 v8 v9 v10
  clear_value v0
  clear_value v1
  have q11 : Sound v2 := by
    subst v2
    with_reducible refine countDictReads_sound ?_
    with_reducible refine countDictReads_sound ?_
    with_reducible assumption
  clear_value v2
  have q12 : Sound v8 := by
    subst v8
    with_reducible refine mk_sound ?_ rfl rfl rfl rfl rfl
    with_reducible assumption
  clear_value v8
  have q13 : Sound v10 := by
    subst v10
    with_reducible refine mk_sound ?_ rfl rfl rfl rfl rfl
    with_reducible assumption
  clear_value v10
  with_reducible refine raise_sound ?_
  with_reducible assumption

theorem execCheckpointCommand_sound {a0 : Req} {s : State} (hs : Sound s) :
    OutSound (execCheckpointCommand a0 s) := by
  unfold execCheckpointCommand
  refine next_sound ?_
  with_reducible refine serveWrite_sound ?_ ?_
  · intro z0
    intro z1
    intro z2
    extract_lets v3 v4 v5
    clear_value v3
    clear_value v4
    split
    · with_reducible assumption
    · dsimp -zeta only
      with_reducible refine mk_sound ?_ rfl rfl rfl rfl rfl
      with_reducible assumption
  · with_reducible assumption

theorem withdraw_sound {a0 : Ckpt → Bool} {a1 : Nat} {s : State} (hs : Sound s) :
    Sound (withdraw a0 a1 s) := by
  unfold withdraw
  extract_lets v0 v1 v2
  clear_value v0
  have q3 : Sound v2 := by
    subst v2
    with_reducible refine mk_sound ?_ rfl rfl rfl rfl rfl
    with_reducible assumption
  clear_value v2
  split
  · with_reducible assumption
  · split
    · with_reducible refine raise_sound ?_
      with_reducible assumption
    · with_reducible assumption

theorem withdrawAll_sound {a0 : Nat} {s : State} (hs : Sound s) :
    Sound (withdrawAll a0 s) := by
  unfold withdrawAll
  with_reducible refine withdraw_sound ?_
  with_reducible assumption

theorem upsetLbs_sound {a0 : Nat} {a1 : Nat} {a2 : Nat} {s : State} (hs : Sound s) :
    Sound (upsetLbs a0 a1 a2 s) := by
  unfold upsetLbs
  extract_lets v0 v1 v2
  clear_value v1
  with_reducible refine setLane_sound ?_
  with_reducible assumption

theorem settleContext_sound {a0 : Nat} {s : State} (hs : Sound s) :
    Sound (settleContext a0 s) := by
  unfold settleContext
  with_reducible refine mk_sound ?_ rfl rfl rfl rfl rfl
  with_reducible assumption

theorem failGroups_sound {a0 : Nat} {a1 : Nat} {a2 : Nat} {s : State} (hs : Sound s) :
    Sound (failGroups a0 a1 a2 s) := by
  unfold failGroups
  refine foldl_sound ?_ ?_
  · intro z0
    intro z1
    intro z2
    with_reducible refine lbsFailure_sound ?_
    with_reducible assumption
  · with_reducible assumption

theorem closeRecord_sound {a0 : Nat} {s : State} (hs : Sound s) :
    Sound (closeRecord a0 s) := by
  unfold closeRecord
  with_reducible refine modRec_sound ?_
  with_reducible assumption

theorem withdrawOlder_sound {a0 : Nat} {s : State} (hs : Sound s) :
    Sound (withdrawOlder a0 s) := by
  unfold withdrawOlder
  split
  · with_reducible assumption
  · with_reducible refine withdraw_sound ?_
    with_reducible assumption

theorem discardKept_sound {s : State} (hs : Sound s) :
    Sound (discardKept s) := by
  unfold discardKept
  with_reducible refine discardAfter_sound ?_
  with_reducible assumption

theorem linkRestart_sound {s : State} (hs : Sound s) :
    Sound (linkRestart s) := by
  unfold linkRestart
  extract_lets v0 v1
  have q2 : Sound v0 := by
    subst v0
    with_reducible refine newWindow_sound ?_
    with_reducible refine dropTx_sound ?_
    with_reducible assumption
  clear_value v0
  with_reducible refine mk_sound ?_ rfl rfl rfl rfl rfl
  with_reducible assumption

theorem trimLog_sound {a0 : Nat} {s : State} (hs : Sound s) :
    Sound (trimLog a0 s) := by
  induction' a0 with n ih generalizing s
  · unfold trimLog
    with_reducible assumption
  · unfold trimLog
    split
    · split
      · extract_lets v0 v1
        have q2 : Sound v0 := by
          subst v0
          with_reducible refine withdraw_sound ?_
          with_reducible assumption
        clear_value v0
        with_reducible apply ih
        with_reducible refine mk_sound ?_ rfl rfl rfl rfl rfl
        with_reducible assumption
      · with_reducible assumption
    · with_reducible assumption

theorem upsetBank_sound {a0 : Nat} {a1 : Nat} {s : State} (hs : Sound s) :
    Sound (upsetBank a0 a1 s) := by
  unfold upsetBank
  extract_lets v0 v1 v2
  split
  · subst v0
    beta_reduce
    with_reducible refine mk_sound ?_ rfl rfl rfl rfl rfl
    with_reducible assumption
  · split
    subst v0
    beta_reduce
    with_reducible refine mk_sound ?_ rfl rfl rfl rfl rfl
    with_reducible refine mk_sound ?_ rfl rfl rfl rfl rfl
    refine sound_of_eq (by with_reducible assumption) ?_
    with_reducible refine takeNat_sound ?_
    with_reducible assumption

theorem restoreCtx_sound {a0 : Bool} {a1 : Ckpt} {s : State} (hs : Sound s) :
    Sound (restoreCtx a0 a1 s) := by
  unfold restoreCtx
  split
  · with_reducible refine modCtx_sound ?_
    with_reducible assumption
  · with_reducible refine modCtx_sound ?_
    with_reducible refine disarmNow_sound ?_
    with_reducible assumption

theorem reportFailed_sound {a0 : Nat} {a1 : Nat} {a2 : Nat} {a3 : Nat} {s : State} (hs : Sound s) :
    Sound (reportFailed a0 a1 a2 a3 s) := by
  unfold reportFailed
  extract_lets v0 v1 v2 v3 v4 v5 v6
  have q7 : Sound v0 := by
    subst v0
    with_reducible refine setO_sound ?_
    with_reducible assumption
  clear_value v0
  have q8 : Sound v1 := by
    subst v1
    with_reducible refine setO_sound ?_
    with_reducible assumption
  clear_value v1
  have q9 : Sound v2 := by
    subst v2
    with_reducible refine setO_sound ?_
    with_reducible assumption
  clear_value v2
  have q10 : Sound v3 := by
    subst v3
    with_reducible refine setO_sound ?_
    with_reducible assumption
  clear_value v3
  have q11 : Sound v4 := by
    subst v4
    with_reducible refine setO_sound ?_
    with_reducible assumption
  clear_value v4
  clear_value v5
  have q12 : Sound v6 := by
    subst v6
    with_reducible refine setO_sound ?_
    with_reducible assumption
  clear_value v6
  with_reducible refine raise_sound ?_
  with_reducible assumption

theorem finishDrain_sound {a0 : Nat} {s : State} (hs : Sound s) :
    Sound (finishDrain a0 s) := by
  unfold finishDrain
  split
  · with_reducible assumption
  · extract_lets v0 v1 v2 v3 v4 v5
    clear_value v0
    have q6 : Sound v1 := by
      subst v1
      with_reducible refine setO_sound ?_
      with_reducible assumption
    clear_value v1
    clear_value v2
    have q7 : Sound v4 := by
      subst v4
      with_reducible refine withdraw_sound ?_
      with_reducible assumption
    clear_value v4
    have q8 : Sound v5 := by
      subst v5
      refine foldl_sound ?_ ?_
      · intro z9
        intro z10
        intro z11
        with_reducible refine failGroups_sound ?_
        with_reducible assumption
      · with_reducible assumption
    clear_value v5
    split
    · with_reducible refine mk_sound ?_ rfl rfl rfl rfl rfl
      with_reducible assumption
    · with_reducible refine mapLanes_sound ?_
      with_reducible assumption

theorem placeUpset_sound {s : State} {a1 : Upset} (hs : Sound s) :
    Sound (placeUpset s a1) := by
  unfold placeUpset
  split
  · with_reducible refine mk_sound ?_ rfl rfl rfl rfl rfl
    with_reducible assumption
  · with_reducible refine upsetLbs_sound ?_
    with_reducible assumption
  · with_reducible refine upsetDict_sound ?_
    with_reducible assumption
  · with_reducible refine mk_sound ?_ rfl rfl rfl rfl rfl
    with_reducible assumption
  · with_reducible refine upsetBank_sound ?_
    with_reducible assumption
  · with_reducible refine mk_sound ?_ rfl rfl rfl rfl rfl
    with_reducible assumption
  · split
    · with_reducible assumption
    · with_reducible refine flipCell_sound ?_
      with_reducible assumption

theorem openRecord_sound {a0 : Nat} {a1 : Bool} {a2 : Bool} {s : State} (hs : Sound s) :
    Sound (openRecord a0 a1 a2 s) := by
  unfold openRecord
  with_reducible refine trimLog_sound ?_
  with_reducible refine modRec_sound ?_
  with_reducible assumption

theorem restoreTo_sound {a0 : Ckpt} {a1 : Bool} {a2 : Bool} {s : State} (hs : Sound s) :
    Sound (restoreTo a0 a1 a2 s) := by
  unfold restoreTo
  extract_lets v0 v1 v2 v3 v4 v5 v6 v7 v8 v9 v10 v11 v12 v13 v14 v15 v16 v17 v18 v19
  clear_value v0
  have q20 : Sound v1 := by
    subst v1
    split
    · refine foldl_sound ?_ ?_
      · intro z21
        intro z22
        intro z23
        with_reducible refine applyPre_sound ?_
        with_reducible assumption
      · with_reducible assumption
    · with_reducible assumption
  clear_value v1
  have q24 : Sound v2 := by
    subst v2
    with_reducible refine loadPlanes_sound ?_
    with_reducible assumption
  clear_value v2
  have q25 : Sound v4 := by
    subst v4
    with_reducible refine mk_sound ?_ rfl rfl rfl rfl rfl
    with_reducible assumption
  clear_value v4
  have q26 : Sound v5 := by
    subst v5
    with_reducible refine restoreCtx_sound ?_
    with_reducible assumption
  clear_value v5
  have q27 : Sound v6 := by
    subst v6
    with_reducible refine linkRestart_sound ?_
    with_reducible refine clearSweep_sound ?_
    with_reducible assumption
  clear_value v6
  have q28 : Sound v9 := by
    subst v9
    with_reducible refine mk_sound ?_ rfl rfl rfl rfl rfl
    with_reducible assumption
  clear_value v9
  have q29 : Sound v12 := by
    subst v12
    split
    · with_reducible refine mk_sound ?_ rfl rfl rfl rfl rfl
      with_reducible assumption
    · with_reducible assumption
  clear_value v12
  have q30 : Sound v14 := by
    subst v14
    with_reducible refine mk_sound ?_ rfl rfl rfl rfl rfl
    with_reducible assumption
  clear_value v14
  have q31 : Sound v15 := by
    subst v15
    refine foldl_sound ?_ ?_
    · intro z32
      intro z33
      intro z34
      refine foldl_sound ?_ ?_
      · intro z35
        intro z36
        intro z37
        extract_lets v38 v39
        clear_value v38
        with_reducible refine setLane_sound ?_
        with_reducible assumption
      · with_reducible assumption
    · with_reducible assumption
  clear_value v15
  have q40 : Sound v17 := by
    subst v17
    with_reducible refine uncopyAll_sound ?_
    with_reducible refine withdraw_sound ?_
    with_reducible refine mk_sound ?_ rfl rfl rfl rfl rfl
    with_reducible assumption
  clear_value v17
  split
  · with_reducible refine modNewest_sound ?_
    with_reducible assumption
  · with_reducible assumption

theorem parkRestore_sound {s : State} (hs : Sound s) :
    Sound (parkRestore s) := by
  unfold parkRestore
  split
  · with_reducible assumption
  · extract_lets v0 v1
    have q2 : Sound v1 := by
      subst v1
      with_reducible refine finishDrain_sound ?_
      with_reducible refine mk_sound ?_ rfl rfl rfl rfl rfl
      with_reducible assumption
    clear_value v1
    split
    · with_reducible refine restoreTo_sound ?_
      with_reducible assumption
    · with_reducible assumption

theorem startReplay_sound {a0 : Ckpt} {a1 : Replay} {a2 : Bool} {s : State} (hs : Sound s) :
    Sound (startReplay a0 a1 a2 s) := by
  unfold startReplay
  extract_lets v0 v1 v2 v3 v4
  clear_value v0
  have q5 : Sound v1 := by
    subst v1
    with_reducible refine restoreTo_sound ?_
    with_reducible assumption
  clear_value v1
  have q6 : Sound v4 := by
    subst v4
    with_reducible refine mk_sound ?_ rfl rfl rfl rfl rfl
    with_reducible assumption
  clear_value v4
  split
  · with_reducible refine rewindRecords_sound ?_
    with_reducible assumption
  · with_reducible assumption

theorem recoveryFailed_sound {a0 : Nat} {a1 : Nat} {a2 : Nat} {a3 : Nat} {s : State} (hs : Sound s) :
    Sound (recoveryFailed a0 a1 a2 a3 s) := by
  unfold recoveryFailed
  extract_lets v0
  have q1 : Sound v0 := by
    subst v0
    split
    · with_reducible refine degrade_sound ?_
      with_reducible assumption
    · with_reducible assumption
  clear_value v0
  with_reducible refine reportFailed_sound ?_
  split
  · with_reducible refine substitute_sound ?_
    with_reducible assumption
  · with_reducible assumption

theorem snapshot_sound {a0 : Bool} {a1 : Nat} {a2 : Nat} {s : State} (hs : Sound s) :
    Sound (snapshot a0 a1 a2 s) := by
  unfold snapshot
  extract_lets v0 v1 v2 v3 v4 v5 v6 v7 v8
  clear_value v0
  have q9 : Sound v1 := by
    subst v1
    refine foldl_sound ?_ ?_
    · intro z10
      intro z11
      intro z12
      with_reducible refine failGroups_sound ?_
      with_reducible assumption
    · with_reducible assumption
  clear_value v1
  have q13 : Sound v2 := by
    subst v2
    with_reducible refine mapLanes_sound ?_
    with_reducible assumption
  clear_value v2
  clear_value v5
  clear_value v6
  have q14 : Sound v8 := by
    subst v8
    with_reducible refine mk_sound ?_ rfl rfl rfl rfl rfl
    with_reducible assumption
  clear_value v8
  with_reducible refine freeRing_sound ?_
  split
  · with_reducible refine freeRing_sound ?_
    with_reducible assumption
  · with_reducible assumption

theorem checkpointNow_sound {a0 : Nat} {s : State} (hs : Sound s) :
    Sound (checkpointNow a0 s) := by
  unfold checkpointNow
  split
  · with_reducible assumption
  · extract_lets v0
    have q1 : Sound v0 := by
      subst v0
      with_reducible refine finishDrain_sound ?_
      with_reducible assumption
    clear_value v0
    with_reducible refine uncopyAll_sound ?_
    with_reducible refine snapshot_sound ?_
    with_reducible refine discardKept_sound ?_
    with_reducible assumption

theorem placeUpsets_sound {a0 : List Upset} {s : State} (hs : Sound s) :
    Sound (placeUpsets a0 s) := by
  unfold placeUpsets
  refine foldl_sound ?_ ?_
  · intro z0
    intro z1
    intro z2
    with_reducible refine placeUpset_sound ?_
    with_reducible assumption
  · with_reducible assumption

theorem execDeferredSnapshot_sound {s : State} (hs : Sound s) :
    OutSound (execDeferredSnapshot s) := by
  unfold execDeferredSnapshot
  refine next_sound ?_
  split
  · extract_lets v0 v1
    have q2 : Sound v0 := by
      subst v0
      with_reducible refine snapshot_sound ?_
      with_reducible assumption
    clear_value v0
    with_reducible refine mk_sound ?_ rfl rfl rfl rfl rfl
    with_reducible assumption
  · with_reducible assumption

theorem execDrainComplete_sound {a0 : List Upset} {a1 : Nat} {s : State} (hs : Sound s) :
    OutSound (execDrainComplete a0 a1 s) := by
  unfold execDrainComplete
  refine next_sound ?_
  with_reducible refine finishDrain_sound ?_
  with_reducible refine placeUpsets_sound ?_
  with_reducible assumption

theorem checkpointFresh_sound {a0 : Nat} {a1 : Nat} {s : State} (hs : Sound s) :
    Sound (checkpointFresh a0 a1 s) := by
  unfold checkpointFresh
  split
  · with_reducible assumption
  · with_reducible refine withdrawOlder_sound ?_
    with_reducible refine checkpointNow_sound ?_
    with_reducible assumption

end Sys2Proof.Machine
end

