-- ==== Sys2Proof/Laws/SoundLanes.lean ====
section
/-! SUPPORT. What Machine/Lanes.lean does keeps a sound state sound. -/

namespace Sys2Proof.Machine

theorem takeSlot_sound {a0 : Nat} {a1 : Nat} {a2 : Bool} {a3 : Bool} {a4 : LaneOut} {s : State} (hs : Sound s) :
    Sound (takeSlot a0 a1 a2 a3 a4 s).2 := by
  unfold takeSlot
  extract_lets v0 v1 v2 v3 v4
  clear_value v0
  clear_value v2
  split
  · dsimp -zeta only
    with_reducible refine ruleCount_sound ?_
    with_reducible assumption
  · split
    · split
      · dsimp -zeta only
        with_reducible refine mk_sound ?_ rfl rfl rfl rfl rfl
        with_reducible assumption
      · dsimp -zeta only
        with_reducible refine ruleCount_sound ?_
        with_reducible refine mk_sound ?_ rfl rfl rfl rfl rfl
        with_reducible assumption
    · with_reducible assumption

theorem imWriteBack_sound {s : State} (hs : Sound s) :
    Sound (imWriteBack s) := by
  unfold imWriteBack
  with_reducible refine mk_sound ?_ rfl rfl rfl rfl rfl
  with_reducible assumption

theorem lanesC0_sound {s : State} (hs : Sound s) :
    Sound (lanesC0 s) := by
  unfold lanesC0
  extract_lets v0 v1 v2
  have q3 : Sound v0 := by
    subst v0
    refine foldl_sound ?_ ?_
    · intro z4
      intro z5
      intro z6
      with_reducible refine applyWrite_sound ?_
      with_reducible assumption
    · with_reducible assumption
  clear_value v0
  have q7 : Sound v1 := by
    subst v1
    with_reducible refine mapLanes_sound ?_
    with_reducible assumption
  clear_value v1
  with_reducible refine mk_sound ?_ rfl rfl rfl rfl rfl
  with_reducible assumption

theorem checkOperand_sound {a0 : Nat} {a1 : LaneRec} {a2 : Nat} {s : State} (hs : Sound s) :
    Sound (checkOperand a0 a1 a2 s) := by
  unfold checkOperand
  split
  · split
    · with_reducible refine lbsFailure_sound ?_
      with_reducible assumption
    · with_reducible assumption
  · split
    · split
      · with_reducible refine lbsFailure_sound ?_
        with_reducible assumption
      · with_reducible assumption
    · with_reducible assumption

theorem applyDeposit_sound {s : State} {a1 : Deposit} (hs : Sound s) :
    Sound (applyDeposit s a1) := by
  unfold applyDeposit
  split
  · with_reducible refine setLane_sound ?_
    with_reducible assumption
  · with_reducible assumption

theorem fetchEntry_sound {a0 : Nat} {a1 : Nat} {s : State} (hs : Sound s) :
    Sound (fetchEntry a0 a1 s).2 := by
  unfold fetchEntry
  extract_lets v0
  clear_value v0
  split
  · with_reducible assumption
  · split
    · with_reducible assumption
    · dsimp -zeta only
      with_reducible refine incO_sound ?_
      with_reducible assumption
    · dsimp -zeta only
      with_reducible refine dictFailure_sound ?_
      with_reducible assumption

theorem patchPark_sound {a0 : Nat} {a1 : Nat} {a2 : Bool} {s : State} (hs : Sound s) :
    Sound (patchPark a0 a1 a2 s) := by
  unfold patchPark
  split
  · extract_lets v0
    have q1 : Sound v0 := by
      subst v0
      with_reducible refine finishDrain_sound ?_
      with_reducible assumption
    clear_value v0
    split
    · split
      · with_reducible refine modLast_sound ?_
        with_reducible assumption
      · with_reducible assumption
    · with_reducible assumption
  · with_reducible assumption

theorem writeLbs_sound {a0 : Nat} {a1 : List (Nat × Bool)} {a2 : Bool} {s : State} (hs : Sound s) :
    Sound (writeLbs a0 a1 a2 s).2 := by
  unfold writeLbs
  extract_lets v0 v1 v2 v3 v4
  clear_value v0
  clear_value v1
  split
  · with_reducible assumption
  · split
    · with_reducible assumption
    · extract_lets v5 v6 v7
      have q8 : Sound v7 := by
        subst v7
        with_reducible refine setLane_sound ?_
        with_reducible assumption
      clear_value v7
      dsimp -zeta only
      refine foldl_sound ?_ ?_
      · intro z9
        intro z10
        intro z11
        split
        · with_reducible refine patchPark_sound ?_
          with_reducible assumption
        · with_reducible assumption
      · with_reducible assumption

theorem countSharing_sound {a0 : List (Nat × Bool)} {s : State} (hs : Sound s) :
    Sound (countSharing a0 s) := by
  unfold countSharing
  extract_lets v0
  clear_value v0
  with_reducible refine ruleCount_sound ?_
  with_reducible assumption

theorem writeIm_sound {a0 : Nat} {a1 : List Octet} {s : State} (hs : Sound s) :
    Sound (writeIm a0 a1 s).2 := by
  unfold writeIm
  extract_lets v0 v1 v2 v3 v4 v5
  clear_value v0
  clear_value v1
  split
  · with_reducible assumption
  · split
    · with_reducible assumption
    · extract_lets v6 v7 v8 v9
      have q10 : Sound v6 := by
        subst v6
        refine foldl_sound ?_ ?_
        · intro z11
          intro z12
          intro z13
          extract_lets v14 v15
          have q16 : Sound v14 := by
            subst v14
            with_reducible refine setIm_sound ?_
            with_reducible assumption
          clear_value v14
          with_reducible refine mk_sound ?_ rfl rfl rfl rfl rfl
          with_reducible assumption
        · with_reducible assumption
      clear_value v6
      dsimp -zeta only
      with_reducible refine mk_sound ?_ rfl rfl rfl rfl rfl
      with_reducible assumption

theorem execImWordWrite_sound {a0 : Req} {a1 : WForm} {s : State} (hs : Sound s) :
    OutSound (execImWordWrite a0 a1 s) := by
  unfold execImWordWrite
  refine next_sound ?_
  with_reducible refine serveForm_sound ?_ ?_ ?_
  · intro z0
    intro z1
    intro z2
    intro z3
    with_reducible refine writeIm_sound ?_
    with_reducible assumption
  · intro z4
    intro z5
    intro z6
    intro z7
    with_reducible refine writeIm_sound ?_
    with_reducible assumption
  · with_reducible assumption

theorem fetchWord_sound {a0 : Nat} {a1 : Nat} {s : State} (hs : Sound s) :
    Sound (fetchWord a0 a1 s).2 := by
  unfold fetchWord
  split
  · with_reducible assumption
  · dsimp -zeta only
    with_reducible refine incO_sound ?_
    with_reducible refine mk_sound ?_ rfl rfl rfl rfl rfl
    with_reducible assumption
  · dsimp -zeta only
    with_reducible refine incO_sound ?_
    with_reducible refine mk_sound ?_ rfl rfl rfl rfl rfl
    with_reducible assumption
  · dsimp -zeta only
    with_reducible refine imFailure_sound ?_
    with_reducible assumption

theorem depositAt_sound {a0 : Nat} {s : State} {a2 : Deposit} (hs : Sound s) :
    Sound (depositAt a0 s a2) := by
  unfold depositAt
  with_reducible refine modRec_sound ?_
  with_reducible refine applyDeposit_sound ?_
  with_reducible assumption

theorem execLbsWrite_sound {a0 : Req} {a1 : WForm} {s : State} (hs : Sound s) :
    OutSound (execLbsWrite a0 a1 s) := by
  unfold execLbsWrite
  refine next_sound ?_
  with_reducible refine serveForm_sound ?_ ?_ ?_
  · intro z0
    intro z1
    intro z2
    intro z3
    with_reducible refine writeLbs_sound ?_
    with_reducible assumption
  · intro z4
    intro z5
    intro z6
    intro z7
    with_reducible refine writeLbs_sound ?_
    with_reducible assumption
  · with_reducible assumption

theorem writeDict_sound {a0 : Nat} {a1 : List Octet} {s : State} (hs : Sound s) :
    Sound (writeDict a0 a1 s).2 := by
  unfold writeDict
  extract_lets v0 v1 v2 v3 v4 v5 v6 v7 v8
  clear_value v0
  clear_value v1
  split
  · with_reducible assumption
  · split
    · with_reducible assumption
    · split
      · with_reducible assumption
      · extract_lets v9 v10 v11 v12 v13 v14 v15
        clear_value v9
        have q16 : Sound v10 := by
          subst v10
          refine foldl_sound ?_ ?_
          · intro z17
            intro z18
            intro z19
            extract_lets v20 v21
            have q22 : Sound v20 := by
              subst v20
              with_reducible refine setDict_sound ?_
              with_reducible assumption
            clear_value v20
            with_reducible refine mk_sound ?_ rfl rfl rfl rfl rfl
            with_reducible assumption
          · with_reducible assumption
        clear_value v10
        have q23 : Sound v12 := by
          subst v12
          with_reducible refine mk_sound ?_ rfl rfl rfl rfl rfl
          with_reducible assumption
        clear_value v12
        split
        · dsimp -zeta only
          with_reducible refine checkpointFresh_sound ?_
          with_reducible assumption
        · dsimp -zeta only
          with_reducible refine mk_sound ?_ rfl rfl rfl rfl rfl
          with_reducible assumption

theorem laneWord_sound {a0 : Nat} {a1 : Nat} {a2 : List Nat} {a3 : List Nat} {a4 : Nat} {a5 : LaneOut × State} (ha5 : Sound a5.2) :
    Sound (laneWord a0 a1 a2 a3 a4 a5).2 := by
  unfold laneWord
  split
  extract_lets v0 v1 v2 v3 v4 v5 v6 v7 v8 v9 v10 v11 v12 v13 v14 v15
  clear_value v0
  clear_value v1
  split
  · dsimp -zeta only
    refine sound_of_eq (by with_reducible assumption) ?_
    with_reducible refine fetchWord_sound ?_
    with_reducible assumption
  · extract_lets v16 v17 v18 v19 v20 v21 v22 v23 v24 v25 v26 v27 v28 v29
    clear_value v17
    have q30 : Sound v18 := by
      subst v18
      refine foldl_sound ?_ ?_
      · intro z31
        intro z32
        intro z33
        with_reducible refine checkOperand_sound ?_
        with_reducible assumption
      · refine sound_of_eq (by with_reducible assumption) ?_
        with_reducible refine fetchWord_sound ?_
        with_reducible assumption
    clear_value v18
    clear_value v19
    clear_value v20
    split
    · dsimp -zeta only
      refine sound_of_eq (by with_reducible assumption) ?_
      with_reducible refine fetchEntry_sound ?_
      with_reducible assumption
    · extract_lets v34 v35 v36 v37 v38 v39 v40 v41 v42
      clear_value v34
      clear_value v35
      have q43 : Sound v36 := by
        subst v36
        split
        · with_reducible refine ruleCount_sound ?_
          refine sound_of_eq (by with_reducible assumption) ?_
          with_reducible refine fetchEntry_sound ?_
          with_reducible assumption
        · refine sound_of_eq (by with_reducible assumption) ?_
          with_reducible refine fetchEntry_sound ?_
          with_reducible assumption
      clear_value v36
      have q44 : Sound v37 := by
        subst v37
        split
        · with_reducible refine ruleCount_sound ?_
          with_reducible assumption
        · with_reducible assumption
      clear_value v37
      have q45 : Sound v39 := by
        subst v39
        split
        · with_reducible refine mk_sound ?_ rfl rfl rfl rfl rfl
          with_reducible assumption
        · with_reducible assumption
      clear_value v39
      clear_value v40
      have q46 : Sound v41 := by
        subst v41
        split
        · with_reducible refine ruleCount_sound ?_
          with_reducible assumption
        · with_reducible assumption
      clear_value v41
      split
      · with_reducible refine takeSlot_sound ?_
        with_reducible assumption
      · with_reducible assumption

theorem execDictEntryWrite_sound {a0 : Req} {a1 : WForm} {s : State} (hs : Sound s) :
    OutSound (execDictEntryWrite a0 a1 s) := by
  unfold execDictEntryWrite
  refine next_sound ?_
  with_reducible refine serveForm_sound ?_ ?_ ?_
  · intro z0
    intro z1
    intro z2
    intro z3
    with_reducible refine writeDict_sound ?_
    with_reducible assumption
  · intro z4
    intro z5
    intro z6
    intro z7
    with_reducible refine writeDict_sound ?_
    with_reducible assumption
  · with_reducible assumption

theorem execDeposit_sound {a0 : Req} {a1 : WVal} {s : State} (hs : Sound s) : OutSound (execDeposit a0 a1 s) := by
  unfold execDeposit
  refine next_sound (serveWrite_sound ?_ hs)
  intro n t ht
  try dsimp -zeta only
  extract_lets d s1 s2
  split
  · exact ht
  · split
    · exact ht
    · split
      · exact ht
      · rename_i hlen
        split
        · exact ht
        · split
          · refine ⟨ht.objects, ht.dram, ht.log, ht.writes, ?_⟩
            simp only [s1, List.length_append, List.length_singleton]
            omega
          · exact patchPark_sound (depositAt_sound (discardKept_sound ht))

theorem lanesStep_sound {a0 : Nat} {a1 : Nat} {a2 : List Nat} {a3 : List Nat} {s : State} (hs : Sound s) :
    Sound (lanesStep a0 a1 a2 a3 s).2 := by
  unfold lanesStep
  split
  extract_lets v0 v1 v2
  have q3 : Sound v0 := by
    subst v0
    refine foldl_sound ?_ ?_
    · intro z4
      intro z5
      intro z6
      with_reducible refine applyWrite_sound ?_
      with_reducible assumption
    · refine sound_of_eq (by with_reducible assumption) ?_
      refine foldl_sound_snd ?_ ?_
      · intro z7
        intro z8
        intro z9
        with_reducible refine laneWord_sound ?_
        with_reducible assumption
      · with_reducible assumption
  clear_value v0
  have q10 : Sound v1 := by
    subst v1
    with_reducible refine countSharing_sound ?_
    with_reducible assumption
  clear_value v1
  dsimp -zeta only
  with_reducible refine mk_sound ?_ rfl rfl rfl rfl rfl
  with_reducible assumption

end Sys2Proof.Machine
end

