-- ==== Sys2Proof/Laws/SoundSwaps.lean ====
section
/-! SUPPORT. What Machine/Swaps.lean does keeps a sound state sound. -/

namespace Sys2Proof.Machine

theorem cancelSwap_sound {a0 : Bool} {s : State} (hs : Sound s) :
    Sound (cancelSwap a0 s) := by
  unfold cancelSwap
  extract_lets v0
  split
  · with_reducible refine mk_sound ?_ rfl rfl rfl rfl rfl
    with_reducible assumption
  · split
    · with_reducible refine mk_sound ?_ rfl rfl rfl rfl rfl
      with_reducible assumption
    · with_reducible refine mk_sound ?_ rfl rfl rfl rfl rfl
      with_reducible assumption

theorem writeExs_sound {a0 : Nat} {a1 : List Octet} {s : State} (hs : Sound s) :
    Sound (writeExs a0 a1 s).2 := by
  unfold writeExs
  extract_lets v0 v1 v2 v3 v4 v5 v6 v7
  clear_value v0
  clear_value v1
  clear_value v2
  split
  · with_reducible assumption
  · split
    · with_reducible assumption
    · split
      · with_reducible assumption
      · split
        · with_reducible assumption
        · extract_lets v8 v9 v10 v11 v12
          clear_value v8
          have q13 : Sound v9 := by
            subst v9
            refine foldl_sound ?_ ?_
            · intro z14
              intro z15
              intro z16
              with_reducible refine setExs_sound ?_
              with_reducible assumption
            · with_reducible assumption
          clear_value v9
          have q17 : Sound v11 := by
            subst v11
            with_reducible refine mk_sound ?_ rfl rfl rfl rfl rfl
            with_reducible assumption
          clear_value v11
          split
          · dsimp -zeta only
            with_reducible refine checkpointFresh_sound ?_
            with_reducible assumption
          · dsimp -zeta only
            with_reducible refine mk_sound ?_ rfl rfl rfl rfl rfl
            with_reducible assumption

theorem swapExs_sound {s : State} (hs : Sound s) :
    Sound (swapExs s) := by
  unfold swapExs
  extract_lets v0 v1 v2 v3 v4
  clear_value v0
  have q5 : Sound v3 := by
    subst v3
    with_reducible refine mk_sound ?_ rfl rfl rfl rfl rfl
    with_reducible assumption
  clear_value v3
  have q6 : Sound v4 := by
    subst v4
    with_reducible refine setO_sound ?_
    with_reducible assumption
  clear_value v4
  with_reducible refine raise_sound ?_
  with_reducible assumption

theorem swapDict_sound {s : State} (hs : Sound s) :
    Sound (swapDict s) := by
  unfold swapDict
  extract_lets v0 v1 v2 v3 v4
  clear_value v0
  have q5 : Sound v3 := by
    subst v3
    with_reducible refine mk_sound ?_ rfl rfl rfl rfl rfl
    with_reducible assumption
  clear_value v3
  have q6 : Sound v4 := by
    subst v4
    with_reducible refine setO_sound ?_
    with_reducible assumption
  clear_value v4
  with_reducible refine raise_sound ?_
  with_reducible assumption

theorem execDictSwapCancel_sound {a0 : Req} {s : State} (hs : Sound s) :
    OutSound (execDictSwapCancel a0 s) := by
  unfold execDictSwapCancel
  refine next_sound ?_
  with_reducible refine serveWrite_sound ?_ ?_
  · intro z0
    intro z1
    intro z2
    dsimp -zeta only
    with_reducible refine cancelSwap_sound ?_
    with_reducible assumption
  · with_reducible assumption

theorem execXswapCancel_sound {a0 : Req} {s : State} (hs : Sound s) :
    OutSound (execXswapCancel a0 s) := by
  unfold execXswapCancel
  refine next_sound ?_
  with_reducible refine serveWrite_sound ?_ ?_
  · intro z0
    intro z1
    intro z2
    dsimp -zeta only
    with_reducible refine cancelSwap_sound ?_
    with_reducible assumption
  · with_reducible assumption

theorem execExsEntryWrite_sound {a0 : Req} {a1 : WForm} {s : State} (hs : Sound s) :
    OutSound (execExsEntryWrite a0 a1 s) := by
  unfold execExsEntryWrite
  refine next_sound ?_
  with_reducible refine serveForm_sound ?_ ?_ ?_
  · intro z0
    intro z1
    intro z2
    intro z3
    with_reducible refine writeExs_sound ?_
    with_reducible assumption
  · intro z4
    intro z5
    intro z6
    intro z7
    with_reducible refine writeExs_sound ?_
    with_reducible assumption
  · with_reducible assumption

theorem carrySwaps_sound {a0 : Bool} {s : State} (hs : Sound s) :
    Sound (carrySwaps a0 s).2 := by
  unfold carrySwaps
  split
  · split
    · dsimp -zeta only
      with_reducible refine swapExs_sound ?_
      with_reducible refine swapDict_sound ?_
      with_reducible assumption
    · with_reducible assumption
  · extract_lets v0 v1 v2 v3
    clear_value v0
    clear_value v1
    have q4 : Sound v2 := by
      subst v2
      split
      · with_reducible refine swapDict_sound ?_
        with_reducible assumption
      · with_reducible assumption
    clear_value v2
    have q5 : Sound v3 := by
      subst v3
      split
      · with_reducible refine swapExs_sound ?_
        with_reducible assumption
      · with_reducible assumption
    clear_value v3
    with_reducible assumption

theorem settleSwaps_sound {s : State} (hs : Sound s) :
    Sound (settleSwaps s) := by
  unfold settleSwaps
  split
  · with_reducible assumption
  · split
    · with_reducible refine checkpointFresh_sound ?_
      refine sound_of_eq (by with_reducible assumption) ?_
      with_reducible refine carrySwaps_sound ?_
      with_reducible assumption
    · refine sound_of_eq (by with_reducible assumption) ?_
      with_reducible refine carrySwaps_sound ?_
      with_reducible assumption

theorem execDictSeal_sound {a0 : Req} {a1 : WVal} {s : State} (hs : Sound s) :
    OutSound (execDictSeal a0 a1 s) := by
  unfold execDictSeal
  refine next_sound ?_
  with_reducible refine serveWrite_sound ?_ ?_
  · intro z0
    intro z1
    intro z2
    split
    · with_reducible assumption
    · extract_lets v3 v4
      have q5 : Sound v3 := by
        subst v3
        with_reducible refine countDictReads_sound ?_
        with_reducible assumption
      clear_value v3
      split
      · dsimp -zeta only
        with_reducible refine settleSwaps_sound ?_
        with_reducible refine mk_sound ?_ rfl rfl rfl rfl rfl
        with_reducible assumption
      · with_reducible assumption
  · with_reducible assumption

theorem execExsSeal_sound {a0 : Req} {a1 : WVal} {s : State} (hs : Sound s) :
    OutSound (execExsSeal a0 a1 s) := by
  unfold execExsSeal
  refine next_sound ?_
  with_reducible refine serveWrite_sound ?_ ?_
  · intro z0
    intro z1
    intro z2
    split
    · with_reducible assumption
    · extract_lets v3 v4
      have q5 : Sound v3 := by
        subst v3
        with_reducible refine countExsReads_sound ?_
        with_reducible assumption
      clear_value v3
      split
      · dsimp -zeta only
        with_reducible refine settleSwaps_sound ?_
        with_reducible refine mk_sound ?_ rfl rfl rfl rfl rfl
        with_reducible assumption
      · with_reducible assumption
  · with_reducible assumption

theorem requestSwap_sound {a0 : Nat} {a1 : Nat} {a2 : Nat} {s : State} (hs : Sound s) :
    Sound (requestSwap a0 a1 a2 s).2 := by
  unfold requestSwap
  split
  · with_reducible assumption
  · split
    · with_reducible assumption
    · extract_lets v0 v1
      have q2 : Sound v0 := by
        subst v0
        split
        · with_reducible refine mk_sound ?_ rfl rfl rfl rfl rfl
          with_reducible assumption
        · with_reducible refine mk_sound ?_ rfl rfl rfl rfl rfl
          with_reducible assumption
        · with_reducible refine mk_sound ?_ rfl rfl rfl rfl rfl
          with_reducible assumption
      clear_value v0
      clear_value v1
      dsimp -zeta only
      with_reducible refine settleSwaps_sound ?_
      with_reducible assumption

theorem execJoinedSwapRequest_sound {a0 : Req} {s : State} (hs : Sound s) :
    OutSound (execJoinedSwapRequest a0 s) := by
  unfold execJoinedSwapRequest
  refine next_sound ?_
  with_reducible refine serveWrite_sound ?_ ?_
  · intro z0
    intro z1
    intro z2
    with_reducible refine requestSwap_sound ?_
    with_reducible assumption
  · with_reducible assumption

theorem execDictSwapRequest_sound {a0 : Req} {s : State} (hs : Sound s) :
    OutSound (execDictSwapRequest a0 s) := by
  unfold execDictSwapRequest
  refine next_sound ?_
  with_reducible refine serveWrite_sound ?_ ?_
  · intro z0
    intro z1
    intro z2
    with_reducible refine requestSwap_sound ?_
    with_reducible assumption
  · with_reducible assumption

theorem execXswapRequest_sound {a0 : Req} {s : State} (hs : Sound s) :
    OutSound (execXswapRequest a0 s) := by
  unfold execXswapRequest
  refine next_sound ?_
  with_reducible refine serveWrite_sound ?_ ?_
  · intro z0
    intro z1
    intro z2
    with_reducible refine requestSwap_sound ?_
    with_reducible assumption
  · with_reducible assumption

end Sys2Proof.Machine
end

