-- ==== Sys2Proof/Laws/SoundFabric.lean ====
section
/-! SUPPORT. What Machine/Fabric.lean does keeps a sound state sound. -/

namespace Sys2Proof.Machine

theorem execUfErase_sound {a0 : Req} {a1 : WVal} {s : State} (hs : Sound s) :
    OutSound (execUfErase a0 a1 s) := by
  unfold execUfErase
  refine next_sound ?_
  with_reducible refine serveWrite_sound ?_ ?_
  · intro z0
    intro z1
    intro z2
    split
    · with_reducible assumption
    · split
      · with_reducible assumption
      · extract_lets v3 v4
        clear_value v3
        dsimp -zeta only
        with_reducible refine mk_sound ?_ rfl rfl rfl rfl rfl
        with_reducible assumption
  · with_reducible assumption

theorem execPatStartWrite_sound {a0 : Req} {a1 : WVal} {s : State} (hs : Sound s) :
    OutSound (execPatStartWrite a0 a1 s) := by
  unfold execPatStartWrite
  refine next_sound ?_
  with_reducible refine serveWrite_sound ?_ ?_
  · intro z0
    intro z1
    intro z2
    extract_lets v3 v4 v5 v6
    clear_value v3
    have q7 : Sound v4 := by
      subst v4
      with_reducible refine setO_sound ?_
      with_reducible assumption
    clear_value v4
    split
    · with_reducible assumption
    · dsimp -zeta only
      with_reducible refine mk_sound ?_ rfl rfl rfl rfl rfl
      with_reducible assumption
  · with_reducible assumption

theorem clearBnd_sound {s : State} (hs : Sound s) :
    Sound (clearBnd s) := by
  unfold clearBnd
  with_reducible refine mk_sound ?_ rfl rfl rfl rfl rfl
  with_reducible assumption

theorem execOscFreqWrite_sound {a0 : Req} {a1 : Nat} {a2 : WVal} {s : State} (hs : Sound s) :
    OutSound (execOscFreqWrite a0 a1 a2 s) := by
  unfold execOscFreqWrite
  with_reducible refine onObject_sound ?_ ?_
  · intro z0
    intro z1
    with_reducible refine serveWrite_sound ?_ ?_
    · intro z2
      intro z3
      intro z4
      extract_lets v5
      clear_value v5
      split
      · with_reducible assumption
      · dsimp -zeta only
        with_reducible refine setO_sound ?_
        with_reducible assumption
    · with_reducible assumption
  · with_reducible assumption

theorem countUnmapped_sound {s : State} (hs : Sound s) :
    Sound (countUnmapped s) := by
  unfold countUnmapped
  extract_lets v0
  clear_value v0
  with_reducible refine incO_sound ?_
  with_reducible assumption

theorem execOutputMapWrite_sound {a0 : Req} {a1 : WVal} {s : State} (hs : Sound s) :
    OutSound (execOutputMapWrite a0 a1 s) := by
  unfold execOutputMapWrite
  refine next_sound ?_
  with_reducible refine serveWrite_sound ?_ ?_
  · intro z0
    intro z1
    intro z2
    extract_lets v3 v4 v5 v6
    clear_value v3
    clear_value v4
    clear_value v5
    split
    · with_reducible assumption
    · split
      · with_reducible assumption
      · dsimp -zeta only
        with_reducible refine mk_sound ?_ rfl rfl rfl rfl rfl
        with_reducible assumption
  · with_reducible assumption

theorem writeInjection_sound {a0 : Nat} {a1 : List Octet} {s : State} (hs : Sound s) :
    Sound (writeInjection a0 a1 s).2 := by
  unfold writeInjection
  extract_lets v0 v1 v2
  clear_value v0
  clear_value v1
  split
  · with_reducible assumption
  · dsimp -zeta only
    with_reducible refine mk_sound ?_ rfl rfl rfl rfl rfl
    with_reducible assumption

theorem execInjectionMapWrite_sound {a0 : Req} {a1 : WForm} {s : State} (hs : Sound s) :
    OutSound (execInjectionMapWrite a0 a1 s) := by
  unfold execInjectionMapWrite
  refine next_sound ?_
  with_reducible refine serveForm_sound ?_ ?_ ?_
  · intro z0
    intro z1
    intro z2
    intro z3
    with_reducible refine writeInjection_sound ?_
    with_reducible assumption
  · intro z4
    intro z5
    intro z6
    intro z7
    with_reducible refine writeInjection_sound ?_
    with_reducible assumption
  · with_reducible assumption

theorem modSerial_sound {a0 : Nat} {a1 : Serial → Serial} {s : State} (hs : Sound s) :
    Sound (modSerial a0 a1 s) := by
  unfold modSerial
  with_reducible refine mk_sound ?_ rfl rfl rfl rfl rfl
  with_reducible assumption

theorem programFlash_sound {a0 : Nat} {a1 : List Octet} {s : State} (hs : Sound s) :
    Sound (programFlash a0 a1 s).2 := by
  unfold programFlash
  extract_lets v0 v1 v2
  clear_value v0
  clear_value v1
  split
  · with_reducible assumption
  · dsimp -zeta only
    with_reducible refine mk_sound ?_ rfl rfl rfl rfl rfl
    with_reducible assumption

theorem mendCell_sound {a0 : Nat} {s : State} (hs : Sound s) :
    Sound (mendCell a0 s) := by
  unfold mendCell
  with_reducible refine mk_sound ?_ rfl rfl rfl rfl rfl
  with_reducible assumption

theorem loadCell_sound {a0 : Nat} {a1 : BitVec 256} {s : State} (hs : Sound s) :
    Sound (loadCell a0 a1 s) := by
  unfold loadCell
  extract_lets v0 v1 v2 v3 v4 v5
  clear_value v0
  have q6 : Sound v2 := by
    subst v2
    with_reducible refine mk_sound ?_ rfl rfl rfl rfl rfl
    with_reducible assumption
  clear_value v2
  have q7 : Sound v3 := by
    subst v3
    with_reducible refine mendCell_sound ?_
    with_reducible assumption
  clear_value v3
  clear_value v4
  split
  · with_reducible refine mk_sound ?_ rfl rfl rfl rfl rfl
    with_reducible assumption
  · with_reducible assumption

theorem flashRead_sound {s : State} (hs : Sound s) :
    Sound (flashRead s) := by
  unfold flashRead
  extract_lets v0 v1 v2
  clear_value v0
  split
  · split
    · with_reducible assumption
    · with_reducible refine mk_sound ?_ rfl rfl rfl rfl rfl
      with_reducible assumption
  · with_reducible refine mk_sound ?_ rfl rfl rfl rfl rfl
    with_reducible assumption

theorem execUfProgram_sound {a0 : Req} {a1 : WForm} {s : State} (hs : Sound s) :
    OutSound (execUfProgram a0 a1 s) := by
  unfold execUfProgram
  refine next_sound ?_
  with_reducible refine serveForm_sound ?_ ?_ ?_
  · intro z0
    intro z1
    intro z2
    intro z3
    with_reducible refine programFlash_sound ?_
    with_reducible assumption
  · intro z4
    intro z5
    intro z6
    intro z7
    with_reducible refine programFlash_sound ?_
    with_reducible assumption
  · with_reducible assumption

theorem serialReceive_sound {a0 : Nat} {a1 : List Octet} {s : State} (hs : Sound s) :
    Sound (serialReceive a0 a1 s) := by
  unfold serialReceive
  refine foldl_sound ?_ ?_
  · intro z0
    intro z1
    intro z2
    split
    · with_reducible refine modSerial_sound ?_
      with_reducible assumption
    · with_reducible refine incO_sound ?_
      with_reducible assumption
  · with_reducible assumption

theorem execUfOperationDone_sound {s : State} (hs : Sound s) :
    OutSound (execUfOperationDone s) := by
  unfold execUfOperationDone
  refine next_sound ?_
  split
  · with_reducible assumption
  · extract_lets v0 v1
    have q2 : Sound v1 := by
      subst v1
      with_reducible refine mk_sound ?_ rfl rfl rfl rfl rfl
      with_reducible assumption
    clear_value v1
    split
    · with_reducible refine flashRead_sound ?_
      with_reducible assumption
    · with_reducible assumption

theorem execUartReceive_sound {a0 : Nat} {a1 : Octet} {s : State} (hs : Sound s) :
    OutSound (execUartReceive a0 a1 s) := by
  unfold execUartReceive
  with_reducible refine onUnit_sound ?_
  split
  · with_reducible refine serialReceive_sound ?_
    with_reducible assumption
  · with_reducible assumption

theorem takeFrame_sound {s : State} (hs : Sound s) :
    Sound (takeFrame s).2 := by
  unfold takeFrame
  split
  · extract_lets v0 v1 v2
    have q3 : Sound v2 := by
      subst v2
      with_reducible refine mk_sound ?_ rfl rfl rfl rfl rfl
      with_reducible assumption
    clear_value v2
    dsimp -zeta only
    with_reducible refine incO_sound ?_
    with_reducible assumption
  · extract_lets v4 v5 v6 v7
    have q8 : Sound v6 := by
      subst v6
      with_reducible refine mk_sound ?_ rfl rfl rfl rfl rfl
      with_reducible assumption
    clear_value v6
    have q9 : Sound v7 := by
      subst v7
      with_reducible refine setO_sound ?_
      with_reducible assumption
    clear_value v7
    dsimp -zeta only
    with_reducible refine raise_sound ?_
    with_reducible assumption

theorem sample_sound {a0 : TNode} {s : State} (hs : Sound s) :
    Sound (sample a0 s).2 := by
  unfold sample
  split
  · with_reducible assumption
  · with_reducible refine takeBit_sound ?_
    with_reducible assumption

theorem captureBi_sound {s : State} (hs : Sound s) :
    Sound (captureBi s) := by
  unfold captureBi
  split
  with_reducible refine mk_sound ?_ rfl rfl rfl rfl rfl
  refine sound_of_eq (by with_reducible assumption) ?_
  refine foldl_sound_snd ?_ ?_
  · intro z0
    intro z1
    intro z2
    extract_lets v3 v4
    clear_value v3
    clear_value v4
    split
    dsimp -zeta only
    refine sound_of_eq (by with_reducible assumption) ?_
    split
    · with_reducible refine sample_sound ?_
      with_reducible assumption
    · with_reducible refine sample_sound ?_
      with_reducible assumption
    · with_reducible assumption
    · with_reducible assumption
    · with_reducible refine sample_sound ?_
      with_reducible assumption
    · with_reducible assumption
  · with_reducible assumption

theorem flashFollow_sound {s : State} (hs : Sound s) :
    Sound (flashFollow s) := by
  unfold flashFollow
  split
  · with_reducible assumption
  · with_reducible refine mk_sound ?_ rfl rfl rfl rfl rfl
    with_reducible assumption

theorem fabricOutputs_sound {s : State} (hs : Sound s) :
    Sound (fabricOutputs s).2 := by
  unfold fabricOutputs
  refine foldl_sound_snd ?_ ?_
  · intro z0
    intro z1
    intro z2
    split
    split
    split
    · dsimp -zeta only
      refine sound_of_eq (by with_reducible assumption) ?_
      with_reducible refine sample_sound ?_
      with_reducible assumption
    · split
      dsimp -zeta only
      refine sound_of_eq (by with_reducible assumption) ?_
      with_reducible refine sample_sound ?_
      refine sound_of_eq (by with_reducible assumption) ?_
      with_reducible refine sample_sound ?_
      with_reducible assumption
  · with_reducible assumption

theorem ffInit_sound {s : State} (hs : Sound s) :
    Sound (ffInit s) := by
  unfold ffInit
  with_reducible refine flashFollow_sound ?_
  with_reducible refine mk_sound ?_ rfl rfl rfl rfl rfl
  with_reducible assumption

theorem ramWrite_sound {a0 : Nat} {s : State} (hs : Sound s) :
    Sound (ramWrite a0 s).2 := by
  unfold ramWrite
  split
  split
  · dsimp -zeta only
    refine sound_of_eq (by with_reducible assumption) ?_
    with_reducible refine sample_sound ?_
    with_reducible assumption
  · split
    split
    dsimp -zeta only
    refine sound_of_eq (by with_reducible assumption) ?_
    refine foldl_sound_snd ?_ ?_
    · intro z0
      intro z1
      intro z2
      split
      dsimp -zeta only
      refine sound_of_eq (by with_reducible assumption) ?_
      with_reducible refine sample_sound ?_
      with_reducible assumption
    · dsimp -zeta only
      refine sound_of_eq (by with_reducible assumption) ?_
      with_reducible refine sample_sound ?_
      refine sound_of_eq (by with_reducible assumption) ?_
      with_reducible refine sample_sound ?_
      with_reducible assumption

theorem ffNext_sound {a0 : Nat} {a1 : Nat} {s : State} (hs : Sound s) :
    Sound (ffNext a0 a1 s).2 := by
  unfold ffNext
  extract_lets v0 v1 v2
  clear_value v0
  clear_value v1
  clear_value v2
  split
  split
  · dsimp -zeta only
    refine sound_of_eq (by with_reducible assumption) ?_
    split
    · with_reducible assumption
    · with_reducible refine sample_sound ?_
      with_reducible assumption
    · with_reducible refine sample_sound ?_
      with_reducible assumption
    · with_reducible refine sample_sound ?_
      with_reducible assumption
  · split
    · with_reducible refine sample_sound ?_
      refine sound_of_eq (by with_reducible assumption) ?_
      split
      · with_reducible assumption
      · with_reducible refine sample_sound ?_
        with_reducible assumption
      · with_reducible refine sample_sound ?_
        with_reducible assumption
      · with_reducible refine sample_sound ?_
        with_reducible assumption
    · with_reducible refine sample_sound ?_
      refine sound_of_eq (by with_reducible assumption) ?_
      split
      · with_reducible assumption
      · with_reducible refine sample_sound ?_
        with_reducible assumption
      · with_reducible refine sample_sound ?_
        with_reducible assumption
      · with_reducible refine sample_sound ?_
        with_reducible assumption
    · with_reducible refine sample_sound ?_
      refine sound_of_eq (by with_reducible assumption) ?_
      split
      · with_reducible assumption
      · with_reducible refine sample_sound ?_
        with_reducible assumption
      · with_reducible refine sample_sound ?_
        with_reducible assumption
      · with_reducible refine sample_sound ?_
        with_reducible assumption
    · dsimp -zeta only
      refine sound_of_eq (by with_reducible assumption) ?_
      split
      · with_reducible assumption
      · with_reducible refine sample_sound ?_
        with_reducible assumption
      · with_reducible refine sample_sound ?_
        with_reducible assumption
      · with_reducible refine sample_sound ?_
        with_reducible assumption

theorem writeCells_sound {a0 : Nat} {a1 : List Octet} {s : State} (hs : Sound s) :
    Sound (writeCells a0 a1 s).2 := by
  unfold writeCells
  extract_lets v0 v1 v2
  clear_value v0
  split
  · with_reducible assumption
  · dsimp -zeta only
    with_reducible refine flashFollow_sound ?_
    refine foldl_sound ?_ ?_
    · intro z3
      intro z4
      intro z5
      extract_lets v6 v7
      have q8 : Sound v6 := by
        subst v6
        with_reducible refine loadCell_sound ?_
        with_reducible assumption
      clear_value v6
      with_reducible refine mk_sound ?_ rfl rfl rfl rfl rfl
      with_reducible assumption
    · with_reducible assumption

theorem targetOff_sound {s : State} (hs : Sound s) :
    Sound (targetOff s) := by
  unfold targetOff
  split
  · with_reducible assumption
  · split
    · split
      with_reducible refine flashFollow_sound ?_
      with_reducible refine mk_sound ?_ rfl rfl rfl rfl rfl
      refine sound_of_eq (by with_reducible assumption) ?_
      with_reducible refine fabricOutputs_sound ?_
      with_reducible assumption
    · with_reducible refine flashFollow_sound ?_
      with_reducible refine mk_sound ?_ rfl rfl rfl rfl rfl
      with_reducible assumption

theorem execBankVoltageWrite_sound {a0 : Req} {a1 : Nat} {a2 : WVal} {s : State} (hs : Sound s) :
    OutSound (execBankVoltageWrite a0 a1 a2 s) := by
  unfold execBankVoltageWrite
  with_reducible refine onObject_sound ?_ ?_
  · intro z0
    intro z1
    with_reducible refine serveWrite_sound ?_ ?_
    · intro z2
      intro z3
      intro z4
      extract_lets v5
      clear_value v5
      split
      · with_reducible assumption
      · split
        · with_reducible assumption
        · split
          · with_reducible assumption
          · dsimp -zeta only
            with_reducible refine flashFollow_sound ?_
            with_reducible refine setO_sound ?_
            with_reducible refine setO_sound ?_
            with_reducible assumption
    · with_reducible assumption
  · with_reducible assumption

theorem execPinConfigWrite_sound {a0 : Req} {a1 : WVal} {s : State} (hs : Sound s) :
    OutSound (execPinConfigWrite a0 a1 s) := by
  unfold execPinConfigWrite
  refine next_sound ?_
  with_reducible refine serveWrite_sound ?_ ?_
  · intro z0
    intro z1
    intro z2
    extract_lets v3 v4 v5 v6
    clear_value v3
    clear_value v4
    clear_value v5
    split
    · with_reducible assumption
    · split
      · with_reducible assumption
      · dsimp -zeta only
        with_reducible refine flashFollow_sound ?_
        with_reducible refine mk_sound ?_ rfl rfl rfl rfl rfl
        with_reducible assumption
  · with_reducible assumption

theorem execTifReset_sound {a0 : Req} {s : State} (hs : Sound s) :
    OutSound (execTifReset a0 s) := by
  unfold execTifReset
  refine next_sound ?_
  with_reducible refine serveWrite_sound ?_ ?_
  · intro z0
    intro z1
    intro z2
    dsimp -zeta only
    with_reducible refine ffInit_sound ?_
    with_reducible assumption
  · with_reducible assumption

theorem flashAddr_sound {s : State} (hs : Sound s) :
    Sound (flashAddr s).2 := by
  unfold flashAddr
  refine foldl_sound_snd ?_ ?_
  · intro z0
    intro z1
    intro z2
    split
    dsimp -zeta only
    refine sound_of_eq (by with_reducible assumption) ?_
    with_reducible refine sample_sound ?_
    with_reducible assumption
  · with_reducible assumption

theorem execBankRailSettled_sound {a0 : Nat} {s : State} (hs : Sound s) :
    OutSound (execBankRailSettled a0 s) := by
  unfold execBankRailSettled
  with_reducible refine onUnit_sound ?_
  split
  · with_reducible refine flashFollow_sound ?_
    with_reducible refine setO_sound ?_
    with_reducible assumption
  · with_reducible assumption

theorem flashStart_sound {s : State} (hs : Sound s) :
    Sound (flashStart s) := by
  unfold flashStart
  split
  with_reducible refine flashRead_sound ?_
  with_reducible refine mk_sound ?_ rfl rfl rfl rfl rfl
  refine sound_of_eq (by with_reducible assumption) ?_
  with_reducible refine flashAddr_sound ?_
  with_reducible assumption

theorem clockEdge_sound {a0 : Nat} {s : State} (hs : Sound s) :
    Sound (clockEdge a0 s) := by
  unfold clockEdge
  split
  · with_reducible assumption
  · extract_lets v0 v1 v2 v3 v4 v5
    split
    with_reducible refine mk_sound ?_ rfl rfl rfl rfl rfl
    refine sound_of_eq (by with_reducible assumption) ?_
    refine foldl_sound_snd ?_ ?_
    · intro z6
      intro z7
      intro z8
      subst v0
      beta_reduce
      extract_lets v9 v10 v11 v12
      clear_value v9
      clear_value v10
      split
      split
      split
      split
      extract_lets v13 v14
      clear_value v13
      dsimp -zeta only
      refine sound_of_eq (by with_reducible assumption) ?_
      split
      · with_reducible refine ramWrite_sound ?_
        refine sound_of_eq (by with_reducible assumption) ?_
        split
        · with_reducible refine ffNext_sound ?_
          refine sound_of_eq (by with_reducible assumption) ?_
          split
          · with_reducible refine ffNext_sound ?_
            with_reducible assumption
          · with_reducible assumption
        · dsimp -zeta only
          refine sound_of_eq (by with_reducible assumption) ?_
          split
          · with_reducible refine ffNext_sound ?_
            with_reducible assumption
          · with_reducible assumption
      · dsimp -zeta only
        refine sound_of_eq (by with_reducible assumption) ?_
        split
        · with_reducible refine ffNext_sound ?_
          refine sound_of_eq (by with_reducible assumption) ?_
          split
          · with_reducible refine ffNext_sound ?_
            with_reducible assumption
          · with_reducible assumption
        · dsimp -zeta only
          refine sound_of_eq (by with_reducible assumption) ?_
          split
          · with_reducible refine ffNext_sound ?_
            with_reducible assumption
          · with_reducible assumption
    · with_reducible assumption

theorem endSerial_sound {a0 : Nat} {a1 : Nat} {a2 : List Octet} {a3 : Nat} {s : State} (hs : Sound s) :
    Sound (endSerial a0 a1 a2 a3 s) := by
  unfold endSerial
  extract_lets v0 v1 v2 v3 v4
  have q5 : Sound v1 := by
    subst v1
    split
    · with_reducible assumption
    · with_reducible refine emit_sound ?_
      with_reducible assumption
  clear_value v1
  have q6 : Sound v2 := by
    subst v2
    with_reducible refine serialReceive_sound ?_
    with_reducible assumption
  clear_value v2
  have q7 : Sound v3 := by
    subst v3
    with_reducible refine modSerial_sound ?_
    with_reducible assumption
  clear_value v3
  have q8 : Sound v4 := by
    subst v4
    with_reducible refine flashFollow_sound ?_
    with_reducible refine setO_sound ?_
    with_reducible assumption
  clear_value v4
  with_reducible refine raise_sound ?_
  with_reducible assumption

theorem startSerial_sound {a0 : Nat} {a1 : Nat} {s : State} (hs : Sound s) :
    Sound (startSerial a0 a1 s).2 := by
  unfold startSerial
  extract_lets v0
  clear_value v0
  split
  · with_reducible assumption
  · split
    · with_reducible assumption
    · dsimp -zeta only
      with_reducible refine flashFollow_sound ?_
      with_reducible refine setO_sound ?_
      with_reducible refine modSerial_sound ?_
      with_reducible assumption

theorem execSerialDone_sound {a0 : Nat} {a1 : Nat} {a2 : List Octet} {a3 : Nat} {s : State} (hs : Sound s) :
    OutSound (execSerialDone a0 a1 a2 a3 s) := by
  unfold execSerialDone
  with_reducible refine onUnit_sound ?_
  extract_lets v0 v1 v2 v3 v4
  clear_value v1
  clear_value v2
  clear_value v3
  clear_value v4
  split
  · with_reducible assumption
  · split
    · with_reducible refine endSerial_sound ?_
      with_reducible assumption
    · with_reducible refine endSerial_sound ?_
      with_reducible assumption

theorem execCellConfigWrite_sound {a0 : Req} {a1 : WForm} {s : State} (hs : Sound s) :
    OutSound (execCellConfigWrite a0 a1 s) := by
  unfold execCellConfigWrite
  refine next_sound ?_
  with_reducible refine serveForm_sound ?_ ?_ ?_
  · intro z0
    intro z1
    intro z2
    intro z3
    with_reducible refine writeCells_sound ?_
    with_reducible assumption
  · intro z4
    intro z5
    intro z6
    intro z7
    with_reducible refine writeCells_sound ?_
    with_reducible assumption
  · with_reducible assumption

theorem execBankFault_sound {a0 : Nat} {a1 : Nat} {s : State} (hs : Sound s) :
    OutSound (execBankFault a0 a1 s) := by
  unfold execBankFault
  with_reducible refine onUnit_sound ?_
  split
  · with_reducible refine raise_sound ?_
    with_reducible refine flashFollow_sound ?_
    with_reducible refine setO_sound ?_
    with_reducible assumption
  · with_reducible assumption

theorem execBusStuck_sound {a0 : Nat} {s : State} (hs : Sound s) :
    OutSound (execBusStuck a0 s) := by
  unfold execBusStuck
  with_reducible refine onUnit_sound ?_
  split
  · with_reducible refine endSerial_sound ?_
    with_reducible assumption
  · with_reducible assumption

theorem execTifClockEdge_sound {a0 : Nat} {a1 : List (Nat × Bool)} {s : State} (hs : Sound s) :
    OutSound (execTifClockEdge a0 a1 s) := by
  unfold execTifClockEdge
  extract_lets v0 v1
  have q2 : Sound v1 := by
    subst v1
    with_reducible refine mk_sound ?_ rfl rfl rfl rfl rfl
    with_reducible assumption
  clear_value v1
  refine next_sound ?_
  split
  · with_reducible assumption
  · split
    · with_reducible assumption
    · with_reducible refine flashFollow_sound ?_
      with_reducible refine clockEdge_sound ?_
      with_reducible assumption

theorem execSpI2cWriteRead_sound {a0 : Req} {a1 : Nat} {s : State} (hs : Sound s) :
    OutSound (execSpI2cWriteRead a0 a1 s) := by
  unfold execSpI2cWriteRead
  with_reducible refine onObject_sound ?_ ?_
  · intro z0
    intro z1
    with_reducible refine serveWrite_sound ?_ ?_
    · intro z2
      intro z3
      intro z4
      with_reducible refine startSerial_sound ?_
      with_reducible assumption
    · with_reducible assumption
  · with_reducible assumption

theorem execSpAbort_sound {a0 : Req} {a1 : Nat} {s : State} (hs : Sound s) :
    OutSound (execSpAbort a0 a1 s) := by
  unfold execSpAbort
  with_reducible refine onObject_sound ?_ ?_
  · intro z0
    intro z1
    with_reducible refine serveWrite_sound ?_ ?_
    · intro z2
      intro z3
      intro z4
      split
      · with_reducible assumption
      · dsimp -zeta only
        with_reducible refine endSerial_sound ?_
        with_reducible assumption
    · with_reducible assumption
  · with_reducible assumption

theorem execUfRead_sound {s : State} (hs : Sound s) :
    OutSound (execUfRead s) := by
  unfold execUfRead
  refine next_sound ?_
  split
  · with_reducible refine flashStart_sound ?_
    with_reducible assumption
  · with_reducible assumption

theorem csEdge_sound {a0 : List (Nat × Bool)} {s : State} (hs : Sound s) :
    Sound (csEdge a0 s) := by
  unfold csEdge
  extract_lets v0 v1 v2 v3 v4 v5
  have q6 : Sound v1 := by
    subst v1
    with_reducible refine mk_sound ?_ rfl rfl rfl rfl rfl
    with_reducible assumption
  clear_value v1
  have q7 : Sound v2 := by
    subst v2
    with_reducible refine captureBi_sound ?_
    with_reducible assumption
  clear_value v2
  clear_value v3
  have q8 : Sound v4 := by
    subst v4
    with_reducible refine clockEdge_sound ?_
    with_reducible assumption
  clear_value v4
  with_reducible refine flashFollow_sound ?_
  with_reducible refine mk_sound ?_ rfl rfl rfl rfl rfl
  with_reducible assumption

theorem execSpI2cRead_sound {a0 : Req} {a1 : Nat} {s : State} (hs : Sound s) :
    OutSound (execSpI2cRead a0 a1 s) := by
  unfold execSpI2cRead
  with_reducible refine onObject_sound ?_ ?_
  · intro z0
    intro z1
    with_reducible refine serveWrite_sound ?_ ?_
    · intro z2
      intro z3
      intro z4
      with_reducible refine startSerial_sound ?_
      with_reducible assumption
    · with_reducible assumption
  · with_reducible assumption

theorem execSpSend_sound {a0 : Req} {a1 : Nat} {s : State} (hs : Sound s) :
    OutSound (execSpSend a0 a1 s) := by
  unfold execSpSend
  with_reducible refine onObject_sound ?_ ?_
  · intro z0
    intro z1
    with_reducible refine serveWrite_sound ?_ ?_
    · intro z2
      intro z3
      intro z4
      with_reducible refine startSerial_sound ?_
      with_reducible assumption
    · with_reducible assumption
  · with_reducible assumption

end Sys2Proof.Machine
end

