-- ==== Sys2Proof/Laws/SoundExchange.lean ====
section
/-! SUPPORT. What Machine/Exchange.lean does keeps a sound state sound. -/

namespace Sys2Proof.Machine

theorem spareSwitch_sound {a0 : Nat} {a1 : Bool} {s : State} (hs : Sound s) :
    Sound (spareSwitch a0 a1 s).2 := by
  unfold spareSwitch
  split
  · split
    · dsimp -zeta only
      with_reducible refine testSettle_sound ?_
      with_reducible refine modPort_sound ?_
      with_reducible assumption
    · with_reducible assumption
  · with_reducible assumption

theorem guardSlack_sound {a0 : Nat} {s : State} (hs : Sound s) :
    Sound (guardSlack a0 s) := by
  unfold guardSlack
  split
  · split
    · extract_lets v0 v1
      clear_value v0
      split
      · with_reducible refine setO_sound ?_
        with_reducible refine mk_sound ?_ rfl rfl rfl rfl rfl
        with_reducible assumption
      · with_reducible assumption
    · with_reducible assumption
  · with_reducible assumption

theorem exchangeC0_sound {s : State} (hs : Sound s) :
    Sound (exchangeC0 s) := by
  unfold exchangeC0
  extract_lets v0 v1
  clear_value v0
  with_reducible refine mk_sound ?_ rfl rfl rfl rfl rfl
  with_reducible assumption

theorem loadInputs_sound {a0 : List (Nat × Bool)} {a1 : RouteOut} {s : State} (hs : Sound s) :
    Sound (loadInputs a0 a1 s) := by
  unfold loadInputs
  extract_lets v0 v1
  clear_value v0
  with_reducible refine mk_sound ?_ rfl rfl rfl rfl rfl
  with_reducible assumption

theorem pushTag_sound {a0 : Nat} {a1 : Nat} {a2 : Bool} {s : State} (hs : Sound s) :
    Sound (pushTag a0 a1 a2 s) := by
  unfold pushTag
  with_reducible refine mk_sound ?_ rfl rfl rfl rfl rfl
  with_reducible assumption

theorem abandonGuards_sound {a0 : Nat} {s : State} (hs : Sound s) :
    Sound (abandonGuards a0 s) := by
  unfold abandonGuards
  with_reducible refine mk_sound ?_ rfl rfl rfl rfl rfl
  with_reducible assumption

theorem routeTile_sound {a0 : Nat} {a1 : Nat} {a2 : List Nat} {a3 : Nat} {a4 : RouteOut × State} (ha4 : Sound a4.2) :
    Sound (routeTile a0 a1 a2 a3 a4).2 := by
  unfold routeTile
  split
  extract_lets v0 v1 v2 v3 v4 v5 v6
  clear_value v0
  have q7 : Sound v1 := by
    subst v1
    split
    · with_reducible refine incO_sound ?_
      with_reducible assumption
    · with_reducible assumption
  clear_value v1
  clear_value v2
  have q8 : Sound v3 := by
    subst v3
    with_reducible refine incO_sound ?_
    with_reducible assumption
  clear_value v3
  split
  · with_reducible assumption
  · with_reducible assumption
  · dsimp -zeta only
    with_reducible refine exsFailure_sound ?_
    with_reducible assumption

theorem releaseSlots_sound {a0 : Nat} {s : State} (hs : Sound s) :
    Sound (releaseSlots a0 s).2 := by
  unfold releaseSlots
  split
  · with_reducible assumption
  · refine foldl_sound_snd ?_ ?_
    · intro z0
      intro z1
      intro z2
      extract_lets v3 v4
      split
      · with_reducible assumption
      · split
        · dsimp -zeta only
          with_reducible refine modPort_sound ?_
          with_reducible assumption
        · dsimp -zeta only
          with_reducible refine lockstepFault_sound ?_
          with_reducible assumption
    · with_reducible assumption

theorem sendFill_sound {a0 : Nat} {s : State} (hs : Sound s) :
    Sound (sendFill a0 s) := by
  unfold sendFill
  extract_lets v0 v1
  split
  extract_lets v2
  have q3 : Sound v2 := by
    subst v2
    with_reducible refine modPort_sound ?_
    with_reducible assumption
  clear_value v2
  split
  with_reducible refine emit_sound ?_
  refine sound_of_eq (by with_reducible assumption) ?_
  with_reducible refine spareSwitch_sound ?_
  with_reducible assumption

theorem floodGuard_sound {a0 : GuardSum} {s : State} (hs : Sound s) :
    Sound (floodGuard a0 s) := by
  unfold floodGuard
  split
  · refine foldl_sound ?_ ?_
    · intro z0
      intro z1
      intro z2
      with_reducible refine modPort_sound ?_
      with_reducible assumption
    · with_reducible assumption
  · with_reducible assumption

theorem sendStatus_sound {s : State} (hs : Sound s) :
    Sound (sendStatus s) := by
  unfold sendStatus
  refine foldl_sound ?_ ?_
  · intro z0
    intro z1
    intro z2
    with_reducible refine sendCtl_sound ?_
    with_reducible assumption
  · with_reducible assumption

theorem putGuard_sound {a0 : GuardSum} {s : State} (hs : Sound s) :
    Sound (putGuard a0 s) := by
  unfold putGuard
  with_reducible refine mk_sound ?_ rfl rfl rfl rfl rfl
  with_reducible assumption

theorem sendData_sound {a0 : Nat} {a1 : Bool} {s : State} (hs : Sound s) :
    Sound (sendData a0 a1 s) := by
  unfold sendData
  extract_lets v0 v1 v2 v3
  clear_value v1
  clear_value v2
  split
  · with_reducible assumption
  · split
    extract_lets v4
    have q5 : Sound v4 := by
      subst v4
      with_reducible refine emit_sound ?_
      refine sound_of_eq (by with_reducible assumption) ?_
      with_reducible refine spareSwitch_sound ?_
      with_reducible assumption
    clear_value v4
    with_reducible refine modPort_sound ?_
    with_reducible assumption

theorem exchangeStep_sound {a0 : Nat} {a1 : Nat} {s : State} (hs : Sound s) :
    Sound (exchangeStep a0 a1 s).2 := by
  unfold exchangeStep
  split
  extract_lets v0 v1 v2 v3
  clear_value v0
  clear_value v1
  split
  extract_lets v4 v5
  have q6 : Sound v5 := by
    subst v5
    with_reducible refine mk_sound ?_ rfl rfl rfl rfl rfl
    refine sound_of_eq (by with_reducible assumption) ?_
    refine foldl_sound_snd ?_ ?_
    · intro z7
      intro z8
      intro z9
      with_reducible refine routeTile_sound ?_
      with_reducible assumption
    · dsimp -zeta only
      refine sound_of_eq (by with_reducible assumption) ?_
      with_reducible refine releaseSlots_sound ?_
      with_reducible assumption
  clear_value v5
  with_reducible assumption

theorem mergeGuard_sound {a0 : Nat} {a1 : Nat} {a2 : Nat} {a3 : Nat} {s : State} (hs : Sound s) :
    Sound (mergeGuard a0 a1 a2 a3 s) := by
  unfold mergeGuard
  extract_lets v0 v1 v2 v3 v4 v5 v6 v7
  clear_value v1
  clear_value v2
  have q8 : Sound v4 := by
    subst v4
    with_reducible refine floodGuard_sound ?_
    with_reducible refine putGuard_sound ?_
    with_reducible assumption
  clear_value v4
  have q9 : Sound v5 := by
    subst v5
    with_reducible refine setO_sound ?_
    with_reducible assumption
  clear_value v5
  have q10 : Sound v6 := by
    subst v6
    with_reducible refine maxO_sound ?_
    with_reducible assumption
  clear_value v6
  have q11 : Sound v7 := by
    subst v7
    with_reducible refine setO_sound ?_
    with_reducible assumption
  clear_value v7
  split
  · with_reducible assumption
  · split
    · with_reducible refine guardToCkpt_sound ?_
      with_reducible assumption
    · with_reducible assumption

theorem ownGuard_sound {a0 : Nat} {a1 : Nat} {s : State} (hs : Sound s) :
    Sound (ownGuard a0 a1 s) := by
  unfold ownGuard
  with_reducible refine mergeGuard_sound ?_
  with_reducible refine abandonGuards_sound ?_
  with_reducible assumption

theorem portBoundary_sound {a0 : Nat} {s : State} (hs : Sound s) :
    Sound (portBoundary a0 s) := by
  unfold portBoundary
  extract_lets v0 v1 v2
  clear_value v1
  clear_value v2
  split
  · with_reducible assumption
  · with_reducible assumption
  · split
    · with_reducible assumption
    · with_reducible refine sendFill_sound ?_
      with_reducible assumption
  · split
    · with_reducible refine sendData_sound ?_
      with_reducible assumption
    · with_reducible refine sendFill_sound ?_
      split
      · with_reducible refine sendCtl_sound ?_
        with_reducible assumption
      · with_reducible assumption
  · with_reducible refine sendFill_sound ?_
    with_reducible assumption

theorem pushSlot_sound {a0 : Nat} {a1 : TxSlot} {s : State} (hs : Sound s) :
    Sound (pushSlot a0 a1 s) := by
  unfold pushSlot
  extract_lets v0
  have q1 : Sound v0 := by
    subst v0
    split
    · with_reducible refine sendData_sound ?_
      with_reducible assumption
    · with_reducible assumption
  clear_value v0
  with_reducible refine modPort_sound ?_
  with_reducible assumption

theorem pushCommitSlots_sound {a0 : Nat} {a1 : Nat} {a2 : Nat} {s : State} (hs : Sound s) :
    Sound (pushCommitSlots a0 a1 a2 s) := by
  unfold pushCommitSlots
  refine foldl_sound ?_ ?_
  · intro z0
    intro z1
    intro z2
    refine foldl_sound ?_ ?_
    · intro z3
      intro z4
      intro z5
      with_reducible refine pushSlot_sound ?_
      with_reducible assumption
    · with_reducible refine pushTag_sound ?_
      with_reducible assumption
  · with_reducible assumption

theorem lineTick_sound {s : State} (hs : Sound s) :
    Sound (lineTick s) := by
  unfold lineTick
  extract_lets v0 v1 v2
  clear_value v0
  split
  · with_reducible refine mk_sound ?_ rfl rfl rfl rfl rfl
    with_reducible assumption
  · refine foldl_sound ?_ ?_
    · intro z3
      intro z4
      intro z5
      with_reducible refine portBoundary_sound ?_
      with_reducible assumption
    · with_reducible refine mk_sound ?_ rfl rfl rfl rfl rfl
      with_reducible assumption

theorem pushSweepSlots_sound {a0 : Nat} {a1 : List (Nat × Nat)} {s : State} (hs : Sound s) :
    Sound (pushSweepSlots a0 a1 s) := by
  unfold pushSweepSlots
  refine foldl_sound ?_ ?_
  · intro z0
    intro z1
    intro z2
    extract_lets v3
    clear_value v3
    with_reducible refine pushSlot_sound ?_
    with_reducible assumption
  · with_reducible refine pushTag_sound ?_
    with_reducible assumption

end Sys2Proof.Machine
end

