-- ==== Sys2Proof/Laws/SoundIlyan.lean ====
section
/-! SUPPORT. What Machine/Ilyan.lean does keeps a sound state sound. -/

namespace Sys2Proof.Machine

theorem takeStopped_sound {a0 : Nat} {a1 : Nat} {s : State} (hs : Sound s) :
    Sound (takeStopped a0 a1 s) := by
  unfold takeStopped
  extract_lets v0 v1
  have q2 : Sound v1 := by
    subst v1
    with_reducible refine mk_sound ?_ rfl rfl rfl rfl rfl
    with_reducible assumption
  clear_value v1
  with_reducible refine forwardOrigin_sound ?_
  with_reducible assumption

theorem execEcho_sound {a0 : Nat} {a1 : Nat} {s : State} (hs : Sound s) :
    OutSound (execEcho a0 a1 s) := by
  unfold execEcho
  with_reducible refine onUnit_sound ?_
  split
  · with_reducible assumption
  · with_reducible assumption
  · with_reducible refine sendCtl_sound ?_
    with_reducible assumption

theorem execPortRetrain_sound {a0 : Nat} {s : State} (hs : Sound s) :
    OutSound (execPortRetrain a0 s) := by
  unfold execPortRetrain
  with_reducible refine onUnit_sound ?_
  extract_lets v0
  split
  · with_reducible refine startTraining_sound ?_
    with_reducible refine modPort_sound ?_
    with_reducible assumption
  · with_reducible assumption

theorem spareLane_sound {a0 : Nat} {a1 : Nat} {s : State} (hs : Sound s) :
    Sound (spareLane a0 a1 s) := by
  unfold spareLane
  extract_lets v0 v1
  have q2 : Sound v0 := by
    subst v0
    with_reducible refine modPort_sound ?_
    with_reducible assumption
  clear_value v0
  have q3 : Sound v1 := by
    subst v1
    split
    · with_reducible refine setO_sound ?_
      with_reducible assumption
    · with_reducible refine suspectLane_sound ?_
      with_reducible assumption
  clear_value v1
  with_reducible refine raise_sound ?_
  with_reducible assumption

theorem execLaneSpared_sound {a0 : Nat} {a1 : Nat} {s : State} (hs : Sound s) :
    OutSound (execLaneSpared a0 a1 s) := by
  unfold execLaneSpared
  with_reducible refine onUnit_sound ?_
  split
  · with_reducible assumption
  · with_reducible refine spareLane_sound ?_
    with_reducible assumption

theorem takeFault_sound {a0 : Nat} {a1 : Nat} {s : State} (hs : Sound s) :
    Sound (takeFault a0 a1 s) := by
  unfold takeFault
  extract_lets v0 v1 v2
  have q3 : Sound v0 := by
    subst v0
    with_reducible refine setO_sound ?_
    with_reducible assumption
  clear_value v0
  have q4 : Sound v2 := by
    subst v2
    split
    · with_reducible assumption
    · with_reducible refine raise_sound ?_
      with_reducible refine mk_sound ?_ rfl rfl rfl rfl rfl
      with_reducible assumption
  clear_value v2
  with_reducible refine forwardOrigin_sound ?_
  with_reducible assumption

theorem execStoppedFwd_sound {a0 : Nat} {a1 : Nat} {s : State} (hs : Sound s) :
    OutSound (execStoppedFwd a0 a1 s) := by
  unfold execStoppedFwd
  with_reducible refine onUnit_sound ?_
  split
  · with_reducible refine takeStopped_sound ?_
    with_reducible assumption
  · with_reducible assumption

theorem followSpare_sound {a0 : Nat} {a1 : Nat} {s : State} (hs : Sound s) :
    Sound (followSpare a0 a1 s) := by
  unfold followSpare
  split
  · with_reducible assumption
  · split
    · with_reducible refine spareLane_sound ?_
      with_reducible assumption
    · split
      · with_reducible refine testSettle_sound ?_
        with_reducible refine modPort_sound ?_
        with_reducible assumption
      · with_reducible assumption

theorem loseP_sound {a0 : Nat} {s : State} (hs : Sound s) :
    Sound (loseP a0 s) := by
  unfold loseP
  extract_lets v0 v1 v2
  clear_value v0
  have q3 : Sound v1 := by
    subst v1
    with_reducible refine modPort_sound ?_
    with_reducible assumption
  clear_value v1
  with_reducible refine raise_sound ?_
  with_reducible assumption

theorem takeStatus_sound {a0 : Nat} {a1 : Nat} {s : State} (hs : Sound s) :
    Sound (takeStatus a0 a1 s) := by
  unfold takeStatus
  extract_lets v0
  have q1 : Sound v0 := by
    subst v0
    with_reducible refine modPort_sound ?_
    with_reducible assumption
  clear_value v0
  split
  · with_reducible refine takeStopped_sound ?_
    with_reducible assumption
  · with_reducible assumption

theorem execFaultFwd_sound {a0 : Nat} {a1 : Nat} {s : State} (hs : Sound s) :
    OutSound (execFaultFwd a0 a1 s) := by
  unfold execFaultFwd
  with_reducible refine onUnit_sound ?_
  split
  · with_reducible refine takeFault_sound ?_
    with_reducible assumption
  · with_reducible assumption

theorem execLinkEnableWrite_sound {a0 : Req} {a1 : Nat} {a2 : WVal} {s : State} (hs : Sound s) :
    OutSound (execLinkEnableWrite a0 a1 a2 s) := by
  unfold execLinkEnableWrite
  with_reducible refine onObject_sound ?_ ?_
  · intro z0
    intro z1
    with_reducible refine serveWrite_sound ?_ ?_
    · intro z2
      intro z3
      intro z4
      extract_lets v5 v6
      clear_value v5
      have q7 : Sound v6 := by
        subst v6
        with_reducible refine setO_sound ?_
        with_reducible assumption
      clear_value v6
      dsimp -zeta only
      split
      · with_reducible refine startTraining_sound ?_
        with_reducible assumption
      · with_reducible refine portOff_sound ?_
        with_reducible assumption
    · with_reducible assumption
  · with_reducible assumption

theorem scheduleSpare_sound {a0 : Nat} {a1 : Nat} {s : State} (hs : Sound s) :
    Sound (scheduleSpare a0 a1 s) := by
  unfold scheduleSpare
  with_reducible refine modPort_sound ?_
  with_reducible assumption

theorem guardWord_sound {a0 : Nat} {a1 : Nat} {s : State} (hs : Sound s) :
    Sound (guardWord a0 a1 s) := by
  unfold guardWord
  extract_lets v0 v1 v2 v3 v4 v5 v6 v7
  clear_value v1
  clear_value v2
  have q8 : Sound v3 := by
    subst v3
    split
    · with_reducible refine incO_sound ?_
      with_reducible assumption
    · with_reducible assumption
  clear_value v3
  clear_value v4
  clear_value v5
  have q9 : Sound v6 := by
    subst v6
    with_reducible refine modPort_sound ?_
    with_reducible assumption
  clear_value v6
  clear_value v7
  split
  · with_reducible refine modPort_sound ?_
    with_reducible assumption
  · split
    · with_reducible assumption
    · with_reducible refine mergeGuard_sound ?_
      with_reducible assumption

theorem refusePort_sound {a0 : Nat} {a1 : Nat} {s : State} (hs : Sound s) :
    Sound (refusePort a0 a1 s) := by
  unfold refusePort
  extract_lets v0 v1 v2
  clear_value v1
  have q3 : Sound v2 := by
    subst v2
    with_reducible refine modPort_sound ?_
    with_reducible assumption
  clear_value v2
  split
  · with_reducible assumption
  · with_reducible refine raise_sound ?_
    with_reducible assumption

theorem execStatus_sound {a0 : Nat} {a1 : Nat} {s : State} (hs : Sound s) :
    OutSound (execStatus a0 a1 s) := by
  unfold execStatus
  with_reducible refine onUnit_sound ?_
  split
  · with_reducible refine takeStatus_sound ?_
    with_reducible assumption
  · with_reducible assumption

theorem execSpareRequestSend_sound {a0 : Nat} {a1 : Nat} {a2 : Nat} {a3 : Bool} {a4 : Nat} {s : State} (hs : Sound s) :
    OutSound (execSpareRequestSend a0 a1 a2 a3 a4 s) := by
  unfold execSpareRequestSend
  with_reducible refine onUnit_sound ?_
  extract_lets v0
  clear_value v0
  split
  · with_reducible refine sendCtl_sound ?_
    with_reducible assumption
  · with_reducible assumption

theorem execLaneTestStart_sound {a0 : Req} {s : State} (hs : Sound s) :
    OutSound (execLaneTestStart a0 s) := by
  unfold execLaneTestStart
  refine next_sound ?_
  with_reducible refine serveWrite_sound ?_ ?_
  · intro z0
    intro z1
    intro z2
    extract_lets v3 v4 v5 v6 v7 v8
    clear_value v3
    clear_value v4
    have q9 : Sound v7 := by
      subst v7
      with_reducible refine mk_sound ?_ rfl rfl rfl rfl rfl
      with_reducible assumption
    clear_value v7
    have q10 : Sound v8 := by
      subst v8
      with_reducible refine setO_sound ?_
      with_reducible refine setO_sound ?_
      with_reducible assumption
    clear_value v8
    split
    · with_reducible assumption
    · split
      · with_reducible assumption
      · split
        · with_reducible assumption
        · dsimp -zeta only
          with_reducible refine scheduleSpare_sound ?_
          with_reducible refine sendCtl_sound ?_
          with_reducible assumption
  · with_reducible assumption

theorem takeData_sound {a0 : RxSuperframe} {a1 : List Nat} {s : State} (hs : Sound s) :
    Sound (takeData a0 a1 s) := by
  unfold takeData
  extract_lets v0 v1 v2 v3
  clear_value v0
  have q4 : Sound v1 := by
    subst v1
    split
    · with_reducible assumption
    · with_reducible refine lockstepFault_sound ?_
      with_reducible assumption
  clear_value v1
  have q5 : Sound v2 := by
    subst v2
    split
    · with_reducible refine lockstepFault_sound ?_
      with_reducible assumption
    · with_reducible assumption
  clear_value v2
  clear_value v3
  with_reducible refine modPort_sound ?_
  with_reducible assumption

theorem takeSpareReq_sound {a0 : Nat} {a1 : Nat} {s : State} (hs : Sound s) :
    Sound (takeSpareReq a0 a1 s) := by
  unfold takeSpareReq
  extract_lets v0
  split
  · with_reducible refine scheduleSpare_sound ?_
    with_reducible assumption
  · with_reducible assumption

theorem endLaneTest_sound {a0 : Nat} {a1 : Nat} {a2 : Nat} {a3 : Nat} {s : State} (hs : Sound s) :
    Sound (endLaneTest a0 a1 a2 a3 s) := by
  unfold endLaneTest
  extract_lets v0 v1 v2 v3 v4 v5
  have q6 : Sound v1 := by
    subst v1
    with_reducible refine mk_sound ?_ rfl rfl rfl rfl rfl
    with_reducible assumption
  clear_value v1
  have q7 : Sound v2 := by
    subst v2
    with_reducible refine setO_sound ?_
    with_reducible assumption
  clear_value v2
  have q8 : Sound v3 := by
    subst v3
    with_reducible refine setO_sound ?_
    with_reducible assumption
  clear_value v3
  have q9 : Sound v4 := by
    subst v4
    with_reducible refine setO_sound ?_
    with_reducible assumption
  clear_value v4
  have q10 : Sound v5 := by
    subst v5
    split
    · with_reducible refine writeHealth_sound ?_
      with_reducible assumption
    · with_reducible refine testSettle_sound ?_
      split
      · with_reducible refine modPort_sound ?_
        with_reducible assumption
      · with_reducible refine scheduleSpare_sound ?_
        with_reducible assumption
  clear_value v5
  with_reducible refine raise_sound ?_
  with_reducible assumption

theorem execSymbolLockLost_sound {a0 : Nat} {a1 : Nat} {s : State} (hs : Sound s) :
    OutSound (execSymbolLockLost a0 a1 s) := by
  unfold execSymbolLockLost
  with_reducible refine onUnit_sound ?_
  split
  · with_reducible refine loseP_sound ?_
    with_reducible assumption
  · with_reducible assumption

theorem takeLaneTest_sound {a0 : Nat} {a1 : Nat} {a2 : Nat} {s : State} (hs : Sound s) :
    Sound (takeLaneTest a0 a1 a2 s) := by
  unfold takeLaneTest
  extract_lets v0 v1 v2
  clear_value v0
  split
  · with_reducible refine incO_sound ?_
    with_reducible assumption
  · split
    · split
      · with_reducible refine scheduleSpare_sound ?_
        with_reducible refine setO_sound ?_
        with_reducible refine setO_sound ?_
        with_reducible refine mk_sound ?_ rfl rfl rfl rfl rfl
        with_reducible assumption
      · with_reducible assumption
    · split
      · with_reducible refine endLaneTest_sound ?_
        with_reducible assumption
      · with_reducible assumption

theorem queueIdentity_sound {a0 : Nat} {s : State} (hs : Sound s) :
    Sound (queueIdentity a0 s) := by
  unfold queueIdentity
  with_reducible refine modPort_sound ?_
  with_reducible assumption

theorem execSpareReq_sound {a0 : Nat} {a1 : Nat} {s : State} (hs : Sound s) :
    OutSound (execSpareReq a0 a1 s) := by
  unfold execSpareReq
  with_reducible refine onUnit_sound ?_
  split
  · with_reducible refine takeSpareReq_sound ?_
    with_reducible assumption
  · with_reducible assumption

theorem execGuardMessageReceived_sound {a0 : Nat} {a1 : List Nat} {s : State} (hs : Sound s) :
    OutSound (execGuardMessageReceived a0 a1 s) := by
  unfold execGuardMessageReceived
  with_reducible refine onUnit_sound ?_
  split
  · refine foldl_sound ?_ ?_
    · intro z0
      intro z1
      intro z2
      with_reducible refine guardWord_sound ?_
      with_reducible assumption
    · with_reducible assumption
  · with_reducible assumption

theorem takeTransit_sound {a0 : Nat} {a1 : Nat} {s : State} (hs : Sound s) :
    Sound (takeTransit a0 a1 s) := by
  unfold takeTransit
  extract_lets v0 v1
  have q2 : Sound v0 := by
    subst v0
    with_reducible refine modPort_sound ?_
    with_reducible assumption
  clear_value v0
  split
  · with_reducible refine refusePort_sound ?_
    with_reducible assumption
  · with_reducible assumption

theorem evalPort_sound {a0 : Nat} {s : State} (hs : Sound s) :
    Sound (evalPort a0 s) := by
  unfold evalPort
  extract_lets v0
  split
  · with_reducible assumption
  · split
    · with_reducible refine modPort_sound ?_
      with_reducible assumption
    · split
      · split
        · with_reducible refine raise_sound ?_
          with_reducible refine modPort_sound ?_
          with_reducible assumption
        · with_reducible refine refusePort_sound ?_
          with_reducible assumption
      · with_reducible assumption

theorem execLaneTestDone_sound {a0 : Nat} {a1 : Nat} {a2 : Nat} {s : State} (hs : Sound s) :
    OutSound (execLaneTestDone a0 a1 a2 s) := by
  unfold execLaneTestDone
  refine next_sound ?_
  split
  · with_reducible assumption
  · extract_lets v0 v1 v2
    have q3 : Sound v1 := by
      subst v1
      with_reducible refine setO_sound ?_
      with_reducible refine setO_sound ?_
      with_reducible assumption
    clear_value v1
    have q4 : Sound v2 := by
      subst v2
      with_reducible refine sendCtl_sound ?_
      with_reducible assumption
    clear_value v2
    with_reducible refine endLaneTest_sound ?_
    with_reducible assumption

theorem takeControl_sound {a0 : Nat} {a1 : Nat} {s : State} (hs : Sound s) :
    Sound (takeControl a0 a1 s) := by
  unfold takeControl
  extract_lets v0
  clear_value v0
  split
  · with_reducible refine takeStatus_sound ?_
    with_reducible assumption
  · with_reducible refine takeStopped_sound ?_
    with_reducible assumption
  · with_reducible refine takeFault_sound ?_
    with_reducible assumption
  · with_reducible refine takeSpareReq_sound ?_
    with_reducible assumption
  · with_reducible refine takeLaneTest_sound ?_
    with_reducible assumption
  · split
    with_reducible refine sendCtl_sound ?_
    refine sound_of_eq (by with_reducible assumption) ?_
    with_reducible refine takeNat_sound ?_
    with_reducible assumption
  · split
    with_reducible refine takeTransit_sound ?_
    refine sound_of_eq (by with_reducible assumption) ?_
    with_reducible refine takeNat_sound ?_
    with_reducible assumption
  · with_reducible refine incO_sound ?_
    with_reducible assumption

theorem execLaneTest_sound {a0 : Nat} {a1 : Nat} {a2 : Nat} {s : State} (hs : Sound s) :
    OutSound (execLaneTest a0 a1 a2 s) := by
  unfold execLaneTest
  with_reducible refine onUnit_sound ?_
  split
  · with_reducible refine takeLaneTest_sound ?_
    with_reducible assumption
  · with_reducible assumption

theorem execLaneTestAbort_sound {a0 : Req} {s : State} (hs : Sound s) :
    OutSound (execLaneTestAbort a0 s) := by
  unfold execLaneTestAbort
  refine next_sound ?_
  with_reducible refine serveWrite_sound ?_ ?_
  · intro z0
    intro z1
    intro z2
    split
    · with_reducible assumption
    · dsimp -zeta only
      with_reducible refine endLaneTest_sound ?_
      with_reducible refine sendCtl_sound ?_
      with_reducible assumption
  · with_reducible assumption

theorem execEchoReply_sound {a0 : Nat} {a1 : Nat} {a2 : Nat} {s : State} (hs : Sound s) :
    OutSound (execEchoReply a0 a1 a2 s) := by
  unfold execEchoReply
  with_reducible refine onUnit_sound ?_
  split
  · with_reducible assumption
  · with_reducible assumption
  · with_reducible refine takeTransit_sound ?_
    with_reducible assumption

theorem sendIdentity_sound {a0 : Nat} {s : State} (hs : Sound s) :
    Sound (sendIdentity a0 s) := by
  unfold sendIdentity
  split
  · with_reducible refine evalPort_sound ?_
    with_reducible refine queueIdentity_sound ?_
    with_reducible assumption
  · with_reducible assumption

theorem identityChanged_sound {s : State} (hs : Sound s) :
    Sound (identityChanged s) := by
  unfold identityChanged
  refine foldl_sound ?_ ?_
  · intro z0
    intro z1
    intro z2
    with_reducible refine sendIdentity_sound ?_
    with_reducible assumption
  · with_reducible assumption

theorem takeIdentity_sound {a0 : Nat} {a1 : Identity} {s : State} (hs : Sound s) :
    Sound (takeIdentity a0 a1 s) := by
  unfold takeIdentity
  with_reducible refine evalPort_sound ?_
  with_reducible refine modPort_sound ?_
  with_reducible assumption

theorem execSystemMembersWrite_sound {a0 : Req} {a1 : WVal} {s : State} (hs : Sound s) :
    OutSound (execSystemMembersWrite a0 a1 s) := by
  unfold execSystemMembersWrite
  refine next_sound ?_
  with_reducible refine serveWrite_sound ?_ ?_
  · intro z0
    intro z1
    intro z2
    extract_lets v3
    clear_value v3
    split
    · with_reducible assumption
    · dsimp -zeta only
      with_reducible refine identityChanged_sound ?_
      with_reducible refine setO_sound ?_
      with_reducible assumption
  · with_reducible assumption

theorem execIdentitySend_sound {a0 : Nat} {s : State} (hs : Sound s) :
    OutSound (execIdentitySend a0 s) := by
  unfold execIdentitySend
  with_reducible refine onUnit_sound ?_
  with_reducible refine sendIdentity_sound ?_
  with_reducible assumption

theorem execIdentityReceived_sound {a0 : Nat} {a1 : Identity} {s : State} (hs : Sound s) :
    OutSound (execIdentityReceived a0 a1 s) := by
  unfold execIdentityReceived
  with_reducible refine onUnit_sound ?_
  split
  · with_reducible refine takeIdentity_sound ?_
    with_reducible assumption
  · with_reducible assumption

theorem execTrainingDone_sound {a0 : Nat} {a1 : TrainResult} {a2 : Identity} {s : State} (hs : Sound s) :
    OutSound (execTrainingDone a0 a1 a2 s) := by
  unfold execTrainingDone
  with_reducible refine onUnit_sound ?_
  split
  · with_reducible assumption
  · extract_lets v0 v1 v2 v3
    clear_value v0
    clear_value v1
    have q4 : Sound v2 := by
      subst v2
      with_reducible refine modPort_sound ?_
      with_reducible assumption
    clear_value v2
    have q5 : Sound v3 := by
      subst v3
      with_reducible refine incO_sound ?_
      with_reducible refine modPort_sound ?_
      with_reducible assumption
    clear_value v3
    split
    · with_reducible refine refusePort_sound ?_
      with_reducible assumption
    · split
      · with_reducible refine refusePort_sound ?_
        with_reducible assumption
      · split
        · with_reducible refine refusePort_sound ?_
          with_reducible assumption
        · split
          · with_reducible refine refusePort_sound ?_
            with_reducible assumption
          · with_reducible refine takeIdentity_sound ?_
            with_reducible refine queueIdentity_sound ?_
            with_reducible assumption

theorem mgmtWord_sound {a0 : Nat} {a1 : Nat} {s : State} (hs : Sound s) :
    Sound (mgmtWord a0 a1 s) := by
  unfold mgmtWord
  extract_lets v0
  split
  · with_reducible refine modPort_sound ?_
    with_reducible assumption
  · split
    · split
      · with_reducible refine modPort_sound ?_
        with_reducible assumption
      · with_reducible refine modPort_sound ?_
        with_reducible refine incO_sound ?_
        with_reducible assumption
    · split
      split
      · with_reducible refine modPort_sound ?_
        with_reducible refine incO_sound ?_
        refine sound_of_eq (by with_reducible assumption) ?_
        split
        · with_reducible refine takeNat_sound ?_
          with_reducible assumption
        · with_reducible assumption
      · split
        · with_reducible refine modPort_sound ?_
          refine sound_of_eq (by with_reducible assumption) ?_
          split
          · with_reducible refine takeNat_sound ?_
            with_reducible assumption
          · with_reducible assumption
        · with_reducible refine takeIdentity_sound ?_
          with_reducible refine modPort_sound ?_
          refine sound_of_eq (by with_reducible assumption) ?_
          split
          · with_reducible refine takeNat_sound ?_
            with_reducible assumption
          · with_reducible assumption

theorem sideWord_sound {a0 : Nat} {s : State} {a2 : Nat} (hs : Sound s) :
    Sound (sideWord a0 s a2) := by
  unfold sideWord
  split
  · with_reducible assumption
  · split
    · with_reducible assumption
    · split
      · with_reducible refine guardWord_sound ?_
        with_reducible assumption
      · with_reducible assumption
    · with_reducible refine takeControl_sound ?_
      with_reducible assumption
    · with_reducible refine mgmtWord_sound ?_
      with_reducible assumption

theorem takeSuperframe_sound {a0 : RxSuperframe} {s : State} (hs : Sound s) :
    Sound (takeSuperframe a0 s) := by
  unfold takeSuperframe
  extract_lets v0 v1 v2 v3 v4 v5 v6 v7 v8 v9
  clear_value v0
  clear_value v1
  have q10 : Sound v2 := by
    subst v2
    refine foldl_sound ?_ ?_
    · intro z11
      intro z12
      intro z13
      split
      · with_reducible refine incO_sound ?_
        with_reducible assumption
      · split
        · with_reducible refine incO_sound ?_
          with_reducible assumption
        · with_reducible assumption
    · with_reducible assumption
  clear_value v2
  clear_value v3
  have q14 : Sound v4 := by
    subst v4
    with_reducible refine incO_sound ?_
    with_reducible refine incO_sound ?_
    with_reducible refine incO_sound ?_
    with_reducible assumption
  clear_value v4
  clear_value v5
  clear_value v6
  have q15 : Sound v7 := by
    subst v7
    with_reducible refine modPort_sound ?_
    with_reducible refine incO_sound ?_
    with_reducible assumption
  clear_value v7
  have q16 : Sound v8 := by
    subst v8
    with_reducible refine followSpare_sound ?_
    with_reducible refine modPort_sound ?_
    with_reducible assumption
  clear_value v8
  have q17 : Sound v9 := by
    subst v9
    split
    · with_reducible refine incO_sound ?_
      with_reducible assumption
    · split
      · with_reducible refine takeData_sound ?_
        with_reducible assumption
      · with_reducible assumption
  clear_value v9
  split
  · split
    · with_reducible refine loseP_sound ?_
      with_reducible assumption
    · with_reducible assumption
  · refine foldl_sound ?_ ?_
    · intro z18
      intro z19
      intro z20
      split
      · with_reducible assumption
      · with_reducible refine sideWord_sound ?_
        with_reducible assumption
    · with_reducible assumption

theorem execSuperframeReceived_sound {a0 : RxSuperframe} {s : State} (hs : Sound s) :
    OutSound (execSuperframeReceived a0 s) := by
  unfold execSuperframeReceived
  with_reducible refine onUnit_sound ?_
  split
  · with_reducible refine takeSuperframe_sound ?_
    with_reducible assumption
  · with_reducible assumption

end Sys2Proof.Machine
end

