-- ==== Sys2Proof/Laws/SoundMemory.lean ====
section
/-! SUPPORT. What Machine/Memory.lean does keeps a sound state sound. -/

namespace Sys2Proof.Machine

theorem advanceStart_sound {a0 : HostRead} {s : State} (hs : Sound s) :
    Sound (advanceStart a0 s) := by
  unfold advanceStart
  split
  · extract_lets v0
    clear_value v0
    with_reducible refine setStart_sound ?_
    with_reducible assumption
  · with_reducible assumption

theorem deliver_sound {a0 : Nat} {a1 : Nat} {a2 : Option Word64} {a3 : Bool} {s : State} (hs : Sound s) :
    Sound (deliver a0 a1 a2 a3 s) := by
  unfold deliver
  refine foldl_sound ?_ ?_
  · intro z0
    intro z1
    intro z2
    extract_lets v3 v4
    clear_value v3
    with_reducible refine setLane_sound ?_
    with_reducible assumption
  · with_reducible assumption

theorem modFar_sound {a0 : Nat} {a1 : Nat} {a2 : FarDel → FarDel} {s : State} (hs : Sound s) :
    Sound (modFar a0 a1 a2 s) := by
  unfold modFar
  extract_lets v0 v1 v2
  clear_value v1
  with_reducible refine mk_sound ?_ rfl rfl rfl rfl rfl
  with_reducible assumption

theorem markAccess_sound {a0 : Nat} {a1 : Access1} {s : State} (hs : Sound s) :
    Sound (markAccess a0 a1 s) := by
  unfold markAccess
  with_reducible refine mk_sound ?_ rfl rfl rfl rfl rfl
  with_reducible assumption

theorem bankStore_sound {a0 : Access1} {s : State} (hs : Sound s) :
    Sound (bankStore a0 s) := by
  unfold bankStore
  extract_lets v0 v1 v2 v3 v4 v5 v6
  clear_value v0
  clear_value v1
  have q7 : Sound v2 := by
    subst v2
    split
    · with_reducible assumption
    · with_reducible refine preImage_sound ?_
      with_reducible assumption
  clear_value v2
  clear_value v3
  have q8 : Sound v5 := by
    subst v5
    split
    · with_reducible refine incO_sound ?_
      with_reducible assumption
    · with_reducible assumption
  clear_value v5
  have q9 : Sound v6 := by
    subst v6
    split
    · with_reducible refine bankFailure_sound ?_
      with_reducible assumption
    · with_reducible assumption
  clear_value v6
  with_reducible refine setBank_sound ?_
  with_reducible assumption

theorem storeHost_sound {a0 : HostWr} {s : State} (hs : Sound s) :
    Sound (storeHost a0 s) := by
  unfold storeHost
  split
  · extract_lets v0
    have q1 : Sound v0 := by
      subst v0
      with_reducible refine preImage_sound ?_
      with_reducible assumption
    clear_value v0
    with_reducible refine setFar_sound ?_
    with_reducible assumption
  · extract_lets v2
    have q3 : Sound v2 := by
      subst v2
      with_reducible refine preImage_sound ?_
      with_reducible assumption
    clear_value v2
    with_reducible refine setBank_sound ?_
    with_reducible assumption

theorem execLayoutApplied_sound {s : State} (hs : Sound s) :
    OutSound (execLayoutApplied s) := by
  unfold execLayoutApplied
  refine next_sound ?_
  split
  · with_reducible assumption
  · extract_lets v0 v1 v2 v3 v4 v5 v6 v7 v8 v9 v10 v11 v12 v13
    clear_value v0
    clear_value v1
    clear_value v2
    clear_value v3
    have q14 : Sound v4 := by
      subst v4
      split
      · with_reducible refine withdrawAll_sound ?_
        with_reducible assumption
      · with_reducible assumption
    clear_value v4
    have q15 : Sound v6 := by
      subst v6
      with_reducible refine mk_sound ?_ rfl rfl rfl rfl rfl
      with_reducible assumption
    clear_value v6
    have q16 : Sound v7 := by
      subst v7
      with_reducible refine dramZero_sound ?_
      with_reducible assumption
    clear_value v7
    have q17 : Sound v9 := by
      subst v9
      split
      · with_reducible refine mk_sound ?_ rfl rfl rfl rfl rfl
        with_reducible assumption
      · with_reducible assumption
    clear_value v9
    have q18 : Sound v11 := by
      subst v11
      split
      · with_reducible refine mk_sound ?_ rfl rfl rfl rfl rfl
        with_reducible assumption
      · with_reducible assumption
    clear_value v11
    have q19 : Sound v13 := by
      subst v13
      split
      · with_reducible refine mk_sound ?_ rfl rfl rfl rfl rfl
        with_reducible assumption
      · with_reducible assumption
    clear_value v13
    with_reducible refine raise_sound ?_
    with_reducible assumption

theorem bindPort_sound {a0 : Nat} {a1 : Nat} {a2 : Nat} {s : State} (hs : Sound s) :
    Sound (bindPort a0 a1 a2 s).2 := by
  unfold bindPort
  split
  · dsimp -zeta only
    with_reducible refine mk_sound ?_ rfl rfl rfl rfl rfl
    with_reducible assumption
  · split
    · with_reducible assumption
    · split
      · with_reducible assumption
      · dsimp -zeta only
        with_reducible refine mk_sound ?_ rfl rfl rfl rfl rfl
        with_reducible assumption

theorem directWords_sound {a0 : List HostWr} {s : State} (hs : Sound s) :
    Sound (directWords a0 s) := by
  unfold directWords
  refine foldl_sound ?_ ?_
  · intro z0
    intro z1
    intro z2
    with_reducible refine modRec_sound ?_
    with_reducible refine storeHost_sound ?_
    with_reducible assumption
  · with_reducible refine discardKept_sound ?_
    with_reducible assumption

theorem farAccess_sound {a0 : Access1} {s : State} (hs : Sound s) :
    Sound (farAccess a0 s) := by
  unfold farAccess
  extract_lets v0 v1 v2 v3 v4 v5 v6 v7 v8 v9 v10 v11 v12 v13
  clear_value v0
  have q14 : Sound v2 := by
    subst v2
    with_reducible refine mk_sound ?_ rfl rfl rfl rfl rfl
    with_reducible assumption
  clear_value v2
  have q15 : Sound v3 := by
    subst v3
    with_reducible refine modFar_sound ?_
    with_reducible assumption
  clear_value v3
  clear_value v4
  have q16 : Sound v5 := by
    subst v5
    split
    · with_reducible assumption
    · with_reducible refine preImage_sound ?_
      with_reducible assumption
  clear_value v5
  have q17 : Sound v7 := by
    subst v7
    split
    · with_reducible assumption
    · with_reducible refine mk_sound ?_ rfl rfl rfl rfl rfl
      with_reducible assumption
  clear_value v7
  have q18 : Sound v8 := by
    subst v8
    with_reducible refine setFar_sound ?_
    with_reducible assumption
  clear_value v8
  have q19 : Sound v11 := by
    subst v11
    with_reducible refine mk_sound ?_ rfl rfl rfl rfl rfl
    with_reducible assumption
  clear_value v11
  clear_value v12
  clear_value v13
  split
  · split
    · with_reducible refine dmCount_sound ?_
      with_reducible assumption
    · with_reducible refine mk_sound ?_ rfl rfl rfl rfl rfl
      with_reducible assumption
  · split
    · with_reducible refine dmCount_sound ?_
      with_reducible refine modFar_sound ?_
      with_reducible assumption
    · with_reducible refine modFar_sound ?_
      with_reducible assumption

theorem countLate_sound {s : State} (hs : Sound s) :
    Sound (countLate s) := by
  unfold countLate
  refine foldl_sound ?_ ?_
  · intro z0
    intro z1
    intro z2
    with_reducible refine dmCount_sound ?_
    with_reducible assumption
  · with_reducible assumption

theorem takePort_sound {a0 : Nat} {a1 : Nat} {s : State} (hs : Sound s) :
    Sound (takePort a0 a1 s) := by
  unfold takePort
  extract_lets v0 v1
  clear_value v0
  with_reducible refine mk_sound ?_ rfl rfl rfl rfl rfl
  with_reducible assumption

theorem execPortBindingWrite_sound {a0 : Req} {a1 : Nat} {a2 : WVal} {s : State} (hs : Sound s) :
    OutSound (execPortBindingWrite a0 a1 a2 s) := by
  unfold execPortBindingWrite
  refine next_sound ?_
  with_reducible refine serveWrite_sound ?_ ?_
  · intro z0
    intro z1
    intro z2
    split
    · with_reducible assumption
    · split
      · dsimp -zeta only
        with_reducible refine mk_sound ?_ rfl rfl rfl rfl rfl
        with_reducible assumption
      · split
        · with_reducible refine bindPort_sound ?_
          with_reducible assumption
        · with_reducible assumption
  · with_reducible assumption

theorem recordCollision_sound {a0 : Nat} {a1 : Access1} {s : State} (hs : Sound s) :
    Sound (recordCollision a0 a1 s) := by
  unfold recordCollision
  extract_lets v0 v1 v2 v3
  have q4 : Sound v0 := by
    subst v0
    with_reducible refine incO_sound ?_
    with_reducible assumption
  clear_value v0
  have q5 : Sound v1 := by
    subst v1
    with_reducible refine setO_sound ?_
    with_reducible assumption
  clear_value v1
  have q6 : Sound v2 := by
    subst v2
    with_reducible refine setO_sound ?_
    with_reducible assumption
  clear_value v2
  have q7 : Sound v3 := by
    subst v3
    with_reducible refine setO_sound ?_
    with_reducible assumption
  clear_value v3
  with_reducible refine setO_sound ?_
  with_reducible assumption

theorem execLayoutRevert_sound {a0 : Req} {s : State} (hs : Sound s) :
    OutSound (execLayoutRevert a0 s) := by
  unfold execLayoutRevert
  refine next_sound ?_
  with_reducible refine serveWrite_sound ?_ ?_
  · intro z0
    intro z1
    intro z2
    dsimp -zeta only
    with_reducible refine setO_sound ?_
    with_reducible assumption
  · with_reducible assumption

theorem retireFar_sound {a0 : Nat → Bool} {s : State} (hs : Sound s) :
    Sound (retireFar a0 s) := by
  unfold retireFar
  with_reducible refine mk_sound ?_ rfl rfl rfl rfl rfl
  with_reducible assumption

theorem applyHostQueue_sound {a0 a1 : Nat} {s : State} (hs : Sound s) : Sound (applyHostQueue a0 a1 s) := by
  induction a1 generalizing s with
  | zero => exact hs
  | succ n ih =>
    unfold applyHostQueue
    split
    · exact hs
    · rename_i w rest hq
      split
      · exact hs
      · split
        · exact hs
        · extract_lets s1 s2
          split
          · exact mk_sound hs rfl rfl rfl rfl rfl
          · refine ih (incO_sound (modRec_sound (storeHost_sound (takePort_sound ?_))))
            refine ⟨hs.objects, hs.dram, hs.log, ?_, hs.deposits⟩
            have := hs.writes
            rw [hq] at this
            simp only [List.length_cons] at this
            show rest.length ≤ 1024
            omega

theorem pushDelivery_sound {a0 : Nat} {a1 : Access1} {a2 : Option Word64} {a3 : Bool} {s : State} (hs : Sound s) :
    Sound (pushDelivery a0 a1 a2 a3 s) := by
  unfold pushDelivery
  with_reducible refine mk_sound ?_ rfl rfl rfl rfl rfl
  with_reducible assumption

theorem deliverDue_sound {a0 : Nat} {s : State} (hs : Sound s) :
    Sound (deliverDue a0 s) := by
  unfold deliverDue
  split
  refine foldl_sound ?_ ?_
  · intro z0
    intro z1
    intro z2
    with_reducible refine deliver_sound ?_
    with_reducible assumption
  · with_reducible refine mk_sound ?_ rfl rfl rfl rfl rfl
    with_reducible assumption

theorem endDeliveries_sound {s : State} (hs : Sound s) : Sound (endDeliveries s) := by
  have h := countLate_sound hs
  unfold endDeliveries
  exact ⟨h.objects, h.dram, h.log, h.writes, h.deposits⟩

theorem farStrobe_sound {a0 : Nat} {a1 : Access1} {s : State} (hs : Sound s) :
    Sound (farStrobe a0 a1 s) := by
  unfold farStrobe
  split
  · with_reducible refine dmCount_sound ?_
    with_reducible assumption
  · split
    · with_reducible refine dmCount_sound ?_
      with_reducible assumption
    · split
      · with_reducible refine dmCount_sound ?_
        with_reducible assumption
      · with_reducible refine farAccess_sound ?_
        with_reducible refine markAccess_sound ?_
        with_reducible assumption

theorem accessOne_sound {a0 : Nat} {a1 : Access1} {s : State} (hs : Sound s) :
    Sound (accessOne a0 a1 s) := by
  unfold accessOne
  split
  · with_reducible refine pushDelivery_sound ?_
    with_reducible refine bankStore_sound ?_
    with_reducible assumption
  · split
    with_reducible refine pushDelivery_sound ?_
    refine sound_of_eq (by with_reducible assumption) ?_
    with_reducible refine readBank_sound ?_
    with_reducible assumption

theorem execFarWriteRetired_sound {a0 : Nat} {s : State} (hs : Sound s) :
    OutSound (execFarWriteRetired a0 s) := by
  unfold execFarWriteRetired
  with_reducible refine onUnit_sound ?_
  with_reducible refine retireFar_sound ?_
  with_reducible assumption

theorem accessBoth_sound {a0 : Nat} {a1 : Bool} {a2 : Access1} {a3 : Access1} {s : State} (hs : Sound s) :
    Sound (accessBoth a0 a1 a2 a3 s) := by
  unfold accessBoth
  split
  · with_reducible refine accessOne_sound ?_
    with_reducible refine accessOne_sound ?_
    with_reducible assumption
  · extract_lets v0 v1 v2
    clear_value v0
    have q3 : Sound v1 := by
      subst v1
      with_reducible refine bankStore_sound ?_
      with_reducible refine bankStore_sound ?_
      with_reducible assumption
    clear_value v1
    have q4 : Sound v2 := by
      subst v2
      split
      · with_reducible refine recordCollision_sound ?_
        with_reducible assumption
      · with_reducible assumption
    clear_value v2
    with_reducible refine pushDelivery_sound ?_
    with_reducible refine pushDelivery_sound ?_
    with_reducible assumption
  · extract_lets v5 v6 v7 v8 v9 v10
    have q11 : Sound v8 := by
      subst v8
      with_reducible refine bankStore_sound ?_
      with_reducible assumption
    clear_value v8
    split
    · split
      extract_lets v12 v13
      have q14 : Sound v12 := by
        subst v12
        with_reducible refine recordCollision_sound ?_
        with_reducible refine bankStore_sound ?_
        refine sound_of_eq (by with_reducible assumption) ?_
        with_reducible refine readBank_sound ?_
        with_reducible assumption
      clear_value v12
      have q15 : Sound v13 := by
        subst v13
        with_reducible refine pushDelivery_sound ?_
        with_reducible assumption
      clear_value v13
      with_reducible refine pushDelivery_sound ?_
      with_reducible assumption
    · split
      with_reducible refine pushDelivery_sound ?_
      with_reducible refine pushDelivery_sound ?_
      refine sound_of_eq (by with_reducible assumption) ?_
      with_reducible refine readBank_sound ?_
      with_reducible assumption

theorem hostBank_sound {a0 : Nat} {a1 : Nat} {s : State} (hs : Sound s) :
    Sound (hostBank a0 a1 s).2 := by
  unfold hostBank
  split
  dsimp -zeta only
  refine sound_of_eq (by with_reducible assumption) ?_
  with_reducible refine readBank_sound ?_
  with_reducible assumption

theorem farDeliver_sound {a0 : FarDel} {s : State} (hs : Sound s) :
    Sound (farDeliver a0 s) := by
  unfold farDeliver
  split
  extract_lets v0 v1 v2 v3
  have q4 : Sound v0 := by
    subst v0
    with_reducible refine deliver_sound ?_
    refine sound_of_eq (by with_reducible assumption) ?_
    split
    · split
      dsimp -zeta only
      refine sound_of_eq (by with_reducible assumption) ?_
      with_reducible refine takeNat_sound ?_
      with_reducible assumption
    · with_reducible assumption
  clear_value v0
  clear_value v1
  have q5 : Sound v2 := by
    subst v2
    with_reducible refine modNewest_sound ?_
    with_reducible assumption
  clear_value v2
  have q6 : Sound v3 := by
    subst v3
    split
    · with_reducible refine farFailure_sound ?_
      with_reducible assumption
    · with_reducible assumption
  clear_value v3
  with_reducible refine modFar_sound ?_
  with_reducible assumption

theorem execFarDelivery_sound {a0 : Nat} {a1 : Bool} {s : State} (hs : Sound s) :
    OutSound (execFarDelivery a0 a1 s) := by
  unfold execFarDelivery
  with_reducible refine onUnit_sound ?_
  split
  · with_reducible assumption
  · extract_lets v0
    have q1 : Sound v0 := by
      subst v0
      with_reducible refine modFar_sound ?_
      with_reducible assumption
    clear_value v0
    split
    · with_reducible refine farDeliver_sound ?_
      with_reducible assumption
    · with_reducible assumption

theorem hostFar_sound {a0 : Nat} {s : State} (hs : Sound s) :
    Sound (hostFar a0 s).2 := by
  unfold hostFar
  split
  · split
    dsimp -zeta only
    refine sound_of_eq (by with_reducible assumption) ?_
    with_reducible refine takeNat_sound ?_
    with_reducible assumption
  · with_reducible assumption

theorem writeBack_sound {a0 : Nat} {s : State} (hs : Sound s) :
    Sound (writeBack a0 s) := by
  unfold writeBack
  split
  · with_reducible assumption
  · extract_lets v0 v1 v2 v3
    clear_value v0
    clear_value v1
    have q4 : Sound v2 := by
      subst v2
      with_reducible refine takePort_sound ?_
      with_reducible assumption
    clear_value v2
    split
    · with_reducible refine mk_sound ?_ rfl rfl rfl rfl rfl
      with_reducible assumption
    · with_reducible assumption

theorem hostWords_sound {a0 : List HostWr} {s : State} (hs : Sound s) : Sound (hostWords a0 s).2 := by
  unfold hostWords
  split
  · exact hs
  · rename_i hlen
    split
    · refine ⟨hs.objects, hs.dram, hs.log, ?_, hs.deposits⟩
      simp only [List.length_append]
      omega
    · exact foldl_sound (fun _ _ h => modRec_sound (storeHost_sound h)) (discardKept_sound hs)

theorem writeFar_sound {a0 : Bool} {a1 : Nat} {a2 : List Octet} {s : State} (hs : Sound s) :
    Sound (writeFar a0 a1 a2 s).2 := by
  unfold writeFar
  extract_lets v0
  clear_value v0
  split
  · with_reducible assumption
  · with_reducible refine hostWords_sound ?_
    with_reducible assumption

theorem writeDm_sound {a0 : Nat} {a1 : List Octet} {s : State} (hs : Sound s) :
    Sound (writeDm a0 a1 s).2 := by
  unfold writeDm
  extract_lets v0
  clear_value v0
  split
  · with_reducible assumption
  · with_reducible refine hostWords_sound ?_
    with_reducible assumption

theorem execDmWordWrite_sound {a0 : Req} {a1 : WForm} {s : State} (hs : Sound s) :
    OutSound (execDmWordWrite a0 a1 s) := by
  unfold execDmWordWrite
  refine next_sound ?_
  with_reducible refine serveForm_sound ?_ ?_ ?_
  · intro z0
    intro z1
    intro z2
    intro z3
    with_reducible refine writeDm_sound ?_
    with_reducible assumption
  · intro z4
    intro z5
    intro z6
    intro z7
    with_reducible refine writeDm_sound ?_
    with_reducible assumption
  · with_reducible assumption

theorem bankStep_sound {a0 : Nat} {a1 : List Access1} {s : State} (hs : Sound s) :
    Sound (bankStep a0 a1 s) := by
  unfold bankStep
  split
  refine foldl_sound ?_ ?_
  · intro z0
    intro z1
    intro z2
    extract_lets v3
    clear_value v3
    split
    · with_reducible refine accessOne_sound ?_
      with_reducible assumption
    · split
      · with_reducible refine accessBoth_sound ?_
        with_reducible assumption
      · with_reducible assumption
  · refine sound_of_eq_fst (by with_reducible assumption) ?_
    refine foldl_sound_fst ?_ ?_
    · intro z4
      intro z5
      intro z6
      split
      · dsimp -zeta only
        with_reducible refine markAccess_sound ?_
        with_reducible assumption
      · dsimp -zeta only
        with_reducible refine dmCount_sound ?_
        with_reducible assumption
    · with_reducible assumption

theorem execCorrectionWriteBack_sound {a0 : Nat} {a1 : Nat} {s : State} (hs : Sound s) :
    OutSound (execCorrectionWriteBack a0 a1 s) := by
  unfold execCorrectionWriteBack
  with_reducible refine onUnit_sound ?_
  with_reducible refine writeBack_sound ?_
  with_reducible assumption

theorem farDeliverAll_sound {a0 : Bool} {a1 : List Nat} {s : State} (hs : Sound s) :
    Sound (farDeliverAll a0 a1 s) := by
  unfold farDeliverAll
  refine foldl_sound ?_ ?_
  · intro z0
    intro z1
    intro z2
    split
    · with_reducible assumption
    · split
      · with_reducible refine farDeliver_sound ?_
        with_reducible assumption
      · with_reducible assumption
  · with_reducible assumption

theorem memoryStep_sound {a0 : Nat} {a1 : List Nat} {a2 : List Nat} {a3 : List Nat} {s : State} (hs : Sound s) :
    Sound (memoryStep a0 a1 a2 a3 s) := by
  unfold memoryStep
  extract_lets v0 v1 v2 v3 v4 v5 v6
  clear_value v1
  have q7 : Sound v2 := by
    subst v2
    with_reducible refine bankStep_sound ?_
    with_reducible assumption
  clear_value v2
  clear_value v3
  clear_value v4
  clear_value v5
  refine foldl_sound ?_ ?_
  · intro z8
    intro z9
    intro z10
    with_reducible refine farStrobe_sound ?_
    with_reducible assumption
  · with_reducible assumption

theorem execFarWordWrite_sound {a0 : Req} {a1 : WForm} {s : State} (hs : Sound s) :
    OutSound (execFarWordWrite a0 a1 s) := by
  unfold execFarWordWrite
  refine next_sound ?_
  with_reducible refine serveForm_sound ?_ ?_ ?_
  · intro z0
    intro z1
    intro z2
    intro z3
    with_reducible refine writeFar_sound ?_
    with_reducible assumption
  · intro z4
    intro z5
    intro z6
    intro z7
    with_reducible refine writeFar_sound ?_
    with_reducible assumption
  · with_reducible assumption

theorem writeBacks_sound {s : State} (hs : Sound s) :
    Sound (writeBacks s) := by
  unfold writeBacks
  refine foldl_sound ?_ ?_
  · intro z0
    intro z1
    intro z2
    with_reducible refine writeBack_sound ?_
    with_reducible assumption
  · with_reducible assumption

theorem execLayoutApply_sound {a0 : Req} {s : State} (hs : Sound s) :
    OutSound (execLayoutApply a0 s) := by
  unfold execLayoutApply
  refine next_sound ?_
  with_reducible refine serveWrite_sound ?_ ?_
  · intro z0
    intro z1
    intro z2
    extract_lets v3 v4 v5
    clear_value v3
    clear_value v4
    split
    · with_reducible assumption
    · split
      · with_reducible assumption
      · dsimp -zeta only
        with_reducible refine mk_sound ?_ rfl rfl rfl rfl rfl
        with_reducible assumption
  · with_reducible assumption

theorem readWords_sound {a0 : Nat} {a1 : HostRead} {s : State} (hs : Sound s) :
    Sound (readWords a0 a1 s).2 := by
  induction' a0 with n ih generalizing a1 s
  · unfold readWords
    with_reducible assumption
  · unfold readWords
    split
    · with_reducible assumption
    · split
      · with_reducible assumption
      · extract_lets v0 v1
        have q2 : Sound v0 := by
          subst v0
          with_reducible refine takePort_sound ?_
          with_reducible assumption
        clear_value v0
        split
        extract_lets v3
        have q4 : Sound v3 := by
          subst v3
          with_reducible refine writeBacks_sound ?_
          refine sound_of_eq (by with_reducible assumption) ?_
          split
          · with_reducible refine hostFar_sound ?_
            with_reducible assumption
          · with_reducible refine hostBank_sound ?_
            with_reducible assumption
        clear_value v3
        with_reducible apply ih
        with_reducible assumption

theorem serveReads_sound {s : State} (hs : Sound s) :
    Sound (serveReads s) := by
  unfold serveReads
  extract_lets v0 v1 v2 v3 v4
  clear_value v0
  refine foldl_sound ?_ ?_
  · intro z5
    intro z6
    intro z7
    split
    · with_reducible refine mk_sound ?_ rfl rfl rfl rfl rfl
      with_reducible assumption
    · split
      extract_lets v8 v9
      have q10 : Sound v8 := by
        subst v8
        with_reducible refine advanceStart_sound ?_
        refine sound_of_eq (by with_reducible assumption) ?_
        with_reducible refine readWords_sound ?_
        with_reducible assumption
      clear_value v8
      split
      · with_reducible refine answerParts_sound ?_
        with_reducible assumption
      · with_reducible refine mk_sound ?_ rfl rfl rfl rfl rfl
        with_reducible assumption
  · with_reducible refine mk_sound ?_ rfl rfl rfl rfl rfl
    with_reducible assumption

theorem hostStep_sound {s : State} (hs : Sound s) :
    Sound (hostStep s) := by
  unfold hostStep
  with_reducible refine serveReads_sound ?_
  with_reducible refine writeBacks_sound ?_
  with_reducible assumption

theorem hostSlots_sound {a0 : Nat} {a1 : Bool} {s : State} (hs : Sound s) :
    Sound (hostSlots a0 a1 s) := by
  unfold hostSlots
  extract_lets v0 v1
  have q2 : Sound v1 := by
    subst v1
    with_reducible refine hostStep_sound ?_
    with_reducible refine mk_sound ?_ rfl rfl rfl rfl rfl
    with_reducible assumption
  clear_value v1
  split
  · with_reducible refine applyHostQueue_sound ?_
    with_reducible assumption
  · with_reducible assumption

end Sys2Proof.Machine
end

