-- ==== Sys2Proof/Laws/SoundClocks.lean ====
section
/-! SUPPORT. What Machine/Clocks.lean does keeps a sound state sound. -/

namespace Sys2Proof.Machine

theorem dramRootLost_sound {s : State} (hs : Sound s) :
    Sound (dramRootLost s) := by
  unfold dramRootLost
  refine foldl_sound ?_ ?_
  · intro z0
    intro z1
    intro z2
    split
    · with_reducible refine mk_sound ?_ rfl rfl rfl rfl rfl
      with_reducible assumption
    · with_reducible assumption
  · with_reducible assumption

theorem takeSource_sound {s : State} (hs : Sound s) :
    Sound (takeSource s) := by
  unfold takeSource
  extract_lets v0 v1
  have q2 : Sound v1 := by
    subst v1
    with_reducible refine mk_sound ?_ rfl rfl rfl rfl rfl
    with_reducible assumption
  clear_value v1
  refine foldl_sound ?_ ?_
  · intro z3
    intro z4
    intro z5
    split
    · with_reducible refine runPll_sound ?_
      with_reducible assumption
    · with_reducible assumption
  · with_reducible assumption

theorem setServo_sound {a0 : Nat} {s : State} (hs : Sound s) :
    Sound (setServo a0 s) := by
  unfold setServo
  extract_lets v0
  have q1 : Sound v0 := by
    subst v0
    with_reducible refine setO_sound ?_
    with_reducible assumption
  clear_value v0
  with_reducible refine setO_sound ?_
  with_reducible assumption

theorem freqChanged_sound {s : State} (hs : Sound s) :
    Sound (freqChanged s) := by
  unfold freqChanged
  with_reducible refine raise_sound ?_
  with_reducible assumption

theorem xtaBack_sound {s : State} (hs : Sound s) :
    Sound (xtaBack s) := by
  unfold xtaBack
  extract_lets v0 v1
  have q2 : Sound v0 := by
    subst v0
    with_reducible refine setO_sound ?_
    with_reducible assumption
  clear_value v0
  have q3 : Sound v1 := by
    subst v1
    with_reducible refine setO_sound ?_
    with_reducible refine setServo_sound ?_
    with_reducible assumption
  clear_value v1
  with_reducible refine raise_sound ?_
  with_reducible assumption

theorem taperStep_sound {s : State} (hs : Sound s) :
    Sound (taperStep s) := by
  unfold taperStep
  split
  · with_reducible assumption
  · split
    · with_reducible assumption
    · extract_lets v0 v1
      have q2 : Sound v1 := by
        subst v1
        with_reducible refine mk_sound ?_ rfl rfl rfl rfl rfl
        with_reducible assumption
      clear_value v1
      with_reducible refine setO_sound ?_
      with_reducible assumption

theorem forgetMaster_sound {s : State} (hs : Sound s) :
    Sound (forgetMaster s) := by
  unfold forgetMaster
  with_reducible refine mk_sound ?_ rfl rfl rfl rfl rfl
  with_reducible assumption

theorem forceRoot_sound {a0 : Nat} {s : State} (hs : Sound s) :
    Sound (forceRoot a0 s) := by
  unfold forceRoot
  extract_lets v0 v1 v2
  have q3 : Sound v0 := by
    subst v0
    with_reducible refine setO_sound ?_
    with_reducible assumption
  clear_value v0
  have q4 : Sound v1 := by
    subst v1
    with_reducible refine incO_sound ?_
    with_reducible assumption
  clear_value v1
  have q5 : Sound v2 := by
    subst v2
    with_reducible refine raise_sound ?_
    with_reducible assumption
  clear_value v2
  split
  · with_reducible refine addCause_sound ?_
    with_reducible assumption
  · with_reducible assumption

theorem ilyanRootLost_sound {s : State} (hs : Sound s) :
    Sound (ilyanRootLost s) := by
  unfold ilyanRootLost
  refine foldl_sound ?_ ?_
  · intro z0
    intro z1
    intro z2
    split
    · with_reducible refine loseP_sound ?_
      with_reducible assumption
    · with_reducible refine loseP_sound ?_
      with_reducible assumption
    · with_reducible refine loseP_sound ?_
      with_reducible assumption
    · with_reducible refine loseP_sound ?_
      with_reducible assumption
    · with_reducible assumption
  · with_reducible assumption

theorem startRampN_sound {a0 : Nat} {a1 : Nat} {a2 : Nat} {s : State} (hs : Sound s) :
    Sound (startRampN a0 a1 a2 s) := by
  unfold startRampN
  extract_lets v0 v1
  with_reducible refine freqState_sound ?_
  with_reducible refine setO_sound ?_
  with_reducible refine mk_sound ?_ rfl rfl rfl rfl rfl
  with_reducible assumption

theorem closeGate_sound {a0 : Bool} {a1 : Nat} {s : State} (hs : Sound s) :
    Sound (closeGate a0 a1 s) := by
  unfold closeGate
  extract_lets v0 v1 v2 v3 v4
  have q5 : Sound v0 := by
    subst v0
    split
    · with_reducible refine incO_sound ?_
      with_reducible assumption
    · with_reducible assumption
  clear_value v0
  have q6 : Sound v2 := by
    subst v2
    with_reducible refine mk_sound ?_ rfl rfl rfl rfl rfl
    with_reducible assumption
  clear_value v2
  have q7 : Sound v3 := by
    subst v3
    with_reducible refine setO_sound ?_
    with_reducible assumption
  clear_value v3
  have q8 : Sound v4 := by
    subst v4
    split
    · with_reducible refine stopCores_sound ?_
      with_reducible assumption
    · with_reducible assumption
  clear_value v4
  with_reducible refine raise_sound ?_
  with_reducible assumption

theorem execTaperIncrement_sound {s : State} (hs : Sound s) :
    OutSound (execTaperIncrement s) := by
  unfold execTaperIncrement
  refine next_sound ?_
  with_reducible refine taperStep_sound ?_
  with_reducible assumption

theorem startRamp_sound {a0 : Nat} {a1 : Nat} {s : State} (hs : Sound s) :
    Sound (startRamp a0 a1 s) := by
  unfold startRamp
  with_reducible refine startRampN_sound ?_
  with_reducible assumption

theorem coastStart_sound {s : State} (hs : Sound s) :
    Sound (coastStart s) := by
  unfold coastStart
  extract_lets v0 v1
  have q2 : Sound v1 := by
    subst v1
    with_reducible refine mk_sound ?_ rfl rfl rfl rfl rfl
    with_reducible assumption
  clear_value v1
  with_reducible refine startRamp_sound ?_
  with_reducible refine setO_sound ?_
  with_reducible assumption

theorem gateBlock_sound {a0 : Nat} {s : State} (hs : Sound s) :
    Sound (gateBlock a0 s) := by
  unfold gateBlock
  split
  · with_reducible refine mk_sound ?_ rfl rfl rfl rfl rfl
    with_reducible assumption
  · with_reducible refine closeGate_sound ?_
    with_reducible assumption

theorem execCkoutWrite_sound {a0 : Req} {a1 : Nat} {a2 : WVal} {s : State} (hs : Sound s) :
    OutSound (execCkoutWrite a0 a1 a2 s) := by
  unfold execCkoutWrite
  refine next_sound ?_
  with_reducible refine serveWrite_sound ?_ ?_
  · intro z0
    intro z1
    intro z2
    extract_lets v3 v4 v5 v6 v7
    clear_value v3
    clear_value v4
    clear_value v5
    clear_value v6
    have q8 : Sound v7 := by
      subst v7
      with_reducible refine setO_sound ?_
      with_reducible assumption
    clear_value v7
    split
    · with_reducible assumption
    · split
      · with_reducible assumption
      · dsimp -zeta only
        with_reducible refine emit_sound ?_
        with_reducible assumption
  · with_reducible assumption

theorem toFosc_sound {s : State} (hs : Sound s) :
    Sound (toFosc s) := by
  unfold toFosc
  split
  · with_reducible assumption
  · extract_lets v0 v1 v2 v3 v4
    have q5 : Sound v1 := by
      subst v1
      with_reducible refine mk_sound ?_ rfl rfl rfl rfl rfl
      with_reducible assumption
    clear_value v1
    have q6 : Sound v2 := by
      subst v2
      with_reducible refine endRamp_sound ?_
      with_reducible assumption
    clear_value v2
    have q7 : Sound v3 := by
      subst v3
      with_reducible refine setO_sound ?_
      with_reducible refine setO_sound ?_
      with_reducible assumption
    clear_value v3
    have q8 : Sound v4 := by
      subst v4
      with_reducible refine setO_sound ?_
      with_reducible refine setO_sound ?_
      with_reducible refine setO_sound ?_
      with_reducible assumption
    clear_value v4
    with_reducible refine freqChanged_sound ?_
    with_reducible assumption

theorem execGateForced_sound {a0 : Req} {a1 : WVal} {s : State} (hs : Sound s) :
    OutSound (execGateForced a0 a1 s) := by
  unfold execGateForced
  refine next_sound ?_
  with_reducible refine serveWrite_sound ?_ ?_
  · intro z0
    intro z1
    intro z2
    extract_lets v3 v4 v5 v6 v7 v8 v9 v10
    clear_value v3
    clear_value v4
    clear_value v5
    have q11 : Sound v6 := by
      subst v6
      with_reducible refine setO_sound ?_
      with_reducible refine setO_sound ?_
      with_reducible assumption
    clear_value v6
    have q12 : Sound v8 := by
      subst v8
      with_reducible refine mk_sound ?_ rfl rfl rfl rfl rfl
      with_reducible assumption
    clear_value v8
    have q13 : Sound v9 := by
      subst v9
      refine foldl_sound ?_ ?_
      · intro z14
        intro z15
        intro z16
        with_reducible refine gateBlock_sound ?_
        with_reducible assumption
      · with_reducible assumption
    clear_value v9
    clear_value v10
    split
    · with_reducible assumption
    · split
      · with_reducible assumption
      · dsimp -zeta only
        with_reducible refine coreStart_sound ?_
        with_reducible assumption
  · with_reducible assumption

theorem startChange_sound {s : State} (hs : Sound s) :
    Sound (startChange s) := by
  unfold startChange
  with_reducible refine startRamp_sound ?_
  with_reducible refine mk_sound ?_ rfl rfl rfl rfl rfl
  with_reducible assumption

theorem execClockForced_sound {a0 : Nat} {s : State} (hs : Sound s) :
    OutSound (execClockForced a0 s) := by
  unfold execClockForced
  with_reducible refine onUnit_sound ?_
  split
  · with_reducible assumption
  · extract_lets v0
    have q1 : Sound v0 := by
      subst v0
      split
      · with_reducible refine toFosc_sound ?_
        with_reducible assumption
      · with_reducible assumption
    clear_value v0
    with_reducible refine forceRoot_sound ?_
    with_reducible assumption

theorem xtaLost_sound {s : State} (hs : Sound s) :
    Sound (xtaLost s) := by
  unfold xtaLost
  extract_lets v0 v1 v2 v3
  have q4 : Sound v0 := by
    subst v0
    with_reducible refine setO_sound ?_
    with_reducible assumption
  clear_value v0
  have q5 : Sound v1 := by
    subst v1
    with_reducible refine forgetMaster_sound ?_
    with_reducible refine setO_sound ?_
    with_reducible refine setServo_sound ?_
    with_reducible assumption
  clear_value v1
  have q6 : Sound v3 := by
    subst v3
    with_reducible refine mk_sound ?_ rfl rfl rfl rfl rfl
    with_reducible assumption
  clear_value v3
  with_reducible refine raise_sound ?_
  with_reducible assumption

theorem sourceDown_sound {s : State} (hs : Sound s) :
    Sound (sourceDown s) := by
  unfold sourceDown
  with_reducible refine startRampN_sound ?_
  with_reducible assumption

theorem loseRef_sound {a0 : RefSrc} {s : State} (hs : Sound s) :
    Sound (loseRef a0 s) := by
  unfold loseRef
  split
  · split
    · with_reducible assumption
    · extract_lets v0 v1 v2 v3 v4 v5
      have q6 : Sound v0 := by
        subst v0
        with_reducible refine setO_sound ?_
        with_reducible assumption
      clear_value v0
      have q7 : Sound v1 := by
        subst v1
        with_reducible refine setO_sound ?_
        with_reducible assumption
      clear_value v1
      have q8 : Sound v3 := by
        subst v3
        with_reducible refine mk_sound ?_ rfl rfl rfl rfl rfl
        with_reducible assumption
      clear_value v3
      have q9 : Sound v4 := by
        subst v4
        with_reducible refine setO_sound ?_
        with_reducible assumption
      clear_value v4
      with_reducible refine mk_sound ?_ rfl rfl rfl rfl rfl
      with_reducible assumption
  · split
    · with_reducible assumption
    · extract_lets v10 v11 v12 v13 v14 v15 v16 v17 v18 v19
      have q20 : Sound v10 := by
        subst v10
        with_reducible refine setO_sound ?_
        with_reducible assumption
      clear_value v10
      have q21 : Sound v11 := by
        subst v11
        with_reducible refine setO_sound ?_
        with_reducible assumption
      clear_value v11
      have q22 : Sound v13 := by
        subst v13
        with_reducible refine mk_sound ?_ rfl rfl rfl rfl rfl
        with_reducible assumption
      clear_value v13
      have q23 : Sound v14 := by
        subst v14
        refine foldl_sound ?_ ?_
        · intro z24
          intro z25
          intro z26
          split
          · with_reducible refine setPll_sound ?_
            with_reducible assumption
          · with_reducible assumption
        · with_reducible assumption
      clear_value v14
      clear_value v15
      clear_value v16
      have q27 : Sound v17 := by
        subst v17
        split
        · with_reducible refine coastStart_sound ?_
          with_reducible assumption
        · with_reducible assumption
      clear_value v17
      clear_value v18
      have q28 : Sound v19 := by
        subst v19
        with_reducible refine raise_sound ?_
        with_reducible assumption
      clear_value v19
      split
      · with_reducible refine xtaLost_sound ?_
        with_reducible assumption
      · with_reducible assumption

theorem execStepFreqRequest_sound {a0 : Req} {a1 : WVal} {s : State} (hs : Sound s) :
    OutSound (execStepFreqRequest a0 a1 s) := by
  unfold execStepFreqRequest
  refine next_sound ?_
  with_reducible refine serveWrite_sound ?_ ?_
  · intro z0
    intro z1
    intro z2
    extract_lets v3 v4 v5
    clear_value v3
    clear_value v4
    split
    · with_reducible assumption
    · split
      · with_reducible assumption
      · split
        · with_reducible assumption
        · split
          · with_reducible assumption
          · dsimp -zeta only
            with_reducible refine identityChanged_sound ?_
            with_reducible refine freqState_sound ?_
            with_reducible refine setO_sound ?_
            with_reducible refine mk_sound ?_ rfl rfl rfl rfl rfl
            with_reducible assumption
  · with_reducible assumption

theorem execReferenceLost_sound {a0 : RefSrc} {s : State} (hs : Sound s) :
    OutSound (execReferenceLost a0 s) := by
  unfold execReferenceLost
  refine next_sound ?_
  with_reducible refine loseRef_sound ?_
  with_reducible assumption

theorem backStart_sound {s : State} (hs : Sound s) :
    Sound (backStart s) := by
  unfold backStart
  split
  · with_reducible assumption
  · split
    · with_reducible refine freqState_sound ?_
      with_reducible refine setO_sound ?_
      with_reducible refine mk_sound ?_ rfl rfl rfl rfl rfl
      with_reducible assumption
    · split
      · with_reducible refine mk_sound ?_ rfl rfl rfl rfl rfl
        with_reducible assumption
      · with_reducible refine startRamp_sound ?_
        with_reducible refine mk_sound ?_ rfl rfl rfl rfl rfl
        with_reducible assumption

theorem freqDue_sound {s : State} (hs : Sound s) :
    Sound (freqDue s) := by
  unfold freqDue
  split
  · with_reducible assumption
  · split
    · with_reducible refine startRamp_sound ?_
      with_reducible refine mk_sound ?_ rfl rfl rfl rfl rfl
      with_reducible assumption
    · split
      · split
        · with_reducible refine mk_sound ?_ rfl rfl rfl rfl rfl
          with_reducible assumption
        · with_reducible refine startChange_sound ?_
          with_reducible assumption
      · with_reducible assumption

theorem failPll_sound {a0 : Nat} {s : State} (hs : Sound s) :
    Sound (failPll a0 s) := by
  unfold failPll
  split
  · with_reducible assumption
  · extract_lets v0
    have q1 : Sound v0 := by
      subst v0
      with_reducible refine raise_sound ?_
      with_reducible refine setPll_sound ?_
      with_reducible assumption
    clear_value v0
    split
    · with_reducible refine toFosc_sound ?_
      with_reducible assumption
    · split
      · with_reducible refine forceRoot_sound ?_
        with_reducible refine ilyanRootLost_sound ?_
        with_reducible assumption
      · split
        · with_reducible refine forceRoot_sound ?_
          with_reducible refine dramRootLost_sound ?_
          with_reducible assumption
        · with_reducible assumption

theorem execPllFailed_sound {a0 : Nat} {s : State} (hs : Sound s) :
    OutSound (execPllFailed a0 s) := by
  unfold execPllFailed
  with_reducible refine onUnit_sound ?_
  with_reducible refine failPll_sound ?_
  with_reducible assumption

theorem execStepRefWrite_sound {a0 : Req} {a1 : WVal} {s : State} (hs : Sound s) :
    OutSound (execStepRefWrite a0 a1 s) := by
  unfold execStepRefWrite
  refine next_sound ?_
  with_reducible refine serveWrite_sound ?_ ?_
  · intro z0
    intro z1
    intro z2
    extract_lets v3 v4 v5 v6 v7 v8
    clear_value v3
    clear_value v4
    have q9 : Sound v5 := by
      subst v5
      with_reducible refine setO_sound ?_
      with_reducible assumption
    clear_value v5
    have q10 : Sound v7 := by
      subst v7
      with_reducible refine mk_sound ?_ rfl rfl rfl rfl rfl
      with_reducible assumption
    clear_value v7
    split
    · with_reducible assumption
    · split
      · with_reducible assumption
      · split
        · dsimp -zeta only
          with_reducible refine mk_sound ?_ rfl rfl rfl rfl rfl
          with_reducible assumption
        · split
          · with_reducible assumption
          · dsimp -zeta only
            split
            · with_reducible assumption
            · with_reducible refine sourceDown_sound ?_
              with_reducible assumption
  · with_reducible assumption

theorem settleCoast_sound {s : State} (hs : Sound s) :
    Sound (settleCoast s) := by
  unfold settleCoast
  split
  · with_reducible assumption
  · split
    · with_reducible refine coastStart_sound ?_
      with_reducible assumption
    · split
      · split
        · with_reducible refine backStart_sound ?_
          with_reducible assumption
        · with_reducible assumption
      · split
        · with_reducible refine startChange_sound ?_
          with_reducible assumption
        · with_reducible assumption

theorem execReferenceRestored_sound {a0 : RefSrc} {s : State} (hs : Sound s) :
    OutSound (execReferenceRestored a0 s) := by
  unfold execReferenceRestored
  refine next_sound ?_
  split
  · split
    · with_reducible assumption
    · extract_lets v0 v1 v2 v3
      have q4 : Sound v0 := by
        subst v0
        with_reducible refine setO_sound ?_
        with_reducible assumption
      clear_value v0
      have q5 : Sound v1 := by
        subst v1
        with_reducible refine setO_sound ?_
        with_reducible assumption
      clear_value v1
      have q6 : Sound v2 := by
        subst v2
        with_reducible refine setO_sound ?_
        with_reducible assumption
      clear_value v2
      with_reducible refine mk_sound ?_ rfl rfl rfl rfl rfl
      with_reducible assumption
  · split
    · with_reducible assumption
    · extract_lets v7 v8 v9 v10 v11 v12 v13
      have q14 : Sound v7 := by
        subst v7
        with_reducible refine setO_sound ?_
        with_reducible assumption
      clear_value v7
      have q15 : Sound v8 := by
        subst v8
        with_reducible refine setO_sound ?_
        with_reducible assumption
      clear_value v8
      have q16 : Sound v9 := by
        subst v9
        refine foldl_sound ?_ ?_
        · intro z17
          intro z18
          intro z19
          split
          · with_reducible refine setPll_sound ?_
            with_reducible assumption
          · with_reducible assumption
        · with_reducible assumption
      clear_value v9
      clear_value v10
      have q20 : Sound v11 := by
        subst v11
        with_reducible refine raise_sound ?_
        with_reducible assumption
      clear_value v11
      have q21 : Sound v12 := by
        subst v12
        refine foldl_sound ?_ ?_
        · intro z22
          intro z23
          intro z24
          with_reducible refine startTraining_sound ?_
          with_reducible assumption
        · with_reducible assumption
      clear_value v12
      have q25 : Sound v13 := by
        subst v13
        split
        · with_reducible refine backStart_sound ?_
          with_reducible assumption
        · with_reducible assumption
      clear_value v13
      split
      · with_reducible refine xtaBack_sound ?_
        with_reducible assumption
      · with_reducible assumption

theorem rampDone_sound {s : State} (hs : Sound s) :
    Sound (rampDone s) := by
  unfold rampDone
  split
  · with_reducible assumption
  · split
    · with_reducible assumption
    · extract_lets v0 v1 v2 v3 v4
      have q5 : Sound v0 := by
        subst v0
        with_reducible refine endRamp_sound ?_
        with_reducible assumption
      clear_value v0
      have q6 : Sound v1 := by
        subst v1
        with_reducible refine setO_sound ?_
        with_reducible refine setO_sound ?_
        with_reducible assumption
      clear_value v1
      have q7 : Sound v3 := by
        subst v3
        with_reducible refine setO_sound ?_
        with_reducible refine mk_sound ?_ rfl rfl rfl rfl rfl
        with_reducible assumption
      clear_value v3
      have q8 : Sound v4 := by
        subst v4
        split
        · with_reducible refine freqChanged_sound ?_
          with_reducible refine freqState_sound ?_
          with_reducible assumption
        · with_reducible refine freqChanged_sound ?_
          with_reducible refine freqState_sound ?_
          with_reducible assumption
        · with_reducible refine freqChanged_sound ?_
          with_reducible refine freqState_sound ?_
          with_reducible assumption
        · with_reducible refine startRampN_sound ?_
          with_reducible refine takeSource_sound ?_
          with_reducible assumption
        · split
          · with_reducible refine settleCoast_sound ?_
            with_reducible refine freqState_sound ?_
            with_reducible assumption
          · with_reducible refine startRoots_sound ?_
            with_reducible assumption
        · with_reducible refine settleCoast_sound ?_
          with_reducible refine freqState_sound ?_
          with_reducible assumption
      clear_value v4
      split
      · with_reducible refine sourceDown_sound ?_
        with_reducible assumption
      · with_reducible assumption

theorem execTaperRampDone_sound {s : State} (hs : Sound s) :
    OutSound (execTaperRampDone s) := by
  unfold execTaperRampDone
  refine next_sound ?_
  with_reducible refine rampDone_sound ?_
  with_reducible assumption

end Sys2Proof.Machine
end

