-- ==== Sys2Proof/Laws/SoundRunCtl.lean ====
section
/-! SUPPORT. What Machine/RunCtl.lean does keeps a sound state sound. -/

namespace Sys2Proof.Machine

theorem runCommand_sound {a0 : Req} {a1 : Nat} {a2 : WriteFn} {s : State} (ha2 : ∀ x0 x1, Sound x1 → Sound (a2 x0 x1).2) (hs : Sound s) :
    OutSound (runCommand a0 a1 a2 s) := by
  unfold runCommand
  refine next_sound ?_
  with_reducible refine serveWrite_sound ?_ ?_
  · intro z0
    intro z1
    intro z2
    with_reducible apply ha2
    with_reducible assumption
  · with_reducible assumption

theorem postStop_sound {a0 : Nat} {s : State} (hs : Sound s) :
    Sound (postStop a0 s) := by
  unfold postStop
  split
  · extract_lets v0 v1
    have q2 : Sound v0 := by
      subst v0
      with_reducible refine addCause_sound ?_
      with_reducible assumption
    clear_value v0
    with_reducible refine mk_sound ?_ rfl rfl rfl rfl rfl
    with_reducible assumption
  · extract_lets v3 v4
    have q5 : Sound v3 := by
      subst v3
      with_reducible refine addCause_sound ?_
      with_reducible assumption
    clear_value v3
    with_reducible refine mk_sound ?_ rfl rfl rfl rfl rfl
    with_reducible assumption
  · with_reducible refine addCause_sound ?_
    with_reducible assumption
  · with_reducible refine addCause_sound ?_
    with_reducible assumption
  · extract_lets v6 v7
    have q8 : Sound v6 := by
      subst v6
      with_reducible refine addCause_sound ?_
      with_reducible assumption
    clear_value v6
    with_reducible refine mk_sound ?_ rfl rfl rfl rfl rfl
    with_reducible assumption
  · with_reducible assumption

theorem suspectFailed_sound {a0 : List (Nat × Nat)} {s : State} (hs : Sound s) :
    Sound (suspectFailed a0 s) := by
  unfold suspectFailed
  refine foldl_sound ?_ ?_
  · intro z0
    intro z1
    intro z2
    with_reducible refine suspectCluster_sound ?_
    with_reducible assumption
  · with_reducible assumption

theorem loadResetCopy_sound {s : State} (hs : Sound s) :
    Sound (loadResetCopy s) := by
  unfold loadResetCopy
  extract_lets v0 v1 v2 v3 v4 v5
  have q6 : Sound v0 := by
    subst v0
    with_reducible refine loadPlanes_sound ?_
    with_reducible assumption
  clear_value v0
  have q7 : Sound v2 := by
    subst v2
    with_reducible refine mk_sound ?_ rfl rfl rfl rfl rfl
    with_reducible assumption
  clear_value v2
  clear_value v3
  have q8 : Sound v5 := by
    subst v5
    with_reducible refine dramZero_sound ?_
    with_reducible refine mk_sound ?_ rfl rfl rfl rfl rfl
    with_reducible assumption
  clear_value v5
  refine foldl_sound ?_ ?_
  · intro z9
    intro z10
    intro z11
    with_reducible refine setFar_sound ?_
    with_reducible assumption
  · with_reducible assumption

theorem enterStop_sound {s : State} (hs : Sound s) :
    Sound (enterStop s) := by
  unfold enterStop
  extract_lets v0 v1 v2
  have q3 : Sound v0 := by
    subst v0
    with_reducible refine settleSwaps_sound ?_
    with_reducible refine hostStep_sound ?_
    with_reducible assumption
  clear_value v0
  have q4 : Sound v1 := by
    subst v1
    split
    · with_reducible refine disarmNow_sound ?_
      with_reducible assumption
    · with_reducible assumption
  clear_value v1
  split
  · with_reducible refine startRamp_sound ?_
    with_reducible refine mk_sound ?_ rfl rfl rfl rfl rfl
    with_reducible assumption
  · with_reducible assumption

theorem stopWith_sound {a0 : List Nat} {a1 : RunState} {s : State} (hs : Sound s) :
    Sound (stopWith a0 a1 s) := by
  unfold stopWith
  with_reducible refine enterStop_sound ?_
  with_reducible refine recordStop_sound ?_
  with_reducible assumption

theorem calibrateEntry_sound {s : State} (hs : Sound s) :
    Sound (calibrateEntry s) := by
  unfold calibrateEntry
  split
  · with_reducible assumption
  · extract_lets v0
    have q1 : Sound v0 := by
      subst v0
      with_reducible refine setO_sound ?_
      with_reducible assumption
    clear_value v0
    with_reducible refine modCtx_sound ?_
    with_reducible assumption

theorem initialGov_sound {s : State} (hs : Sound s) :
    Sound (initialGov s) := by
  unfold initialGov
  extract_lets v0 v1
  clear_value v0
  with_reducible refine mk_sound ?_ rfl rfl rfl rfl rfl
  with_reducible assumption

theorem recoveryEvent_sound {a0 : Replay} {s : State} {a2 : Nat × Nat × Nat × Nat} (hs : Sound s) :
    Sound (recoveryEvent a0 s a2) := by
  unfold recoveryEvent
  extract_lets v0 v1 v2 v3
  clear_value v0
  have q4 : Sound v1 := by
    subst v1
    with_reducible refine setO_sound ?_
    with_reducible refine setO_sound ?_
    with_reducible refine incO_sound ?_
    with_reducible assumption
  clear_value v1
  have q5 : Sound v2 := by
    subst v2
    with_reducible refine setO_sound ?_
    with_reducible refine setO_sound ?_
    with_reducible assumption
  clear_value v2
  have q6 : Sound v3 := by
    subst v3
    with_reducible refine setO_sound ?_
    with_reducible refine setO_sound ?_
    with_reducible refine setO_sound ?_
    with_reducible assumption
  clear_value v3
  with_reducible refine raise_sound ?_
  with_reducible assumption

theorem execPark_sound {a0 : Req} {s : State} (hs : Sound s) :
    OutSound (execPark a0 s) := by
  unfold execPark
  with_reducible refine runCommand_sound ?_ ?_
  · intro z0
    intro z1
    intro z2
    split
    · extract_lets v3 v4
      have q5 : Sound v3 := by
        subst v3
        with_reducible refine dropTx_sound ?_
        with_reducible refine targetOff_sound ?_
        with_reducible refine checkpointNow_sound ?_
        with_reducible assumption
      clear_value v3
      dsimp -zeta only
      with_reducible refine setRunState_sound ?_
      with_reducible refine mk_sound ?_ rfl rfl rfl rfl rfl
      with_reducible assumption
    · with_reducible assumption
  · with_reducible assumption

theorem lateSwaps_sound {s : State} (hs : Sound s) :
    Sound (lateSwaps s) := by
  unfold lateSwaps
  extract_lets v0 v1 v2 v3
  clear_value v0
  clear_value v1
  with_reducible refine mk_sound ?_ rfl rfl rfl rfl rfl
  with_reducible assumption

theorem rewriteDone_sound {a0 : Nat} {a1 : Nat} {s : State} (hs : Sound s) :
    Sound (rewriteDone a0 a1 s) := by
  unfold rewriteDone
  extract_lets v0 v1 v2 v3
  clear_value v0
  clear_value v1
  have q4 : Sound v3 := by
    subst v3
    with_reducible refine mk_sound ?_ rfl rfl rfl rfl rfl
    with_reducible assumption
  clear_value v3
  refine foldl_sound ?_ ?_
  · intro z5
    intro z6
    intro z7
    with_reducible refine raise_sound ?_
    with_reducible assumption
  · with_reducible assumption

theorem enterRunning_sound {s : State} (hs : Sound s) :
    Sound (enterRunning s) := by
  unfold enterRunning
  extract_lets v0
  have q1 : Sound v0 := by
    subst v0
    with_reducible refine setRunState_sound ?_
    with_reducible assumption
  clear_value v0
  split
  · with_reducible assumption
  · with_reducible refine calibrateEntry_sound ?_
    with_reducible assumption

theorem execStop_sound {a0 : Req} {s : State} (hs : Sound s) :
    OutSound (execStop a0 s) := by
  unfold execStop
  with_reducible refine runCommand_sound ?_ ?_
  · intro z0
    intro z1
    intro z2
    split
    · with_reducible assumption
    · dsimp -zeta only
      with_reducible refine postStop_sound ?_
      with_reducible assumption
    · dsimp -zeta only
      with_reducible refine postStop_sound ?_
      with_reducible assumption
    · dsimp -zeta only
      with_reducible refine postStop_sound ?_
      with_reducible assumption
    · with_reducible assumption
  · with_reducible assumption

theorem initialState_sound {a0 : Nat} {s : State} (hs : Sound s) :
    Sound (initialState a0 s) := by
  unfold initialState
  extract_lets v0 v1 v2 v3 v4 v5 v6 v7 v8 v9 v10
  have q11 : Sound v0 := by
    subst v0
    with_reducible refine newWindow_sound ?_
    with_reducible refine dropTx_sound ?_
    with_reducible refine disarmNow_sound ?_
    with_reducible refine clearSweep_sound ?_
    with_reducible assumption
  clear_value v0
  have q12 : Sound v8 := by
    subst v8
    refine mk_sound_le ?_ rfl rfl rfl rfl (Nat.zero_le _)
    with_reducible assumption
  clear_value v8
  have q13 : Sound v9 := by
    subst v9
    with_reducible refine captureBi_sound ?_
    with_reducible refine initialGov_sound ?_
    with_reducible assumption
  clear_value v9
  have q14 : Sound v10 := by
    subst v10
    with_reducible refine carrySwaps_sound ?_
    with_reducible refine setRunState_sound ?_
    with_reducible assumption
  clear_value v10
  with_reducible refine enterStop_sound ?_
  with_reducible refine checkpointFresh_sound ?_
  with_reducible assumption

theorem runAdmit_sound {a0 : Bool} {s : State} (hs : Sound s) :
    Sound (runAdmit a0 s).2 := by
  unfold runAdmit
  split
  · with_reducible assumption
  · split
    split
    · dsimp -zeta only
      with_reducible refine mk_sound ?_ rfl rfl rfl rfl rfl
      refine sound_of_eq (by with_reducible assumption) ?_
      split
      · with_reducible refine takeFrame_sound ?_
        with_reducible assumption
      · with_reducible assumption
    · split
      · with_reducible assumption
      · dsimp -zeta only
        refine sound_of_eq (by with_reducible assumption) ?_
        split
        · with_reducible refine takeFrame_sound ?_
          with_reducible assumption
        · with_reducible assumption

theorem substituteAll_sound {a0 : Nat} {a1 : List (Nat × Nat)} {s : State} (hs : Sound s) :
    Sound (substituteAll a0 a1 s).2 := by
  induction' a1 with y t ih generalizing a0 s
  · unfold substituteAll
    with_reducible assumption
  · unfold substituteAll
    split
    · dsimp -zeta only
      with_reducible refine recoveryFailed_sound ?_
      with_reducible assumption
    · with_reducible apply ih
      with_reducible refine substitute_sound ?_
      with_reducible assumption

theorem startRun_sound {a0 : RunState} {s : State} (hs : Sound s) :
    Sound (startRun a0 s) := by
  unfold startRun
  extract_lets v0 v1 v2 v3 v4
  have q5 : Sound v0 := by
    subst v0
    with_reducible refine parkRestore_sound ?_
    with_reducible refine discardKept_sound ?_
    with_reducible assumption
  clear_value v0
  have q6 : Sound v2 := by
    subst v2
    with_reducible refine newWindow_sound ?_
    with_reducible assumption
  clear_value v2
  have q7 : Sound v3 := by
    subst v3
    split
    · with_reducible refine mk_sound ?_ rfl rfl rfl rfl rfl
      with_reducible assumption
    · with_reducible refine mk_sound ?_ rfl rfl rfl rfl rfl
      with_reducible assumption
  clear_value v3
  split
  · with_reducible refine enterRunning_sound ?_
    with_reducible assumption
  · with_reducible refine setRunState_sound ?_
    with_reducible assumption

theorem hostRestoreDone_sound {a0 : Replay} {s : State} (hs : Sound s) :
    Sound (hostRestoreDone a0 s) := by
  unfold hostRestoreDone
  extract_lets v0 v1 v2 v3 v4 v5 v6
  clear_value v0
  clear_value v1
  have q7 : Sound v3 := by
    subst v3
    with_reducible refine lateSwaps_sound ?_
    with_reducible refine mk_sound ?_ rfl rfl rfl rfl rfl
    with_reducible assumption
  clear_value v3
  have q8 : Sound v4 := by
    subst v4
    with_reducible refine captureBi_sound ?_
    with_reducible refine setO_sound ?_
    with_reducible assumption
  clear_value v4
  have q9 : Sound v5 := by
    subst v5
    refine foldl_sound ?_ ?_
    · intro z10
      intro z11
      intro z12
      with_reducible refine recoveryEvent_sound ?_
      with_reducible assumption
    · with_reducible assumption
  clear_value v5
  have q13 : Sound v6 := by
    subst v6
    with_reducible refine raise_sound ?_
    with_reducible assumption
  clear_value v6
  with_reducible refine stopWith_sound ?_
  with_reducible assumption

theorem designResetNow_sound {s : State} (hs : Sound s) :
    Sound (designResetNow s) := by
  unfold designResetNow
  with_reducible refine initialState_sound ?_
  with_reducible refine loadResetCopy_sound ?_
  with_reducible assumption

theorem endReplay_sound {s : State} (hs : Sound s) :
    Sound (endReplay s) := by
  unfold endReplay
  split
  · with_reducible assumption
  · extract_lets v0 v1 v2 v3 v4 v5
    clear_value v0
    have q6 : Sound v2 := by
      subst v2
      split
      · with_reducible refine mk_sound ?_ rfl rfl rfl rfl rfl
        with_reducible assumption
      · with_reducible assumption
    clear_value v2
    have q7 : Sound v5 := by
      subst v5
      with_reducible refine mk_sound ?_ rfl rfl rfl rfl rfl
      with_reducible assumption
    clear_value v5
    with_reducible refine lateSwaps_sound ?_
    split
    · with_reducible refine setO_sound ?_
      with_reducible assumption
    · with_reducible assumption

theorem recoveryStop_sound {s : State} (hs : Sound s) :
    Sound (recoveryStop s) := by
  unfold recoveryStop
  extract_lets v0 v1 v2 v3 v4
  clear_value v0
  have q5 : Sound v1 := by
    subst v1
    with_reducible refine endReplay_sound ?_
    with_reducible assumption
  clear_value v1
  have q6 : Sound v4 := by
    subst v4
    with_reducible refine mk_sound ?_ rfl rfl rfl rfl rfl
    with_reducible assumption
  clear_value v4
  with_reducible refine stopWith_sound ?_
  with_reducible assumption

theorem execReplayDone_sound {s : State} (hs : Sound s) :
    OutSound (execReplayDone s) := by
  unfold execReplayDone
  refine next_sound ?_
  split
  · split
    · with_reducible refine hostRestoreDone_sound ?_
      with_reducible assumption
    · with_reducible assumption
  · with_reducible assumption

theorem execClusterRecovered_sound {s : State} (hs : Sound s) :
    OutSound (execClusterRecovered s) := by
  unfold execClusterRecovered
  refine next_sound ?_
  split
  · with_reducible assumption
  · split
    · with_reducible assumption
    · extract_lets v0 v1 v2 v3
      have q4 : Sound v0 := by
        subst v0
        with_reducible refine rewriteDone_sound ?_
        with_reducible assumption
      clear_value v0
      have q5 : Sound v2 := by
        subst v2
        with_reducible refine lateSwaps_sound ?_
        with_reducible refine mk_sound ?_ rfl rfl rfl rfl rfl
        with_reducible assumption
      clear_value v2
      have q6 : Sound v3 := by
        subst v3
        refine foldl_sound ?_ ?_
        · intro z7
          intro z8
          intro z9
          with_reducible refine recoveryEvent_sound ?_
          with_reducible assumption
        · with_reducible assumption
      clear_value v3
      split
      · split
        · with_reducible refine setRunState_sound ?_
          with_reducible assumption
        · with_reducible refine enterRunning_sound ?_
          with_reducible assumption
      · with_reducible refine stopWith_sound ?_
        with_reducible assumption

theorem abortNow_sound {s : State} (hs : Sound s) :
    Sound (abortNow s) := by
  unfold abortNow
  extract_lets v0 v1 v2 v3 v4
  clear_value v0
  have q5 : Sound v1 := by
    subst v1
    with_reducible refine dropTx_sound ?_
    with_reducible refine endReplay_sound ?_
    with_reducible assumption
  clear_value v1
  have q6 : Sound v4 := by
    subst v4
    with_reducible refine mk_sound ?_ rfl rfl rfl rfl rfl
    with_reducible assumption
  clear_value v4
  with_reducible refine stopWith_sound ?_
  with_reducible assumption

theorem execSpareSubstituted_sound {s : State} (hs : Sound s) :
    OutSound (execSpareSubstituted s) := by
  unfold execSpareSubstituted
  refine next_sound ?_
  split
  · with_reducible assumption
  · extract_lets v0 v1 v2 v3 v4 v5 v6 v7
    clear_value v0
    clear_value v1
    have q8 : Sound v2 := by
      subst v2
      with_reducible refine finishDrain_sound ?_
      with_reducible assumption
    clear_value v2
    clear_value v3
    have q9 : Sound v4 := by
      subst v4
      with_reducible refine suspectFailed_sound ?_
      with_reducible assumption
    clear_value v4
    split
    · with_reducible refine recoveryStop_sound ?_
      refine sound_of_eq (by with_reducible assumption) ?_
      with_reducible refine substituteAll_sound ?_
      with_reducible assumption
    · extract_lets v10 v11 v12
      clear_value v10
      clear_value v11
      split
      · with_reducible refine recoveryStop_sound ?_
        refine foldl_sound ?_ ?_
        · intro z13
          intro z14
          intro z15
          with_reducible refine reportFailed_sound ?_
          with_reducible assumption
        · refine sound_of_eq (by with_reducible assumption) ?_
          with_reducible refine substituteAll_sound ?_
          with_reducible assumption
      · extract_lets v16
        with_reducible refine startReplay_sound ?_
        refine sound_of_eq (by with_reducible assumption) ?_
        with_reducible refine substituteAll_sound ?_
        with_reducible assumption

theorem execRestore_sound {a0 : Req} {s : State} (hs : Sound s) :
    OutSound (execRestore a0 s) := by
  unfold execRestore
  refine next_sound ?_
  with_reducible refine serveWrite_sound ?_ ?_
  · intro z0
    intro z1
    intro z2
    split
    · with_reducible assumption
    · split
      · with_reducible assumption
      · extract_lets v3 v4 v5 v6 v7 v8
        clear_value v3
        have q9 : Sound v6 := by
          subst v6
          with_reducible refine setRunState_sound ?_
          with_reducible refine mk_sound ?_ rfl rfl rfl rfl rfl
          with_reducible assumption
        clear_value v6
        have q10 : Sound v7 := by
          subst v7
          with_reducible refine startReplay_sound ?_
          with_reducible refine setO_sound ?_
          with_reducible assumption
        clear_value v7
        split
        · dsimp -zeta only
          with_reducible refine hostRestoreDone_sound ?_
          with_reducible refine mk_sound ?_ rfl rfl rfl rfl rfl
          with_reducible assumption
        · with_reducible assumption
  · with_reducible assumption

theorem execStateLoad_sound {a0 : Req} {s : State} (hs : Sound s) :
    OutSound (execStateLoad a0 s) := by
  unfold execStateLoad
  with_reducible refine runCommand_sound ?_ ?_
  · intro z0
    intro z1
    intro z2
    split
    · dsimp -zeta only
      with_reducible refine initialState_sound ?_
      with_reducible refine mapLanes_sound ?_
      with_reducible assumption
    · dsimp -zeta only
      with_reducible refine initialState_sound ?_
      with_reducible refine mapLanes_sound ?_
      with_reducible assumption
    · with_reducible assumption
  · with_reducible assumption

theorem execRun_sound {a0 : Req} {s : State} (hs : Sound s) :
    OutSound (execRun a0 s) := by
  unfold execRun
  with_reducible refine runCommand_sound ?_ ?_
  · intro z0
    intro z1
    intro z2
    split
    · with_reducible assumption
    · split
      · dsimp -zeta only
        refine sound_of_eq (by with_reducible assumption) ?_
        with_reducible refine runAdmit_sound ?_
        with_reducible assumption
      · extract_lets v3 v4
        have q5 : Sound v4 := by
          subst v4
          with_reducible refine mk_sound ?_ rfl rfl rfl rfl rfl
          refine sound_of_eq (by with_reducible assumption) ?_
          with_reducible refine runAdmit_sound ?_
          with_reducible assumption
        clear_value v4
        dsimp -zeta only
        with_reducible refine enterRunning_sound ?_
        with_reducible assumption
    · split
      · dsimp -zeta only
        refine sound_of_eq (by with_reducible assumption) ?_
        with_reducible refine runAdmit_sound ?_
        with_reducible assumption
      · extract_lets v6 v7
        have q8 : Sound v7 := by
          subst v7
          with_reducible refine mk_sound ?_ rfl rfl rfl rfl rfl
          refine sound_of_eq (by with_reducible assumption) ?_
          with_reducible refine runAdmit_sound ?_
          with_reducible assumption
        clear_value v7
        dsimp -zeta only
        with_reducible refine enterRunning_sound ?_
        with_reducible assumption
    · split
      · dsimp -zeta only
        refine sound_of_eq (by with_reducible assumption) ?_
        with_reducible refine runAdmit_sound ?_
        with_reducible assumption
      · dsimp -zeta only
        with_reducible refine startRun_sound ?_
        refine sound_of_eq (by with_reducible assumption) ?_
        with_reducible refine runAdmit_sound ?_
        with_reducible assumption
    · split
      · dsimp -zeta only
        refine sound_of_eq (by with_reducible assumption) ?_
        with_reducible refine runAdmit_sound ?_
        with_reducible assumption
      · dsimp -zeta only
        with_reducible refine startRun_sound ?_
        refine sound_of_eq (by with_reducible assumption) ?_
        with_reducible refine runAdmit_sound ?_
        with_reducible assumption
    · with_reducible assumption
  · with_reducible assumption

theorem execStep_sound {a0 : Req} {s : State} (hs : Sound s) :
    OutSound (execStep a0 s) := by
  unfold execStep
  with_reducible refine runCommand_sound ?_ ?_
  · intro z0
    intro z1
    intro z2
    split
    · split
      · dsimp -zeta only
        refine sound_of_eq (by with_reducible assumption) ?_
        with_reducible refine runAdmit_sound ?_
        with_reducible assumption
      · dsimp -zeta only
        with_reducible refine startRun_sound ?_
        with_reducible refine mk_sound ?_ rfl rfl rfl rfl rfl
        refine sound_of_eq (by with_reducible assumption) ?_
        with_reducible refine runAdmit_sound ?_
        with_reducible assumption
    · split
      · dsimp -zeta only
        refine sound_of_eq (by with_reducible assumption) ?_
        with_reducible refine runAdmit_sound ?_
        with_reducible assumption
      · dsimp -zeta only
        with_reducible refine startRun_sound ?_
        with_reducible refine mk_sound ?_ rfl rfl rfl rfl rfl
        refine sound_of_eq (by with_reducible assumption) ?_
        with_reducible refine runAdmit_sound ?_
        with_reducible assumption
    · with_reducible assumption
  · with_reducible assumption

theorem execDesignReset_sound {a0 : Req} {s : State} (hs : Sound s) :
    OutSound (execDesignReset a0 s) := by
  unfold execDesignReset
  with_reducible refine runCommand_sound ?_ ?_
  · intro z0
    intro z1
    intro z2
    split
    · split
      · with_reducible assumption
      · dsimp -zeta only
        with_reducible refine designResetNow_sound ?_
        with_reducible assumption
    · split
      · with_reducible assumption
      · dsimp -zeta only
        with_reducible refine designResetNow_sound ?_
        with_reducible assumption
    · split
      · with_reducible assumption
      · dsimp -zeta only
        with_reducible refine designResetNow_sound ?_
        with_reducible assumption
    · with_reducible assumption
  · with_reducible assumption

theorem execRunTo_sound {a0 : Req} {s : State} (hs : Sound s) :
    OutSound (execRunTo a0 s) := by
  unfold execRunTo
  with_reducible refine runCommand_sound ?_ ?_
  · intro z0
    intro z1
    intro z2
    extract_lets v3 v4 v5 v6
    clear_value v3
    split
    · subst v4
      beta_reduce
      split
      · with_reducible assumption
      · split
        · dsimp -zeta only
          refine sound_of_eq (by with_reducible assumption) ?_
          with_reducible refine runAdmit_sound ?_
          with_reducible assumption
        · extract_lets v7 v8
          have q9 : Sound v8 := by
            subst v8
            with_reducible refine mk_sound ?_ rfl rfl rfl rfl rfl
            refine sound_of_eq (by with_reducible assumption) ?_
            with_reducible refine runAdmit_sound ?_
            with_reducible assumption
          clear_value v8
          dsimp -zeta only
          split
          · with_reducible assumption
          · with_reducible refine startRun_sound ?_
            with_reducible assumption
    · subst v4
      beta_reduce
      split
      · with_reducible assumption
      · split
        · dsimp -zeta only
          refine sound_of_eq (by with_reducible assumption) ?_
          with_reducible refine runAdmit_sound ?_
          with_reducible assumption
        · extract_lets v10 v11
          have q12 : Sound v11 := by
            subst v11
            with_reducible refine mk_sound ?_ rfl rfl rfl rfl rfl
            refine sound_of_eq (by with_reducible assumption) ?_
            with_reducible refine runAdmit_sound ?_
            with_reducible assumption
          clear_value v11
          dsimp -zeta only
          split
          · with_reducible assumption
          · with_reducible refine startRun_sound ?_
            with_reducible assumption
    · subst v4
      beta_reduce
      split
      · with_reducible assumption
      · split
        · dsimp -zeta only
          refine sound_of_eq (by with_reducible assumption) ?_
          with_reducible refine runAdmit_sound ?_
          with_reducible assumption
        · extract_lets v13 v14
          have q15 : Sound v14 := by
            subst v14
            with_reducible refine mk_sound ?_ rfl rfl rfl rfl rfl
            refine sound_of_eq (by with_reducible assumption) ?_
            with_reducible refine runAdmit_sound ?_
            with_reducible assumption
          clear_value v14
          dsimp -zeta only
          split
          · with_reducible assumption
          · with_reducible refine startRun_sound ?_
            with_reducible assumption
    · with_reducible assumption
  · with_reducible assumption

theorem execAbort_sound {a0 : Req} {s : State} (hs : Sound s) :
    OutSound (execAbort a0 s) := by
  unfold execAbort
  with_reducible refine runCommand_sound ?_ ?_
  · intro z0
    intro z1
    intro z2
    split
    · with_reducible assumption
    · with_reducible assumption
    · with_reducible assumption
    · with_reducible assumption
    · dsimp -zeta only
      with_reducible refine abortNow_sound ?_
      with_reducible assumption
  · with_reducible assumption

end Sys2Proof.Machine
end

