-- ==== Sys2Proof/Laws/SoundImages.lean ====
section
/-! SUPPORT. What Machine/Images.lean does keeps a sound state sound. -/

namespace Sys2Proof.Machine

theorem startShadow_sound {a0 : ImgHdr} {s : State} (hs : Sound s) :
    Sound (startShadow a0 s) := by
  unfold startShadow
  extract_lets v0 v1 v2 v3 v4 v5 v6
  clear_value v0
  clear_value v1
  with_reducible refine mk_sound ?_ rfl rfl rfl rfl rfl
  with_reducible assumption

theorem withTier_sound {a0 : State → State} {s : State} (ha0 : ∀ x0, Sound x0 → Sound (a0 x0)) (hs : Sound s) :
    Sound (withTier a0 s) := by
  unfold withTier
  extract_lets v0 v1 v2 v3 v4
  have q5 : Sound v2 := by
    subst v2
    with_reducible apply ha0
    with_reducible refine mk_sound ?_ rfl rfl rfl rfl rfl
    with_reducible assumption
  clear_value v2
  have q6 : Sound v3 := by
    subst v3
    with_reducible apply ha0
    with_reducible assumption
  clear_value v3
  with_reducible refine mk_sound ?_ rfl rfl rfl rfl rfl
  with_reducible assumption

theorem putExs_sound {a0 : Nat} {a1 : Nat} {a2 : Nat} {a3 : List Nat} {s : State} (hs : Sound s) :
    Sound (putExs a0 a1 a2 a3 s) := by
  unfold putExs
  refine foldl_sound ?_ ?_
  · intro z0
    intro z1
    intro z2
    with_reducible refine setExs_sound ?_
    with_reducible assumption
  · with_reducible assumption

theorem imageApplied_sound {a0 : ImgHdr} {a1 : Nat} {a2 : Nat} {s : State} (hs : Sound s) :
    Sound (imageApplied a0 a1 a2 s) := by
  unfold imageApplied
  extract_lets v0 v1 v2 v3 v4 v5
  have q6 : Sound v0 := by
    subst v0
    with_reducible refine incO_sound ?_
    with_reducible refine setO_sound ?_
    with_reducible assumption
  clear_value v0
  have q7 : Sound v1 := by
    subst v1
    with_reducible refine setO_sound ?_
    with_reducible assumption
  clear_value v1
  have q8 : Sound v2 := by
    subst v2
    split
    · with_reducible refine setO_sound ?_
      with_reducible refine setO_sound ?_
      with_reducible assumption
    · with_reducible assumption
  clear_value v2
  clear_value v3
  have q9 : Sound v5 := by
    subst v5
    with_reducible refine mk_sound ?_ rfl rfl rfl rfl rfl
    with_reducible assumption
  clear_value v5
  with_reducible refine setO_sound ?_
  with_reducible refine setO_sound ?_
  with_reducible assumption

theorem putDict_sound {a0 : Nat} {a1 : Nat} {a2 : Nat} {a3 : List Nat} {s : State} (hs : Sound s) :
    Sound (putDict a0 a1 a2 a3 s) := by
  unfold putDict
  refine foldl_sound ?_ ?_
  · intro z0
    intro z1
    intro z2
    with_reducible refine setDict_sound ?_
    with_reducible assumption
  · with_reducible assumption

theorem appliedEvent_sound {a0 : ImgHdr} {s : State} (hs : Sound s) :
    Sound (appliedEvent a0 s) := by
  unfold appliedEvent
  with_reducible refine raise_sound ?_
  with_reducible assumption

theorem wipeMaps_sound {a0 : Nat → Bool} {s : State} (hs : Sound s) :
    Sound (wipeMaps a0 s) := by
  unfold wipeMaps
  with_reducible refine mk_sound ?_ rfl rfl rfl rfl rfl
  with_reducible assumption

theorem regionDeposits_sound {a0 : Applying} {s : State} (hs : Sound s) :
    Sound (regionDeposits a0 s) := by
  unfold regionDeposits
  extract_lets v0 v1 v2 v3
  clear_value v1
  have q4 : Sound v3 := by
    subst v3
    refine mk_sound_le ?_ rfl rfl rfl rfl (List.length_filter_le _ _)
    with_reducible assumption
  clear_value v3
  refine foldl_sound ?_ ?_
  · intro z5
    intro z6
    intro z7
    with_reducible refine depositAt_sound ?_
    with_reducible assumption
  · with_reducible assumption

theorem sealBanks_sound {a0 : Nat → Bool} {a1 : Nat → Bool} {s : State} (hs : Sound s) :
    Sound (sealBanks a0 a1 s) := by
  unfold sealBanks
  with_reducible refine mk_sound ?_ rfl rfl rfl rfl rfl
  with_reducible assumption

theorem copyDemand_sound {s : State} (hs : Sound s) :
    Sound (copyDemand s) := by
  unfold copyDemand
  extract_lets v0 v1 v2 v3 v4 v5
  clear_value v0
  with_reducible refine mk_sound ?_ rfl rfl rfl rfl rfl
  with_reducible assumption

theorem finishShadow_sound {a0 : Applying} {s : State} (hs : Sound s) :
    Sound (finishShadow a0 s) := by
  unfold finishShadow
  extract_lets v0 v1 v2 v3 v4 v5 v6 v7
  have q8 : Sound v1 := by
    subst v1
    with_reducible refine withTier_sound ?_ ?_
    · intro z9
      intro z10
      refine foldl_sound ?_ ?_
      · intro z11
        intro z12
        intro z13
        split
        · extract_lets v14
          clear_value v14
          with_reducible refine putDict_sound ?_
          with_reducible assumption
        · with_reducible refine putExs_sound ?_
          with_reducible assumption
        · with_reducible assumption
      · with_reducible assumption
    · with_reducible assumption
  clear_value v1
  have q15 : Sound v2 := by
    subst v2
    with_reducible refine sealBanks_sound ?_
    with_reducible refine setO_sound ?_
    with_reducible assumption
  clear_value v2
  have q16 : Sound v4 := by
    subst v4
    with_reducible refine mk_sound ?_ rfl rfl rfl rfl rfl
    with_reducible assumption
  clear_value v4
  have q17 : Sound v5 := by
    subst v5
    with_reducible refine dropPrivate_sound ?_
    with_reducible refine lanternImage_sound ?_
    with_reducible refine imageApplied_sound ?_
    with_reducible assumption
  clear_value v5
  have q18 : Sound v6 := by
    subst v6
    with_reducible refine appliedEvent_sound ?_
    with_reducible assumption
  clear_value v6
  split
  · with_reducible refine requestSwap_sound ?_
    with_reducible assumption
  · with_reducible refine settleSwaps_sound ?_
    with_reducible assumption

theorem execOwnerToken_sound {a0 : Req} {a1 : WVal} {s : State} (hs : Sound s) :
    OutSound (execOwnerToken a0 a1 s) := by
  unfold execOwnerToken
  refine next_sound ?_
  beta_reduce
  split
  · split
    · with_reducible refine closeSession_sound ?_
      with_reducible refine serveWrite_sound ?_ ?_
      · intro z0
        intro z1
        intro z2
        extract_lets v3 v4
        clear_value v3
        have q5 : Sound v4 := by
          subst v4
          with_reducible refine incO_sound ?_
          with_reducible refine modSess_sound ?_
          with_reducible assumption
        clear_value v4
        split
        · dsimp -zeta only
          with_reducible refine raise_sound ?_
          with_reducible refine modSess_sound ?_
          with_reducible assumption
        · dsimp -zeta only
          with_reducible refine raise_sound ?_
          with_reducible assumption
      · with_reducible assumption
    · with_reducible refine serveWrite_sound ?_ ?_
      · intro z6
        intro z7
        intro z8
        extract_lets v9 v10
        clear_value v9
        have q11 : Sound v10 := by
          subst v10
          with_reducible refine incO_sound ?_
          with_reducible refine modSess_sound ?_
          with_reducible assumption
        clear_value v10
        split
        · dsimp -zeta only
          with_reducible refine raise_sound ?_
          with_reducible refine modSess_sound ?_
          with_reducible assumption
        · dsimp -zeta only
          with_reducible refine raise_sound ?_
          with_reducible assumption
      · with_reducible assumption
  · with_reducible refine serveWrite_sound ?_ ?_
    · intro z12
      intro z13
      intro z14
      extract_lets v15 v16
      clear_value v15
      have q17 : Sound v16 := by
        subst v16
        with_reducible refine incO_sound ?_
        with_reducible refine modSess_sound ?_
        with_reducible assumption
      clear_value v16
      split
      · dsimp -zeta only
        with_reducible refine raise_sound ?_
        with_reducible refine modSess_sound ?_
        with_reducible assumption
      · dsimp -zeta only
        with_reducible refine raise_sound ?_
        with_reducible assumption
    · with_reducible assumption

theorem wipeContents_sound {a0 : Nat → Bool} {a1 : Nat → Bool} {a2 : Nat → Bool} {a3 : Nat → Bool} {s : State} (hs : Sound s) :
    Sound (wipeContents a0 a1 a2 a3 s) := by
  unfold wipeContents
  extract_lets v0 v1 v2 v3 v4 v5
  have q6 : Sound v0 := by
    subst v0
    with_reducible refine mapLanes_sound ?_
    with_reducible assumption
  clear_value v0
  with_reducible refine mk_sound ?_ rfl rfl rfl rfl rfl
  with_reducible assumption

theorem writeFrame_sound {a0 : ImgFrame} {s : State} (hs : Sound s) :
    Sound (writeFrame a0 s) := by
  unfold writeFrame
  extract_lets v0 v1 v2 v3 v4 v5 v6 v7 v8 v9 v10 v11 v12 v13 v14 v15 v16 v17 v18 v19
  clear_value v0
  clear_value v1
  clear_value v2
  clear_value v3
  clear_value v4
  have q20 : Sound v6 := by
    subst v6
    with_reducible refine setLane_sound ?_
    with_reducible assumption
  clear_value v6
  clear_value v8
  clear_value v12
  clear_value v14
  split
  · refine foldl_sound ?_ ?_
    · intro z21
      intro z22
      intro z23
      with_reducible refine setIm_sound ?_
      with_reducible assumption
    · with_reducible assumption
  · with_reducible refine putDict_sound ?_
    with_reducible refine putDict_sound ?_
    with_reducible assumption
  · with_reducible refine putExs_sound ?_
    with_reducible refine putExs_sound ?_
    with_reducible assumption
  · refine foldl_sound ?_ ?_
    · intro z24
      intro z25
      intro z26
      extract_lets v27 v28 v29
      clear_value v27
      have q30 : Sound v28 := by
        subst v28
        with_reducible refine setBank_sound ?_
        with_reducible assumption
      clear_value v28
      with_reducible refine mk_sound ?_ rfl rfl rfl rfl rfl
      with_reducible assumption
    · with_reducible assumption
  · with_reducible refine mk_sound ?_ rfl rfl rfl rfl rfl
    with_reducible assumption
  · with_reducible refine mk_sound ?_ rfl rfl rfl rfl rfl
    with_reducible assumption
  · with_reducible refine mk_sound ?_ rfl rfl rfl rfl rfl
    with_reducible assumption
  · refine foldl_sound ?_ ?_
    · intro z31
      intro z32
      intro z33
      with_reducible refine setO_sound ?_
      with_reducible assumption
    · with_reducible assumption
  · split
    · with_reducible refine setO_sound ?_
      with_reducible refine setO_sound ?_
      with_reducible assumption
    · with_reducible refine mk_sound ?_ rfl rfl rfl rfl rfl
      with_reducible assumption
  · with_reducible refine mk_sound ?_ rfl rfl rfl rfl rfl
    with_reducible assumption
  · with_reducible refine mk_sound ?_ rfl rfl rfl rfl rfl
    with_reducible assumption
  · with_reducible assumption

theorem execImageDiscard_sound {a0 : Req} {s : State} (hs : Sound s) :
    OutSound (execImageDiscard a0 s) := by
  unfold execImageDiscard
  refine next_sound ?_
  with_reducible refine serveWrite_sound ?_ ?_
  · intro z0
    intro z1
    intro z2
    split
    · with_reducible assumption
    · dsimp -zeta only
      extract_lets v3 v4
      have q5 : Sound v3 := by
        subst v3
        with_reducible refine setO_sound ?_
        with_reducible assumption
      clear_value v3
      with_reducible refine mk_sound ?_ rfl rfl rfl rfl rfl
      with_reducible assumption
  · with_reducible assumption

theorem stageWrite_sound {a0 : Nat} {a1 : List Octet} {s : State} (hs : Sound s) :
    Sound (stageWrite a0 a1 s) := by
  unfold stageWrite
  extract_lets v0 v1 v2 v3 v4 v5 v6 v7 v8 v9 v10 v11
  clear_value v0
  clear_value v1
  have q12 : Sound v2 := by
    subst v2
    split
    · with_reducible refine incO_sound ?_
      with_reducible assumption
    · with_reducible assumption
  clear_value v2
  clear_value v3
  clear_value v5
  have q13 : Sound v6 := by
    subst v6
    refine foldl_sound ?_ ?_
    · intro z14
      intro z15
      intro z16
      split
      · with_reducible refine dramSet_sound ?_
        with_reducible assumption
      · with_reducible assumption
    · with_reducible assumption
  clear_value v6
  clear_value v7
  have q17 : Sound v8 := by
    subst v8
    split
    · with_reducible refine setO_sound ?_
      with_reducible assumption
    · with_reducible assumption
  clear_value v8
  clear_value v9
  have q18 : Sound v11 := by
    subst v11
    split
    · with_reducible refine mk_sound ?_ rfl rfl rfl rfl rfl
      with_reducible assumption
    · with_reducible assumption
  clear_value v11
  split
  · with_reducible assumption
  · with_reducible refine setO_sound ?_
    with_reducible assumption

theorem releaseRegion_sound {a0 : Applying} {a1 : Nat} {s : State} (hs : Sound s) :
    Sound (releaseRegion a0 a1 s) := by
  unfold releaseRegion
  extract_lets v0 v1 v2 v3
  have q4 : Sound v1 := by
    subst v1
    with_reducible refine mk_sound ?_ rfl rfl rfl rfl rfl
    with_reducible assumption
  clear_value v1
  have q5 : Sound v2 := by
    subst v2
    with_reducible refine imageApplied_sound ?_
    with_reducible refine setO_sound ?_
    with_reducible refine setO_sound ?_
    with_reducible assumption
  clear_value v2
  have q6 : Sound v3 := by
    subst v3
    with_reducible refine raise_sound ?_
    with_reducible assumption
  clear_value v3
  with_reducible refine appliedEvent_sound ?_
  with_reducible assumption

theorem execShadowApplyDone_sound {s : State} (hs : Sound s) :
    OutSound (execShadowApplyDone s) := by
  unfold execShadowApplyDone
  refine next_sound ?_
  split
  · with_reducible assumption
  · split
    · with_reducible refine finishShadow_sound ?_
      with_reducible assumption
    · with_reducible assumption

theorem writeFrames_sound {a0 : List ImgFrame} {s : State} (hs : Sound s) :
    Sound (writeFrames a0 s) := by
  unfold writeFrames
  with_reducible refine setO_sound ?_
  refine foldl_sound ?_ ?_
  · intro z0
    intro z1
    intro z2
    with_reducible refine writeFrame_sound ?_
    with_reducible assumption
  · with_reducible assumption

theorem stageData_sound {a0 : Nat} {a1 : List Octet} {s : State} (hs : Sound s) :
    Sound (stageData a0 a1 s).2 := by
  unfold stageData
  extract_lets v0
  clear_value v0
  split
  · with_reducible assumption
  · dsimp -zeta only
    with_reducible refine stageWrite_sound ?_
    with_reducible assumption

theorem applyFull_sound {a0 : ImgHdr} {a1 : List ImgFrame} {a2 : Nat} {a3 : Nat} {s : State} (hs : Sound s) :
    Sound (applyFull a0 a1 a2 a3 s) := by
  unfold applyFull
  extract_lets v0 v1 v2 v3 v4 v5 v6 v7 v8 v9 v10 v11 v12 v13 v14 v15 v16 v17 v18 v19 v20
  have q21 : Sound v1 := by
    subst v1
    with_reducible refine withdrawAll_sound ?_
    with_reducible refine targetOff_sound ?_
    with_reducible assumption
  clear_value v1
  have q22 : Sound v2 := by
    subst v2
    with_reducible refine wipeMaps_sound ?_
    with_reducible refine wipeContents_sound ?_
    with_reducible assumption
  clear_value v2
  have q23 : Sound v5 := by
    subst v5
    with_reducible refine mk_sound ?_ rfl rfl rfl rfl rfl
    with_reducible assumption
  clear_value v5
  have q24 : Sound v6 := by
    subst v6
    with_reducible refine setO_sound ?_
    with_reducible refine flashFollow_sound ?_
    with_reducible assumption
  clear_value v6
  have q25 : Sound v7 := by
    subst v7
    with_reducible refine sealBanks_sound ?_
    with_reducible refine withTier_sound ?_ ?_
    · intro z26
      intro z27
      with_reducible refine writeFrames_sound ?_
      with_reducible assumption
    · with_reducible assumption
  clear_value v7
  clear_value v8
  have q28 : Sound v12 := by
    subst v12
    with_reducible refine mk_sound ?_ rfl rfl rfl rfl rfl
    with_reducible assumption
  clear_value v12
  have q29 : Sound v13 := by
    subst v13
    with_reducible refine setO_sound ?_
    with_reducible refine setO_sound ?_
    with_reducible assumption
  clear_value v13
  have q30 : Sound v14 := by
    subst v14
    with_reducible refine copyDemand_sound ?_
    with_reducible refine imageApplied_sound ?_
    with_reducible assumption
  clear_value v14
  have q31 : Sound v15 := by
    subst v15
    with_reducible refine dropPrivate_sound ?_
    with_reducible refine lanternImage_sound ?_
    with_reducible assumption
  clear_value v15
  have q32 : Sound v16 := by
    subst v16
    with_reducible refine setLifted_sound ?_
    with_reducible refine setO_sound ?_
    with_reducible assumption
  clear_value v16
  have q33 : Sound v18 := by
    subst v18
    with_reducible refine mk_sound ?_ rfl rfl rfl rfl rfl
    with_reducible assumption
  clear_value v18
  have q34 : Sound v19 := by
    subst v19
    with_reducible refine designResetNow_sound ?_
    with_reducible assumption
  clear_value v19
  with_reducible refine appliedEvent_sound ?_
  with_reducible refine identityChanged_sound ?_
  with_reducible assumption

theorem execStageDataWrite_sound {a0 : Req} {a1 : WForm} {s : State} (hs : Sound s) :
    OutSound (execStageDataWrite a0 a1 s) := by
  unfold execStageDataWrite
  refine next_sound ?_
  with_reducible refine serveForm_sound ?_ ?_ ?_
  · intro z0
    intro z1
    intro z2
    intro z3
    with_reducible refine stageData_sound ?_
    with_reducible assumption
  · intro z4
    intro z5
    intro z6
    intro z7
    with_reducible refine stageData_sound ?_
    with_reducible assumption
  · with_reducible assumption

theorem startCheck_sound {a0 : Req} {a1 : Bool} {a2 : Nat} {s : State} (hs : Sound s) :
    Sound (startCheck a0 a1 a2 s).2 := by
  unfold startCheck
  split
  · with_reducible assumption
  · extract_lets v0 v1 v2
    have q3 : Sound v1 := by
      subst v1
      with_reducible refine setO_sound ?_
      with_reducible assumption
    clear_value v1
    dsimp -zeta only
    with_reducible refine mk_sound ?_ rfl rfl rfl rfl rfl
    with_reducible assumption

theorem writeRegion_sound {a0 : ImgHdr} {a1 : List ImgFrame} {s : State} (hs : Sound s) :
    Sound (writeRegion a0 a1 s) := by
  unfold writeRegion
  extract_lets v0 v1 v2 v3 v4 v5 v6
  clear_value v0
  have q7 : Sound v4 := by
    subst v4
    with_reducible refine mk_sound ?_ rfl rfl rfl rfl rfl
    with_reducible assumption
  clear_value v4
  have q8 : Sound v5 := by
    subst v5
    with_reducible refine withTier_sound ?_ ?_
    · intro z9
      intro z10
      with_reducible refine writeFrames_sound ?_
      with_reducible refine wipeMaps_sound ?_
      with_reducible refine wipeContents_sound ?_
      with_reducible assumption
    · with_reducible assumption
  clear_value v5
  have q11 : Sound v6 := by
    subst v6
    with_reducible refine sealBanks_sound ?_
    with_reducible assumption
  clear_value v6
  with_reducible refine copyDemand_sound ?_
  with_reducible refine dropPrivate_sound ?_
  with_reducible refine lanternImage_sound ?_
  with_reducible assumption

theorem execImageCheck_sound {a0 : Req} {s : State} (hs : Sound s) :
    OutSound (execImageCheck a0 s) := by
  unfold execImageCheck
  refine next_sound ?_
  with_reducible refine serveWriteLater_sound ?_ ?_
  · intro z0
    intro z1
    intro z2
    with_reducible refine startCheck_sound ?_
    with_reducible assumption
  · with_reducible assumption

theorem execRegionWriteDone_sound {s : State} (hs : Sound s) :
    OutSound (execRegionWriteDone s) := by
  unfold execRegionWriteDone
  refine next_sound ?_
  split
  · with_reducible assumption
  · split
    · with_reducible assumption
    · extract_lets v0 v1 v2 v3 v4
      have q5 : Sound v0 := by
        subst v0
        with_reducible refine writeRegion_sound ?_
        with_reducible refine wakeDepth_sound ?_
        with_reducible assumption
      clear_value v0
      have q6 : Sound v1 := by
        subst v1
        with_reducible refine regionDeposits_sound ?_
        with_reducible assumption
      clear_value v1
      split
      · split
        extract_lets v7
        have q8 : Sound v7 := by
          subst v7
          with_reducible refine checkpointNow_sound ?_
          refine sound_of_eq (by with_reducible assumption) ?_
          with_reducible refine carrySwaps_sound ?_
          with_reducible refine mk_sound ?_ rfl rfl rfl rfl rfl
          with_reducible assumption
        clear_value v7
        with_reducible refine chooseDepth_sound ?_
        with_reducible refine releaseRegion_sound ?_
        split
        · with_reducible refine withdrawOlder_sound ?_
          with_reducible assumption
        · with_reducible assumption
      · with_reducible refine mk_sound ?_ rfl rfl rfl rfl rfl
        with_reducible assumption

theorem execImageCheckApply_sound {a0 : Req} {s : State} (hs : Sound s) :
    OutSound (execImageCheckApply a0 s) := by
  unfold execImageCheckApply
  refine next_sound ?_
  with_reducible refine serveWriteLater_sound ?_ ?_
  · intro z0
    intro z1
    intro z2
    with_reducible refine startCheck_sound ?_
    with_reducible assumption
  · with_reducible assumption

theorem beginApply_sound {a0 : ImgHdr} {a1 : List ImgFrame} {a2 : Nat} {a3 : Nat} {s : State} (hs : Sound s) :
    Sound (beginApply a0 a1 a2 a3 s) := by
  unfold beginApply
  extract_lets v0 v1 v2 v3 v4 v5
  have q6 : Sound v1 := by
    subst v1
    with_reducible refine setO_sound ?_
    with_reducible assumption
  clear_value v1
  have q7 : Sound v3 := by
    subst v3
    with_reducible refine withdrawAll_sound ?_
    with_reducible assumption
  clear_value v3
  split
  · with_reducible refine applyFull_sound ?_
    with_reducible assumption
  · split
    · with_reducible refine mk_sound ?_ rfl rfl rfl rfl rfl
      with_reducible assumption
    · with_reducible refine setO_sound ?_
      with_reducible refine mk_sound ?_ rfl rfl rfl rfl rfl
      with_reducible assumption
  · with_reducible refine startShadow_sound ?_
    with_reducible refine mk_sound ?_ rfl rfl rfl rfl rfl
    with_reducible assumption

theorem execImageCheckDone_sound {s : State} (hs : Sound s) :
    OutSound (execImageCheckDone s) := by
  unfold execImageCheckDone
  refine next_sound ?_
  split
  · with_reducible assumption
  · extract_lets v0 v1 v2 v3 v4 v5 v6 v7
    have q8 : Sound v1 := by
      subst v1
      with_reducible refine wakeDepth_sound ?_
      with_reducible refine mk_sound ?_ rfl rfl rfl rfl rfl
      with_reducible assumption
    clear_value v1
    have q9 : Sound v2 := by
      subst v2
      with_reducible refine answerWaiting_sound ?_
      with_reducible assumption
    clear_value v2
    have q10 : Sound v3 := by
      subst v3
      with_reducible refine setO_sound ?_
      with_reducible assumption
    clear_value v3
    have q11 : Sound v5 := by
      subst v5
      with_reducible refine mk_sound ?_ rfl rfl rfl rfl rfl
      with_reducible assumption
    clear_value v5
    split
    · extract_lets v12 v13
      have q14 : Sound v12 := by
        subst v12
        with_reducible refine setO_sound ?_
        with_reducible refine setO_sound ?_
        with_reducible refine setO_sound ?_
        with_reducible refine setO_sound ?_
        with_reducible assumption
      clear_value v12
      have q15 : Sound v13 := by
        subst v13
        with_reducible refine answerWaiting_sound ?_
        with_reducible assumption
      clear_value v13
      with_reducible refine chooseDepth_sound ?_
      with_reducible refine raise_sound ?_
      with_reducible assumption
    · with_reducible refine chooseDepth_sound ?_
      split
      · with_reducible refine beginApply_sound ?_
        with_reducible assumption
      · with_reducible assumption

end Sys2Proof.Machine
end

