-- ==== Sys2Proof/Laws/SoundSweep.lean ====
section
/-! SUPPORT. What Machine/Sweep.lean does keeps a sound state sound. -/

namespace Sys2Proof.Machine

theorem queuedNow_sound {a0 : Nat} {s : State} (hs : Sound s) :
    Sound (queuedNow a0 s) := by
  unfold queuedNow
  extract_lets v0 v1 v2
  clear_value v0
  have q3 : Sound v2 := by
    subst v2
    refine mk_sound_le ?_ rfl rfl rfl rfl (List.length_filter_le _ _)
    with_reducible assumption
  clear_value v2
  with_reducible refine hostSlots_sound ?_
  refine foldl_sound ?_ ?_
  · intro z4
    intro z5
    intro z6
    with_reducible refine depositAt_sound ?_
    with_reducible assumption
  · with_reducible assumption

theorem handleFailures_sound {a0 : Nat} {a1 : Bool} {s : State} (hs : Sound s) :
    Sound (handleFailures a0 a1 s) := by
  unfold handleFailures
  extract_lets v0 v1 v2 v3 v4 v5 v6 v7 v8 v9
  clear_value v0
  have q10 : Sound v1 := by
    subst v1
    with_reducible refine suspectFailed_sound ?_
    with_reducible assumption
  clear_value v1
  have q11 : Sound v2 := by
    subst v2
    with_reducible refine withdraw_sound ?_
    with_reducible assumption
  clear_value v2
  have q12 : Sound v4 := by
    subst v4
    with_reducible refine mk_sound ?_ rfl rfl rfl rfl rfl
    with_reducible assumption
  clear_value v4
  have q13 : Sound v6 := by
    subst v6
    with_reducible refine mk_sound ?_ rfl rfl rfl rfl rfl
    with_reducible assumption
  clear_value v6
  have q14 : Sound v8 := by
    subst v8
    split
    · with_reducible assumption
    · with_reducible refine mk_sound ?_ rfl rfl rfl rfl rfl
      with_reducible assumption
  clear_value v8
  split
  · with_reducible refine recoveryStop_sound ?_
    refine foldl_sound ?_ ?_
    · intro z15
      intro z16
      intro z17
      split
      · with_reducible refine recoveryFailed_sound ?_
        with_reducible assumption
      · with_reducible assumption
    · with_reducible assumption
  · with_reducible refine setRunState_sound ?_
    with_reducible refine mk_sound ?_ rfl rfl rfl rfl rfl
    with_reducible assumption

theorem loadRecord_sound {a0 : Nat} {a1 : Replay} {s : State} (hs : Sound s) :
    Sound (loadRecord a0 a1 s) := by
  unfold loadRecord
  split
  · with_reducible assumption
  · extract_lets v0 v1 v2
    have q3 : Sound v2 := by
      subst v2
      with_reducible refine mk_sound ?_ rfl rfl rfl rfl rfl
      with_reducible assumption
    clear_value v2
    split
    · with_reducible refine modCtx_sound ?_
      with_reducible assumption
    · with_reducible assumption

theorem replayBroken_sound {s : State} (hs : Sound s) :
    Sound (replayBroken s) := by
  unfold replayBroken
  extract_lets v0
  have q1 : Sound v0 := by
    subst v0
    with_reducible refine endReplay_sound ?_
    with_reducible assumption
  clear_value v0
  with_reducible refine stopWith_sound ?_
  with_reducible assumption

theorem takeCombined_sound {a0 : Nat} {s : State} (hs : Sound s) :
    Sound (takeCombined a0 s) := by
  unfold takeCombined
  split
  · with_reducible assumption
  · split
    · split
      · with_reducible refine mk_sound ?_ rfl rfl rfl rfl rfl
        with_reducible assumption
      · with_reducible assumption
    · with_reducible assumption

theorem fillRecord_sound {a0 : Nat} {s : State} (hs : Sound s) :
    Sound (fillRecord a0 s) := by
  unfold fillRecord
  split
  · with_reducible refine closeRecord_sound ?_
    with_reducible assumption
  · extract_lets v0
    clear_value v0
    with_reducible refine closeRecord_sound ?_
    with_reducible refine modRec_sound ?_
    with_reducible assumption

theorem dueCkpt_sound {a0 : Nat} {s : State} (hs : Sound s) :
    Sound (dueCkpt a0 s) := by
  unfold dueCkpt
  with_reducible refine mk_sound ?_ rfl rfl rfl rfl rfl
  with_reducible assumption

theorem commitC2_sound {a0 : Nat} {s : State} (hs : Sound s) :
    Sound (commitC2 a0 s) := by
  unfold commitC2
  split
  · with_reducible refine queuedNow_sound ?_
    with_reducible assumption
  · extract_lets v0 v1 v2 v3 v4 v5 v6
    have q7 : Sound v0 := by
      subst v0
      split
      · refine foldl_sound ?_ ?_
        · intro z8
          intro z9
          intro z10
          with_reducible refine storeHost_sound ?_
          with_reducible assumption
        · refine foldl_sound ?_ ?_
          · intro z11
            intro z12
            intro z13
            with_reducible refine applyDeposit_sound ?_
            with_reducible assumption
          · with_reducible assumption
      · with_reducible assumption
    clear_value v0
    clear_value v1
    have q14 : Sound v2 := by
      subst v2
      with_reducible refine queuedNow_sound ?_
      with_reducible assumption
    clear_value v2
    clear_value v3
    clear_value v4
    have q15 : Sound v5 := by
      subst v5
      split
      · with_reducible refine discardAfter_sound ?_
        with_reducible assumption
      · with_reducible assumption
    clear_value v5
    split
    · with_reducible refine hostSlots_sound ?_
      with_reducible assumption
    · split
      · with_reducible refine mk_sound ?_ rfl rfl rfl rfl rfl
        with_reducible assumption
      · with_reducible assumption

theorem ruleEvents_sound {a0 : Nat} {s : State} (hs : Sound s) :
    Sound (ruleEvents a0 s) := by
  unfold ruleEvents
  extract_lets v0 v1 v2 v3 v4 v5 v6 v7 v8 v9
  clear_value v0
  clear_value v1
  clear_value v2
  have q10 : Sound v5 := by
    subst v5
    with_reducible refine mk_sound ?_ rfl rfl rfl rfl rfl
    with_reducible assumption
  clear_value v5
  have q11 : Sound v6 := by
    subst v6
    split
    · with_reducible assumption
    · with_reducible refine raise_sound ?_
      with_reducible assumption
  clear_value v6
  have q12 : Sound v7 := by
    subst v7
    split
    · with_reducible assumption
    · with_reducible refine raise_sound ?_
      with_reducible assumption
  clear_value v7
  have q13 : Sound v8 := by
    subst v8
    split
    · with_reducible assumption
    · with_reducible refine raise_sound ?_
      with_reducible assumption
  clear_value v8
  split
  · with_reducible assumption
  · with_reducible refine raise_sound ?_
    with_reducible refine mk_sound ?_ rfl rfl rfl rfl rfl
    with_reducible assumption

theorem regionC8_sound {s : State} (hs : Sound s) :
    Sound (regionC8 s) := by
  unfold regionC8
  split
  · split
    · with_reducible refine releaseRegion_sound ?_
      with_reducible assumption
    · with_reducible assumption
  · with_reducible assumption

theorem evalStops_sound {a0 : Nat} {s : State} (hs : Sound s) :
    Sound (evalStops a0 s) := by
  unfold evalStops
  extract_lets v0 v1
  clear_value v0
  split
  · with_reducible refine handleFailures_sound ?_
    with_reducible assumption
  · split
    · split
      · with_reducible refine replayBroken_sound ?_
        with_reducible assumption
      · split
        · with_reducible assumption
        · with_reducible refine mk_sound ?_ rfl rfl rfl rfl rfl
          with_reducible assumption
    · split
      · with_reducible assumption
      · with_reducible refine stopWith_sound ?_
        with_reducible assumption

theorem guardDue_sound {a0 : Nat} {s : State} (hs : Sound s) :
    Sound (guardDue a0 s) := by
  unfold guardDue
  split
  · with_reducible assumption
  · extract_lets v0
    have q1 : Sound v0 := by
      subst v0
      with_reducible refine takeCombined_sound ?_
      with_reducible assumption
    clear_value v0
    split
    · with_reducible refine lockstepFault_sound ?_
      with_reducible assumption
    · with_reducible assumption

theorem finishHolds_sound {a0 : CommitEnv} {s : State} (hs : Sound s) :
    Sound (finishHolds a0 s) := by
  unfold finishHolds
  extract_lets v0 v1 v2 v3 v4 v5 v6 v7 v8
  have q9 : Sound v1 := by
    subst v1
    split
    · with_reducible refine mk_sound ?_ rfl rfl rfl rfl rfl
      with_reducible assumption
    · with_reducible assumption
  clear_value v1
  have q10 : Sound v3 := by
    subst v3
    split
    · with_reducible refine mk_sound ?_ rfl rfl rfl rfl rfl
      with_reducible assumption
    · with_reducible assumption
  clear_value v3
  have q11 : Sound v6 := by
    subst v6
    split
    · with_reducible refine mk_sound ?_ rfl rfl rfl rfl rfl
      with_reducible assumption
    · with_reducible assumption
  clear_value v6
  have q12 : Sound v7 := by
    subst v7
    with_reducible refine farDeliverAll_sound ?_
    with_reducible assumption
  clear_value v7
  have q13 : Sound v8 := by
    subst v8
    split
    · with_reducible refine retireFar_sound ?_
      with_reducible assumption
    · with_reducible assumption
  clear_value v8
  with_reducible refine traceDrain_sound ?_
  with_reducible assumption

theorem beginSweep_sound {s : State} (hs : Sound s) :
    Sound (beginSweep s) := by
  unfold beginSweep
  extract_lets v0 v1 v2 v3 v4 v5 v6 v7 v8 v9 v10 v11 v12 v13 v14 v15 v16
  clear_value v0
  have q17 : Sound v1 := by
    subst v1
    split
    · with_reducible refine raise_sound ?_
      with_reducible assumption
    · with_reducible assumption
  clear_value v1
  clear_value v2
  have q18 : Sound v3 := by
    subst v3
    with_reducible refine maxO_sound ?_
    with_reducible refine setO_sound ?_
    with_reducible assumption
  clear_value v3
  have q19 : Sound v4 := by
    subst v4
    split
    · split
      · with_reducible assumption
      · with_reducible refine incO_sound ?_
        with_reducible assumption
    · with_reducible assumption
  clear_value v4
  have q20 : Sound v5 := by
    subst v5
    split
    · with_reducible refine setRunState_sound ?_
      with_reducible assumption
    · with_reducible assumption
  clear_value v5
  have q21 : Sound v6 := by
    subst v6
    split
    · with_reducible refine uncopyAll_sound ?_
      with_reducible assumption
    · with_reducible assumption
  clear_value v6
  split
  extract_lets v22 v23 v24 v25 v26 v27 v28 v29 v30 v31
  have q32 : Sound v22 := by
    subst v22
    split
    · with_reducible refine incO_sound ?_
      with_reducible assumption
    · with_reducible assumption
  clear_value v22
  have q33 : Sound v24 := by
    subst v24
    with_reducible refine mk_sound ?_ rfl rfl rfl rfl rfl
    with_reducible assumption
  clear_value v24
  have q34 : Sound v28 := by
    subst v28
    with_reducible refine clearBnd_sound ?_
    with_reducible refine mk_sound ?_ rfl rfl rfl rfl rfl
    with_reducible assumption
  clear_value v28
  clear_value v29
  have q35 : Sound v31 := by
    subst v31
    split
    · with_reducible refine flashFollow_sound ?_
      with_reducible refine mk_sound ?_ rfl rfl rfl rfl rfl
      with_reducible assumption
    · with_reducible assumption
  clear_value v31
  split
  · with_reducible refine loadRecord_sound ?_
    with_reducible assumption
  · with_reducible refine openRecord_sound ?_
    with_reducible assumption

theorem restartNow_sound {s : State} (hs : Sound s) :
    Sound (restartNow s) := by
  unfold restartNow
  split
  · with_reducible assumption
  · extract_lets v0 v1
    have q2 : Sound v1 := by
      subst v1
      with_reducible refine dueCkpt_sound ?_
      with_reducible refine withdrawAll_sound ?_
      with_reducible refine mk_sound ?_ rfl rfl rfl rfl rfl
      with_reducible assumption
    clear_value v1
    with_reducible refine raise_sound ?_
    with_reducible refine incO_sound ?_
    with_reducible assumption

theorem enterWaiting_sound {s : State} (hs : Sound s) :
    Sound (enterWaiting s) := by
  unfold enterWaiting
  split
  · with_reducible refine setRunState_sound ?_
    with_reducible refine mk_sound ?_ rfl rfl rfl rfl rfl
    with_reducible assumption
  · with_reducible assumption

theorem commitC1_sound {a0 : Nat} {a1 : CommitEnv} {s : State} (hs : Sound s) :
    Sound (commitC1 a0 a1 s) := by
  unfold commitC1
  extract_lets v0 v1 v2 v3 v4
  clear_value v0
  have q5 : Sound v1 := by
    subst v1
    with_reducible refine setO_sound ?_
    with_reducible assumption
  clear_value v1
  have q6 : Sound v3 := by
    subst v3
    split
    · with_reducible refine takeCombined_sound ?_
      with_reducible refine ownGuard_sound ?_
      with_reducible assumption
    · with_reducible refine mk_sound ?_ rfl rfl rfl rfl rfl
      with_reducible assumption
  clear_value v3
  have q7 : Sound v4 := by
    subst v4
    with_reducible refine farDeliverAll_sound ?_
    with_reducible assumption
  clear_value v4
  with_reducible refine traceCycle_sound ?_
  with_reducible assumption

theorem countBlock_sound {s : State} (hs : Sound s) :
    Sound (countBlock s) := by
  unfold countBlock
  extract_lets v0 v1 v2
  have q3 : Sound v0 := by
    subst v0
    split
    · with_reducible assumption
    · refine foldl_sound ?_ ?_
      · intro z4
        intro z5
        intro z6
        with_reducible refine incO_sound ?_
        with_reducible assumption
      · with_reducible assumption
  clear_value v0
  split
  · with_reducible refine incO_sound ?_
    with_reducible refine mk_sound ?_ rfl rfl rfl rfl rfl
    with_reducible assumption
  · with_reducible refine mk_sound ?_ rfl rfl rfl rfl rfl
    with_reducible assumption

theorem lateFailures_sound {s : State} (hs : Sound s) :
    Sound (lateFailures s) := by
  unfold lateFailures
  split
  · with_reducible refine handleFailures_sound ?_
    with_reducible assumption
  · with_reducible assumption

theorem countStops_sound {s : State} (hs : Sound s) :
    Sound (countStops s) := by
  unfold countStops
  extract_lets v0 v1 v2 v3
  clear_value v0
  have q4 : Sound v2 := by
    subst v2
    with_reducible refine mk_sound ?_ rfl rfl rfl rfl rfl
    with_reducible assumption
  clear_value v2
  have q5 : Sound v3 := by
    subst v3
    split
    · with_reducible assumption
    · split
      · with_reducible refine addCause_sound ?_
        with_reducible assumption
      · with_reducible assumption
  clear_value v3
  split
  · with_reducible refine addCause_sound ?_
    with_reducible assumption
  · with_reducible assumption

theorem restoreSettled_sound {s : State} (hs : Sound s) :
    Sound (restoreSettled s) := by
  unfold restoreSettled
  split
  · split
    · with_reducible refine setO_sound ?_
      with_reducible refine mk_sound ?_ rfl rfl rfl rfl rfl
      with_reducible assumption
    · with_reducible assumption
  · with_reducible assumption

theorem execSyncTimeout_sound {s : State} (hs : Sound s) :
    OutSound (execSyncTimeout s) := by
  unfold execSyncTimeout
  refine next_sound ?_
  split
  · with_reducible assumption
  · with_reducible refine raise_sound ?_
    with_reducible refine mk_sound ?_ rfl rfl rfl rfl rfl
    with_reducible assumption

theorem regionC0_sound {a0 : Nat} {s : State} (hs : Sound s) :
    Sound (regionC0 a0 s) := by
  unfold regionC0
  split
  · split
    · with_reducible assumption
    · split
      · extract_lets v0 v1
        have q2 : Sound v0 := by
          subst v0
          with_reducible refine withdrawAll_sound ?_
          with_reducible assumption
        clear_value v0
        with_reducible refine setO_sound ?_
        with_reducible refine mk_sound ?_ rfl rfl rfl rfl rfl
        with_reducible assumption
      · split
        · with_reducible refine dueCkpt_sound ?_
          with_reducible refine setO_sound ?_
          with_reducible assumption
        · with_reducible assumption
  · with_reducible assumption

theorem sweepStep_sound {a0 : Nat} {a1 : List Upset} {s : State} (hs : Sound s) :
    Sound (sweepStep a0 a1 s) := by
  unfold sweepStep
  extract_lets v0 v1 v2 v3 v4 v5 v6 v7 v8 v9 v10 v11 v12 v13
  clear_value v0
  clear_value v1
  have q14 : Sound v2 := by
    subst v2
    with_reducible refine deliverDue_sound ?_
    with_reducible refine flashFollow_sound ?_
    with_reducible refine placeUpsets_sound ?_
    with_reducible assumption
  clear_value v2
  clear_value v3
  clear_value v4
  clear_value v5
  split
  split
  extract_lets v15 v16 v17 v18 v19 v20 v21 v22
  have q23 : Sound v15 := by
    subst v15
    with_reducible refine memoryStep_sound ?_
    refine sound_of_eq (by with_reducible assumption) ?_
    with_reducible refine lanesStep_sound ?_
    refine sound_of_eq (by with_reducible assumption) ?_
    with_reducible refine exchangeStep_sound ?_
    with_reducible assumption
  clear_value v15
  have q24 : Sound v17 := by
    subst v17
    with_reducible refine mk_sound ?_ rfl rfl rfl rfl rfl
    with_reducible assumption
  clear_value v17
  have q25 : Sound v18 := by
    subst v18
    with_reducible refine holdProbes_sound ?_
    with_reducible assumption
  clear_value v18
  have q26 : Sound v20 := by
    subst v20
    with_reducible refine loadInputs_sound ?_
    with_reducible refine mk_sound ?_ rfl rfl rfl rfl rfl
    with_reducible assumption
  clear_value v20
  have q27 : Sound v21 := by
    subst v21
    with_reducible refine drainStores_sound ?_
    with_reducible refine pushSweepSlots_sound ?_
    with_reducible assumption
  clear_value v21
  with_reducible refine mk_sound ?_ rfl rfl rfl rfl rfl
  with_reducible assumption

theorem commitC4_sound {a0 : Nat} {a1 : CommitEnv} {s : State} (hs : Sound s) :
    Sound (commitC4 a0 a1 s) := by
  unfold commitC4
  extract_lets v0 v1
  have q2 : Sound v1 := by
    subst v1
    with_reducible refine mk_sound ?_ rfl rfl rfl rfl rfl
    with_reducible assumption
  clear_value v1
  with_reducible refine finishHolds_sound ?_
  with_reducible refine settleContext_sound ?_
  with_reducible refine lanternCommit_sound ?_
  with_reducible assumption

theorem releaseSync_sound {s : State} (hs : Sound s) :
    Sound (releaseSync s) := by
  unfold releaseSync
  extract_lets v0 v1
  clear_value v0
  with_reducible refine sendStatus_sound ?_
  with_reducible refine mk_sound ?_ rfl rfl rfl rfl rfl
  with_reducible assumption

theorem nextFrame_sound {s : State} (hs : Sound s) :
    Sound (nextFrame s) := by
  unfold nextFrame
  split
  · with_reducible assumption
  · split
    · refine sound_of_eq (by with_reducible assumption) ?_
      with_reducible refine takeFrame_sound ?_
      with_reducible assumption
    · with_reducible refine addCause_sound ?_
      refine sound_of_eq (by with_reducible assumption) ?_
      with_reducible refine takeFrame_sound ?_
      with_reducible assumption

theorem commitC3_sound {a0 : Nat} {a1 : CommitEnv} {s : State} (hs : Sound s) :
    Sound (commitC3 a0 a1 s) := by
  unfold commitC3
  extract_lets v0 v1 v2 v3 v4 v5 v6 v7 v8 v9 v10
  have q11 : Sound v0 := by
    subst v0
    with_reducible refine fillRecord_sound ?_
    with_reducible assumption
  clear_value v0
  have q12 : Sound v2 := by
    subst v2
    with_reducible refine restartNow_sound ?_
    with_reducible refine mk_sound ?_ rfl rfl rfl rfl rfl
    with_reducible assumption
  clear_value v2
  have q13 : Sound v3 := by
    subst v3
    split
    · with_reducible refine dueCkpt_sound ?_
      with_reducible assumption
    · with_reducible assumption
  clear_value v3
  have q14 : Sound v4 := by
    subst v4
    split
    · with_reducible refine dueCkpt_sound ?_
      with_reducible assumption
    · with_reducible assumption
  clear_value v4
  have q15 : Sound v6 := by
    subst v6
    with_reducible refine mk_sound ?_ rfl rfl rfl rfl rfl
    with_reducible assumption
  clear_value v6
  split
  · with_reducible refine mk_sound ?_ rfl rfl rfl rfl rfl
    with_reducible assumption
  · split
    · with_reducible refine mk_sound ?_ rfl rfl rfl rfl rfl
      with_reducible assumption
    · extract_lets v16 v17
      have q18 : Sound v16 := by
        subst v16
        with_reducible refine snapshot_sound ?_
        with_reducible assumption
      clear_value v16
      with_reducible refine mk_sound ?_ rfl rfl rfl rfl rfl
      with_reducible assumption

theorem execSweepStart_sound {a0 : Bool} {s : State} (hs : Sound s) :
    OutSound (execSweepStart a0 s) := by
  unfold execSweepStart
  refine next_sound ?_
  extract_lets v0 v1 v2 v3 v4
  clear_value v0
  have q5 : Sound v2 := by
    subst v2
    with_reducible refine lateFailures_sound ?_
    with_reducible assumption
  clear_value v2
  split
  · with_reducible assumption
  · split
    · with_reducible refine mk_sound ?_ rfl rfl rfl rfl rfl
      with_reducible assumption
    · split
      · split
        · with_reducible refine mk_sound ?_ rfl rfl rfl rfl rfl
          with_reducible assumption
        · with_reducible refine hostStep_sound ?_
          with_reducible refine beginSweep_sound ?_
          split
          · with_reducible refine mk_sound ?_ rfl rfl rfl rfl rfl
            with_reducible assumption
          · with_reducible assumption
      · with_reducible assumption

theorem commitC0_sound {a0 : Nat} {s : State} (hs : Sound s) :
    Sound (commitC0 a0 s) := by
  unfold commitC0
  extract_lets v0 v1 v2 v3 v4 v5 v6 v7 v8 v9
  have q10 : Sound v0 := by
    subst v0
    with_reducible refine setO_sound ?_
    with_reducible assumption
  clear_value v0
  have q11 : Sound v1 := by
    subst v1
    with_reducible refine exchangeC0_sound ?_
    with_reducible refine lanesC0_sound ?_
    with_reducible refine endDeliveries_sound ?_
    with_reducible assumption
  clear_value v1
  have q12 : Sound v3 := by
    subst v3
    with_reducible refine mk_sound ?_ rfl rfl rfl rfl rfl
    with_reducible assumption
  clear_value v3
  have q13 : Sound v4 := by
    subst v4
    with_reducible refine regionC0_sound ?_
    with_reducible refine imWriteBack_sound ?_
    with_reducible assumption
  clear_value v4
  have q14 : Sound v5 := by
    subst v5
    split
    · with_reducible assumption
    · split
      · with_reducible refine withdrawAll_sound ?_
        with_reducible refine dueCkpt_sound ?_
        refine sound_of_eq (by with_reducible assumption) ?_
        with_reducible refine carrySwaps_sound ?_
        with_reducible assumption
      · refine sound_of_eq (by with_reducible assumption) ?_
        with_reducible refine carrySwaps_sound ?_
        with_reducible assumption
  clear_value v5
  clear_value v6
  have q15 : Sound v8 := by
    subst v8
    with_reducible refine mk_sound ?_ rfl rfl rfl rfl rfl
    with_reducible assumption
  clear_value v8
  clear_value v9
  split
  · with_reducible refine openRecord_sound ?_
    with_reducible assumption
  · with_reducible assumption

theorem execHoldCausesCleared_sound {s : State} (hs : Sound s) :
    OutSound (execHoldCausesCleared s) := by
  unfold execHoldCausesCleared
  refine next_sound ?_
  split
  · with_reducible refine releaseSync_sound ?_
    with_reducible refine lateFailures_sound ?_
    with_reducible assumption
  · with_reducible assumption

theorem waitBlock_sound {a0 : CommitEnv} {s : State} (hs : Sound s) :
    Sound (waitBlock a0 s) := by
  unfold waitBlock
  extract_lets v0 v1 v2 v3 v4 v5 v6 v7 v8 v9 v10
  clear_value v0
  clear_value v1
  have q11 : Sound v2 := by
    subst v2
    with_reducible refine pushCommitSlots_sound ?_
    with_reducible assumption
  clear_value v2
  have q12 : Sound v3 := by
    subst v3
    with_reducible refine flashFollow_sound ?_
    with_reducible refine placeUpsets_sound ?_
    with_reducible assumption
  clear_value v3
  have q13 : Sound v5 := by
    subst v5
    with_reducible refine mk_sound ?_ rfl rfl rfl rfl rfl
    with_reducible assumption
  clear_value v5
  have q14 : Sound v6 := by
    subst v6
    with_reducible refine enterWaiting_sound ?_
    with_reducible refine countBlock_sound ?_
    with_reducible assumption
  clear_value v6
  have q15 : Sound v7 := by
    subst v7
    with_reducible refine finishHolds_sound ?_
    with_reducible assumption
  clear_value v7
  have q16 : Sound v9 := by
    subst v9
    with_reducible refine mk_sound ?_ rfl rfl rfl rfl rfl
    with_reducible assumption
  clear_value v9
  have q17 : Sound v10 := by
    subst v10
    with_reducible refine hostSlots_sound ?_
    with_reducible assumption
  clear_value v10
  with_reducible refine pushCommitSlots_sound ?_
  with_reducible refine releaseSync_sound ?_
  with_reducible refine restoreSettled_sound ?_
  with_reducible refine lateFailures_sound ?_
  with_reducible assumption

theorem execSweepStep_sound {a0 : List Upset} {s : State} (hs : Sound s) :
    OutSound (execSweepStep a0 s) := by
  unfold execSweepStep
  refine next_sound ?_
  split
  · with_reducible refine hostStep_sound ?_
    with_reducible refine sweepStep_sound ?_
    with_reducible assumption
  · with_reducible assumption

theorem commitC8_sound {a0 : Nat} {a1 : CommitEnv} {s : State} (hs : Sound s) :
    Sound (commitC8 a0 a1 s) := by
  unfold commitC8
  extract_lets v0 v1 v2 v3 v4 v5 v6 v7
  have q8 : Sound v0 := by
    subst v0
    with_reducible refine guardDue_sound ?_
    with_reducible refine guardSlack_sound ?_
    with_reducible assumption
  clear_value v0
  clear_value v1
  have q9 : Sound v2 := by
    subst v2
    with_reducible refine setO_sound ?_
    with_reducible refine setO_sound ?_
    with_reducible assumption
  clear_value v2
  have q10 : Sound v3 := by
    subst v3
    split
    · with_reducible assumption
    · with_reducible refine incO_sound ?_
      with_reducible assumption
  clear_value v3
  have q11 : Sound v5 := by
    subst v5
    with_reducible refine mk_sound ?_ rfl rfl rfl rfl rfl
    with_reducible assumption
  clear_value v5
  have q12 : Sound v6 := by
    subst v6
    with_reducible refine ruleEvents_sound ?_
    with_reducible assumption
  clear_value v6
  have q13 : Sound v7 := by
    subst v7
    split
    · with_reducible refine countStops_sound ?_
      with_reducible refine nextFrame_sound ?_
      with_reducible refine regionC8_sound ?_
      with_reducible refine countUnmapped_sound ?_
      with_reducible refine csEdge_sound ?_
      with_reducible assumption
    · split
      · with_reducible refine nextFrame_sound ?_
        with_reducible refine regionC8_sound ?_
        with_reducible assumption
      · with_reducible refine regionC8_sound ?_
        with_reducible assumption
  clear_value v7
  with_reducible refine releaseSync_sound ?_
  with_reducible refine evalStops_sound ?_
  with_reducible refine freqDue_sound ?_
  with_reducible assumption

theorem execWaitBlock_sound {a0 : CommitEnv} {s : State} (hs : Sound s) :
    OutSound (execWaitBlock a0 s) := by
  unfold execWaitBlock
  refine next_sound ?_
  split
  · with_reducible refine waitBlock_sound ?_
    with_reducible assumption
  · with_reducible assumption

theorem commitWindow_sound {a0 : CommitEnv} {s : State} (hs : Sound s) :
    Sound (commitWindow a0 s) := by
  unfold commitWindow
  extract_lets v0 v1 v2 v3 v4 v5
  clear_value v0
  have q6 : Sound v1 := by
    subst v1
    with_reducible refine flashFollow_sound ?_
    with_reducible refine placeUpsets_sound ?_
    with_reducible assumption
  clear_value v1
  have q7 : Sound v3 := by
    subst v3
    with_reducible refine mk_sound ?_ rfl rfl rfl rfl rfl
    with_reducible assumption
  clear_value v3
  have q8 : Sound v4 := by
    subst v4
    with_reducible refine pushCommitSlots_sound ?_
    with_reducible refine commitC0_sound ?_
    with_reducible assumption
  clear_value v4
  have q9 : Sound v5 := by
    subst v5
    with_reducible refine commitC4_sound ?_
    with_reducible refine commitC3_sound ?_
    with_reducible refine commitC2_sound ?_
    with_reducible refine commitC1_sound ?_
    with_reducible assumption
  clear_value v5
  with_reducible refine pushCommitSlots_sound ?_
  with_reducible refine commitC8_sound ?_
  with_reducible refine pushCommitSlots_sound ?_
  with_reducible assumption

theorem execCommitWindow_sound {a0 : CommitEnv} {s : State} (hs : Sound s) :
    OutSound (execCommitWindow a0 s) := by
  unfold execCommitWindow
  refine next_sound ?_
  split
  · with_reducible refine commitWindow_sound ?_
    with_reducible assumption
  · with_reducible assumption

end Sys2Proof.Machine
end

