-- ==== Sys2Proof/Laws/SoundKeys.lean ====
section
/-! SUPPORT. What Machine/Keys.lean does keeps a sound state sound. -/

namespace Sys2Proof.Machine

theorem credCommand_sound {a0 : Req} {a1 : Nat} {a2 : WriteFn} {s : State} (ha2 : ∀ x0 x1, Sound x1 → Sound (a2 x0 x1).2) (hs : Sound s) :
    OutSound (credCommand a0 a1 a2 s) := by
  unfold credCommand
  refine next_sound ?_
  with_reducible refine serveWrite_sound ?_ ?_
  · intro z0
    intro z1
    intro z2
    split
    · with_reducible apply ha2
      with_reducible assumption
    · with_reducible assumption
  · with_reducible assumption

theorem keyEvent_sound {a0 : Nat} {a1 : Nat} {s : State} (hs : Sound s) :
    Sound (keyEvent a0 a1 s) := by
  unfold keyEvent
  with_reducible refine raise_sound ?_
  with_reducible assumption

theorem updCommand_sound {a0 : Req} {a1 : Nat} {a2 : WriteFn} {s : State} (ha2 : ∀ x0 x1, Sound x1 → Sound (a2 x0 x1).2) (hs : Sound s) :
    OutSound (updCommand a0 a1 a2 s) := by
  unfold updCommand
  refine next_sound ?_
  with_reducible refine serveWrite_sound ?_ ?_
  · intro z0
    intro z1
    intro z2
    with_reducible apply ha2
    with_reducible assumption
  · with_reducible assumption

theorem execUpdateEraseDone_sound {s : State} (hs : Sound s) :
    OutSound (execUpdateEraseDone s) := by
  unfold execUpdateEraseDone
  refine next_sound ?_
  split
  · with_reducible refine setO_sound ?_
    with_reducible assumption
  · with_reducible assumption

theorem putVbat_sound {a0 : Option (BitVec 256)} {a1 : Nat} {s : State} (hs : Sound s) :
    Sound (putVbat a0 a1 s) := by
  unfold putVbat
  with_reducible refine setO_sound ?_
  with_reducible refine setO_sound ?_
  with_reducible refine mk_sound ?_ rfl rfl rfl rfl rfl
  with_reducible assumption

theorem slotWrite_sound {a0 : Nat} {a1 : Nat} {a2 : List Octet} {s : State} (hs : Sound s) :
    Sound (slotWrite a0 a1 a2 s) := by
  unfold slotWrite
  extract_lets v0 v1
  clear_value v0
  with_reducible refine mk_sound ?_ rfl rfl rfl rfl rfl
  with_reducible assumption

theorem keyCommand_sound {a0 : Req} {a1 : Nat} {a2 : WriteFn} {s : State} (ha2 : ∀ x0 x1, Sound x1 → Sound (a2 x0 x1).2) (hs : Sound s) :
    OutSound (keyCommand a0 a1 a2 s) := by
  unfold keyCommand
  refine next_sound ?_
  with_reducible refine serveWrite_sound ?_ ?_
  · intro z0
    intro z1
    intro z2
    split
    · with_reducible apply ha2
      with_reducible assumption
    · with_reducible assumption
  · with_reducible assumption

theorem execSetEfuseOnly_sound {a0 : Req} {s : State} (hs : Sound s) :
    OutSound (execSetEfuseOnly a0 s) := by
  unfold execSetEfuseOnly
  with_reducible refine keyCommand_sound ?_ ?_
  · intro z0
    intro z1
    intro z2
    split
    · with_reducible assumption
    · dsimp -zeta only
      with_reducible refine keyEvent_sound ?_
      with_reducible refine setO_sound ?_
      with_reducible assumption
  · with_reducible assumption

theorem execUpdCancel_sound {a0 : Req} {s : State} (hs : Sound s) :
    OutSound (execUpdCancel a0 s) := by
  unfold execUpdCancel
  with_reducible refine updCommand_sound ?_ ?_
  · intro z0
    intro z1
    intro z2
    split
    · dsimp -zeta only
      with_reducible refine setO_sound ?_
      with_reducible refine setO_sound ?_
      with_reducible assumption
    · with_reducible assumption
  · with_reducible assumption

theorem writeDirectory_sound {a0 : Nat} {a1 : SlotDir} {s : State} (hs : Sound s) :
    Sound (writeDirectory a0 a1 s) := by
  unfold writeDirectory
  extract_lets v0 v1 v2 v3 v4 v5 v6
  clear_value v2
  clear_value v3
  with_reducible refine mk_sound ?_ rfl rfl rfl rfl rfl
  with_reducible assumption

theorem commitUpdate_sound {a0 : BootStream} {s : State} (hs : Sound s) :
    Sound (commitUpdate a0 s) := by
  unfold commitUpdate
  extract_lets v0 v1 v2 v3 v4 v5
  clear_value v0
  clear_value v1
  clear_value v2
  have q6 : Sound v3 := by
    subst v3
    with_reducible refine slotWrite_sound ?_
    with_reducible assumption
  clear_value v3
  have q7 : Sound v4 := by
    subst v4
    with_reducible refine writeDirectory_sound ?_
    with_reducible assumption
  clear_value v4
  have q8 : Sound v5 := by
    subst v5
    with_reducible refine setO_sound ?_
    with_reducible refine setO_sound ?_
    with_reducible assumption
  clear_value v5
  with_reducible refine raise_sound ?_
  with_reducible assumption

theorem execUpdDataWrite_sound {a0 : Req} {a1 : WForm} {s : State} (hs : Sound s) :
    OutSound (execUpdDataWrite a0 a1 s) := by
  unfold execUpdDataWrite
  extract_lets v0
  refine next_sound ?_
  with_reducible refine serveForm_sound ?_ ?_ ?_
  · intro z1
    intro z2
    intro z3
    intro z4
    subst v0
    beta_reduce
    split
    · with_reducible assumption
    · dsimp -zeta only
      with_reducible refine slotWrite_sound ?_
      with_reducible assumption
  · intro z5
    intro z6
    intro z7
    intro z8
    subst v0
    beta_reduce
    split
    · with_reducible assumption
    · dsimp -zeta only
      with_reducible refine slotWrite_sound ?_
      with_reducible assumption
  · with_reducible assumption

theorem keysChanged_sound {s : State} {a1 : Nat} {s' : State} (hs : Sound s) (hs' : Sound s') :
    Sound (keysChanged s a1 s') := by
  unfold keysChanged
  refine foldl_sound ?_ ?_
  · intro z0
    intro z1
    intro z2
    split
    · with_reducible assumption
    · extract_lets v3 v4
      clear_value v3
      have q5 : Sound v4 := by
        subst v4
        refine foldl_sound ?_ ?_
        · intro z6
          intro z7
          intro z8
          with_reducible refine closeSession_sound ?_
          with_reducible assumption
        · with_reducible assumption
      clear_value v4
      with_reducible refine raise_sound ?_
      with_reducible assumption
  · with_reducible assumption

theorem execCredClear_sound {a0 : Req} {s : State} (hs : Sound s) :
    OutSound (execCredClear a0 s) := by
  unfold execCredClear
  with_reducible refine credCommand_sound ?_ ?_
  · intro z0
    intro z1
    intro z2
    extract_lets v3 v4
    clear_value v3
    dsimp -zeta only
    with_reducible refine keysChanged_sound ?_ ?_
    · with_reducible assumption
    · with_reducible refine mk_sound ?_ rfl rfl rfl rfl rfl
      with_reducible assumption
  · with_reducible assumption

theorem execUpdLengthWrite_sound {a0 : Req} {a1 : WVal} {s : State} (hs : Sound s) :
    OutSound (execUpdLengthWrite a0 a1 s) := by
  unfold execUpdLengthWrite
  refine next_sound ?_
  with_reducible refine serveWrite_sound ?_ ?_
  · intro z0
    intro z1
    intro z2
    split
    · with_reducible assumption
    · split
      · with_reducible assumption
      · extract_lets v3 v4 v5 v6
        clear_value v3
        have q7 : Sound v4 := by
          subst v4
          with_reducible refine writeDirectory_sound ?_
          with_reducible assumption
        clear_value v4
        have q8 : Sound v6 := by
          subst v6
          with_reducible refine mk_sound ?_ rfl rfl rfl rfl rfl
          with_reducible assumption
        clear_value v6
        dsimp -zeta only
        with_reducible refine setO_sound ?_
        with_reducible refine setO_sound ?_
        with_reducible refine setO_sound ?_
        with_reducible assumption
  · with_reducible assumption

theorem execLoadVbat_sound {a0 : Req} {s : State} (hs : Sound s) :
    OutSound (execLoadVbat a0 s) := by
  unfold execLoadVbat
  with_reducible refine keyCommand_sound ?_ ?_
  · intro z0
    intro z1
    intro z2
    split
    · with_reducible assumption
    · split
      · with_reducible assumption
      · dsimp -zeta only
        with_reducible refine keyEvent_sound ?_
        with_reducible refine keysChanged_sound ?_ ?_
        · with_reducible assumption
        · with_reducible refine putVbat_sound ?_
          with_reducible assumption
  · with_reducible assumption

theorem execTamperZeroised_sound {a0 : Nat} {s : State} (hs : Sound s) :
    OutSound (execTamperZeroised a0 s) := by
  unfold execTamperZeroised
  refine next_sound ?_
  split
  · with_reducible assumption
  · extract_lets v0 v1 v2 v3 v4
    have q5 : Sound v0 := by
      subst v0
      with_reducible refine putVbat_sound ?_
      with_reducible assumption
    clear_value v0
    have q6 : Sound v2 := by
      subst v2
      with_reducible refine mk_sound ?_ rfl rfl rfl rfl rfl
      with_reducible assumption
    clear_value v2
    have q7 : Sound v3 := by
      subst v3
      with_reducible refine setO_sound ?_
      with_reducible assumption
    clear_value v3
    have q8 : Sound v4 := by
      subst v4
      split
      · with_reducible refine setO_sound ?_
        with_reducible assumption
      · with_reducible assumption
    clear_value v4
    split
    · with_reducible refine keysChanged_sound ?_ ?_
      · with_reducible assumption
      · with_reducible assumption
    · with_reducible assumption

theorem execUpdVerify_sound {a0 : Req} {s : State} (hs : Sound s) :
    OutSound (execUpdVerify a0 s) := by
  unfold execUpdVerify
  with_reducible refine updCommand_sound ?_ ?_
  · intro z0
    intro z1
    intro z2
    split
    · with_reducible assumption
    · split
      · dsimp -zeta only
        with_reducible refine commitUpdate_sound ?_
        with_reducible assumption
      · dsimp -zeta only
        with_reducible refine setO_sound ?_
        with_reducible refine setO_sound ?_
        with_reducible refine writeDirectory_sound ?_
        with_reducible assumption
  · with_reducible assumption

theorem execZeroiseVbat_sound {a0 : Req} {s : State} (hs : Sound s) :
    OutSound (execZeroiseVbat a0 s) := by
  unfold execZeroiseVbat
  with_reducible refine keyCommand_sound ?_ ?_
  · intro z0
    intro z1
    intro z2
    dsimp -zeta only
    with_reducible refine keyEvent_sound ?_
    with_reducible refine keysChanged_sound ?_ ?_
    · with_reducible assumption
    · with_reducible refine putVbat_sound ?_
      with_reducible assumption
  · with_reducible assumption

theorem execProgramEfuse_sound {a0 : Req} {s : State} (hs : Sound s) :
    OutSound (execProgramEfuse a0 s) := by
  unfold execProgramEfuse
  with_reducible refine keyCommand_sound ?_ ?_
  · intro z0
    intro z1
    intro z2
    split
    · with_reducible assumption
    · split
      · with_reducible assumption
      · extract_lets v3 v4
        have q5 : Sound v4 := by
          subst v4
          with_reducible refine setO_sound ?_
          with_reducible refine setO_sound ?_
          with_reducible refine mk_sound ?_ rfl rfl rfl rfl rfl
          with_reducible assumption
        clear_value v4
        dsimp -zeta only
        with_reducible refine keyEvent_sound ?_
        with_reducible refine keysChanged_sound ?_ ?_
        · with_reducible assumption
        · with_reducible assumption
  · with_reducible assumption

theorem execCredLoad_sound {a0 : Req} {s : State} (hs : Sound s) :
    OutSound (execCredLoad a0 s) := by
  unfold execCredLoad
  with_reducible refine credCommand_sound ?_ ?_
  · intro z0
    intro z1
    intro z2
    split
    · with_reducible assumption
    · extract_lets v3 v4
      clear_value v3
      dsimp -zeta only
      with_reducible refine keysChanged_sound ?_ ?_
      · with_reducible assumption
      · with_reducible refine mk_sound ?_ rfl rfl rfl rfl rfl
        with_reducible assumption
  · with_reducible assumption

end Sys2Proof.Machine
end

