-- ==== Sys2Proof/Laws/SoundHost.lean ====
section
/-! SUPPORT. What Machine/Host.lean does keeps a sound state sound. -/

namespace Sys2Proof.Machine

theorem ringEased_sound {s : State} (hs : Sound s) :
    Sound (ringEased s) := by
  unfold ringEased
  extract_lets v0 v1 v2
  clear_value v1
  clear_value v2
  with_reducible refine mk_sound ?_ rfl rfl rfl rfl rfl
  with_reducible assumption

theorem statsCommand_sound {a0 : Req} {a1 : Nat} {a2 : State → State} {s : State} (ha2 : ∀ x0, Sound x0 → Sound (a2 x0)) (hs : Sound s) :
    OutSound (statsCommand a0 a1 a2 s) := by
  unfold statsCommand
  refine next_sound ?_
  with_reducible refine serveWrite_sound ?_ ?_
  · intro z0
    intro z1
    intro z2
    dsimp -zeta only
    with_reducible apply ha2
    with_reducible assumption
  · with_reducible assumption

theorem configRead_sound {a0 : Nat} {s : State} (hs : Sound s) :
    Sound (configRead a0 s).2 := by
  unfold configRead
  split
  · with_reducible assumption
  · with_reducible assumption
  · with_reducible assumption
  · with_reducible refine takeNat_sound ?_
    with_reducible assumption

theorem execMailboxRingFull_sound {a0 : Bool} {s : State} (hs : Sound s) :
    OutSound (execMailboxRingFull a0 s) := by
  unfold execMailboxRingFull
  extract_lets v0 v1 v2
  clear_value v1
  clear_value v2
  refine next_sound ?_
  split
  · with_reducible refine raise_sound ?_
    with_reducible refine mk_sound ?_ rfl rfl rfl rfl rfl
    with_reducible assumption
  · with_reducible assumption

theorem execStatsFreeze_sound {a0 : Req} {s : State} (hs : Sound s) :
    OutSound (execStatsFreeze a0 s) := by
  unfold execStatsFreeze
  with_reducible refine statsCommand_sound ?_ ?_
  · intro z0
    intro z1
    with_reducible refine setO_sound ?_
    with_reducible assumption
  · with_reducible assumption

theorem execPacketReceived_sound {a0 : NocPacket} {s : State} (hs : Sound s) :
    OutSound (execPacketReceived a0 s) := by
  unfold execPacketReceived
  refine next_sound ?_
  split
  · with_reducible refine receivePacket_sound ?_
    with_reducible assumption
  · with_reducible assumption

theorem refuseStacks_sound {a0 : List Nat} {a1 : Bool} {s : State} (hs : Sound s) :
    Sound (refuseStacks a0 a1 s) := by
  unfold refuseStacks
  refine foldl_sound ?_ ?_
  · intro z0
    intro z1
    intro z2
    split
    · with_reducible refine refusedEvent_sound ?_
      with_reducible refine gateSink_sound ?_
      with_reducible assumption
    · with_reducible refine gateRefuse_sound ?_
      with_reducible assumption
  · with_reducible assumption

theorem configWrite_sound {a0 : Nat} {a1 : Nat} {s : State} (hs : Sound s) :
    Sound (configWrite a0 a1 s) := by
  unfold configWrite
  split
  · split
    · with_reducible refine mk_sound ?_ rfl rfl rfl rfl rfl
      with_reducible assumption
    · split
      · with_reducible refine mk_sound ?_ rfl rfl rfl rfl rfl
        with_reducible assumption
      · with_reducible assumption
  · extract_lets v0
    have q1 : Sound v0 := by
      subst v0
      split
      · with_reducible refine setO_sound ?_
        with_reducible assumption
      · with_reducible assumption
    clear_value v0
    split
    · with_reducible refine setO_sound ?_
      with_reducible assumption
    · with_reducible assumption
  · with_reducible assumption

theorem modEng_sound {a0 : Nat} {a1 : DmaEng → DmaEng} {s : State} (hs : Sound s) :
    Sound (modEng a0 a1 s) := by
  unfold modEng
  with_reducible refine mk_sound ?_ rfl rfl rfl rfl rfl
  with_reducible assumption

theorem apPut_sound {a0 : Nat} {a1 : Bool} {a2 : Nat} {s : State} (hs : Sound s) :
    Sound (apPut a0 a1 a2 s) := by
  unfold apPut
  extract_lets v0
  clear_value v0
  split
  · with_reducible refine setO_sound ?_
    with_reducible assumption
  · with_reducible refine incO_sound ?_
    with_reducible assumption

theorem execStatsResume_sound {a0 : Req} {s : State} (hs : Sound s) :
    OutSound (execStatsResume a0 s) := by
  unfold execStatsResume
  with_reducible refine statsCommand_sound ?_ ?_
  · intro z0
    intro z1
    with_reducible refine setO_sound ?_
    with_reducible assumption
  · with_reducible assumption

theorem execMsixMapWrite_sound {a0 : Req} {a1 : Nat} {a2 : WVal} {s : State} (hs : Sound s) :
    OutSound (execMsixMapWrite a0 a1 a2 s) := by
  unfold execMsixMapWrite
  refine next_sound ?_
  with_reducible refine serveWrite_sound ?_ ?_
  · intro z0
    intro z1
    intro z2
    extract_lets v3
    clear_value v3
    split
    · with_reducible assumption
    · dsimp -zeta only
      with_reducible refine setO_sound ?_
      with_reducible assumption
  · with_reducible assumption

theorem completeDesc_sound {a0 : Nat} {a1 : Nat} {a2 : Nat} {a3 : DescFields} {s : State} (hs : Sound s) :
    Sound (completeDesc a0 a1 a2 a3 s) := by
  unfold completeDesc
  extract_lets v0 v1 v2 v3
  clear_value v1
  clear_value v2
  have q4 : Sound v3 := by
    subst v3
    with_reducible refine emit_sound ?_
    with_reducible assumption
  clear_value v3
  with_reducible refine modEng_sound ?_
  with_reducible assumption

theorem resetBar0_sound {s : State} (hs : Sound s) :
    Sound (resetBar0 s) := by
  unfold resetBar0
  extract_lets v0 v1
  refine mk_sound_filter ?_ rfl rfl rfl rfl rfl
  with_reducible assumption

theorem execStatsClear_sound {a0 : Req} {s : State} (hs : Sound s) :
    OutSound (execStatsClear a0 s) := by
  unfold execStatsClear
  with_reducible refine statsCommand_sound ?_ ?_
  · intro z0
    intro z1
    refine mk_sound_filter ?_ rfl rfl rfl rfl rfl
    with_reducible assumption
  · with_reducible assumption

theorem unmaskVector_sound {a0 : Nat} {s : State} (hs : Sound s) :
    Sound (unmaskVector a0 s) := by
  unfold unmaskVector
  extract_lets v0 v1 v2
  clear_value v0
  have q3 : Sound v2 := by
    subst v2
    with_reducible refine mk_sound ?_ rfl rfl rfl rfl rfl
    with_reducible assumption
  clear_value v2
  split
  · with_reducible refine emit_sound ?_
    with_reducible assumption
  · with_reducible assumption

theorem closeMailbox_sound {s : State} (hs : Sound s) :
    Sound (closeMailbox s) := by
  unfold closeMailbox
  refine foldl_sound ?_ ?_
  · intro z0
    intro z1
    intro z2
    with_reducible refine closeSession_sound ?_
    with_reducible assumption
  · with_reducible assumption

theorem execPcieCreditStall_sound {a0 : Nat} {s : State} (hs : Sound s) :
    OutSound (execPcieCreditStall a0 s) := by
  unfold execPcieCreditStall
  refine next_sound ?_
  split
  · with_reducible assumption
  · split
    · with_reducible refine mk_sound ?_ rfl rfl rfl rfl rfl
      with_reducible assumption
    · extract_lets v0 v1
      have q2 : Sound v0 := by
        subst v0
        with_reducible refine maxO_sound ?_
        with_reducible assumption
      clear_value v0
      split
      · with_reducible assumption
      · with_reducible refine raise_sound ?_
        with_reducible refine mk_sound ?_ rfl rfl rfl rfl rfl
        with_reducible assumption

theorem execRoutingTableSwitch_sound {a0 : Nat} {s : State} (hs : Sound s) :
    OutSound (execRoutingTableSwitch a0 s) := by
  unfold execRoutingTableSwitch
  with_reducible refine onUnit_sound ?_
  split
  · with_reducible refine switchTables_sound ?_
    with_reducible refine newTable_sound ?_
    with_reducible assumption
  · with_reducible assumption

theorem takeSlots_sound {s : State} (hs : Sound s) :
    Sound (takeSlots s) := by
  unfold takeSlots
  split
  · extract_lets v0 v1
    clear_value v0
    with_reducible refine incO_sound ?_
    with_reducible refine mk_sound ?_ rfl rfl rfl rfl rfl
    with_reducible assumption
  · with_reducible assumption

theorem farDirect_sound {a0 : Nat} {a1 : List Octet} {s : State} (hs : Sound s) :
    Sound (farDirect a0 a1 s) := by
  unfold farDirect
  with_reducible refine directWords_sound ?_
  with_reducible assumption

theorem slotSubmit_sound {a0 : Nat} {a1 : Nat} {s : State} (hs : Sound s) :
    Sound (slotSubmit a0 a1 s) := by
  unfold slotSubmit
  split
  · with_reducible refine incO_sound ?_
    with_reducible assumption
  · split
    · with_reducible refine incO_sound ?_
      with_reducible assumption
    · with_reducible refine takeSlots_sound ?_
      with_reducible refine mk_sound ?_ rfl rfl rfl rfl rfl
      with_reducible assumption

theorem msixTableWrite_sound {a0 : Nat} {a1 : Nat} {s : State} (hs : Sound s) :
    Sound (msixTableWrite a0 a1 s) := by
  unfold msixTableWrite
  split
  · split
    · with_reducible refine mk_sound ?_ rfl rfl rfl rfl rfl
      with_reducible assumption
    · with_reducible refine unmaskVector_sound ?_
      with_reducible assumption
  · with_reducible refine mk_sound ?_ rfl rfl rfl rfl rfl
    with_reducible assumption

theorem execPcieReset_sound {a0 : Nat} {s : State} (hs : Sound s) :
    OutSound (execPcieReset a0 s) := by
  unfold execPcieReset
  with_reducible refine onUnit_sound ?_
  split
  · with_reducible assumption
  · extract_lets v0 v1
    have q2 : Sound v0 := by
      subst v0
      refine foldl_sound ?_ ?_
      · intro z3
        intro z4
        intro z5
        with_reducible refine closeGate_sound ?_
        with_reducible assumption
      · with_reducible refine resetBar0_sound ?_
        with_reducible refine closeMailbox_sound ?_
        with_reducible assumption
    clear_value v0
    have q6 : Sound v1 := by
      subst v1
      split
      · with_reducible assumption
      · with_reducible refine setO_sound ?_
        with_reducible refine setO_sound ?_
        with_reducible refine setO_sound ?_
        with_reducible assumption
    clear_value v1
    with_reducible refine raise_sound ?_
    with_reducible refine incO_sound ?_
    with_reducible assumption

theorem linkUp_sound {s : State} (hs : Sound s) :
    Sound (linkUp s) := by
  unfold linkUp
  split
  · with_reducible assumption
  · split
    split
    with_reducible refine setO_sound ?_
    with_reducible refine setO_sound ?_
    with_reducible refine setO_sound ?_
    refine sound_of_eq (by with_reducible assumption) ?_
    with_reducible refine takeNat_sound ?_
    refine sound_of_eq (by with_reducible assumption) ?_
    with_reducible refine takeNat_sound ?_
    with_reducible assumption

theorem bar2Read_sound {a0 : Nat} {a1 : Nat} {s : State} (hs : Sound s) :
    Sound (bar2Read a0 a1 s) := by
  unfold bar2Read
  split
  extract_lets v0 v1 v2
  have q3 : Sound v0 := by
    subst v0
    with_reducible refine incO_sound ?_
    with_reducible assumption
  clear_value v0
  clear_value v1
  clear_value v2
  split
  · with_reducible refine emit_sound ?_
    with_reducible refine incO_sound ?_
    with_reducible assumption
  · split
    · with_reducible refine emit_sound ?_
      with_reducible refine refuseStacks_sound ?_
      with_reducible refine incO_sound ?_
      with_reducible assumption
    · split
      · with_reducible refine emit_sound ?_
        with_reducible assumption
      · with_reducible refine emit_sound ?_
        with_reducible assumption

theorem hostAccess_sound {a0 : State → State} {s : State} (ha0 : ∀ x0, Sound x0 → Sound (a0 x0)) (hs : Sound s) :
    Sound (hostAccess a0 s) := by
  unfold hostAccess
  split
  · with_reducible refine chooseDepth_sound ?_
    with_reducible apply ha0
    with_reducible refine wakeDepth_sound ?_
    with_reducible assumption
  · with_reducible assumption

theorem enginePut_sound {a0 : Nat} {a1 : Nat} {a2 : Nat} {s : State} (hs : Sound s) :
    Sound (enginePut a0 a1 a2 s) := by
  unfold enginePut
  split
  · with_reducible assumption
  · with_reducible refine modEng_sound ?_
    with_reducible assumption

theorem execDmaDoorbell_sound {a0 : Nat} {a1 : Nat} {a2 : Nat} {s : State} (hs : Sound s) :
    OutSound (execDmaDoorbell a0 a1 a2 s) := by
  unfold execDmaDoorbell
  with_reducible refine onUnit_sound ?_
  with_reducible refine hostAccess_sound ?_ ?_
  · intro z0
    intro z1
    with_reducible refine enginePut_sound ?_
    with_reducible assumption
  · with_reducible assumption

theorem patternWrite_sound {a0 : Nat} {a1 : List Octet} {s : State} (hs : Sound s) :
    Sound (patternWrite a0 a1 s).2 := by
  unfold patternWrite
  split
  · dsimp -zeta only
    with_reducible refine incO_sound ?_
    with_reducible refine mk_sound ?_ rfl rfl rfl rfl rfl
    with_reducible assumption
  · dsimp -zeta only
    with_reducible refine regionWrite_sound ?_
    with_reducible assumption

theorem bar0Write_sound {a0 : Nat} {a1 : Nat} {s : State} (hs : Sound s) :
    Sound (bar0Write a0 a1 s) := by
  unfold bar0Write
  extract_lets v0 v1 v2
  have q3 : Sound v1 := by
    subst v1
    with_reducible refine closeMailbox_sound ?_
    with_reducible assumption
  clear_value v1
  split
  · split
    · with_reducible refine takeSlots_sound ?_
      with_reducible refine mk_sound ?_ rfl rfl rfl rfl rfl
      with_reducible assumption
    · with_reducible refine mk_sound ?_ rfl rfl rfl rfl rfl
      with_reducible assumption
  · split
    · with_reducible refine mk_sound ?_ rfl rfl rfl rfl rfl
      with_reducible assumption
    · with_reducible assumption
  · split
    · with_reducible refine takeSlots_sound ?_
      with_reducible refine ringEased_sound ?_
      with_reducible refine mk_sound ?_ rfl rfl rfl rfl rfl
      with_reducible assumption
    · with_reducible assumption
  · split
    · with_reducible refine mk_sound ?_ rfl rfl rfl rfl rfl
      with_reducible assumption
    · with_reducible assumption
  · split
    · with_reducible refine drainQueues_sound ?_
      with_reducible refine ringEased_sound ?_
      with_reducible refine mk_sound ?_ rfl rfl rfl rfl rfl
      with_reducible assumption
    · with_reducible assumption
  · split
    · with_reducible refine setO_sound ?_
      with_reducible assumption
    · split
      · with_reducible refine msixTableWrite_sound ?_
        with_reducible assumption
      · with_reducible assumption

theorem execDmaStop_sound {a0 : Nat} {s : State} (hs : Sound s) :
    OutSound (execDmaStop a0 s) := by
  unfold execDmaStop
  with_reducible refine onUnit_sound ?_
  with_reducible refine hostAccess_sound ?_ ?_
  · intro z0
    intro z1
    with_reducible refine enginePut_sound ?_
    with_reducible assumption
  · with_reducible assumption

theorem execMsixUnmask_sound {a0 : Nat} {s : State} (hs : Sound s) :
    OutSound (execMsixUnmask a0 s) := by
  unfold execMsixUnmask
  with_reducible refine onUnit_sound ?_
  with_reducible refine hostAccess_sound ?_ ?_
  · intro z0
    intro z1
    with_reducible refine unmaskVector_sound ?_
    with_reducible assumption
  · with_reducible assumption

theorem execMbSlotSubmit_sound {a0 : Nat} {a1 : Nat} {s : State} (hs : Sound s) :
    OutSound (execMbSlotSubmit a0 a1 s) := by
  unfold execMbSlotSubmit
  with_reducible refine onUnit_sound ?_
  with_reducible refine hostAccess_sound ?_ ?_
  · intro z0
    intro z1
    with_reducible refine slotSubmit_sound ?_
    with_reducible assumption
  · with_reducible assumption

theorem execConfigurationRequest_sound {a0 : Bool} {a1 : Nat} {a2 : Nat} {s : State} (hs : Sound s) :
    OutSound (execConfigurationRequest a0 a1 a2 s) := by
  unfold execConfigurationRequest
  refine next_sound ?_
  split
  · with_reducible assumption
  · split
    · with_reducible refine emit_sound ?_
      with_reducible assumption
    · extract_lets v0
      have q1 : Sound v0 := by
        subst v0
        with_reducible refine linkUp_sound ?_
        with_reducible assumption
      clear_value v0
      split
      · with_reducible refine emit_sound ?_
        with_reducible refine configWrite_sound ?_
        with_reducible assumption
      · split
        with_reducible refine emit_sound ?_
        refine sound_of_eq (by with_reducible assumption) ?_
        with_reducible refine configRead_sound ?_
        with_reducible assumption

theorem consumerPut_sound {a0 : Nat} {a1 : Nat} {s : State} (hs : Sound s) :
    Sound (consumerPut a0 a1 s) := by
  unfold consumerPut
  split
  · with_reducible refine takeSlots_sound ?_
    with_reducible refine ringEased_sound ?_
    with_reducible refine mk_sound ?_ rfl rfl rfl rfl rfl
    with_reducible assumption
  · with_reducible refine drainQueues_sound ?_
    with_reducible refine ringEased_sound ?_
    with_reducible refine mk_sound ?_ rfl rfl rfl rfl rfl
    with_reducible assumption
  · with_reducible refine enginePut_sound ?_
    with_reducible assumption

theorem barReg_sound {a0 : Nat} {a1 : Nat} {s : State} (hs : Sound s) :
    Sound (barReg a0 a1 s) := by
  unfold barReg
  split
  · with_reducible refine slotSubmit_sound ?_
    with_reducible assumption
  · split
    · with_reducible refine consumerPut_sound ?_
      with_reducible assumption
    · split
      · with_reducible refine consumerPut_sound ?_
        with_reducible assumption
      · split
        · split
          · with_reducible refine apPut_sound ?_
            with_reducible assumption
          · with_reducible refine apPut_sound ?_
            with_reducible assumption
          · with_reducible assumption
        · split
          · with_reducible refine enginePut_sound ?_
            with_reducible assumption
          · with_reducible refine bar0Write_sound ?_
            with_reducible assumption

theorem hostStore_sound {a0 : Nat} {a1 : Nat} {a2 : Nat} {a3 : List Octet} {s : State} (hs : Sound s) :
    Sound (hostStore a0 a1 a2 a3 s).2 := by
  unfold hostStore
  split
  · refine foldl_sound_snd ?_ ?_
    · intro z0
      intro z1
      intro z2
      split
      dsimp -zeta only
      refine sound_of_eq (by with_reducible assumption) ?_
      with_reducible refine patternWrite_sound ?_
      with_reducible assumption
    · with_reducible assumption
  · dsimp -zeta only
    with_reducible refine farDirect_sound ?_
    with_reducible assumption
  · extract_lets v3
    clear_value v3
    dsimp -zeta only
    with_reducible refine stageWrite_sound ?_
    with_reducible assumption
  · dsimp -zeta only
    with_reducible refine regionWrite_sound ?_
    with_reducible assumption

theorem execApWrite_sound {a0 : Nat} {a1 : Bool} {a2 : Nat} {s : State} (hs : Sound s) :
    OutSound (execApWrite a0 a1 a2 s) := by
  unfold execApWrite
  with_reducible refine onUnit_sound ?_
  with_reducible refine hostAccess_sound ?_ ?_
  · intro z0
    intro z1
    with_reducible refine apPut_sound ?_
    with_reducible assumption
  · with_reducible assumption

theorem execBar2Read_sound {a0 : Nat} {a1 : Nat} {s : State} (hs : Sound s) :
    OutSound (execBar2Read a0 a1 s) := by
  unfold execBar2Read
  refine next_sound ?_
  split
  · with_reducible refine emit_sound ?_
    with_reducible assumption
  · with_reducible refine hostAccess_sound ?_ ?_
    · intro z0
      intro z1
      with_reducible refine bar2Read_sound ?_
      with_reducible assumption
    · with_reducible assumption

theorem execRingConsumerWrite_sound {a0 : Nat} {a1 : Nat} {s : State} (hs : Sound s) :
    OutSound (execRingConsumerWrite a0 a1 s) := by
  unfold execRingConsumerWrite
  with_reducible refine onUnit_sound ?_
  with_reducible refine hostAccess_sound ?_ ?_
  · intro z0
    intro z1
    with_reducible refine consumerPut_sound ?_
    with_reducible assumption
  · with_reducible assumption

theorem execDmaEnable_sound {a0 : Nat} {s : State} (hs : Sound s) :
    OutSound (execDmaEnable a0 s) := by
  unfold execDmaEnable
  with_reducible refine onUnit_sound ?_
  with_reducible refine hostAccess_sound ?_ ?_
  · intro z0
    intro z1
    with_reducible refine enginePut_sound ?_
    with_reducible assumption
  · with_reducible assumption

theorem barWrite_sound {a0 : Nat} {a1 : Nat} {a2 : Nat} {s : State} (hs : Sound s) :
    Sound (barWrite a0 a1 a2 s) := by
  unfold barWrite
  split
  · with_reducible refine mk_sound ?_ rfl rfl rfl rfl rfl
    with_reducible assumption
  · extract_lets v0 v1 v2
    clear_value v0
    clear_value v1
    clear_value v2
    split
    · split
      · with_reducible refine barReg_sound ?_
        with_reducible assumption
      · split
        · with_reducible refine barReg_sound ?_
          with_reducible assumption
        · with_reducible refine barReg_sound ?_
          with_reducible assumption
    · split
      · split
        · with_reducible refine barReg_sound ?_
          with_reducible assumption
        · with_reducible refine barReg_sound ?_
          with_reducible refine barReg_sound ?_
          with_reducible assumption
      · with_reducible assumption

theorem bar2Write_sound {a0 : Nat} {a1 : List Octet} {s : State} (hs : Sound s) :
    Sound (bar2Write a0 a1 s) := by
  unfold bar2Write
  split
  extract_lets v0 v1 v2
  clear_value v0
  have q3 : Sound v1 := by
    subst v1
    with_reducible refine incO_sound ?_
    with_reducible assumption
  clear_value v1
  clear_value v2
  split
  · with_reducible refine incO_sound ?_
    with_reducible assumption
  · split
    · with_reducible refine refuseStacks_sound ?_
      with_reducible refine incO_sound ?_
      with_reducible assumption
    · split
      · with_reducible refine incO_sound ?_
        with_reducible assumption
      · split
        · with_reducible refine dmCount_sound ?_
          with_reducible assumption
        · with_reducible refine hostStore_sound ?_
          with_reducible assumption

theorem descRun_sound {a0 : Descriptor} {a1 : DescFields} {s : State} (hs : Sound s) :
    Sound (descRun a0 a1 s).2 := by
  unfold descRun
  split
  · extract_lets v0
    have q1 : Sound v0 := by
      subst v0
      split
      · with_reducible refine refuseStacks_sound ?_
        with_reducible assumption
      · with_reducible assumption
    clear_value v0
    with_reducible assumption
  · extract_lets v2 v3 v4 v5
    clear_value v2
    clear_value v3
    clear_value v4
    split
    extract_lets v6
    have q7 : Sound v6 := by
      subst v6
      split
      · with_reducible refine incO_sound ?_
        refine sound_of_eq (by with_reducible assumption) ?_
        split
        · with_reducible refine hostStore_sound ?_
          with_reducible assumption
        · dsimp -zeta only
          with_reducible refine emit_sound ?_
          with_reducible assumption
        · with_reducible assumption
      · refine sound_of_eq (by with_reducible assumption) ?_
        split
        · with_reducible refine hostStore_sound ?_
          with_reducible assumption
        · dsimp -zeta only
          with_reducible refine emit_sound ?_
          with_reducible assumption
        · with_reducible assumption
    clear_value v6
    with_reducible assumption

theorem execBar2Write_sound {a0 : Nat} {a1 : List Octet} {s : State} (hs : Sound s) :
    OutSound (execBar2Write a0 a1 s) := by
  unfold execBar2Write
  refine next_sound ?_
  with_reducible refine hostAccess_sound ?_ ?_
  · intro z0
    intro z1
    with_reducible refine bar2Write_sound ?_
    with_reducible assumption
  · with_reducible assumption

theorem execMbControlWrite_sound {a0 : Nat} {a1 : BarValue} {s : State} (hs : Sound s) :
    OutSound (execMbControlWrite a0 a1 s) := by
  unfold execMbControlWrite
  refine next_sound ?_
  with_reducible refine hostAccess_sound ?_ ?_
  · intro z0
    intro z1
    with_reducible refine barWrite_sound ?_
    with_reducible assumption
  · with_reducible assumption

theorem finishDesc_sound {a0 : Bool} {a1 : Nat} {a2 : Descriptor} {s : State} (hs : Sound s) :
    Sound (finishDesc a0 a1 a2 s) := by
  unfold finishDesc
  extract_lets v0 v1 v2 v3 v4 v5 v6 v7 v8
  clear_value v1
  clear_value v2
  split
  extract_lets v9 v10 v11 v12 v13 v14
  have q15 : Sound v9 := by
    subst v9
    with_reducible refine completeDesc_sound ?_
    refine sound_of_eq (by with_reducible assumption) ?_
    split
    · with_reducible assumption
    · with_reducible refine descRun_sound ?_
      with_reducible assumption
  clear_value v9
  have q16 : Sound v10 := by
    subst v10
    with_reducible refine incO_sound ?_
    with_reducible refine incO_sound ?_
    with_reducible assumption
  clear_value v10
  have q17 : Sound v11 := by
    subst v11
    split
    · with_reducible assumption
    · with_reducible refine setO_sound ?_
      with_reducible refine incO_sound ?_
      with_reducible assumption
  clear_value v11
  have q18 : Sound v12 := by
    subst v12
    split
    · with_reducible refine signalVector_sound ?_
      with_reducible assumption
    · with_reducible assumption
  clear_value v12
  have q19 : Sound v13 := by
    subst v13
    split
    · with_reducible assumption
    · with_reducible refine signalVector_sound ?_
      with_reducible assumption
  clear_value v13
  have q20 : Sound v14 := by
    subst v14
    split
    · with_reducible assumption
    · with_reducible refine raise_sound ?_
      with_reducible assumption
  clear_value v14
  with_reducible refine modEng_sound ?_
  with_reducible assumption

theorem dmaDone_sound {a0 : Nat} {a1 : Descriptor} {s : State} (hs : Sound s) :
    Sound (dmaDone a0 a1 s) := by
  unfold dmaDone
  split
  · with_reducible refine finishDesc_sound ?_
    with_reducible assumption
  · extract_lets v0
    clear_value v0
    with_reducible refine closeGate_sound ?_
    with_reducible refine finishDesc_sound ?_
    with_reducible assumption

theorem execDmaDescriptorDone_sound {a0 : Nat} {a1 : Descriptor} {s : State} (hs : Sound s) :
    OutSound (execDmaDescriptorDone a0 a1 s) := by
  unfold execDmaDescriptorDone
  with_reducible refine onUnit_sound ?_
  split
  · with_reducible refine hostAccess_sound ?_ ?_
    · intro z0
      intro z1
      with_reducible refine dmaDone_sound ?_
      with_reducible assumption
    · with_reducible assumption
  · with_reducible assumption

end Sys2Proof.Machine
end

