-- ==== Sys2Proof/Laws/SoundTime.lean ====
section
/-! SUPPORT. What Machine/Time.lean does keeps a sound state sound. -/

namespace Sys2Proof.Machine

theorem execPathFreezeEnd_sound {s : State} (hs : Sound s) :
    OutSound (execPathFreezeEnd s) := by
  unfold execPathFreezeEnd
  refine next_sound ?_
  split
  · extract_lets v0 v1
    have q2 : Sound v1 := by
      subst v1
      with_reducible refine mk_sound ?_ rfl rfl rfl rfl rfl
      with_reducible assumption
    clear_value v1
    with_reducible refine setServo_sound ?_
    with_reducible assumption
  · with_reducible assumption

theorem welcomeMaster_sound {s : State} (hs : Sound s) :
    Sound (welcomeMaster s) := by
  unfold welcomeMaster
  split
  · with_reducible assumption
  · extract_lets v0 v1 v2 v3 v4
    clear_value v0
    have q5 : Sound v1 := by
      subst v1
      split
      · with_reducible refine setServo_sound ?_
        with_reducible assumption
      · with_reducible assumption
    clear_value v1
    have q6 : Sound v2 := by
      subst v2
      split
      · with_reducible refine raise_sound ?_
        with_reducible assumption
      · with_reducible assumption
    clear_value v2
    have q7 : Sound v3 := by
      subst v3
      split
      · split
        · with_reducible refine raise_sound ?_
          with_reducible assumption
        · with_reducible assumption
      · with_reducible assumption
    clear_value v3
    with_reducible refine mk_sound ?_ rfl rfl rfl rfl rfl
    with_reducible assumption

theorem lanternStepped_sound {a0 : Option (Nat × Nat × Nat)} {s : State} (hs : Sound s) :
    Sound (lanternStepped a0 s) := by
  unfold lanternStepped
  split
  · with_reducible assumption
  · extract_lets v0 v1 v2
    have q3 : Sound v1 := by
      subst v1
      with_reducible refine mk_sound ?_ rfl rfl rfl rfl rfl
      with_reducible assumption
    split
    · with_reducible refine timeMapRecords_sound ?_
      with_reducible refine flushExt_sound ?_
      with_reducible assumption
    · with_reducible assumption

theorem selectMaster_sound {a0 : Nat} {a1 : List Nat} {s : State} (hs : Sound s) :
    Sound (selectMaster a0 a1 s) := by
  unfold selectMaster
  extract_lets v0 v1 v2
  have q3 : Sound v0 := by
    subst v0
    with_reducible refine forgetMaster_sound ?_
    with_reducible assumption
  clear_value v0
  have q4 : Sound v2 := by
    subst v2
    with_reducible refine mk_sound ?_ rfl rfl rfl rfl rfl
    with_reducible assumption
  clear_value v2
  with_reducible refine setO_sound ?_
  with_reducible assumption

theorem traceStepped_sound {a0 : Option (Nat × Nat × Nat)} {s : State} (hs : Sound s) :
    Sound (traceStepped a0 s) := by
  unfold traceStepped
  split
  · with_reducible assumption
  · extract_lets v0 v1
    have q2 : Sound v1 := by
      subst v1
      with_reducible refine mk_sound ?_ rfl rfl rfl rfl rfl
      with_reducible assumption
    clear_value v1
    split
    · with_reducible assumption
    · with_reducible refine timeMapRec_sound ?_
      with_reducible assumption

theorem rebase_sound {a0 : Nat} {s : State} (hs : Sound s) :
    Sound (rebase a0 s) := by
  unfold rebase
  extract_lets v0 v1
  clear_value v0
  with_reducible refine mk_sound ?_ rfl rfl rfl rfl rfl
  with_reducible assumption

theorem announceIn_sound {a0 : Nat} {a1 : List Nat} {a2 : Int} {s : State} (hs : Sound s) :
    Sound (announceIn a0 a1 a2 s) := by
  unfold announceIn
  extract_lets v0 v1 v2
  clear_value v0
  split
  · split
    · with_reducible refine setO_sound ?_
      with_reducible refine forgetMaster_sound ?_
      with_reducible assumption
    · with_reducible assumption
  · split
    · subst v1
      beta_reduce
      with_reducible refine setO_sound ?_
      with_reducible refine mk_sound ?_ rfl rfl rfl rfl rfl
      with_reducible assumption
    · split
      · subst v1
        beta_reduce
        with_reducible refine setO_sound ?_
        with_reducible refine selectMaster_sound ?_
        with_reducible assumption
      · split
        · subst v1
          beta_reduce
          with_reducible refine setO_sound ?_
          with_reducible refine selectMaster_sound ?_
          with_reducible assumption
        · with_reducible assumption

theorem sendPtp_sound {a0 : Nat} {a1 : Option Bool} {a2 : PtpMsg} {s : State} (hs : Sound s) :
    Sound (sendPtp a0 a1 a2 s).2 := by
  unfold sendPtp
  extract_lets v0 v1
  have q2 : Sound v0.2 := by
    subst v0
    split
    · dsimp -zeta only
      with_reducible refine collide_sound ?_
      with_reducible assumption
    · with_reducible refine transmit_sound ?_
      with_reducible assumption
    · with_reducible refine transmit_sound ?_
      with_reducible assumption
  clear_value v0
  split
  · with_reducible assumption
  · extract_lets v3
    clear_value v3
    dsimp -zeta only
    with_reducible refine incO_sound ?_
    with_reducible refine emit_sound ?_
    with_reducible assumption

theorem driveAlert_sound {s : State} (hs : Sound s) :
    Sound (driveAlert s) := by
  unfold driveAlert
  split
  · with_reducible assumption
  · extract_lets v0 v1
    have q2 : Sound v0 := by
      subst v0
      with_reducible refine emit_sound ?_
      with_reducible assumption
    clear_value v0
    with_reducible refine mk_sound ?_ rfl rfl rfl rfl rfl
    with_reducible assumption

theorem ownCopy_sound {a0 : Nat} {a1 : Nat} {a2 : Bool} {a3 : Nat} {s : State} (hs : Sound s) :
    Sound (ownCopy a0 a1 a2 a3 s) := by
  unfold ownCopy
  extract_lets v0 v1 v2 v3
  clear_value v0
  clear_value v1
  split
  · with_reducible refine sendPtp_sound ?_
    with_reducible assumption
  · split
    · with_reducible refine sendPtp_sound ?_
      with_reducible assumption
    · split
      · with_reducible refine sendPtp_sound ?_
        refine sound_of_eq (by with_reducible assumption) ?_
        with_reducible refine sendPtp_sound ?_
        with_reducible assumption
      · refine sound_of_eq (by with_reducible assumption) ?_
        with_reducible refine sendPtp_sound ?_
        with_reducible assumption
  · split
    · with_reducible refine mk_sound ?_ rfl rfl rfl rfl rfl
      refine sound_of_eq (by with_reducible assumption) ?_
      with_reducible refine sendPtp_sound ?_
      with_reducible assumption
    · refine sound_of_eq (by with_reducible assumption) ?_
      with_reducible refine sendPtp_sound ?_
      with_reducible assumption
  · split
    · with_reducible refine mk_sound ?_ rfl rfl rfl rfl rfl
      refine sound_of_eq (by with_reducible assumption) ?_
      with_reducible refine sendPtp_sound ?_
      with_reducible assumption
    · refine sound_of_eq (by with_reducible assumption) ?_
      with_reducible refine sendPtp_sound ?_
      with_reducible assumption

theorem stepTime_sound {a0 : Int} {s : State} (hs : Sound s) :
    Sound (stepTime a0 s) := by
  unfold stepTime
  extract_lets v0 v1 v2 v3 v4
  have q5 : Sound v1 := by
    subst v1
    with_reducible refine mk_sound ?_ rfl rfl rfl rfl rfl
    with_reducible assumption
  clear_value v1
  have q6 : Sound v2 := by
    subst v2
    with_reducible refine incO_sound ?_
    with_reducible assumption
  clear_value v2
  have q7 : Sound v3 := by
    subst v3
    with_reducible refine raise_sound ?_
    with_reducible assumption
  clear_value v3
  clear_value v4
  with_reducible refine traceStepped_sound ?_
  with_reducible refine lanternStepped_sound ?_
  with_reducible assumption

theorem advanceFrc_sound {a0 : BitVec 64} {s : State} (hs : Sound s) :
    Sound (advanceFrc a0 s) := by
  unfold advanceFrc
  extract_lets v0 v1
  have q2 : Sound v1 := by
    subst v1
    with_reducible refine mk_sound ?_ rfl rfl rfl rfl rfl
    with_reducible assumption
  clear_value v1
  split
  · with_reducible refine rebase_sound ?_
    with_reducible assumption
  · with_reducible assumption

theorem setRate_sound {a0 : Int} {s : State} (hs : Sound s) :
    Sound (setRate a0 s) := by
  unfold setRate
  split
  · with_reducible assumption
  · extract_lets v0 v1
    have q2 : Sound v0 := by
      subst v0
      with_reducible refine rebase_sound ?_
      with_reducible assumption
    clear_value v0
    with_reducible refine mk_sound ?_ rfl rfl rfl rfl rfl
    with_reducible assumption

theorem enterHoldover_sound {s : State} (hs : Sound s) :
    Sound (enterHoldover s) := by
  unfold enterHoldover
  extract_lets v0 v1 v2
  have q3 : Sound v0 := by
    subst v0
    with_reducible refine setServo_sound ?_
    with_reducible refine setRate_sound ?_
    with_reducible assumption
  clear_value v0
  have q4 : Sound v2 := by
    subst v2
    with_reducible refine mk_sound ?_ rfl rfl rfl rfl rfl
    with_reducible assumption
  clear_value v2
  with_reducible refine raise_sound ?_
  with_reducible assumption

theorem execPtpTransmit_sound {a0 : Nat} {a1 : List Nat} {s : State} (hs : Sound s) :
    OutSound (execPtpTransmit a0 a1 s) := by
  unfold execPtpTransmit
  refine next_sound ?_
  split
  · with_reducible assumption
  · extract_lets v0 v1 v2
    clear_value v0
    have q3 : Sound v2 := by
      subst v2
      with_reducible refine mk_sound ?_ rfl rfl rfl rfl rfl
      with_reducible assumption
    clear_value v2
    refine foldl_sound ?_ ?_
    · intro z4
      intro z5
      intro z6
      split
      · with_reducible refine ownCopy_sound ?_
        with_reducible assumption
      · with_reducible assumption
    · with_reducible assumption

theorem execSetTime_sound {a0 : Req} {a1 : WVal} {s : State} (hs : Sound s) :
    OutSound (execSetTime a0 a1 s) := by
  unfold execSetTime
  refine next_sound ?_
  with_reducible refine serveWrite_sound ?_ ?_
  · intro z0
    intro z1
    intro z2
    split
    · with_reducible assumption
    · dsimp -zeta only
      with_reducible refine stepTime_sound ?_
      with_reducible assumption
  · with_reducible assumption

theorem servoSample_sound {a0 : Int} {s : State} (hs : Sound s) :
    Sound (servoSample a0 s) := by
  unfold servoSample
  extract_lets v0 v1 v2 v3 v4 v5 v6 v7 v8 v9 v10 v11
  have q12 : Sound v0 := by
    subst v0
    with_reducible refine setO_sound ?_
    with_reducible assumption
  clear_value v0
  clear_value v1
  clear_value v2
  have q13 : Sound v3 := by
    subst v3
    with_reducible refine setServo_sound ?_
    with_reducible refine stepTime_sound ?_
    with_reducible assumption
  clear_value v3
  clear_value v5
  have q14 : Sound v7 := by
    subst v7
    with_reducible refine mk_sound ?_ rfl rfl rfl rfl rfl
    with_reducible assumption
  clear_value v7
  have q15 : Sound v8 := by
    subst v8
    with_reducible refine setRate_sound ?_
    with_reducible assumption
  clear_value v8
  clear_value v9
  have q16 : Sound v11 := by
    subst v11
    with_reducible refine mk_sound ?_ rfl rfl rfl rfl rfl
    with_reducible assumption
  clear_value v11
  split
  · with_reducible refine mk_sound ?_ rfl rfl rfl rfl rfl
    with_reducible assumption
  · split
    · with_reducible refine raise_sound ?_
      with_reducible refine setO_sound ?_
      with_reducible refine setServo_sound ?_
      with_reducible assumption
    · with_reducible assumption

theorem execFrcWrap_sound {s : State} (hs : Sound s) :
    OutSound (execFrcWrap s) := by
  unfold execFrcWrap
  refine next_sound ?_
  split
  · with_reducible refine advanceFrc_sound ?_
    with_reducible assumption
  · with_reducible assumption

theorem restartClock_sound {s : State} (hs : Sound s) :
    Sound (restartClock s) := by
  unfold restartClock
  extract_lets v0 v1
  have q2 : Sound v0 := by
    subst v0
    split
    · with_reducible refine enterHoldover_sound ?_
      with_reducible assumption
    · with_reducible assumption
  clear_value v0
  have q3 : Sound v1 := by
    subst v1
    with_reducible refine forgetMaster_sound ?_
    with_reducible assumption
  clear_value v1
  split
  · with_reducible refine setO_sound ?_
    with_reducible assumption
  · with_reducible assumption

theorem offsetSample_sound {a0 : Int} {s : State} (hs : Sound s) :
    Sound (offsetSample a0 s) := by
  unfold offsetSample
  split
  · with_reducible assumption
  · extract_lets v0
    have q1 : Sound v0 := by
      subst v0
      with_reducible refine welcomeMaster_sound ?_
      with_reducible assumption
    clear_value v0
    split
    · with_reducible refine servoSample_sound ?_
      with_reducible assumption
    · with_reducible assumption

theorem syncSample_sound {a0 : Nat} {a1 : Int} {a2 : Int} {a3 : Int} {s : State} (hs : Sound s) :
    Sound (syncSample a0 a1 a2 a3 s) := by
  unfold syncSample
  extract_lets v0 v1 v2
  clear_value v0
  have q3 : Sound v2 := by
    subst v2
    with_reducible refine mk_sound ?_ rfl rfl rfl rfl rfl
    with_reducible assumption
  clear_value v2
  with_reducible refine offsetSample_sound ?_
  with_reducible assumption

theorem execMasterLost_sound {s : State} (hs : Sound s) :
    OutSound (execMasterLost s) := by
  unfold execMasterLost
  refine next_sound ?_
  split
  · with_reducible assumption
  · extract_lets v0 v1
    clear_value v0
    have q2 : Sound v1 := by
      subst v1
      split
      · with_reducible refine enterHoldover_sound ?_
        with_reducible assumption
      · with_reducible assumption
    clear_value v1
    with_reducible refine setO_sound ?_
    with_reducible refine forgetMaster_sound ?_
    with_reducible assumption

theorem delaySample_sound {a0 : Nat} {a1 : Nat} {a2 : Int} {s : State} (hs : Sound s) :
    Sound (delaySample a0 a1 a2 s) := by
  unfold delaySample
  extract_lets v0 v1 v2 v3 v4 v5 v6 v7 v8 v9
  clear_value v0
  clear_value v1
  clear_value v2
  clear_value v3
  clear_value v4
  have q10 : Sound v6 := by
    subst v6
    subst v5
    beta_reduce
    extract_lets v11 v12
    have q13 : Sound v12 := by
      subst v12
      with_reducible refine mk_sound ?_ rfl rfl rfl rfl rfl
      with_reducible assumption
    clear_value v12
    split
    · with_reducible refine setO_sound ?_
      with_reducible assumption
    · with_reducible assumption
  clear_value v6
  have q14 : Sound v7 := by
    subst v7
    with_reducible refine raise_sound ?_
    with_reducible assumption
  clear_value v7
  split
  · split
    · with_reducible assumption
    · with_reducible refine setServo_sound ?_
      with_reducible refine setRate_sound ?_
      with_reducible assumption
  · subst v5
    beta_reduce
    extract_lets v15 v16
    have q17 : Sound v16 := by
      subst v16
      with_reducible refine mk_sound ?_ rfl rfl rfl rfl rfl
      with_reducible assumption
    clear_value v16
    split
    · with_reducible refine setO_sound ?_
      with_reducible assumption
    · with_reducible assumption

theorem clockWrite_sound {a0 : Nat} {a1 : Nat} {s : State} (hs : Sound s) :
    Sound (clockWrite a0 a1 s).2 := by
  unfold clockWrite
  split
  · with_reducible assumption
  · extract_lets v0
    have q1 : Sound v0 := by
      subst v0
      with_reducible refine setO_sound ?_
      with_reducible assumption
    clear_value v0
    split
    · split
      · with_reducible assumption
      · dsimp -zeta only
        split
        · split
          · with_reducible refine setO_sound ?_
            with_reducible assumption
          · with_reducible assumption
        · with_reducible refine setO_sound ?_
          with_reducible refine forgetMaster_sound ?_
          with_reducible assumption
    · split
      · dsimp -zeta only
        with_reducible refine restartClock_sound ?_
        with_reducible assumption
      · with_reducible assumption

theorem execPtpConfigWrite_sound {a0 : Req} {a1 : Nat} {a2 : WVal} {s : State} (hs : Sound s) :
    OutSound (execPtpConfigWrite a0 a1 a2 s) := by
  unfold execPtpConfigWrite
  refine next_sound ?_
  with_reducible refine serveWrite_sound ?_ ?_
  · intro z0
    intro z1
    intro z2
    with_reducible refine clockWrite_sound ?_
    with_reducible assumption
  · with_reducible assumption

theorem ptpHandle_sound {a0 : Nat} {a1 : Nat} {a2 : PtpMsg} {a3 : Nat} {s : State} (hs : Sound s) :
    Sound (ptpHandle a0 a1 a2 a3 s) := by
  unfold ptpHandle
  extract_lets v0 v1 v2 v3 v4 v5 v6 v7 v8 v9 v10 v11 v12
  have q13 : Sound v0 := by
    subst v0
    split
    · with_reducible refine setO_sound ?_
      with_reducible assumption
    · with_reducible assumption
  clear_value v0
  clear_value v1
  clear_value v2
  clear_value v3
  have q14 : Sound v5 := by
    subst v5
    with_reducible refine mk_sound ?_ rfl rfl rfl rfl rfl
    with_reducible assumption
  clear_value v5
  have q15 : Sound v6 := by
    subst v6
    with_reducible refine mk_sound ?_ rfl rfl rfl rfl rfl
    with_reducible assumption
  clear_value v6
  have q16 : Sound v7 := by
    subst v7
    with_reducible refine mk_sound ?_ rfl rfl rfl rfl rfl
    with_reducible assumption
  clear_value v7
  split
  · with_reducible refine announceIn_sound ?_
    with_reducible assumption
  · split
    · with_reducible assumption
    · split
      · with_reducible refine mk_sound ?_ rfl rfl rfl rfl rfl
        with_reducible assumption
      · with_reducible refine syncSample_sound ?_
        with_reducible assumption
  · split
    · split
      · with_reducible refine syncSample_sound ?_
        with_reducible refine mk_sound ?_ rfl rfl rfl rfl rfl
        with_reducible assumption
      · with_reducible assumption
    · with_reducible assumption
  · split
    · refine foldl_sound ?_ ?_
      · intro z17
        intro z18
        intro z19
        split
        · with_reducible refine sendPtp_sound ?_
          with_reducible assumption
        · with_reducible assumption
      · with_reducible assumption
    · with_reducible assumption
  · split
    · split
      · with_reducible refine delaySample_sound ?_
        with_reducible assumption
      · with_reducible assumption
    · with_reducible assumption
  · split
    · with_reducible assumption
    · split
      · with_reducible refine sendPtp_sound ?_
        with_reducible assumption
      · split
        · with_reducible refine sendPtp_sound ?_
          refine sound_of_eq (by with_reducible assumption) ?_
          with_reducible refine sendPtp_sound ?_
          with_reducible assumption
        · refine sound_of_eq (by with_reducible assumption) ?_
          with_reducible refine sendPtp_sound ?_
          with_reducible assumption
  · split
    · split
      · with_reducible assumption
      · split
        · with_reducible refine mk_sound ?_ rfl rfl rfl rfl rfl
          with_reducible assumption
        · with_reducible refine delaySample_sound ?_
          with_reducible assumption
    · with_reducible assumption
  · split
    · split
      · with_reducible assumption
      · with_reducible refine delaySample_sound ?_
        with_reducible assumption
    · with_reducible assumption
  · with_reducible assumption

theorem execPtpMessage_sound {a0 : Nat} {a1 : Nat} {a2 : PtpMsg} {a3 : Nat} {s : State} (hs : Sound s) :
    OutSound (execPtpMessage a0 a1 a2 a3 s) := by
  unfold execPtpMessage
  with_reducible refine onUnit_sound ?_
  split
  · with_reducible assumption
  · extract_lets v0
    have q1 : Sound v0 := by
      subst v0
      with_reducible refine incO_sound ?_
      with_reducible assumption
    clear_value v0
    split
    · with_reducible refine ptpHandle_sound ?_
      with_reducible assumption
    · with_reducible assumption

end Sys2Proof.Machine
end

