-- ==== Sys2Proof/Laws/SoundNet.lean ====
section
/-! SUPPORT. What Machine/Net.lean does keeps a sound state sound. -/

namespace Sys2Proof.Machine

theorem sendAll_sound {a0 : Nat → Emission} {s : State} (hs : Sound s) :
    Sound (sendAll a0 s) := by
  unfold sendAll
  refine foldl_sound ?_ ?_
  · intro z0
    intro z1
    intro z2
    split
    · with_reducible refine sendOn_sound ?_
      with_reducible assumption
    · with_reducible assumption
  · with_reducible assumption

theorem modNet_sound {a0 : NetSt → NetSt} {s : State} (hs : Sound s) :
    Sound (modNet a0 s) := by
  unfold modNet
  with_reducible refine mk_sound ?_ rfl rfl rfl rfl rfl
  with_reducible assumption

theorem changeAddress_sound {a0 : Nat} {s : State} (hs : Sound s) :
    Sound (changeAddress a0 s) := by
  unfold changeAddress
  split
  · with_reducible assumption
  · extract_lets v0 v1
    have q2 : Sound v0 := by
      subst v0
      with_reducible refine modNet_sound ?_
      with_reducible assumption
    clear_value v0
    have q3 : Sound v1 := by
      subst v1
      refine foldl_sound ?_ ?_
      · intro z4
        intro z5
        intro z6
        with_reducible refine closeSession_sound ?_
        with_reducible assumption
      · with_reducible assumption
    clear_value v1
    with_reducible refine raise_sound ?_
    with_reducible assumption

theorem execTcFollowupMissed_sound {a0 : Nat} {s : State} (hs : Sound s) :
    OutSound (execTcFollowupMissed a0 s) := by
  unfold execTcFollowupMissed
  with_reducible refine onUnit_sound ?_
  split
  · with_reducible refine incO_sound ?_
    with_reducible refine modNet_sound ?_
    with_reducible assumption
  · with_reducible assumption

theorem sendDhcp_sound {a0 : Nat} {a1 : Nat} {a2 : Nat} {s : State} (hs : Sound s) :
    Sound (sendDhcp a0 a1 a2 s) := by
  unfold sendDhcp
  with_reducible refine modNet_sound ?_
  with_reducible refine sendAll_sound ?_
  with_reducible assumption

theorem addressWrite_sound {a0 : Nat} {a1 : Nat} {s : State} (hs : Sound s) :
    Sound (addressWrite a0 a1 s).2 := by
  unfold addressWrite
  split
  · with_reducible assumption
  · extract_lets v0 v1 v2
    clear_value v0
    have q3 : Sound v1 := by
      subst v1
      with_reducible refine setO_sound ?_
      with_reducible assumption
    clear_value v1
    clear_value v2
    split
    · with_reducible assumption
    · split
      · dsimp -zeta only
        with_reducible refine modNet_sound ?_
        with_reducible assumption
      · split
        · dsimp -zeta only
          with_reducible refine modNet_sound ?_
          with_reducible assumption
        · with_reducible assumption

theorem limiterTake_sound {a0 : Nat} {s : State} (hs : Sound s) :
    Sound (limiterTake a0 s).2 := by
  unfold limiterTake
  extract_lets v0 v1 v2 v3
  clear_value v0
  clear_value v1
  clear_value v2
  split
  · dsimp -zeta only
    subst v3
    beta_reduce
    with_reducible refine modNet_sound ?_
    with_reducible assumption
  · dsimp -zeta only
    subst v3
    beta_reduce
    with_reducible refine modNet_sound ?_
    with_reducible assumption

theorem execPhyPoll_sound {a0 : Nat} {a1 : PhyStatus} {s : State} (hs : Sound s) :
    OutSound (execPhyPoll a0 a1 s) := by
  unfold execPhyPoll
  with_reducible refine onUnit_sound ?_
  split
  · with_reducible assumption
  · extract_lets v0 v1 v2 v3 v4 v5 v6 v7 v8 v9 v10
    clear_value v0
    clear_value v1
    clear_value v2
    clear_value v3
    clear_value v4
    clear_value v5
    clear_value v6
    have q11 : Sound v7 := by
      subst v7
      with_reducible refine emit_sound ?_
      with_reducible refine emit_sound ?_
      with_reducible assumption
    clear_value v7
    have q12 : Sound v8 := by
      subst v8
      split
      · with_reducible refine raise_sound ?_
        with_reducible assumption
      · with_reducible assumption
    clear_value v8
    have q13 : Sound v9 := by
      subst v9
      with_reducible refine modNet_sound ?_
      with_reducible assumption
    clear_value v9
    have q14 : Sound v10 := by
      subst v10
      with_reducible refine setO_sound ?_
      with_reducible refine setO_sound ?_
      with_reducible refine setO_sound ?_
      with_reducible assumption
    clear_value v10
    split
    · with_reducible assumption
    · with_reducible refine drainQueues_sound ?_
      with_reducible refine raise_sound ?_
      with_reducible assumption

theorem egress_sound {a0 : Nat} {a1 : EthFrame} {s : State} (hs : Sound s) :
    Sound (egress a0 a1 s) := by
  unfold egress
  split
  · refine sound_of_eq (by with_reducible assumption) ?_
    with_reducible refine collide_sound ?_
    with_reducible assumption
  · with_reducible refine incO_sound ?_
    with_reducible refine emit_sound ?_
    refine sound_of_eq (by with_reducible assumption) ?_
    with_reducible refine collide_sound ?_
    with_reducible assumption

theorem execReassemblyExpiry_sound {a0 : Nat} {a1 : Nat} {s : State} (hs : Sound s) :
    OutSound (execReassemblyExpiry a0 a1 s) := by
  unfold execReassemblyExpiry
  refine next_sound ?_
  extract_lets v0
  split
  · with_reducible refine incO_sound ?_
    with_reducible refine modNet_sound ?_
    with_reducible assumption
  · with_reducible assumption

theorem execMacAging_sound {a0 : Nat} {s : State} (hs : Sound s) :
    OutSound (execMacAging a0 s) := by
  unfold execMacAging
  refine next_sound ?_
  with_reducible refine modNet_sound ?_
  with_reducible assumption

theorem sendProbes_sound {a0 : Nat} {s : State} (hs : Sound s) :
    Sound (sendProbes a0 s) := by
  unfold sendProbes
  extract_lets v0
  with_reducible refine sendAll_sound ?_
  with_reducible refine sendAll_sound ?_
  with_reducible refine sendAll_sound ?_
  with_reducible assumption

theorem dropOldestFrag_sound {s : State} (hs : Sound s) :
    Sound (dropOldestFrag s) := by
  unfold dropOldestFrag
  with_reducible refine incO_sound ?_
  with_reducible refine modNet_sound ?_
  with_reducible assumption

theorem learnMac_sound {a0 : Nat} {a1 : Nat} {s : State} (hs : Sound s) :
    Sound (learnMac a0 a1 s) := by
  unfold learnMac
  split
  · with_reducible assumption
  · extract_lets v0
    clear_value v0
    split
    · with_reducible refine modNet_sound ?_
      with_reducible assumption
    · with_reducible assumption

theorem probeAddress_sound {a0 : Nat} {a1 : Nat} {s : State} (hs : Sound s) :
    Sound (probeAddress a0 a1 s) := by
  unfold probeAddress
  extract_lets v0
  have q1 : Sound v0 := by
    subst v0
    with_reducible refine modNet_sound ?_
    with_reducible assumption
  clear_value v0
  split
  · with_reducible refine setO_sound ?_
    with_reducible assumption
  · with_reducible refine setO_sound ?_
    with_reducible refine sendProbes_sound ?_
    with_reducible assumption

theorem execTransportLost_sound {a0 : Nat} {s : State} (hs : Sound s) :
    OutSound (execTransportLost a0 s) := by
  unfold execTransportLost
  with_reducible refine onUnit_sound ?_
  split
  · with_reducible assumption
  · refine foldl_sound ?_ ?_
    · intro z0
      intro z1
      intro z2
      with_reducible refine closeSession_sound ?_
      with_reducible assumption
    · with_reducible assumption

theorem retryAddress_sound {s : State} (hs : Sound s) :
    Sound (retryAddress s) := by
  unfold retryAddress
  split
  · with_reducible refine setO_sound ?_
    with_reducible refine sendDhcp_sound ?_
    with_reducible assumption
  · with_reducible refine probeAddress_sound ?_
    with_reducible assumption

theorem tcMessage_sound {i j src : Nat} {m m' : PtpMsg} {f : EthFrame} {s t : State} (hs : Sound s)
    (e : tcMessage i j src m f s = some (m', t)) : Sound t := by
  unfold tcMessage at e
  extract_lets r p2p c counted at e
  have hc : Sound counted := incO_sound hs
  clear_value r p2p c counted
  split at e
  · cases e
  · cases e
  · cases e
  · cases e; exact hc
  · cases e; exact modNet_sound hs
  · split at e
    · cases e; exact modNet_sound hc
    · cases e; exact hs
  · split at e
    · cases e; exact hs
    · cases e; exact hc
  · cases e; exact hs

theorem forwardTo_sound {a0 a1 : Nat} {a2 : EthFrame} {s : State} (hs : Sound s) : Sound (forwardTo a0 a1 a2 s) := by
  unfold forwardTo
  split
  · exact hs
  · split
    · split
      · split
        · exact hs
        · rename_i e
          exact egress_sound (tcMessage_sound hs e)
      · exact egress_sound hs
    · exact egress_sound hs

theorem fragmentIn_sound {a0 : Nat} {a1 : Nat} {a2 : Nat} {a3 : Nat} {a4 : Bool} {s : State} (hs : Sound s) :
    Sound (fragmentIn a0 a1 a2 a3 a4 s) := by
  unfold fragmentIn
  extract_lets v0 v1 v2 v3 v4 v5
  clear_value v1
  have q6 : Sound v2 := by
    subst v2
    split
    · with_reducible refine dropOldestFrag_sound ?_
      with_reducible assumption
    · with_reducible assumption
  clear_value v2
  clear_value v5
  split
  · split
    · with_reducible refine incO_sound ?_
      with_reducible assumption
    · with_reducible refine dropOldestFrag_sound ?_
      with_reducible assumption
  · split
    · with_reducible refine modNet_sound ?_
      with_reducible assumption
    · split
      · with_reducible refine modNet_sound ?_
        with_reducible assumption
      · with_reducible refine modNet_sound ?_
        with_reducible assumption

theorem startAddress_sound {s : State} (hs : Sound s) :
    Sound (startAddress s) := by
  unfold startAddress
  extract_lets v0
  have q1 : Sound v0 := by
    subst v0
    with_reducible refine modNet_sound ?_
    with_reducible assumption
  clear_value v0
  split
  · with_reducible refine probeAddress_sound ?_
    with_reducible assumption
  · with_reducible refine sendDhcp_sound ?_
    with_reducible refine probeAddress_sound ?_
    with_reducible assumption

theorem execAddressProbe_sound {a0 : Option Nat} {s : State} (hs : Sound s) :
    OutSound (execAddressProbe a0 s) := by
  unfold execAddressProbe
  refine next_sound ?_
  split
  · with_reducible assumption
  · split
    · split
      · with_reducible refine retryAddress_sound ?_
        with_reducible assumption
      · split
        · with_reducible assumption
        · extract_lets v0 v1
          clear_value v0
          have q2 : Sound v1 := by
            subst v1
            with_reducible refine modNet_sound ?_
            with_reducible assumption
          clear_value v1
          with_reducible refine changeAddress_sound ?_
          with_reducible refine setO_sound ?_
          with_reducible assumption
    · extract_lets v3 v4 v5
      clear_value v3
      have q6 : Sound v4 := by
        subst v4
        with_reducible refine raise_sound ?_
        with_reducible refine setO_sound ?_
        with_reducible assumption
      clear_value v4
      have q7 : Sound v5 := by
        subst v5
        with_reducible refine changeAddress_sound ?_
        with_reducible assumption
      clear_value v5
      split
      · with_reducible assumption
      · split
        · with_reducible refine sendDhcp_sound ?_
          with_reducible refine modNet_sound ?_
          with_reducible assumption
        · with_reducible refine modNet_sound ?_
          with_reducible assumption

theorem applyAddress_sound {s : State} (hs : Sound s) :
    Sound (applyAddress s) := by
  unfold applyAddress
  split
  · with_reducible assumption
  · with_reducible refine startAddress_sound ?_
    with_reducible refine changeAddress_sound ?_
    with_reducible refine modNet_sound ?_
    with_reducible assumption

theorem stormTake_sound {p : Nat} {s t : State} (hs : Sound s) (e : stormTake p s = some t) : Sound t := by
  unfold stormTake at e
  generalize s.net.storm.getD p (0, 0) = x at e
  obtain ⟨n, start⟩ := x
  simp only [Option.ite_none_right_eq_some, Option.some.injEq] at e
  obtain ⟨_, rfl⟩ := e
  exact modNet_sound hs

theorem execSwitchForward_sound {a0 : EthFrame} {s : State} (hs : Sound s) : OutSound (execSwitchForward a0 s) := by
  unfold execSwitchForward
  refine onUnit_sound ?_
  extract_lets i s1 known s2
  have q1 : Sound s1 := incO_sound hs
  have q2 : Sound s2 := learnMac_sound q1
  clear_value s1 s2
  split
  · exact hs
  · split
    · exact incO_sound q1
    · split
      · exact q1
      · split
        · exact q2
        · split
          · split
            · rename_i e
              exact forwardTo_sound (stormTake_sound q2 e)
            · exact incO_sound q2
          · exact forwardTo_sound q2

theorem leaseTick_sound {s : State} (hs : Sound s) :
    Sound (leaseTick s) := by
  unfold leaseTick
  split
  · with_reducible refine startAddress_sound ?_
    with_reducible refine changeAddress_sound ?_
    with_reducible assumption
  · with_reducible assumption

theorem netStart_sound {s : State} (hs : Sound s) :
    Sound (netStart s) := by
  unfold netStart
  with_reducible refine startAddress_sound ?_
  with_reducible refine setO_sound ?_
  with_reducible assumption

theorem dhcpAnswer_sound {a0 : Nat} {a1 : Nat} {a2 : Nat} {s : State} (hs : Sound s) :
    Sound (dhcpAnswer a0 a1 a2 s) := by
  unfold dhcpAnswer
  split
  · with_reducible refine startAddress_sound ?_
    with_reducible refine changeAddress_sound ?_
    with_reducible assumption
  · extract_lets v0
    have q1 : Sound v0 := by
      subst v0
      with_reducible refine modNet_sound ?_
      with_reducible assumption
    clear_value v0
    split
    · with_reducible refine modNet_sound ?_
      with_reducible assumption
    · with_reducible refine probeAddress_sound ?_
      with_reducible refine changeAddress_sound ?_
      with_reducible assumption

theorem execIpAddressWrite_sound {a0 : Req} {a1 : Nat} {a2 : WVal} {s : State} (hs : Sound s) :
    OutSound (execIpAddressWrite a0 a1 a2 s) := by
  unfold execIpAddressWrite
  refine next_sound ?_
  with_reducible refine applyAddress_sound ?_
  with_reducible refine serveWrite_sound ?_ ?_
  · intro z0
    intro z1
    intro z2
    with_reducible refine addressWrite_sound ?_
    with_reducible assumption
  · with_reducible assumption

theorem tick_sound {s : State} (hs : Sound s) :
    Sound (tick s) := by
  unfold tick
  split
  · with_reducible refine driveAlert_sound ?_
    with_reducible refine leaseTick_sound ?_
    with_reducible refine advanceFrc_sound ?_
    with_reducible refine nocTick_sound ?_
    with_reducible refine lineTick_sound ?_
    with_reducible assumption
  · with_reducible assumption

theorem dhcpIn_sound {a0 : Nat} {a1 : Nat} {a2 : Nat} {a3 : Nat} {s : State} (hs : Sound s) :
    Sound (dhcpIn a0 a1 a2 a3 s) := by
  unfold dhcpIn
  extract_lets v0
  clear_value v0
  split
  · split
    · with_reducible refine sendDhcp_sound ?_
      with_reducible assumption
    · with_reducible assumption
  · split
    · with_reducible refine dhcpAnswer_sound ?_
      with_reducible assumption
    · with_reducible assumption
  · split
    · with_reducible refine dhcpAnswer_sound ?_
      with_reducible assumption
    · with_reducible assumption
  · with_reducible assumption

theorem execDhcpRenew_sound {a0 : Nat} {a1 : Nat} {a2 : Nat} {s : State} (hs : Sound s) :
    OutSound (execDhcpRenew a0 a1 a2 s) := by
  unfold execDhcpRenew
  refine next_sound ?_
  split
  · with_reducible assumption
  · with_reducible refine dhcpAnswer_sound ?_
    with_reducible refine sendDhcp_sound ?_
    with_reducible assumption

theorem hostHandle_sound {a0 : EthFrame} {s : State} (hs : Sound s) :
    Sound (hostHandle a0 s) := by
  unfold hostHandle
  extract_lets v0
  clear_value v0
  split
  · split
    · with_reducible refine sendOn_sound ?_
      with_reducible refine modNet_sound ?_
      with_reducible assumption
    · with_reducible refine incO_sound ?_
      with_reducible assumption
  · split
    · with_reducible refine sendOn_sound ?_
      with_reducible refine modNet_sound ?_
      with_reducible assumption
    · with_reducible refine incO_sound ?_
      with_reducible assumption
  · with_reducible refine dhcpIn_sound ?_
    with_reducible assumption
  · with_reducible refine fragmentIn_sound ?_
    with_reducible assumption
  · with_reducible assumption

theorem execMgmtFrame_sound {a0 : EthFrame} {s : State} (hs : Sound s) :
    OutSound (execMgmtFrame a0 s) := by
  unfold execMgmtFrame
  with_reducible refine onUnit_sound ?_
  extract_lets v0 v1 v2 v3
  clear_value v0
  have q4 : Sound v1 := by
    subst v1
    with_reducible refine incO_sound ?_
    with_reducible assumption
  clear_value v1
  have q5 : Sound v2 := by
    subst v2
    split
    · with_reducible refine learnMac_sound ?_
      with_reducible assumption
    · with_reducible assumption
  clear_value v2
  clear_value v3
  split
  · with_reducible assumption
  · split
    · with_reducible refine incO_sound ?_
      with_reducible assumption
    · split
      · with_reducible refine incO_sound ?_
        with_reducible assumption
      · split
        · with_reducible refine hostHandle_sound ?_
          with_reducible assumption
        · split
          · with_reducible refine hostHandle_sound ?_
            refine sound_of_eq (by with_reducible assumption) ?_
            with_reducible refine limiterTake_sound ?_
            with_reducible assumption
          · with_reducible refine incO_sound ?_
            refine sound_of_eq (by with_reducible assumption) ?_
            with_reducible refine limiterTake_sound ?_
            with_reducible assumption

end Sys2Proof.Machine
end

