-- ==== Sys2Proof/Laws/SoundTest.lean ====
section
/-! SUPPORT. What Machine/Test.lean does keeps a sound state sound. -/

namespace Sys2Proof.Machine

theorem modTest_sound {a0 : TestSt → TestSt} {s : State} (hs : Sound s) :
    Sound (modTest a0 s) := by
  unfold modTest
  with_reducible refine mk_sound ?_ rfl rfl rfl rfl rfl
  with_reducible assumption

theorem putProgress_sound {a0 : Nat} {s : State} (hs : Sound s) :
    Sound (putProgress a0 s) := by
  unfold putProgress
  extract_lets v0
  clear_value v0
  with_reducible refine modTest_sound ?_
  with_reducible assumption

theorem startTest_sound {a0 : Bool} {s : State} (hs : Sound s) :
    Sound (startTest a0 s) := by
  unfold startTest
  extract_lets v0
  clear_value v0
  with_reducible refine putProgress_sound ?_
  with_reducible refine modTest_sound ?_
  with_reducible assumption

theorem commitTest_sound {a0 : List TestFinding} {a1 : Nat} {s : State} (hs : Sound s) :
    Sound (commitTest a0 a1 s) := by
  unfold commitTest
  extract_lets v0 v1 v2 v3 v4 v5 v6 v7
  clear_value v2
  clear_value v4
  have q8 : Sound v5 := by
    subst v5
    with_reducible refine modTest_sound ?_
    with_reducible assumption
  clear_value v5
  have q9 : Sound v6 := by
    subst v6
    with_reducible refine setO_sound ?_
    with_reducible refine setO_sound ?_
    with_reducible refine setO_sound ?_
    with_reducible assumption
  clear_value v6
  have q10 : Sound v7 := by
    subst v7
    with_reducible refine setO_sound ?_
    with_reducible assumption
  clear_value v7
  with_reducible refine raise_sound ?_
  with_reducible assumption

theorem testSteps_sound {a0 : List TestFinding} {a1 : Nat} {a2 : Nat} {s : State} (hs : Sound s) :
    Sound (testSteps a0 a1 a2 s) := by
  unfold testSteps
  split
  · with_reducible refine commitTest_sound ?_
    with_reducible assumption
  · with_reducible refine putProgress_sound ?_
    with_reducible refine setO_sound ?_
    with_reducible assumption

end Sys2Proof.Machine
end

