-- ==== Sys2Proof/Laws/SoundPower.lean ====
section
/-! SUPPORT. What Machine/Power.lean does keeps a sound state sound. -/

namespace Sys2Proof.Machine

theorem unload_sound {s : State} (hs : Sound s) :
    Sound (unload s) := by
  unfold unload
  extract_lets v0 v1 v2 v3 v4 v5 v6 v7 v8 v9 v10
  have q11 : Sound v1 := by
    subst v1
    with_reducible refine withdrawAll_sound ?_
    with_reducible refine disarmNow_sound ?_
    with_reducible assumption
  clear_value v1
  have q12 : Sound v2 := by
    subst v2
    with_reducible refine wipeContents_sound ?_
    with_reducible refine clearSweep_sound ?_
    with_reducible assumption
  clear_value v2
  have q13 : Sound v8 := by
    subst v8
    refine mk_sound_le ?_ rfl rfl rfl rfl (Nat.zero_le _)
    with_reducible assumption
  clear_value v8
  have q14 : Sound v9 := by
    subst v9
    refine foldl_sound ?_ ?_
    · intro z15
      intro z16
      intro z17
      with_reducible refine evalPort_sound ?_
      with_reducible refine modPort_sound ?_
      with_reducible assumption
    · with_reducible assumption
  clear_value v9
  have q18 : Sound v10 := by
    subst v10
    with_reducible refine identityChanged_sound ?_
    with_reducible refine setO_sound ?_
    with_reducible refine setO_sound ?_
    with_reducible refine setO_sound ?_
    with_reducible assumption
  clear_value v10
  with_reducible refine setRunState_sound ?_
  with_reducible refine targetOff_sound ?_
  with_reducible refine setO_sound ?_
  with_reducible assumption

theorem setDuty_sound {a0 : Nat} {a1 : Nat} {s : State} (hs : Sound s) :
    Sound (setDuty a0 a1 s) := by
  unfold setDuty
  extract_lets v0 v1
  clear_value v0
  have q2 : Sound v1 := by
    subst v1
    with_reducible refine setO_sound ?_
    with_reducible refine setO_sound ?_
    with_reducible assumption
  clear_value v1
  split
  · with_reducible assumption
  · split
    · with_reducible refine raise_sound ?_
      with_reducible assumption
    · with_reducible assumption

theorem execWakeLate_sound {a0 : Nat} {s : State} (hs : Sound s) :
    OutSound (execWakeLate a0 s) := by
  unfold execWakeLate
  refine next_sound ?_
  extract_lets v0 v1 v2
  clear_value v0
  have q3 : Sound v1 := by
    subst v1
    with_reducible refine wakeDepth_sound ?_
    with_reducible assumption
  clear_value v1
  have q4 : Sound v2 := by
    subst v2
    split
    · with_reducible refine raise_sound ?_
      with_reducible assumption
    · with_reducible assumption
  clear_value v2
  split
  · with_reducible assumption
  · with_reducible refine chooseDepth_sound ?_
    with_reducible assumption

theorem modPwr_sound {a0 : PwrSt → PwrSt} {s : State} (hs : Sound s) :
    Sound (modPwr a0 s) := by
  unfold modPwr
  with_reducible refine mk_sound ?_ rfl rfl rfl rfl rfl
  with_reducible assumption

theorem closeDomains_sound {s : State} (hs : Sound s) :
    Sound (closeDomains s) := by
  unfold closeDomains
  refine foldl_sound ?_ ?_
  · intro z0
    intro z1
    intro z2
    split
    · with_reducible assumption
    · with_reducible refine drainGate_sound ?_
      with_reducible refine setDomain_sound ?_
      with_reducible assumption
  · with_reducible assumption

theorem shutdownBegin_sound {a0 : Nat} {s : State} (hs : Sound s) :
    Sound (shutdownBegin a0 s) := by
  unfold shutdownBegin
  extract_lets v0 v1
  have q2 : Sound v0 := by
    subst v0
    with_reducible refine raise_sound ?_
    with_reducible assumption
  clear_value v0
  have q3 : Sound v1 := by
    subst v1
    with_reducible refine tracePowerDown_sound ?_
    with_reducible refine disarmNow_sound ?_
    with_reducible assumption
  clear_value v1
  refine foldl_sound ?_ ?_
  · intro z4
    intro z5
    intro z6
    with_reducible refine closeSession_sound ?_
    with_reducible assumption
  · with_reducible assumption

theorem execPowerLimitChanged_sound {a0 : Nat} {s : State} (hs : Sound s) :
    OutSound (execPowerLimitChanged a0 s) := by
  unfold execPowerLimitChanged
  refine next_sound ?_
  split
  · with_reducible assumption
  · extract_lets v0
    have q1 : Sound v0 := by
      subst v0
      with_reducible refine setO_sound ?_
      with_reducible refine setO_sound ?_
      with_reducible assumption
    clear_value v0
    with_reducible refine raise_sound ?_
    with_reducible assumption

theorem takeDue_sound {s : State} (hs : Sound s) :
    Sound (takeDue s).2 := by
  unfold takeDue
  dsimp -zeta only
  with_reducible refine modPwr_sound ?_
  with_reducible assumption

theorem enterSelfTest_sound {s : State} (hs : Sound s) :
    Sound (enterSelfTest s) := by
  unfold enterSelfTest
  with_reducible refine ffInit_sound ?_
  with_reducible refine targetOff_sound ?_
  with_reducible refine setMode_sound ?_
  with_reducible assumption

theorem execIdleWake_sound {s : State} (hs : Sound s) :
    OutSound (execIdleWake s) := by
  unfold execIdleWake
  refine next_sound ?_
  extract_lets v0
  clear_value v0
  split
  · with_reducible assumption
  · split
    · split
      · with_reducible refine chooseDepth_sound ?_
        with_reducible refine wakeDepth_sound ?_
        with_reducible assumption
      · with_reducible assumption
    · with_reducible assumption

theorem keepObjects_wf {p : Nat → Bool} {s : State} (hs : Sound s) : Sparse.wf okDflt (keepObjects p s) = true :=
  sparse_wf_filter okDflt _ _ hs.objects

theorem powerDown_sound {a0 : Nat} {s : State} (hs : Sound s) : Sound (powerDown a0 s) :=
  ⟨keepObjects_wf hs, rfl, Nat.zero_le _, Nat.zero_le _, Nat.zero_le _⟩

theorem scheduledEnd_sound {s : State} (hs : Sound s) :
    Sound (scheduledEnd s) := by
  unfold scheduledEnd
  extract_lets v0
  clear_value v0
  with_reducible refine chooseDepth_sound ?_
  with_reducible refine setMode_sound ?_
  with_reducible refine modTest_sound ?_
  with_reducible refine setO_sound ?_
  with_reducible assumption

theorem execTapInstruction_sound {a0 : Nat} {s : State} (hs : Sound s) :
    OutSound (execTapInstruction a0 s) := by
  unfold execTapInstruction
  refine next_sound ?_
  split
  · with_reducible assumption
  · split
    · with_reducible refine emit_sound ?_
      with_reducible refine mk_sound ?_ rfl rfl rfl rfl rfl
      with_reducible assumption
    · with_reducible assumption

theorem lastOff_sound {a0 : Nat} {s : State} (hs : Sound s) :
    Sound (lastOff a0 s) := by
  unfold lastOff
  with_reducible refine setO_sound ?_
  with_reducible assumption

theorem execScheduledTest_sound {a0 : List TestFinding} {a1 : Nat} {a2 : Nat} {s : State} (hs : Sound s) :
    OutSound (execScheduledTest a0 a1 a2 s) := by
  unfold execScheduledTest
  refine next_sound ?_
  split
  · with_reducible assumption
  · split
    · extract_lets v0
      have q1 : Sound v0 := by
        subst v0
        with_reducible refine testSteps_sound ?_
        with_reducible refine startTest_sound ?_
        with_reducible refine enterSelfTest_sound ?_
        with_reducible refine wakeDepth_sound ?_
        with_reducible assumption
      clear_value v0
      split
      · with_reducible assumption
      · with_reducible refine scheduledEnd_sound ?_
        with_reducible assumption
    · split
      · with_reducible assumption
      · with_reducible refine raise_sound ?_
        with_reducible refine modTest_sound ?_
        with_reducible assumption

theorem enterBoot_sound {s : State} (hs : Sound s) : Sound (enterBoot s) := by
  have h := keepObjects_wf (p := survivesBoot) hs
  unfold enterBoot
  exact setMode_sound (modPwr_sound ⟨h, hs.dram, hs.log, hs.writes, hs.deposits⟩)

theorem modeHandler_sound {a0 : Nat} {s : State} (hs : Sound s) :
    Sound (modeHandler a0 s).2 := by
  unfold modeHandler
  split
  · with_reducible assumption
  · split
    · dsimp -zeta only
      with_reducible refine calibrateEntry_sound ?_
      with_reducible refine setMode_sound ?_
      with_reducible assumption
    · dsimp -zeta only
      split
      · with_reducible refine setMode_sound ?_
        with_reducible assumption
      · with_reducible refine unload_sound ?_
        with_reducible assumption
    · extract_lets v0
      have q1 : Sound v0 := by
        subst v0
        split
        · refine foldl_sound ?_ ?_
          · intro z2
            intro z3
            intro z4
            with_reducible refine wakeDomain_sound ?_
            with_reducible assumption
          · with_reducible assumption
        · with_reducible assumption
      clear_value v0
      dsimp -zeta only
      with_reducible refine ffInit_sound ?_
      with_reducible refine targetOff_sound ?_
      with_reducible refine setMode_sound ?_
      with_reducible assumption
    · dsimp -zeta only
      with_reducible refine modPwr_sound ?_
      with_reducible assumption

theorem execPfailNHigh_sound {s : State} (hs : Sound s) :
    OutSound (execPfailNHigh s) := by
  unfold execPfailNHigh
  refine next_sound ?_
  extract_lets v0
  have q1 : Sound v0 := by
    subst v0
    with_reducible refine modPwr_sound ?_
    with_reducible assumption
  clear_value v0
  split
  · with_reducible refine enterBoot_sound ?_
    with_reducible assumption
  · with_reducible assumption

theorem sampleIn_sound {a0 : PowerSample} {s : State} (hs : Sound s) :
    Sound (sampleIn a0 s) := by
  unfold sampleIn
  extract_lets v0 v1 v2 v3 v4 v5 v6 v7
  have q8 : Sound v0 := by
    subst v0
    with_reducible refine setO_sound ?_
    with_reducible refine setO_sound ?_
    with_reducible assumption
  clear_value v0
  have q9 : Sound v1 := by
    subst v1
    with_reducible refine setO_sound ?_
    with_reducible assumption
  clear_value v1
  have q10 : Sound v2 := by
    subst v2
    with_reducible refine setO_sound ?_
    with_reducible refine setO_sound ?_
    with_reducible assumption
  clear_value v2
  have q11 : Sound v3 := by
    subst v3
    with_reducible refine maxO_sound ?_
    with_reducible refine setO_sound ?_
    with_reducible assumption
  clear_value v3
  clear_value v4
  clear_value v5
  have q12 : Sound v6 := by
    subst v6
    with_reducible refine modPwr_sound ?_
    with_reducible assumption
  clear_value v6
  have q13 : Sound v7 := by
    subst v7
    split
    · with_reducible refine setO_sound ?_
      with_reducible assumption
    · with_reducible assumption
  clear_value v7
  split
  · with_reducible refine raise_sound ?_
    with_reducible refine postStop_sound ?_
    with_reducible assumption
  · with_reducible assumption

theorem supplyStop_sound {a0 : Nat} {s : State} (hs : Sound s) :
    Sound (supplyStop a0 s) := by
  unfold supplyStop
  extract_lets v0
  have q1 : Sound v0 := by
    subst v0
    split
    · with_reducible assumption
    · with_reducible refine powerDown_sound ?_
      with_reducible refine setMode_sound ?_
      with_reducible refine lastOff_sound ?_
      with_reducible assumption
  clear_value v0
  with_reducible refine modPwr_sound ?_
  with_reducible assumption

theorem modeCommand_sound {a0 : Req} {a1 : Nat} {s : State} (hs : Sound s) :
    Sound (modeCommand a0 a1 s) := by
  unfold modeCommand
  with_reducible refine serveWrite_sound ?_ ?_
  · intro z0
    intro z1
    intro z2
    with_reducible refine modeHandler_sound ?_
    with_reducible assumption
  · with_reducible assumption

theorem execThermalHalt_sound {a0 : PowerSample} {s : State} (hs : Sound s) :
    OutSound (execThermalHalt a0 s) := by
  unfold execThermalHalt
  refine next_sound ?_
  split
  · with_reducible assumption
  · with_reducible refine sampleIn_sound ?_
    with_reducible assumption

theorem domainWrite_sound {a0 : Nat} {a1 : Nat} {s : State} (hs : Sound s) :
    Sound (domainWrite a0 a1 s).2 := by
  unfold domainWrite
  split
  · with_reducible assumption
  · split
    · with_reducible assumption
    · extract_lets v0 v1 v2 v3 v4
      have q5 : Sound v0 := by
        subst v0
        with_reducible refine setO_sound ?_
        with_reducible assumption
      clear_value v0
      have q6 : Sound v1 := by
        subst v1
        with_reducible refine modPwr_sound ?_
        with_reducible assumption
      clear_value v1
      have q7 : Sound v2 := by
        subst v2
        refine foldl_sound ?_ ?_
        · intro z8
          intro z9
          intro z10
          with_reducible refine portOff_sound ?_
          with_reducible assumption
        · with_reducible assumption
      clear_value v2
      have q11 : Sound v3 := by
        subst v3
        with_reducible refine modPwr_sound ?_
        with_reducible assumption
      clear_value v3
      have q12 : Sound v4 := by
        subst v4
        split
        · with_reducible refine wakeDomain_sound ?_
          with_reducible assumption
        · with_reducible assumption
      clear_value v4
      split
      · dsimp -zeta only
        with_reducible refine setDomain_sound ?_
        with_reducible assumption
      · dsimp -zeta only
        refine foldl_sound ?_ ?_
        · intro z13
          intro z14
          intro z15
          with_reducible refine startTraining_sound ?_
          with_reducible assumption
        · with_reducible assumption

theorem execModeService_sound {a0 : Req} {s : State} (hs : Sound s) :
    OutSound (execModeService a0 s) := by
  unfold execModeService
  refine next_sound ?_
  with_reducible refine modeCommand_sound ?_
  with_reducible assumption

theorem execModeIdle_sound {a0 : Req} {s : State} (hs : Sound s) :
    OutSound (execModeIdle a0 s) := by
  unfold execModeIdle
  refine next_sound ?_
  with_reducible refine modeCommand_sound ?_
  with_reducible assumption

theorem toStandby_sound {s : State} (hs : Sound s) :
    Sound (toStandby s) := by
  unfold toStandby
  with_reducible refine powerDown_sound ?_
  with_reducible refine setMode_sound ?_
  with_reducible refine closeDomains_sound ?_
  with_reducible assumption

theorem execVinOvervoltage_sound {s : State} (hs : Sound s) :
    OutSound (execVinOvervoltage s) := by
  unfold execVinOvervoltage
  refine next_sound ?_
  with_reducible refine modPwr_sound ?_
  with_reducible refine supplyStop_sound ?_
  with_reducible assumption

theorem execDomainRequest_sound {a0 : Req} {a1 : Nat} {a2 : WVal} {s : State} (hs : Sound s) :
    OutSound (execDomainRequest a0 a1 a2 s) := by
  unfold execDomainRequest
  with_reducible refine onObject_sound ?_ ?_
  · intro z0
    intro z1
    with_reducible refine serveWrite_sound ?_ ?_
    · intro z2
      intro z3
      intro z4
      with_reducible refine domainWrite_sound ?_
      with_reducible assumption
    · with_reducible assumption
  · with_reducible assumption

theorem execStandbyWake_sound {s : State} (hs : Sound s) :
    OutSound (execStandbyWake s) := by
  unfold execStandbyWake
  refine next_sound ?_
  split
  · with_reducible refine enterBoot_sound ?_
    with_reducible assumption
  · with_reducible assumption

theorem shutdownEnd_sound {a0 : Bool} {s : State} (hs : Sound s) :
    Sound (shutdownEnd a0 s) := by
  unfold shutdownEnd
  extract_lets v0
  have q1 : Sound v0 := by
    subst v0
    with_reducible refine closeDomains_sound ?_
    with_reducible refine lastOff_sound ?_
    with_reducible assumption
  clear_value v0
  split
  · with_reducible refine enterBoot_sound ?_
    with_reducible refine powerDown_sound ?_
    with_reducible assumption
  · split
    · with_reducible refine toStandby_sound ?_
      with_reducible assumption
    · with_reducible refine modPwr_sound ?_
      with_reducible refine powerDown_sound ?_
      with_reducible refine setMode_sound ?_
      with_reducible assumption

theorem execVinGood_sound {a0 : Nat} {a1 : Bool} {s : State} (hs : Sound s) :
    OutSound (execVinGood a0 a1 s) := by
  unfold execVinGood
  refine next_sound ?_
  split
  · with_reducible assumption
  · extract_lets v0 v1
    have q2 : Sound v0 := by
      subst v0
      with_reducible refine mk_sound ?_ rfl rfl rfl rfl rfl
      with_reducible assumption
    clear_value v0
    have q3 : Sound v1 := by
      subst v1
      with_reducible refine toStandby_sound ?_
      with_reducible refine modPwr_sound ?_
      with_reducible assumption
    clear_value v1
    split
    · with_reducible refine enterBoot_sound ?_
      with_reducible assumption
    · with_reducible assumption

theorem emergency_sound {a0 : Nat} {a1 : Nat} {s : State} (hs : Sound s) :
    Sound (emergency a0 a1 s) := by
  unfold emergency
  extract_lets v0 v1 v2
  have q3 : Sound v0 := by
    subst v0
    split
    · with_reducible refine abortNow_sound ?_
      with_reducible assumption
    · with_reducible assumption
  clear_value v0
  have q4 : Sound v1 := by
    subst v1
    with_reducible refine tracePowerDown_sound ?_
    with_reducible refine disarmNow_sound ?_
    with_reducible assumption
  clear_value v1
  have q5 : Sound v2 := by
    subst v2
    with_reducible refine raise_sound ?_
    with_reducible refine lastOff_sound ?_
    with_reducible assumption
  clear_value v2
  with_reducible refine toStandby_sound ?_
  with_reducible assumption

theorem execPfail_sound {s : State} (hs : Sound s) :
    OutSound (execPfail s) := by
  unfold execPfail
  refine next_sound ?_
  split
  · with_reducible assumption
  · extract_lets v0
    have q1 : Sound v0 := by
      subst v0
      with_reducible refine modPwr_sound ?_
      with_reducible assumption
    clear_value v0
    split
    · with_reducible assumption
    · with_reducible refine emergency_sound ?_
      with_reducible refine modPwr_sound ?_
      with_reducible assumption

theorem execResetNRise_sound {s : State} (hs : Sound s) :
    OutSound (execResetNRise s) := by
  unfold execResetNRise
  refine next_sound ?_
  split
  · with_reducible assumption
  · extract_lets v0
    have q1 : Sound v0 := by
      subst v0
      with_reducible refine modPwr_sound ?_
      with_reducible assumption
    clear_value v0
    split
    · with_reducible refine enterBoot_sound ?_
      with_reducible assumption
    · with_reducible assumption

theorem execModeAnalyzer_sound {a0 : Req} {s : State} (hs : Sound s) :
    OutSound (execModeAnalyzer a0 s) := by
  unfold execModeAnalyzer
  refine next_sound ?_
  with_reducible refine modeCommand_sound ?_
  with_reducible assumption

theorem execShutdown_sound {a0 : Req} {a1 : List TestFinding} {a2 : Nat} {a3 : Nat} {s : State} (hs : Sound s) :
    OutSound (execShutdown a0 a1 a2 a3 s) := by
  unfold execShutdown
  refine next_sound ?_
  split
  · extract_lets v0 v1 v2
    have q3 : Sound v0 := by
      subst v0
      with_reducible refine shutdownBegin_sound ?_
      with_reducible refine wakeDepth_sound ?_
      refine sound_of_eq (by with_reducible assumption) ?_
      with_reducible refine takeDue_sound ?_
      with_reducible refine modeCommand_sound ?_
      with_reducible refine takeDue_sound ?_
      with_reducible assumption
    clear_value v0
    have q4 : Sound v2 := by
      subst v2
      with_reducible refine testSteps_sound ?_
      with_reducible refine startTest_sound ?_
      with_reducible refine enterSelfTest_sound ?_
      with_reducible refine mk_sound ?_ rfl rfl rfl rfl rfl
      with_reducible assumption
    clear_value v2
    split
    · split
      · with_reducible assumption
      · with_reducible refine shutdownEnd_sound ?_
        with_reducible assumption
    · with_reducible refine shutdownEnd_sound ?_
      with_reducible assumption
  · refine sound_of_eq (by with_reducible assumption) ?_
    with_reducible refine takeDue_sound ?_
    with_reducible refine modeCommand_sound ?_
    with_reducible refine takeDue_sound ?_
    with_reducible assumption

theorem execModeStandby_sound {a0 : Req} {s : State} (hs : Sound s) :
    OutSound (execModeStandby a0 s) := by
  unfold execModeStandby
  refine next_sound ?_
  split
  · with_reducible refine toStandby_sound ?_
    with_reducible refine tracePowerDown_sound ?_
    with_reducible refine wakeDepth_sound ?_
    refine sound_of_eq (by with_reducible assumption) ?_
    with_reducible refine takeDue_sound ?_
    with_reducible refine modeCommand_sound ?_
    with_reducible refine takeDue_sound ?_
    with_reducible assumption
  · refine sound_of_eq (by with_reducible assumption) ?_
    with_reducible refine takeDue_sound ?_
    with_reducible refine modeCommand_sound ?_
    with_reducible refine takeDue_sound ?_
    with_reducible assumption

theorem execDutyAdjust_sound {a0 : PowerSample} {s : State} (hs : Sound s) :
    OutSound (execDutyAdjust a0 s) := by
  unfold execDutyAdjust
  refine next_sound ?_
  split
  · with_reducible assumption
  · extract_lets v0 v1 v2 v3 v4 v5 v6 v7 v8 v9 v10 v11 v12
    clear_value v0
    have q13 : Sound v1 := by
      subst v1
      with_reducible refine sampleIn_sound ?_
      with_reducible assumption
    clear_value v1
    clear_value v2
    have q14 : Sound v3 := by
      subst v3
      with_reducible refine modPwr_sound ?_
      with_reducible refine incO_sound ?_
      with_reducible assumption
    clear_value v3
    clear_value v4
    clear_value v5
    clear_value v6
    clear_value v7
    clear_value v8
    clear_value v9
    clear_value v10
    clear_value v11
    have q15 : Sound v12 := by
      subst v12
      with_reducible refine modPwr_sound ?_
      with_reducible assumption
    clear_value v12
    split
    · with_reducible refine setDuty_sound ?_
      with_reducible assumption
    · split
      · with_reducible refine setDuty_sound ?_
        with_reducible refine modPwr_sound ?_
        with_reducible assumption
      · with_reducible assumption

theorem execVinUndervoltage_sound {s : State} (hs : Sound s) :
    OutSound (execVinUndervoltage s) := by
  unfold execVinUndervoltage
  refine next_sound ?_
  with_reducible refine modPwr_sound ?_
  with_reducible refine supplyStop_sound ?_
  with_reducible assumption

theorem execReboot_sound {a0 : Req} {s : State} (hs : Sound s) :
    OutSound (execReboot a0 s) := by
  unfold execReboot
  refine next_sound ?_
  split
  · with_reducible refine shutdownEnd_sound ?_
    with_reducible refine shutdownBegin_sound ?_
    with_reducible refine wakeDepth_sound ?_
    refine sound_of_eq (by with_reducible assumption) ?_
    with_reducible refine takeDue_sound ?_
    with_reducible refine modeCommand_sound ?_
    with_reducible refine takeDue_sound ?_
    with_reducible assumption
  · refine sound_of_eq (by with_reducible assumption) ?_
    with_reducible refine takeDue_sound ?_
    with_reducible refine modeCommand_sound ?_
    with_reducible refine takeDue_sound ?_
    with_reducible assumption

theorem execResetNLow_sound {s : State} (hs : Sound s) :
    OutSound (execResetNLow s) := by
  unfold execResetNLow
  refine next_sound ?_
  extract_lets v0
  have q1 : Sound v0 := by
    subst v0
    with_reducible refine modPwr_sound ?_
    with_reducible assumption
  clear_value v0
  split
  · with_reducible assumption
  · with_reducible refine toStandby_sound ?_
    with_reducible refine lastOff_sound ?_
    with_reducible refine tracePowerDown_sound ?_
    with_reducible assumption

theorem execTestProgressRecord_sound {a0 : List TestFinding} {a1 : Nat} {a2 : Nat} {s : State} (hs : Sound s) :
    OutSound (execTestProgressRecord a0 a1 a2 s) := by
  unfold execTestProgressRecord
  refine next_sound ?_
  split
  · with_reducible assumption
  · extract_lets v0
    have q1 : Sound v0 := by
      subst v0
      with_reducible refine testSteps_sound ?_
      with_reducible assumption
    clear_value v0
    split
    · with_reducible assumption
    · split
      · with_reducible refine scheduledEnd_sound ?_
        with_reducible assumption
      · with_reducible refine shutdownEnd_sound ?_
        with_reducible assumption

theorem tripNow_sound {s : State} (hs : Sound s) :
    Sound (tripNow s) := by
  unfold tripNow
  extract_lets v0
  clear_value v0
  with_reducible refine emergency_sound ?_
  with_reducible refine modPwr_sound ?_
  with_reducible assumption

theorem execThermalTrip_sound {s : State} (hs : Sound s) :
    OutSound (execThermalTrip s) := by
  unfold execThermalTrip
  refine next_sound ?_
  split
  · with_reducible assumption
  · with_reducible refine tripNow_sound ?_
    with_reducible assumption

end Sys2Proof.Machine
end

