-- ==== Sys2Proof/Laws/SoundSelfTest.lean ====
section
/-! SUPPORT. What Machine/SelfTest.lean does keeps a sound state sound. -/

namespace Sys2Proof.Machine

theorem execTallowVote_sound {a0 : Nat} {s : State} (hs : Sound s) :
    OutSound (execTallowVote a0 s) := by
  unfold execTallowVote
  with_reducible refine onUnit_sound ?_
  split
  · with_reducible assumption
  · extract_lets v0
    with_reducible refine incO_sound ?_
    with_reducible refine modTest_sound ?_
    with_reducible assumption

theorem execTallowReset_sound {a0 : Option Nat} {s : State} (hs : Sound s) :
    OutSound (execTallowReset a0 s) := by
  unfold execTallowReset
  refine next_sound ?_
  split
  · with_reducible assumption
  · extract_lets v0 v1 v2 v3
    have q4 : Sound v2 := by
      subst v2
      with_reducible refine modTest_sound ?_
      with_reducible assumption
    clear_value v2
    have q5 : Sound v3 := by
      subst v3
      with_reducible refine incO_sound ?_
      with_reducible refine setO_sound ?_
      with_reducible assumption
    clear_value v3
    split
    · with_reducible refine raise_sound ?_
      with_reducible assumption
    · split
      with_reducible refine raise_sound ?_
      refine sound_of_eq (by with_reducible assumption) ?_
      with_reducible refine takeNat_sound ?_
      with_reducible assumption

theorem tallowFixed_sound {s : State} (hs : Sound s) :
    Sound (tallowFixed s) := by
  unfold tallowFixed
  with_reducible refine incO_sound ?_
  with_reducible assumption

theorem setTallow_sound {a0 : TallowCopy → TallowCopy} {s : State} (hs : Sound s) :
    Sound (setTallow a0 s) := by
  unfold setTallow
  with_reducible refine modTest_sound ?_
  with_reducible assumption

theorem execOdStart_sound {a0 : Req} {s : State} (hs : Sound s) :
    OutSound (execOdStart a0 s) := by
  unfold execOdStart
  refine next_sound ?_
  with_reducible refine serveWrite_sound ?_ ?_
  · intro z0
    intro z1
    intro z2
    split
    · with_reducible assumption
    · extract_lets v3
      have q4 : Sound v3 := by
        subst v3
        split
        · with_reducible refine setDomain_sound ?_
          with_reducible assumption
        · with_reducible assumption
      clear_value v3
      dsimp -zeta only
      with_reducible refine setO_sound ?_
      with_reducible refine modTest_sound ?_
      with_reducible assumption
  · with_reducible assumption

theorem odEnd_sound {a0 : Nat} {a1 : Nat} {s : State} (hs : Sound s) :
    Sound (odEnd a0 a1 s) := by
  unfold odEnd
  extract_lets v0 v1 v2 v3 v4 v5
  clear_value v0
  clear_value v1
  have q6 : Sound v2 := by
    subst v2
    with_reducible refine setO_sound ?_
    with_reducible assumption
  clear_value v2
  have q7 : Sound v3 := by
    subst v3
    with_reducible refine dramZero_sound ?_
    with_reducible assumption
  clear_value v3
  have q8 : Sound v4 := by
    subst v4
    split
    · split
      · with_reducible assumption
      · split
        · with_reducible refine restDomain_sound ?_
          with_reducible assumption
        · with_reducible refine wakeDomain_sound ?_
          with_reducible assumption
    · with_reducible assumption
  clear_value v4
  have q9 : Sound v5 := by
    subst v5
    with_reducible refine setO_sound ?_
    with_reducible refine setO_sound ?_
    with_reducible assumption
  clear_value v5
  with_reducible refine raise_sound ?_
  with_reducible assumption

theorem tallowBad_sound {s : State} (hs : Sound s) :
    Sound (tallowBad s) := by
  unfold tallowBad
  with_reducible refine incO_sound ?_
  with_reducible assumption

theorem patrolDict_sound {a0 : Nat} {a1 : Nat} {a2 : Nat} {a3 : Nat} {s : State} (hs : Sound s) :
    Sound (patrolDict a0 a1 a2 a3 s) := by
  unfold patrolDict
  extract_lets v0 v1 v2 v3 v4 v5
  clear_value v0
  clear_value v1
  clear_value v2
  have q6 : Sound v4 := by
    subst v4
    with_reducible refine mk_sound ?_ rfl rfl rfl rfl rfl
    with_reducible assumption
  clear_value v4
  split
  · with_reducible assumption
  · split
    · with_reducible refine tallowFixed_sound ?_
      with_reducible refine incO_sound ?_
      with_reducible refine mk_sound ?_ rfl rfl rfl rfl rfl
      with_reducible assumption
    · with_reducible refine tallowBad_sound ?_
      with_reducible refine raise_sound ?_
      with_reducible assumption

theorem execOndemandDone_sound {a0 : Bool} {a1 : Nat} {a2 : List Int} {s : State} (hs : Sound s) :
    OutSound (execOndemandDone a0 a1 a2 s) := by
  unfold execOndemandDone
  refine next_sound ?_
  split
  · with_reducible assumption
  · extract_lets v0 v1 v2 v3
    clear_value v0
    clear_value v1
    clear_value v2
    have q4 : Sound v3 := by
      subst v3
      split
      · refine foldl_sound ?_ ?_
        · intro z5
          intro z6
          intro z7
          with_reducible refine setO_sound ?_
          with_reducible assumption
        · with_reducible assumption
      · split
        · with_reducible assumption
        · split
          · with_reducible refine writeHealth_sound ?_
            with_reducible assumption
          · with_reducible refine writeHealth_sound ?_
            with_reducible assumption
    clear_value v3
    with_reducible refine odEnd_sound ?_
    with_reducible assumption

theorem slotPeriodWrite_sound {a0 : Nat} {s : State} (hs : Sound s) :
    Sound (slotPeriodWrite a0 s).2 := by
  unfold slotPeriodWrite
  split
  · with_reducible assumption
  · extract_lets v0 v1
    have q2 : Sound v0 := by
      subst v0
      with_reducible refine setTallow_sound ?_
      with_reducible refine setO_sound ?_
      with_reducible assumption
    clear_value v0
    dsimp -zeta only
    with_reducible refine modTest_sound ?_
    with_reducible assumption

theorem patrolTif_sound {a0 : Nat} {a1 : List Nat} {s : State} (hs : Sound s) :
    Sound (patrolTif a0 a1 s) := by
  unfold patrolTif
  extract_lets v0 v1 v2 v3 v4 v5 v6
  have q7 : Sound v0 := by
    subst v0
    with_reducible refine flipCell_sound ?_
    with_reducible assumption
  clear_value v0
  clear_value v1
  clear_value v2
  clear_value v3
  have q8 : Sound v4 := by
    subst v4
    with_reducible refine incO_sound ?_
    with_reducible refine flashFollow_sound ?_
    with_reducible refine loadCell_sound ?_
    with_reducible assumption
  clear_value v4
  have q9 : Sound v6 := by
    subst v6
    with_reducible refine mk_sound ?_ rfl rfl rfl rfl rfl
    with_reducible assumption
  clear_value v6
  split
  · with_reducible assumption
  · split
    · with_reducible refine flashFollow_sound ?_
      with_reducible refine incO_sound ?_
      with_reducible refine incO_sound ?_
      with_reducible refine mendCell_sound ?_
      with_reducible assumption
    · with_reducible refine tallowBad_sound ?_
      with_reducible refine raise_sound ?_
      with_reducible assumption

theorem repairHealth_sound {s : State} (hs : Sound s) :
    Sound (repairHealth s) := by
  unfold repairHealth
  extract_lets v0 v1 v2 v3 v4
  split
  · with_reducible assumption
  · split
    · with_reducible refine tallowBad_sound ?_
      with_reducible refine raise_sound ?_
      subst v2
      beta_reduce
      with_reducible refine modTest_sound ?_
      with_reducible assumption
    · split
      · with_reducible refine tallowBad_sound ?_
        with_reducible refine raise_sound ?_
        subst v2
        beta_reduce
        with_reducible refine modTest_sound ?_
        with_reducible assumption
      · with_reducible refine tallowBad_sound ?_
        with_reducible refine tallowBad_sound ?_
        with_reducible refine raise_sound ?_
        subst v2
        beta_reduce
        with_reducible refine modTest_sound ?_
        with_reducible assumption

theorem execOdAbort_sound {a0 : Req} {s : State} (hs : Sound s) :
    OutSound (execOdAbort a0 s) := by
  unfold execOdAbort
  refine next_sound ?_
  with_reducible refine serveWrite_sound ?_ ?_
  · intro z0
    intro z1
    intro z2
    dsimp -zeta only
    split
    · with_reducible assumption
    · with_reducible refine odEnd_sound ?_
      with_reducible assumption
  · with_reducible assumption

theorem patrolIm_sound {a0 : Nat} {a1 : Nat} {a2 : Nat} {s : State} (hs : Sound s) :
    Sound (patrolIm a0 a1 a2 s) := by
  unfold patrolIm
  extract_lets v0 v1 v2 v3 v4 v5 v6
  clear_value v0
  clear_value v1
  clear_value v2
  have q7 : Sound v5 := by
    subst v5
    with_reducible refine mk_sound ?_ rfl rfl rfl rfl rfl
    with_reducible assumption
  clear_value v5
  split
  · with_reducible assumption
  · split
    · with_reducible refine tallowFixed_sound ?_
      subst v3
      beta_reduce
      with_reducible refine mk_sound ?_ rfl rfl rfl rfl rfl
      with_reducible assumption
    · split
      · with_reducible refine tallowBad_sound ?_
        subst v3
        beta_reduce
        with_reducible refine mk_sound ?_ rfl rfl rfl rfl rfl
        with_reducible assumption
      · with_reducible refine tallowBad_sound ?_
        with_reducible refine raise_sound ?_
        with_reducible assumption

theorem patrolExs_sound {a0 : Nat} {a1 : Nat} {a2 : Nat} {a3 : Nat} {a4 : Nat} {s : State} (hs : Sound s) :
    Sound (patrolExs a0 a1 a2 a3 a4 s) := by
  unfold patrolExs
  extract_lets v0 v1 v2 v3 v4 v5 v6 v7
  clear_value v0
  clear_value v1
  clear_value v2
  have q8 : Sound v4 := by
    subst v4
    with_reducible refine mk_sound ?_ rfl rfl rfl rfl rfl
    with_reducible assumption
  clear_value v4
  have q9 : Sound v6 := by
    subst v6
    with_reducible refine mk_sound ?_ rfl rfl rfl rfl rfl
    with_reducible assumption
  clear_value v6
  split
  · with_reducible assumption
  · split
    · with_reducible refine tallowFixed_sound ?_
      with_reducible refine incO_sound ?_
      with_reducible refine mk_sound ?_ rfl rfl rfl rfl rfl
      with_reducible assumption
    · with_reducible refine tallowBad_sound ?_
      with_reducible refine raise_sound ?_
      with_reducible assumption

theorem patrolWord_sound {a0 : Nat} {s : State} {a2 : PatrolWord} (hs : Sound s) :
    Sound (patrolWord a0 s a2) := by
  unfold patrolWord
  split
  · with_reducible refine patrolIm_sound ?_
    with_reducible assumption
  · with_reducible refine patrolDict_sound ?_
    with_reducible assumption
  · with_reducible refine patrolExs_sound ?_
    with_reducible assumption
  · with_reducible refine patrolTif_sound ?_
    with_reducible assumption
  · with_reducible refine modTest_sound ?_
    with_reducible assumption
  · with_reducible assumption

theorem execTallowPatrol_sound {a0 : Nat} {a1 : List PatrolWord} {a2 : Option Nat} {s : State} (hs : Sound s) :
    OutSound (execTallowPatrol a0 a1 a2 s) := by
  unfold execTallowPatrol
  with_reducible refine onUnit_sound ?_
  split
  · with_reducible assumption
  · extract_lets v0 v1 v2 v3 v4 v5 v6
    have q7 : Sound v0 := by
      subst v0
      split
      · with_reducible refine wakeDepth_sound ?_
        with_reducible assumption
      · with_reducible assumption
    clear_value v0
    have q8 : Sound v1 := by
      subst v1
      refine foldl_sound ?_ ?_
      · intro z9
        intro z10
        intro z11
        with_reducible refine patrolWord_sound ?_
        with_reducible assumption
      · with_reducible assumption
    clear_value v1
    have q12 : Sound v2 := by
      subst v2
      split
      · with_reducible refine modTest_sound ?_
        with_reducible refine repairHealth_sound ?_
        with_reducible assumption
      · with_reducible assumption
    clear_value v2
    clear_value v3
    have q13 : Sound v4 := by
      subst v4
      with_reducible refine setTallow_sound ?_
      with_reducible assumption
    clear_value v4
    have q14 : Sound v5 := by
      subst v5
      with_reducible refine modTest_sound ?_
      with_reducible assumption
    clear_value v5
    have q15 : Sound v6 := by
      subst v6
      split
      · with_reducible refine setO_sound ?_
        with_reducible refine incO_sound ?_
        with_reducible assumption
      · with_reducible assumption
    clear_value v6
    with_reducible refine chooseDepth_sound ?_
    with_reducible assumption

end Sys2Proof.Machine
end

