-- ==== Sys2Proof/Laws/SoundBoot.lean ====
section
/-! SUPPORT. What Machine/Boot.lean does keeps a sound state sound. -/

namespace Sys2Proof.Machine

theorem modBoot_sound {a0 : BootSt → BootSt} {s : State} (hs : Sound s) :
    Sound (modBoot a0 s) := by
  unfold modBoot
  with_reducible refine mk_sound ?_ rfl rfl rfl rfl rfl
  with_reducible assumption

theorem bootSources_sound {s : State} (hs : Sound s) :
    Sound (bootSources s) := by
  unfold bootSources
  extract_lets v0 v1 v2 v3 v4 v5
  have q6 : Sound v1 := by
    subst v1
    with_reducible refine setO_sound ?_
    with_reducible assumption
  clear_value v1
  have q7 : Sound v2 := by
    subst v2
    with_reducible refine setO_sound ?_
    with_reducible assumption
  clear_value v2
  have q8 : Sound v3 := by
    subst v3
    with_reducible refine setO_sound ?_
    with_reducible assumption
  clear_value v3
  have q9 : Sound v4 := by
    subst v4
    split
    · with_reducible refine loseRef_sound ?_
      with_reducible assumption
    · with_reducible assumption
  clear_value v4
  have q10 : Sound v5 := by
    subst v5
    split
    · with_reducible refine loseRef_sound ?_
      with_reducible assumption
    · with_reducible assumption
  clear_value v5
  split
  · with_reducible refine loseRef_sound ?_
    with_reducible assumption
  · with_reducible assumption

theorem applyHeader_sound {a0 : List Octet} {s : State} (hs : Sound s) :
    Sound (applyHeader a0 s) := by
  unfold applyHeader
  extract_lets v0 v1 v2 v3 v4 v5
  have q6 : Sound v0 := by
    subst v0
    with_reducible refine setDomain_sound ?_
    with_reducible assumption
  clear_value v0
  have q7 : Sound v1 := by
    subst v1
    refine foldl_sound ?_ ?_
    · intro z8
      intro z9
      intro z10
      extract_lets v11
      clear_value v11
      with_reducible refine setO_sound ?_
      with_reducible refine setO_sound ?_
      with_reducible assumption
    · with_reducible assumption
  clear_value v1
  clear_value v2
  with_reducible refine mk_sound ?_ rfl rfl rfl rfl rfl
  with_reducible assumption

theorem startTallow_sound {s : State} (hs : Sound s) :
    Sound (startTallow s) := by
  unfold startTallow
  extract_lets v0 v1
  have q2 : Sound v1 := by
    subst v1
    with_reducible refine modTest_sound ?_
    with_reducible assumption
  clear_value v1
  with_reducible refine setO_sound ?_
  with_reducible assumption

theorem execDoneTimeout_sound {s : State} (hs : Sound s) :
    OutSound (execDoneTimeout s) := by
  unfold execDoneTimeout
  refine next_sound ?_
  split
  · with_reducible refine raise_sound ?_
    with_reducible refine modBoot_sound ?_
    with_reducible assumption
  · with_reducible assumption

theorem bootPll_sound {a0 : Nat} {s : State} (hs : Sound s) :
    Sound (bootPll a0 s) := by
  unfold bootPll
  extract_lets v0
  have q1 : Sound v0 := by
    subst v0
    with_reducible refine runPll_sound ?_
    with_reducible assumption
  clear_value v0
  split
  · with_reducible refine failPll_sound ?_
    with_reducible assumption
  · with_reducible assumption

theorem reportProgress_sound {s : State} (hs : Sound s) :
    Sound (reportProgress s) := by
  unfold reportProgress
  split
  · with_reducible assumption
  · extract_lets v0 v1 v2
    clear_value v0
    have q3 : Sound v1 := by
      subst v1
      with_reducible refine modTest_sound ?_
      with_reducible assumption
    clear_value v1
    have q4 : Sound v2 := by
      subst v2
      with_reducible refine setO_sound ?_
      with_reducible refine setO_sound ?_
      with_reducible refine setO_sound ?_
      with_reducible assumption
    clear_value v2
    with_reducible refine raise_sound ?_
    with_reducible assumption

theorem loadNetwork_sound {a0 : List Octet} {s : State} (hs : Sound s) :
    Sound (loadNetwork a0 s) := by
  unfold loadNetwork
  extract_lets v0 v1 v2 v3 v4
  have q5 : Sound v1 := by
    subst v1
    with_reducible refine setO_sound ?_
    with_reducible refine setO_sound ?_
    with_reducible assumption
  clear_value v1
  have q6 : Sound v2 := by
    subst v2
    refine foldl_sound ?_ ?_
    · intro z7
      intro z8
      intro z9
      extract_lets v10
      have q11 : Sound v10 := by
        subst v10
        with_reducible refine setO_sound ?_
        with_reducible refine setO_sound ?_
        with_reducible assumption
      clear_value v10
      with_reducible refine setO_sound ?_
      with_reducible assumption
    · with_reducible assumption
  clear_value v2
  have q12 : Sound v3 := by
    subst v3
    with_reducible refine setO_sound ?_
    with_reducible refine setO_sound ?_
    with_reducible assumption
  clear_value v3
  with_reducible refine setO_sound ?_
  with_reducible refine setO_sound ?_
  with_reducible refine setO_sound ?_
  with_reducible assumption

theorem bootLine_sound {a0 : Nat} {s : State} (hs : Sound s) :
    Sound (bootLine a0 s) := by
  unfold bootLine
  with_reducible refine emit_sound ?_
  with_reducible assumption

theorem loadPersonality_sound {a0 : List Octet} {s : State} (hs : Sound s) :
    Sound (loadPersonality a0 s) := by
  unfold loadPersonality
  extract_lets v0 v1 v2 v3 v4 v5
  clear_value v0
  clear_value v1
  with_reducible refine mk_sound ?_ rfl rfl rfl rfl rfl
  with_reducible assumption

theorem trySlot_sound {a0 : Nat} {a1 : List Nat} {s : State} (hs : Sound s) :
    Sound (trySlot a0 a1 s).2 := by
  unfold trySlot
  extract_lets v0 v1 v2
  clear_value v0
  have q3 : Sound v1 := by
    subst v1
    with_reducible refine bootLine_sound ?_
    with_reducible refine applyHeader_sound ?_
    with_reducible assumption
  clear_value v1
  clear_value v2
  split
  · with_reducible assumption
  · split
    · with_reducible assumption
    · split
      · with_reducible assumption
      · with_reducible assumption

theorem loadOscs_sound {a0 : List Octet} {s : State} (hs : Sound s) :
    Sound (loadOscs a0 s) := by
  unfold loadOscs
  split
  · with_reducible assumption
  · refine foldl_sound ?_ ?_
    · intro z0
      intro z1
      intro z2
      extract_lets v3 v4
      clear_value v3
      have q5 : Sound v4 := by
        subst v4
        split
        · with_reducible refine setO_sound ?_
          with_reducible assumption
        · with_reducible assumption
      clear_value v4
      with_reducible refine setO_sound ?_
      with_reducible assumption
    · with_reducible assumption

theorem owedEvents_sound {s : State} (hs : Sound s) :
    Sound (owedEvents s) := by
  unfold owedEvents
  extract_lets v0 v1 v2 v3 v4
  have q5 : Sound v1 := by
    subst v1
    split
    · with_reducible refine raise_sound ?_
      with_reducible assumption
    · with_reducible assumption
  have q6 : Sound v2 := by
    subst v2
    split
    · with_reducible refine raise_sound ?_
      with_reducible refine modPwr_sound ?_
      with_reducible assumption
    · with_reducible assumption
  have q7 : Sound v3 := by
    subst v3
    with_reducible refine setO_sound ?_
    with_reducible assumption
  clear_value v3
  split
  · with_reducible assumption
  · with_reducible refine raise_sound ?_
    with_reducible refine mk_sound ?_ rfl rfl rfl rfl rfl
    with_reducible assumption

theorem useHealth_sound {a0 : Nat} {a1 : Health} {s : State} (hs : Sound s) :
    Sound (useHealth a0 a1 s) := by
  unfold useHealth
  extract_lets v0 v1 v2 v3 v4 v5 v6 v7 v8
  clear_value v0
  clear_value v1
  clear_value v2
  have q9 : Sound v5 := by
    subst v5
    with_reducible refine mk_sound ?_ rfl rfl rfl rfl rfl
    with_reducible assumption
  clear_value v5
  have q10 : Sound v6 := by
    subst v6
    with_reducible refine setO_sound ?_
    with_reducible refine setO_sound ?_
    with_reducible refine setO_sound ?_
    with_reducible assumption
  clear_value v6
  have q11 : Sound v7 := by
    subst v7
    with_reducible refine setO_sound ?_
    with_reducible refine setO_sound ?_
    with_reducible refine setO_sound ?_
    with_reducible assumption
  clear_value v7
  have q12 : Sound v8 := by
    subst v8
    with_reducible refine setO_sound ?_
    with_reducible refine setO_sound ?_
    with_reducible refine setO_sound ?_
    with_reducible assumption
  clear_value v8
  with_reducible refine setO_sound ?_
  with_reducible refine setO_sound ?_
  with_reducible assumption

theorem advanceCounter_sound {s : State} (hs : Sound s) :
    Sound (advanceCounter s) := by
  unfold advanceCounter
  split
  · split
    · with_reducible refine setO_sound ?_
      with_reducible assumption
    · with_reducible assumption
  · with_reducible assumption

theorem loadPins_sound {a0 : List Octet} {s : State} (hs : Sound s) :
    Sound (loadPins a0 s) := by
  unfold loadPins
  extract_lets v0 v1
  clear_value v0
  with_reducible refine mk_sound ?_ rfl rfl rfl rfl rfl
  with_reducible assumption

theorem configure_sound {a0 : Nat} {a1 : BootStream} {a2 : Nat} {s : State} (hs : Sound s) :
    Sound (configure a0 a1 a2 s) := by
  unfold configure
  extract_lets v0 v1 v2 v3 v4 v5 v6 v7 v8 v9 v10 v11 v12 v13 v14 v15 v16 v17 v18 v19 v20 v21 v22 v23 v24
  clear_value v0
  clear_value v1
  have q25 : Sound v4 := by
    subst v4
    with_reducible refine mk_sound ?_ rfl rfl rfl rfl rfl
    with_reducible assumption
  clear_value v4
  have q26 : Sound v5 := by
    subst v5
    with_reducible refine setO_sound ?_
    with_reducible refine setO_sound ?_
    with_reducible assumption
  clear_value v5
  have q27 : Sound v6 := by
    subst v6
    with_reducible refine setO_sound ?_
    with_reducible refine setO_sound ?_
    with_reducible refine setO_sound ?_
    with_reducible assumption
  clear_value v6
  have q28 : Sound v7 := by
    subst v7
    with_reducible refine setO_sound ?_
    with_reducible assumption
  clear_value v7
  have q29 : Sound v8 := by
    subst v8
    with_reducible refine setO_sound ?_
    with_reducible assumption
  clear_value v8
  have q30 : Sound v9 := by
    subst v9
    with_reducible refine bootLine_sound ?_
    with_reducible refine bootLine_sound ?_
    with_reducible refine bootLine_sound ?_
    with_reducible assumption
  clear_value v9
  have q31 : Sound v10 := by
    subst v10
    with_reducible refine setO_sound ?_
    with_reducible assumption
  clear_value v10
  have q32 : Sound v11 := by
    subst v11
    refine foldl_sound ?_ ?_
    · intro z33
      intro z34
      intro z35
      with_reducible refine bootPll_sound ?_
      with_reducible assumption
    · with_reducible assumption
  clear_value v11
  clear_value v12
  have q36 : Sound v14 := by
    subst v14
    with_reducible refine mk_sound ?_ rfl rfl rfl rfl rfl
    with_reducible assumption
  clear_value v14
  have q37 : Sound v15 := by
    subst v15
    with_reducible refine setO_sound ?_
    with_reducible assumption
  clear_value v15
  have q38 : Sound v16 := by
    subst v16
    refine foldl_sound ?_ ?_
    · intro z39
      intro z40
      intro z41
      with_reducible refine wakeDomain_sound ?_
      with_reducible assumption
    · with_reducible assumption
  clear_value v16
  have q42 : Sound v17 := by
    subst v17
    with_reducible refine loadOscs_sound ?_
    with_reducible refine loadPins_sound ?_
    with_reducible refine loadPersonality_sound ?_
    with_reducible assumption
  clear_value v17
  have q43 : Sound v18 := by
    subst v18
    with_reducible refine startTallow_sound ?_
    with_reducible refine loadNetwork_sound ?_
    with_reducible assumption
  clear_value v18
  have q44 : Sound v20 := by
    subst v20
    with_reducible refine ffInit_sound ?_
    with_reducible refine mk_sound ?_ rfl rfl rfl rfl rfl
    with_reducible assumption
  clear_value v20
  have q45 : Sound v21 := by
    subst v21
    with_reducible refine restDomain_sound ?_
    with_reducible refine restDomain_sound ?_
    with_reducible assumption
  clear_value v21
  have q46 : Sound v22 := by
    subst v22
    refine foldl_sound ?_ ?_
    · intro z47
      intro z48
      intro z49
      with_reducible refine startTraining_sound ?_
      with_reducible assumption
    · with_reducible assumption
  clear_value v22
  have q50 : Sound v23 := by
    subst v23
    with_reducible refine modBoot_sound ?_
    with_reducible assumption
  clear_value v23
  have q51 : Sound v24 := by
    subst v24
    with_reducible refine bootLine_sound ?_
    with_reducible refine emit_sound ?_
    with_reducible assumption
  clear_value v24
  with_reducible refine netStart_sound ?_
  with_reducible refine setO_sound ?_
  with_reducible refine setO_sound ?_
  with_reducible assumption

theorem tryNext_sound {a0 : List Nat} {x : Option (Nat × BootStream) × List (Nat × Nat) × State} {i : Nat} (hs : Sound x.2.2) : Sound (tryNext a0 x i).2.2 := by
  obtain ⟨o, bad, s⟩ := x
  cases o with
  | some b => exact hs
  | none =>
    unfold tryNext
    dsimp only
    have h := trySlot_sound (a0 := i) (a1 := a0) (s := s) hs
    split
    · rename_i h1
      rw [h1] at h; exact h
    · rename_i r ran t h1
      rw [h1] at h
      have h3 : Sound t := h
      dsimp only
      exact modBoot_sound (setO_sound h3)

theorem foldl_tryNext_sound {a0 l : List Nat} {x : Option (Nat × BootStream) × List (Nat × Nat) × State} (hs : Sound x.2.2) : Sound (l.foldl (tryNext a0) x).2.2 := by
  induction l generalizing x with
  | nil => exact hs
  | cons i rest ih => exact ih (tryNext_sound hs)

theorem trySlots_sound {a0 l : List Nat} {s : State} (hs : Sound s) : Sound (trySlots a0 l s).2.2 := by
  unfold trySlots
  exact foldl_tryNext_sound hs

theorem bootHealth_sound {s : State} (hs : Sound s) :
    Sound (bootHealth s) := by
  unfold bootHealth
  extract_lets v0
  have q1 : Sound v0 := by
    subst v0
    split
    · with_reducible refine useHealth_sound ?_
      with_reducible assumption
    · with_reducible refine raise_sound ?_
      with_reducible refine useHealth_sound ?_
      with_reducible assumption
  clear_value v0
  with_reducible refine reportProgress_sound ?_
  with_reducible assumption

theorem bootComplete_sound {s : State} (hs : Sound s) :
    Sound (bootComplete s) := by
  unfold bootComplete
  extract_lets v0 v1 v2 v3 v4 v5 v6 v7
  clear_value v0
  clear_value v1
  have q8 : Sound v2 := by
    subst v2
    with_reducible refine setO_sound ?_
    with_reducible refine setO_sound ?_
    with_reducible assumption
  clear_value v2
  have q9 : Sound v3 := by
    subst v3
    with_reducible refine setMode_sound ?_
    with_reducible refine modeOn_sound ?_
    with_reducible refine bootLine_sound ?_
    with_reducible assumption
  clear_value v3
  have q10 : Sound v4 := by
    subst v4
    with_reducible refine raise_sound ?_
    with_reducible assumption
  clear_value v4
  have q11 : Sound v5 := by
    subst v5
    split
    · with_reducible refine raise_sound ?_
      with_reducible assumption
    · with_reducible assumption
  clear_value v5
  have q12 : Sound v6 := by
    subst v6
    with_reducible refine advanceCounter_sound ?_
    with_reducible assumption
  clear_value v6
  have q13 : Sound v7 := by
    subst v7
    with_reducible refine raise_sound ?_
    with_reducible assumption
  clear_value v7
  with_reducible refine chooseDepth_sound ?_
  with_reducible assumption

theorem execBoot_sound {a0 : List Nat} {a1 : Nat} {s : State} (hs : Sound s) : OutSound (execBoot a0 a1 s) := by
  unfold execBoot
  refine next_sound ?_
  split
  · exact hs
  · extract_lets v0 v1 v2
    have h2 : Sound v2 :=
      bootPll_sound (bootPll_sound (bootSources_sound (bootHealth_sound (owedEvents_sound (bootLine_sound (emit_sound hs))))))
    clear_value v2
    have h := trySlots_sound (a0 := a0) (l := bootOrder v2) h2
    split
    · rename_i i b bad t h1
      rw [h1] at h
      exact foldl_sound (fun _ _ h => raise_sound h) (configure_sound (s := t) h)
    · rename_i bad t h1
      rw [h1] at h
      refine raise_sound (setO_sound ?_)
      have h3 : Sound t := h
      split
      · exact setO_sound (modBoot_sound h3)
      · exact modBoot_sound h3

theorem execDoneRise_sound {s : State} (hs : Sound s) :
    OutSound (execDoneRise s) := by
  unfold execDoneRise
  refine next_sound ?_
  split
  · with_reducible assumption
  · extract_lets v0
    have q1 : Sound v0 := by
      subst v0
      with_reducible refine setO_sound ?_
      with_reducible assumption
    clear_value v0
    split
    · with_reducible refine bootComplete_sound ?_
      with_reducible assumption
    · with_reducible assumption

end Sys2Proof.Machine
end

