-- ==== Sys2Proof/Laws/SoundRead.lean ====
section
/-! SUPPORT. What Machine/Read.lean does keeps a sound state sound. -/

namespace Sys2Proof.Machine

theorem afterRead_sound {a0 : ObjDesc} {a1 : Nat} {a2 : Nat} {a3 : Nat} {s : State} (hs : Sound s) :
    Sound (afterRead a0 a1 a2 a3 s) := by
  unfold afterRead
  split
  · with_reducible assumption
  · split
    · with_reducible refine modSess_sound ?_
      with_reducible assumption
    · split
      · extract_lets v0 v1
        have q2 : Sound v0 := by
          subst v0
          with_reducible refine setO_sound ?_
          with_reducible assumption
        clear_value v0
        with_reducible refine mk_sound ?_ rfl rfl rfl rfl rfl
        with_reducible assumption
      · with_reducible refine setO_sound ?_
        with_reducible assumption

theorem hostIm_sound {a0 : Nat} {a1 : Nat} {s : State} (hs : Sound s) :
    Sound (hostIm a0 a1 s).2 := by
  unfold hostIm
  split
  · split
    dsimp -zeta only
    refine sound_of_eq (by with_reducible assumption) ?_
    with_reducible refine takeNat_sound ?_
    with_reducible assumption
  · with_reducible assumption

theorem readPin_sound {s : State} {a1 : Nat} (hs : Sound s) :
    Sound (readPin s a1).2 := by
  unfold readPin
  split
  · with_reducible assumption
  · split
    dsimp -zeta only
    refine sound_of_eq (by with_reducible assumption) ?_
    with_reducible refine takeBit_sound ?_
    with_reducible assumption

theorem readItems_sound {a0 : Nat → State → List Octet × State} {a1 : Nat} {a2 : Nat} {s : State} (ha0 : ∀ x0 x1, Sound x1 → Sound (a0 x0 x1).2) (hs : Sound s) :
    Sound (readItems a0 a1 a2 s).2 := by
  induction' a1 with n ih generalizing a2 s
  · unfold readItems
    with_reducible assumption
  · unfold readItems
    split
    split
    dsimp -zeta only
    refine sound_of_eq (by with_reducible assumption) ?_
    with_reducible apply ih
    refine sound_of_eq (by with_reducible assumption) ?_
    with_reducible apply ha0
    with_reducible assumption

theorem openWord_sound {a0 : Nat} {s : State} (hs : Sound s) :
    Sound (openWord a0 s).2 := by
  unfold openWord
  split
  dsimp -zeta only
  refine sound_of_eq (by with_reducible assumption) ?_
  with_reducible refine takeNat_sound ?_
  with_reducible assumption

theorem readDone_sound {s : State} (hs : Sound s) :
    Sound (readDone s).2 := by
  unfold readDone
  split
  · with_reducible assumption
  · split
    dsimp -zeta only
    refine sound_of_eq (by with_reducible assumption) ?_
    with_reducible refine takeBit_sound ?_
    with_reducible assumption

theorem openEntry_sound {a0 : Nat} {a1 : BitVec 3072} {s : State} (hs : Sound s) :
    Sound (openEntry a0 a1 s).2 := by
  unfold openEntry
  refine foldl_sound_snd ?_ ?_
  · intro z0
    intro z1
    intro z2
    split
    dsimp -zeta only
    refine sound_of_eq (by with_reducible assumption) ?_
    with_reducible refine takeNat_sound ?_
    with_reducible assumption
  · with_reducible assumption

theorem hostExs_sound {a0 : Nat} {a1 : Nat} {a2 : Nat} {s : State} (hs : Sound s) :
    Sound (hostExs a0 a1 a2 s).2 := by
  unfold hostExs
  split
  · with_reducible assumption
  · dsimp -zeta only
    with_reducible refine incO_sound ?_
    with_reducible assumption
  · split
    dsimp -zeta only
    refine sound_of_eq (by with_reducible assumption) ?_
    with_reducible refine openEntry_sound ?_
    with_reducible assumption

theorem hostDict_sound {a0 : Nat} {a1 : Nat} {a2 : Nat} {s : State} (hs : Sound s) :
    Sound (hostDict a0 a1 a2 s).2 := by
  unfold hostDict
  split
  · with_reducible assumption
  · dsimp -zeta only
    with_reducible refine incO_sound ?_
    with_reducible assumption
  · with_reducible refine openWord_sound ?_
    with_reducible assumption

theorem blockRead_sound {a0 : Nat} {a1 : Nat} {a2 : Nat} {a3 : Nat} {a4 : Nat} {s : State} (hs : Sound s) :
    Sound (blockRead a0 a1 a2 a3 a4 s).2 := by
  unfold blockRead
  extract_lets v0 v1 v2 v3 v4
  clear_value v1
  split
  · split
    · with_reducible assumption
    · split
      · with_reducible assumption
      · subst v0
        beta_reduce
        dsimp -zeta only
        with_reducible refine readItems_sound ?_ ?_
        · intro z5
          intro z6
          intro z7
          with_reducible refine hostIm_sound ?_
          with_reducible assumption
        · with_reducible assumption
  · split
    · with_reducible assumption
    · split
      · with_reducible assumption
      · extract_lets v8
        clear_value v8
        subst v0
        beta_reduce
        dsimp -zeta only
        with_reducible refine readItems_sound ?_ ?_
        · intro z9
          intro z10
          intro z11
          with_reducible refine hostDict_sound ?_
          with_reducible assumption
        · with_reducible assumption
  · split
    · with_reducible assumption
    · split
      · with_reducible assumption
      · extract_lets v12
        clear_value v12
        subst v0
        beta_reduce
        dsimp -zeta only
        with_reducible refine readItems_sound ?_ ?_
        · intro z13
          intro z14
          intro z15
          with_reducible refine hostExs_sound ?_
          with_reducible assumption
        · with_reducible assumption
  · split
    · with_reducible assumption
    · split
      · with_reducible assumption
      · subst v0
        beta_reduce
        dsimp -zeta only
        with_reducible refine readItems_sound ?_ ?_
        · intro z16
          intro z17
          intro z18
          with_reducible refine hostBank_sound ?_
          with_reducible assumption
        · with_reducible assumption
  · split
    · with_reducible assumption
    · subst v0
      beta_reduce
      dsimp -zeta only
      with_reducible refine readItems_sound ?_ ?_
      · intro z19
        intro z20
        intro z21
        with_reducible refine hostFar_sound ?_
        with_reducible assumption
      · with_reducible assumption
  · split
    · with_reducible assumption
    · with_reducible assumption
  · with_reducible assumption
  · with_reducible assumption
  · with_reducible assumption
  · with_reducible assumption
  · with_reducible assumption
  · with_reducible assumption

theorem readChunks_sound {a0 : Session} {a1 : Nat} {a2 : Nat} {a3 : Nat} {a4 : Nat} {a5 : Nat} {a6 : Nat} {a7 : Nat} {a8 : Nat} {a9 : Nat} {s : State} (hs : Sound s) :
    Sound (readChunks a0 a1 a2 a3 a4 a5 a6 a7 a8 a9 s).2 := by
  induction' a6 with n ih generalizing a0 a1 a2 a3 a4 a5 a7 a8 a9 s
  · unfold readChunks
    with_reducible assumption
  · unfold readChunks
    split
    · with_reducible assumption
    · extract_lets v0 v1
      clear_value v0
      split
      · with_reducible assumption
      · extract_lets v2
        have q3 : Sound v2 := by
          subst v2
          with_reducible refine setStart_sound ?_
          refine sound_of_eq (by with_reducible assumption) ?_
          with_reducible refine blockRead_sound ?_
          with_reducible assumption
        clear_value v2
        split
        dsimp -zeta only
        refine sound_of_eq (by with_reducible assumption) ?_
        with_reducible apply ih
        with_reducible assumption

theorem readOctets_sound {a0 : ObjDesc} {a1 : Session} {a2 : Nat} {a3 : Nat} {s : State} (hs : Sound s) :
    Sound (readOctets a0 a1 a2 a3 s).2 := by
  unfold readOctets
  extract_lets v0 v1 v2 v3 v4
  clear_value v0
  clear_value v1
  clear_value v2
  split
  · extract_lets v5
    clear_value v5
    split
    · split
      · dsimp -zeta only
        refine sound_of_eq (by with_reducible assumption) ?_
        with_reducible refine blockRead_sound ?_
        with_reducible assumption
      · with_reducible assumption
    · dsimp -zeta only
      refine sound_of_eq (by with_reducible assumption) ?_
      with_reducible refine blockRead_sound ?_
      with_reducible assumption
  · split
    · extract_lets v6
      clear_value v6
      with_reducible refine blockRead_sound ?_
      with_reducible assumption
    · split
      · with_reducible assumption
      · with_reducible assumption
      · with_reducible assumption
      · with_reducible assumption
      · with_reducible assumption
      · dsimp -zeta only
        with_reducible refine readPin_sound ?_
        with_reducible assumption
      · dsimp -zeta only
        with_reducible refine readDone_sound ?_
        with_reducible assumption
      · dsimp -zeta only
        with_reducible refine openWord_sound ?_
        with_reducible assumption
      · split
        · dsimp -zeta only
          with_reducible refine openWord_sound ?_
          with_reducible assumption
        · split
          · dsimp -zeta only
            with_reducible refine modSerial_sound ?_
            with_reducible assumption
          · split
            · with_reducible assumption
            · dsimp -zeta only
              with_reducible refine afterRead_sound ?_
              with_reducible assumption

theorem waitingRead_sound {r : Req} {idx sub start count ty part : Nat} {b : Option (Nat × Nat × Nat × Nat)} {s t : State}
    (hs : Sound s) (h : waitingRead r idx sub start count ty part b s = some t) : Sound t := by
  unfold waitingRead at h
  extract_lets w at h
  split at h
  · cases h
  · obtain ⟨a, -, rfl⟩ := Option.map_eq_some_iff.mp h
    exact mk_sound hs rfl rfl rfl rfl rfl

theorem execReadBlock_sound {a0 : Req} {a1 : Nat} {a2 : Nat} {a3 : Nat} {a4 : Nat} {s : State} (hs : Sound s) :
    OutSound (execReadBlock a0 a1 a2 a3 a4 s) := by
  unfold execReadBlock
  refine next_sound (serve_sound ?_ hs)
  intro x t ht
  dsimp only
  split
  · exact ht
  · split
    · exact ht
    · split
      · exact ht
      · split
        · exact ht
        · split
          · exact ht
          · split
            · rename_i h
              split at h
              · exact waitingRead_sound (setStart_sound ht) h
              · cases h
            · exact readChunks_sound (setStart_sound ht)

theorem readObject_sound {a0 : Session} {a1 : Nat} {a2 : Nat} {a3 : Nat} {s : State} (hs : Sound s) :
    Sound (readObject a0 a1 a2 a3 s).2 := by
  unfold readObject
  split
  · with_reducible assumption
  · split
    · with_reducible assumption
    · split
      · with_reducible assumption
      · split
        · with_reducible assumption
        · split
          · with_reducible assumption
          · split
            · with_reducible assumption
            · dsimp -zeta only
              refine sound_of_eq (by with_reducible assumption) ?_
              with_reducible refine readOctets_sound ?_
              with_reducible assumption

theorem execRead_sound {a0 : Req} {a1 : Nat} {a2 : Nat} {a3 : Nat} {s : State} (hs : Sound s) :
    OutSound (execRead a0 a1 a2 a3 s) := by
  unfold execRead
  refine next_sound (serve_sound ?_ hs)
  intro x t ht
  dsimp only
  split
  · rename_i h
    split at h
    · exact waitingRead_sound ht h
    · cases h
  · exact readObject_sound ht

end Sys2Proof.Machine
end

