-- ==== Sys2Proof/Laws/SoundWrite.lean ====
section
/-! SUPPORT. What Machine/Write.lean does keeps a sound state sound. -/

namespace Sys2Proof.Machine

theorem stagedRange_sound {s : State} (hs : Sound s) :
    Sound (stagedRange s) := by
  unfold stagedRange
  with_reducible refine setO_sound ?_
  with_reducible assumption

/-- Every command that a row may be keeps a sound state sound. -/
def RowSound (o : Option (State → Host.Outcome State Fault Refusal)) : Prop :=
  ∀ f, o = some f → ∀ s, Sound s → OutSound (f s)

theorem rowSound_none : RowSound none := fun _ h => by cases h

theorem rowSound_some {f : State → Host.Outcome State Fault Refusal} (h : ∀ s, Sound s → OutSound (f s)) :
    RowSound (some f) := fun _ e => by cases e; exact h

theorem rowSound_or {a b : Option (State → Host.Outcome State Fault Refusal)} (ha : RowSound a) (hb : RowSound b) :
    RowSound (a.or b) := by
  cases a with
  | none => exact hb
  | some f => exact ha

theorem blockRow_sound {r : Req} {idx sub start : Nat} {data : List Octet} : RowSound (blockRow r idx sub start data) := by
  unfold blockRow
  extract_lets w
  split
  case h_12 => exact rowSound_none
  all_goals refine rowSound_some (fun s hs => ?_)
  · exact execImWordWrite_sound hs
  · exact execDictEntryWrite_sound hs
  · exact execExsEntryWrite_sound hs
  · exact execDmWordWrite_sound hs
  · exact execFarWordWrite_sound hs
  · exact execProbeMapWrite_sound hs
  · exact execUpdDataWrite_sound hs
  · exact execStageDataWrite_sound hs
  · exact execCellConfigWrite_sound hs
  · exact execInjectionMapWrite_sound hs
  · exact execUfProgram_sound hs

theorem execWriteBlock_sound {a0 : Req} {a1 a2 a3 : Nat} {a4 : List Octet} {s : State} (hs : Sound s) :
    OutSound (execWriteBlock a0 a1 a2 a3 a4 s) := by
  unfold execWriteBlock
  have h := blockRow_sound (r := a0) (idx := a1) (sub := a2) (start := a3) (data := a4)
  generalize blockRow a0 a1 a2 a3 a4 = o at h
  cases o with
  | some f => exact h f rfl s hs
  | none => exact next_sound (serveBlock_sound (fun _ _ _ hs => hs) hs)

theorem writeEffect_sound {a0 : Nat} {a1 : Nat} {a2 : Nat} {a3 : Nat} {a4 : List Octet} {s : State} (hs : Sound s) :
    Sound (writeEffect a0 a1 a2 a3 a4 s) := by
  unfold writeEffect
  split
  · with_reducible refine setSel_sound ?_
    with_reducible assumption
  · split
    · with_reducible refine modSerial_sound ?_
      with_reducible assumption
    · extract_lets v0 v1 v2 v3 v4 v5 v6 v7 v8 v9 v10 v11 v12 v13
      clear_value v0
      clear_value v4
      have q14 : Sound v5 := by
        subst v5
        with_reducible refine setO_sound ?_
        with_reducible assumption
      clear_value v5
      have q15 : Sound v7 := by
        subst v7
        split
        · with_reducible assumption
        · with_reducible refine mk_sound ?_ rfl rfl rfl rfl rfl
          with_reducible assumption
      clear_value v7
      have q16 : Sound v8 := by
        subst v8
        with_reducible refine setO_sound ?_
        with_reducible assumption
      clear_value v8
      clear_value v10
      have q17 : Sound v11 := by
        subst v11
        with_reducible refine setO_sound ?_
        with_reducible assumption
      clear_value v11
      split
      · with_reducible refine modSess_sound ?_
        with_reducible assumption
      · with_reducible refine setSeg_sound ?_
        with_reducible assumption
      · with_reducible refine setSeg_sound ?_
        with_reducible assumption
      · with_reducible refine mk_sound ?_ rfl rfl rfl rfl rfl
        with_reducible assumption
      · with_reducible refine mk_sound ?_ rfl rfl rfl rfl rfl
        with_reducible assumption
      · with_reducible refine mk_sound ?_ rfl rfl rfl rfl rfl
        with_reducible assumption
      · split
        · with_reducible assumption
        · with_reducible refine targetOff_sound ?_
          with_reducible assumption
      · with_reducible refine stagedRange_sound ?_
        with_reducible refine setO_sound ?_
        with_reducible assumption
      · with_reducible refine stagedRange_sound ?_
        with_reducible refine setO_sound ?_
        with_reducible assumption
      · with_reducible refine identityChanged_sound ?_
        with_reducible refine setO_sound ?_
        with_reducible assumption
      · with_reducible refine flashFollow_sound ?_
        with_reducible refine setO_sound ?_
        with_reducible assumption
      · with_reducible refine flashFollow_sound ?_
        with_reducible refine setO_sound ?_
        with_reducible assumption
      · with_reducible refine flashFollow_sound ?_
        with_reducible refine setO_sound ?_
        with_reducible assumption
      · with_reducible refine flashFollow_sound ?_
        with_reducible refine setO_sound ?_
        with_reducible assumption
      · with_reducible refine flashFollow_sound ?_
        with_reducible refine setO_sound ?_
        with_reducible assumption
      · with_reducible refine flashFollow_sound ?_
        with_reducible refine setO_sound ?_
        with_reducible assumption
      · with_reducible refine flashFollow_sound ?_
        with_reducible refine setO_sound ?_
        with_reducible assumption
      · with_reducible refine flashFollow_sound ?_
        with_reducible refine setO_sound ?_
        with_reducible assumption
      · split
        · with_reducible refine mk_sound ?_ rfl rfl rfl rfl rfl
          with_reducible assumption
        · with_reducible assumption
      · split
        · with_reducible refine syncRec_sound ?_
          with_reducible assumption
        · with_reducible assumption
      · with_reducible refine setO_sound ?_
        with_reducible assumption

theorem commandRow_sound {r : Req} {idx sub c : Nat} : RowSound (commandRow r idx sub c) := by
  unfold commandRow
  split
  · exact rowSound_some (fun s hs => execRun_sound hs)
  · exact rowSound_some (fun s hs => execStop_sound hs)
  · exact rowSound_some (fun s hs => execStep_sound hs)
  · exact rowSound_some (fun s hs => execRunTo_sound hs)
  · exact rowSound_some (fun s hs => execAbort_sound hs)
  · exact rowSound_some (fun s hs => execDesignReset_sound hs)
  · exact rowSound_some (fun s hs => execPark_sound hs)
  · exact rowSound_some (fun s hs => execStateLoad_sound hs)
  · exact rowSound_some (fun s hs => execDictSwapRequest_sound hs)
  · exact rowSound_some (fun s hs => execDictSwapCancel_sound hs)
  · exact rowSound_some (fun s hs => execXswapRequest_sound hs)
  · exact rowSound_some (fun s hs => execXswapCancel_sound hs)
  · exact rowSound_some (fun s hs => execJoinedSwapRequest_sound hs)
  · exact rowSound_some (fun s hs => execLaneTestStart_sound hs)
  · exact rowSound_some (fun s hs => execLaneTestAbort_sound hs)
  · exact rowSound_some (fun s hs => execLayoutApply_sound hs)
  · exact rowSound_some (fun s hs => execLayoutRevert_sound hs)
  · exact rowSound_some (fun s hs => execCheckpointCommand_sound hs)
  · exact rowSound_some (fun s hs => execRestore_sound hs)
  · exact rowSound_some (fun s hs => execArm_sound hs)
  · exact rowSound_some (fun s hs => execDisarm_sound hs)
  · exact rowSound_some (fun s hs => execForceTrigger_sound hs)
  · exact rowSound_some (fun s hs => execTifReset_sound hs)
  · exact rowSound_some (fun s hs => execImageCheck_sound hs)
  · exact rowSound_some (fun s hs => execImageCheckApply_sound hs)
  · exact rowSound_some (fun s hs => execImageDiscard_sound hs)
  · exact rowSound_none

theorem serviceRow_sound {r : Req} {idx sub c : Nat} : RowSound (serviceRow r idx sub c) := by
  unfold serviceRow
  split
  · exact rowSound_some (fun s hs => execLoadVbat_sound hs)
  · exact rowSound_some (fun s hs => execProgramEfuse_sound hs)
  · exact rowSound_some (fun s hs => execZeroiseVbat_sound hs)
  · exact rowSound_some (fun s hs => execSetEfuseOnly_sound hs)
  · exact rowSound_some (fun s hs => execUpdVerify_sound hs)
  · exact rowSound_some (fun s hs => execUpdCancel_sound hs)
  · exact rowSound_some (fun s hs => execCredLoad_sound hs)
  · exact rowSound_some (fun s hs => execCredClear_sound hs)
  · exact rowSound_some (fun s hs => execStatsClear_sound hs)
  · exact rowSound_some (fun s hs => execStatsFreeze_sound hs)
  · exact rowSound_some (fun s hs => execStatsResume_sound hs)
  · exact rowSound_some (fun s hs => execOdStart_sound hs)
  · exact rowSound_some (fun s hs => execOdAbort_sound hs)
  · exact rowSound_some (fun s hs => execModeStandby_sound hs)
  · exact rowSound_some (fun s hs => execModeAnalyzer_sound hs)
  · exact rowSound_some (fun s hs => execModeIdle_sound hs)
  · exact rowSound_some (fun s hs => execModeService_sound hs)
  · exact rowSound_some (fun s hs => execShutdown_sound hs)
  · exact rowSound_some (fun s hs => execReboot_sound hs)
  · exact rowSound_none

theorem valueRow_sound {r : Req} {idx sub : Nat} {v : WVal} : RowSound (valueRow r idx sub v) := by
  unfold valueRow
  split
  · exact rowSound_some (fun s hs => execImWordWrite_sound hs)
  · exact rowSound_some (fun s hs => execImWordWrite_sound hs)
  · exact rowSound_some (fun s hs => execDictEntryWrite_sound hs)
  · exact rowSound_some (fun s hs => execDictEntryWrite_sound hs)
  · exact rowSound_some (fun s hs => execDictSeal_sound hs)
  · exact rowSound_some (fun s hs => execLbsWrite_sound hs)
  · exact rowSound_some (fun s hs => execLbsWrite_sound hs)
  · exact rowSound_some (fun s hs => execDeposit_sound hs)
  · exact rowSound_some (fun s hs => execStepFreqRequest_sound hs)
  · exact rowSound_some (fun s hs => execExsEntryWrite_sound hs)
  · exact rowSound_some (fun s hs => execExsEntryWrite_sound hs)
  · exact rowSound_some (fun s hs => execExsSeal_sound hs)
  · exact rowSound_some (fun s hs => execSystemMembersWrite_sound hs)
  · exact rowSound_some (fun s hs => execDmWordWrite_sound hs)
  · exact rowSound_some (fun s hs => execDmWordWrite_sound hs)
  · exact rowSound_some (fun s hs => execFarWordWrite_sound hs)
  · exact rowSound_some (fun s hs => execFarWordWrite_sound hs)
  · exact rowSound_some (fun s hs => execHostMark_sound hs)
  · exact rowSound_some (fun s hs => execProbeMapWrite_sound hs)
  · exact rowSound_some (fun s hs => execProbeMapWrite_sound hs)
  · exact rowSound_some (fun s hs => execCellConfigWrite_sound hs)
  · exact rowSound_some (fun s hs => execCellConfigWrite_sound hs)
  · exact rowSound_some (fun s hs => execUfProgram_sound hs)
  · exact rowSound_some (fun s hs => execUfErase_sound hs)
  · exact rowSound_some (fun s hs => execPinConfigWrite_sound hs)
  · exact rowSound_some (fun s hs => execOutputMapWrite_sound hs)
  · exact rowSound_some (fun s hs => execInjectionMapWrite_sound hs)
  · exact rowSound_some (fun s hs => execInjectionMapWrite_sound hs)
  · exact rowSound_some (fun s hs => execPatStartWrite_sound hs)
  · exact rowSound_some (fun s hs => execStageDataWrite_sound hs)
  · exact rowSound_some (fun s hs => execOwnerToken_sound hs)
  · exact rowSound_some (fun s hs => execUpdDataWrite_sound hs)
  · exact rowSound_some (fun s hs => execUpdLengthWrite_sound hs)
  · exact rowSound_some (fun s hs => execSetTime_sound hs)
  · exact rowSound_some (fun s hs => execStepRefWrite_sound hs)
  · exact rowSound_some (fun s hs => execGateForced_sound hs)
  · exact rowSound_some (fun s hs => execSinkWrite_sound hs)
  · exact rowSound_some (fun s hs => execSeqUnsuppress_sound hs)
  · exact rowSound_some (fun s hs => execCoreTraceWrite_sound hs)
  · exact rowSound_none

theorem rangeRow_sound {r : Req} {idx sub : Nat} {v : WVal} : RowSound (rangeRow r idx sub v) := by
  unfold rangeRow
  split_ifs
  · exact rowSound_some (fun s hs => execLinkEnableWrite_sound hs)
  · exact rowSound_some (fun s hs => execPortBindingWrite_sound hs)
  · exact rowSound_some (fun s hs => execOscFreqWrite_sound hs)
  · exact rowSound_some (fun s hs => execBankVoltageWrite_sound hs)
  · split
    · exact rowSound_some (fun s hs => execSpSend_sound hs)
    · exact rowSound_some (fun s hs => execSpI2cRead_sound hs)
    · exact rowSound_some (fun s hs => execSpI2cWriteRead_sound hs)
    · exact rowSound_some (fun s hs => execSpAbort_sound hs)
    · exact rowSound_none
  · exact rowSound_some (fun s hs => execMsixMapWrite_sound hs)
  · exact rowSound_some (fun s hs => execPtpConfigWrite_sound hs)
  · exact rowSound_some (fun s hs => execIpAddressWrite_sound hs)
  · exact rowSound_some (fun s hs => execCkoutWrite_sound hs)
  · exact rowSound_some (fun s hs => execDomainRequest_sound hs)
  · exact rowSound_none

theorem objectWrite_sound {idx sub : Nat} {d : WVal} {n : Nat} {s : State} (hs : Sound s) :
    Sound (objectWrite idx sub d n s).2 := by
  unfold objectWrite
  extract_lets v
  split_ifs
  · exact hs
  · exact modeHandler_sound hs
  · exact slotPeriodWrite_sound hs
  · split
    · exact hs
    · exact writeEffect_sound hs

theorem execWrite_sound {a0 : Req} {a1 a2 : Nat} {a3 : WVal} {s : State} (hs : Sound s) :
    OutSound (execWrite a0 a1 a2 a3 s) := by
  unfold execWrite
  have h : RowSound (rowOf a0 a1 a2 a3) :=
    rowSound_or valueRow_sound (rowSound_or commandRow_sound (rowSound_or serviceRow_sound rangeRow_sound))
  generalize rowOf a0 a1 a2 a3 = o at h
  cases o with
  | some f => exact h f rfl s hs
  | none => exact next_sound (serveRun_sound (fun _ _ hs => objectWrite_sound hs) hs)

end Sys2Proof.Machine
end

