-- ==== Sys2Proof/Laws/SoundAcp.lean ====
section
/-! SUPPORT. What Machine/Acp.lean does keeps a sound state sound. -/

namespace Sys2Proof.Machine

theorem execSourceUnlock_sound {a0 : Nat} {a1 : Nat} {s : State} (hs : Sound s) :
    OutSound (execSourceUnlock a0 a1 s) := by
  unfold execSourceUnlock
  extract_lets v0 v1
  clear_value v0
  refine next_sound ?_
  with_reducible refine mk_sound ?_ rfl rfl rfl rfl rfl
  with_reducible assumption

theorem execSessionIdleTimeout_sound {a0 : Nat} {s : State} (hs : Sound s) :
    OutSound (execSessionIdleTimeout a0 s) := by
  unfold execSessionIdleTimeout
  refine next_sound ?_
  split
  · split
    · with_reducible refine chooseDepth_sound ?_
      with_reducible refine closeSession_sound ?_
      with_reducible assumption
    · with_reducible assumption
  · with_reducible assumption

theorem execSubscribe_sound {a0 : Req} {a1 : List Octet} {s : State} (hs : Sound s) :
    OutSound (execSubscribe a0 a1 s) := by
  unfold execSubscribe
  refine next_sound ?_
  with_reducible refine serve_sound ?_ ?_
  · intro z0
    intro z1
    intro z2
    split
    · with_reducible assumption
    · split
      · with_reducible assumption
      · dsimp -zeta only
        with_reducible refine modSess_sound ?_
        with_reducible assumption
  · with_reducible assumption

theorem execProveTimeout_sound {a0 : Nat} {s : State} (hs : Sound s) :
    OutSound (execProveTimeout a0 s) := by
  unfold execProveTimeout
  refine next_sound ?_
  with_reducible refine mk_sound ?_ rfl rfl rfl rfl rfl
  with_reducible assumption

theorem execNegotiate_sound {a0 : Req} {a1 : BitVec 128} {s : State} (hs : Sound s) :
    OutSound (execNegotiate a0 a1 s) := by
  unfold execNegotiate
  refine next_sound ?_
  with_reducible refine serve_sound ?_ ?_
  · intro z0
    intro z1
    intro z2
    split
    · with_reducible assumption
    · extract_lets v3
      clear_value v3
      dsimp -zeta only
      with_reducible refine modSess_sound ?_
      with_reducible assumption
  · with_reducible assumption

theorem undoWaiting_sound {a0 : Nat} {a1 : Nat} {s : State} (hs : Sound s) :
    Sound (undoWaiting a0 a1 s) := by
  unfold undoWaiting
  extract_lets v0 v1 v2 v3 v4 v5
  have q6 : Sound v1 := by
    subst v1
    refine foldl_sound ?_ ?_
    · intro z7
      intro z8
      intro z9
      split
      · with_reducible refine setStart_sound ?_
        with_reducible assumption
      · with_reducible assumption
    · with_reducible assumption
  clear_value v1
  have q10 : Sound v3 := by
    subst v3
    with_reducible refine mk_sound ?_ rfl rfl rfl rfl rfl
    with_reducible assumption
  clear_value v3
  split
  · split
    · extract_lets v11
      have q12 : Sound v11 := by
        subst v11
        with_reducible refine setO_sound ?_
        with_reducible assumption
      clear_value v11
      with_reducible refine mk_sound ?_ rfl rfl rfl rfl rfl
      with_reducible assumption
    · with_reducible assumption
  · with_reducible assumption

theorem proveFailed_sound {a0 : Req} {a1 : Session} {s : State} (hs : Sound s) :
    Sound (proveFailed a0 a1 s) := by
  unfold proveFailed
  extract_lets v0 v1 v2 v3 v4 v5 v6
  clear_value v0
  have q7 : Sound v1 := by
    subst v1
    with_reducible refine incO_sound ?_
    with_reducible assumption
  clear_value v1
  clear_value v2
  clear_value v3
  have q8 : Sound v5 := by
    subst v5
    with_reducible refine mk_sound ?_ rfl rfl rfl rfl rfl
    with_reducible assumption
  clear_value v5
  split
  · with_reducible refine mk_sound ?_ rfl rfl rfl rfl rfl
    with_reducible assumption
  · with_reducible refine raise_sound ?_
    with_reducible refine incO_sound ?_
    with_reducible assumption

theorem challenge_sound {a0 : Via} {a1 : Nat} {a2 : Status} {a3 : BitVec 128} {s : State} (hs : Sound s) :
    Sound (challenge a0 a1 a2 a3 s) := by
  unfold challenge
  extract_lets v0 v1
  have q2 : Sound v0 := by
    subst v0
    with_reducible refine emit_sound ?_
    with_reducible assumption
  clear_value v0
  clear_value v1
  split
  · with_reducible refine replyRingPut_sound ?_
    with_reducible assumption
  · split
    · refine sound_of_eq (by with_reducible assumption) ?_
      with_reducible refine transmit_sound ?_
      with_reducible assumption
    · with_reducible refine emit_sound ?_
      refine sound_of_eq (by with_reducible assumption) ?_
      with_reducible refine transmit_sound ?_
      with_reducible assumption

theorem execBadFrame_sound {a0 : Nat} {a1 : List Octet} {s : State} (hs : Sound s) :
    OutSound (execBadFrame a0 a1 s) := by
  unfold execBadFrame
  refine next_sound ?_
  split
  · with_reducible refine incO_sound ?_
    with_reducible assumption
  · with_reducible assumption

theorem proveAccepted_sound {a0 : Req} {a1 : Session} {s : State} (hs : Sound s) :
    Sound (proveAccepted a0 a1 s) := by
  unfold proveAccepted
  extract_lets v0 v1 v2 v3
  clear_value v0
  clear_value v1
  have q4 : Sound v2 := by
    subst v2
    with_reducible refine modSess_sound ?_
    with_reducible assumption
  clear_value v2
  have q5 : Sound v3 := by
    subst v3
    with_reducible refine answer_sound ?_
    with_reducible assumption
  clear_value v3
  with_reducible refine raise_sound ?_
  with_reducible assumption

theorem execClose_sound {a0 : Req} {s : State} (hs : Sound s) :
    OutSound (execClose a0 s) := by
  unfold execClose
  extract_lets v0
  have q1 : Sound v0 := by
    subst v0
    with_reducible refine serve_sound ?_ ?_
    · intro z2
      intro z3
      intro z4
      with_reducible assumption
    · with_reducible assumption
  clear_value v0
  refine next_sound ?_
  split
  · with_reducible refine chooseDepth_sound ?_
    with_reducible refine closeSession_sound ?_
    with_reducible assumption
  · with_reducible assumption

theorem proveAwake_sound {a0 : Req} {a1 : BitVec 256} {s : State} (hs : Sound s) :
    Sound (proveAwake a0 a1 s) := by
  unfold proveAwake
  split
  · with_reducible refine incO_sound ?_
    with_reducible assumption
  · split
    · with_reducible refine incO_sound ?_
      with_reducible assumption
    · split
      · with_reducible refine serveAwake_sound ?_ ?_
        · intro z0
          intro z1
          intro z2
          with_reducible assumption
        · with_reducible assumption
      · split
        · with_reducible refine proveAccepted_sound ?_
          with_reducible assumption
        · with_reducible refine proveFailed_sound ?_
          with_reducible assumption

theorem execServiceTimeout_sound {a0 : Nat} {a1 : Nat} {s : State} (hs : Sound s) :
    OutSound (execServiceTimeout a0 a1 s) := by
  unfold execServiceTimeout
  refine next_sound ?_
  split
  · split
    · with_reducible refine answerWaiting_sound ?_
      with_reducible refine undoWaiting_sound ?_
      with_reducible assumption
    · with_reducible assumption
  · with_reducible assumption

theorem openAwake_sound {a0 : Nat} {a1 : Nat} {a2 : Nat} {a3 : Nat} {a4 : Nat} {a5 : BitVec 128} {s : State} (hs : Sound s) :
    Sound (openAwake a0 a1 a2 a3 a4 a5 s) := by
  unfold openAwake
  extract_lets v0 v1 v2 v3 v4 v5
  split
  split
  · extract_lets v6 v7 v8 v9
    clear_value v6
    have q10 : Sound v9 := by
      subst v9
      with_reducible refine mk_sound ?_ rfl rfl rfl rfl rfl
      refine sound_of_eq (by with_reducible assumption) ?_
      with_reducible refine takeNonce_sound ?_
      with_reducible assumption
    clear_value v9
    with_reducible refine challenge_sound ?_
    with_reducible assumption
  · with_reducible refine challenge_sound ?_
    refine sound_of_eq (by with_reducible assumption) ?_
    with_reducible refine takeNonce_sound ?_
    with_reducible assumption

theorem execOpenFrame_sound {a0 : Nat} {a1 : Sender} {a2 : Nat} {a3 : Nat} {a4 : BitVec 128} {s : State} (hs : Sound s) :
    OutSound (execOpenFrame a0 a1 a2 a3 a4 s) := by
  unfold execOpenFrame
  refine next_sound ?_
  split
  · with_reducible assumption
  · with_reducible refine chooseDepth_sound ?_
    with_reducible refine openAwake_sound ?_
    with_reducible refine wakeDepth_sound ?_
    with_reducible assumption

theorem execProve_sound {a0 : Req} {a1 : BitVec 256} {s : State} (hs : Sound s) :
    OutSound (execProve a0 a1 s) := by
  unfold execProve
  refine next_sound ?_
  split
  · with_reducible assumption
  · with_reducible refine chooseDepth_sound ?_
    with_reducible refine proveAwake_sound ?_
    with_reducible refine wakeDepth_sound ?_
    with_reducible assumption

end Sys2Proof.Machine
end

