-- ==== Sys2Proof/Laws/SoundExec.lean ====
section
/-! SUPPORT. Every command keeps a sound state sound, arm by arm of the dispatch. -/

namespace Sys2Proof.Machine

theorem exec_sound (c : Instr) {s : State} (hs : Sound s) : OutSound (exec c s) := by
  cases c
  case sweepStep => exact execSweepStep_sound hs
  case commitWindow => exact execCommitWindow_sound hs
  case waitBlock => exact execWaitBlock_sound hs
  case holdCausesCleared => exact execHoldCausesCleared_sound hs
  case sweepStart => exact execSweepStart_sound hs
  case syncTimeout => exact execSyncTimeout_sound hs
  case run => exact execRun_sound hs
  case stop => exact execStop_sound hs
  case step => exact execStep_sound hs
  case runTo => exact execRunTo_sound hs
  case abort => exact execAbort_sound hs
  case designReset => exact execDesignReset_sound hs
  case park => exact execPark_sound hs
  case stateLoad => exact execStateLoad_sound hs
  case stepFreqRequest => exact execStepFreqRequest_sound hs
  case taperIncrement => exact execTaperIncrement_sound hs
  case taperRampDone => exact execTaperRampDone_sound hs
  case stepRefWrite => exact execStepRefWrite_sound hs
  case referenceLost => exact execReferenceLost_sound hs
  case referenceRestored => exact execReferenceRestored_sound hs
  case pllFailed => exact execPllFailed_sound hs
  case clockForced => exact execClockForced_sound hs
  case imWordWrite => exact execImWordWrite_sound hs
  case dictEntryWrite => exact execDictEntryWrite_sound hs
  case dictSeal => exact execDictSeal_sound hs
  case dictSwapRequest => exact execDictSwapRequest_sound hs
  case dictSwapCancel => exact execDictSwapCancel_sound hs
  case lbsWrite => exact execLbsWrite_sound hs
  case deposit => exact execDeposit_sound hs
  case exsEntryWrite => exact execExsEntryWrite_sound hs
  case exsSeal => exact execExsSeal_sound hs
  case xswapRequest => exact execXswapRequest_sound hs
  case xswapCancel => exact execXswapCancel_sound hs
  case joinedSwapRequest => exact execJoinedSwapRequest_sound hs
  case linkEnableWrite => exact execLinkEnableWrite_sound hs
  case trainingDone => exact execTrainingDone_sound hs
  case identityReceived => exact execIdentityReceived_sound hs
  case identitySend => exact execIdentitySend_sound hs
  case superframeReceived => exact execSuperframeReceived_sound hs
  case portRetrain => exact execPortRetrain_sound hs
  case status => exact execStatus_sound hs
  case stoppedFwd => exact execStoppedFwd_sound hs
  case faultFwd => exact execFaultFwd_sound hs
  case echo => exact execEcho_sound hs
  case echoReply => exact execEchoReply_sound hs
  case spareReq => exact execSpareReq_sound hs
  case spareRequestSend => exact execSpareRequestSend_sound hs
  case laneSpared => exact execLaneSpared_sound hs
  case guardMessageReceived => exact execGuardMessageReceived_sound hs
  case laneTestStart => exact execLaneTestStart_sound hs
  case laneTestAbort => exact execLaneTestAbort_sound hs
  case laneTestDone => exact execLaneTestDone_sound hs
  case systemMembersWrite => exact execSystemMembersWrite_sound hs
  case farDelivery => exact execFarDelivery_sound hs
  case farWriteRetired => exact execFarWriteRetired_sound hs
  case correctionWriteBack => exact execCorrectionWriteBack_sound hs
  case dmWordWrite => exact execDmWordWrite_sound hs
  case farWordWrite => exact execFarWordWrite_sound hs
  case portBindingWrite => exact execPortBindingWrite_sound hs
  case layoutApply => exact execLayoutApply_sound hs
  case layoutRevert => exact execLayoutRevert_sound hs
  case layoutApplied => exact execLayoutApplied_sound hs
  case checkpointCommand => exact execCheckpointCommand_sound hs
  case deferredSnapshot => exact execDeferredSnapshot_sound hs
  case drainComplete => exact execDrainComplete_sound hs
  case stimulusRecordAccepted => exact execStimulusRecordAccepted_sound hs
  case restore => exact execRestore_sound hs
  case replayDone => exact execReplayDone_sound hs
  case spareSubstituted => exact execSpareSubstituted_sound hs
  case clusterRecovered => exact execClusterRecovered_sound hs
  case arm => exact execArm_sound hs
  case disarm => exact execDisarm_sound hs
  case forceTrigger => exact execForceTrigger_sound hs
  case hostMark => exact execHostMark_sound hs
  case probeMapWrite => exact execProbeMapWrite_sound hs
  case timeRecord => exact execTimeRecord_sound hs
  case captureAccept => exact execCaptureAccept_sound hs
  case extCalibrated => exact execExtCalibrated_sound hs
  case extSample => exact execExtSample_sound hs
  case cellConfigWrite => exact execCellConfigWrite_sound hs
  case tifReset => exact execTifReset_sound hs
  case oscFreqWrite => exact execOscFreqWrite_sound hs
  case ufRead => exact execUfRead_sound hs
  case ufErase => exact execUfErase_sound hs
  case ufProgram => exact execUfProgram_sound hs
  case spSend => exact execSpSend_sound hs
  case spI2cRead => exact execSpI2cRead_sound hs
  case spI2cWriteRead => exact execSpI2cWriteRead_sound hs
  case spAbort => exact execSpAbort_sound hs
  case serialDone => exact execSerialDone_sound hs
  case busStuck => exact execBusStuck_sound hs
  case uartReceive => exact execUartReceive_sound hs
  case bankVoltageWrite => exact execBankVoltageWrite_sound hs
  case bankFault => exact execBankFault_sound hs
  case pinConfigWrite => exact execPinConfigWrite_sound hs
  case outputMapWrite => exact execOutputMapWrite_sound hs
  case injectionMapWrite => exact execInjectionMapWrite_sound hs
  case patStartWrite => exact execPatStartWrite_sound hs
  case stageDataWrite => exact execStageDataWrite_sound hs
  case imageCheck => exact execImageCheck_sound hs
  case imageCheckApply => exact execImageCheckApply_sound hs
  case imageDiscard => exact execImageDiscard_sound hs
  case imageCheckDone => exact execImageCheckDone_sound hs
  case regionWriteDone => exact execRegionWriteDone_sound hs
  case shadowApplyDone => exact execShadowApplyDone_sound hs
  case ownerToken => exact execOwnerToken_sound hs
  case loadVbat => exact execLoadVbat_sound hs
  case programEfuse => exact execProgramEfuse_sound hs
  case zeroiseVbat => exact execZeroiseVbat_sound hs
  case setEfuseOnly => exact execSetEfuseOnly_sound hs
  case tamperZeroised => exact execTamperZeroised_sound hs
  case updLengthWrite => exact execUpdLengthWrite_sound hs
  case updDataWrite => exact execUpdDataWrite_sound hs
  case updVerify => exact execUpdVerify_sound hs
  case updCancel => exact execUpdCancel_sound hs
  case boot => rw [exec]; exact execBoot_sound hs
  case doneRise => exact execDoneRise_sound hs
  case doneTimeout => exact execDoneTimeout_sound hs
  case openFrame => exact execOpenFrame_sound hs
  case prove => exact execProve_sound hs
  case proveTimeout => exact execProveTimeout_sound hs
  case sourceUnlock => exact execSourceUnlock_sound hs
  case negotiate => exact execNegotiate_sound hs
  case read => exact execRead_sound hs
  case write => exact execWrite_sound hs
  case readBlock => exact execReadBlock_sound hs
  case writeBlock => exact execWriteBlock_sound hs
  case subscribe => exact execSubscribe_sound hs
  case close => exact execClose_sound hs
  case badFrame => rw [exec]; exact execBadFrame_sound hs
  case sessionIdleTimeout => exact execSessionIdleTimeout_sound hs
  case serviceTimeout => exact execServiceTimeout_sound hs
  case credLoad => exact execCredLoad_sound hs
  case credClear => exact execCredClear_sound hs
  case pcieReset => exact execPcieReset_sound hs
  case bar2Read => exact execBar2Read_sound hs
  case bar2Write => exact execBar2Write_sound hs
  case apWrite => exact execApWrite_sound hs
  case mbSlotSubmit => exact execMbSlotSubmit_sound hs
  case mbControlWrite => exact execMbControlWrite_sound hs
  case mailboxRingFull => exact execMailboxRingFull_sound hs
  case dmaDoorbell => exact execDmaDoorbell_sound hs
  case dmaDescriptorDone => exact execDmaDescriptorDone_sound hs
  case dmaEnable => exact execDmaEnable_sound hs
  case dmaStop => exact execDmaStop_sound hs
  case pcieCreditStall => exact execPcieCreditStall_sound hs
  case packetReceived => exact execPacketReceived_sound hs
  case routingTableSwitch => exact execRoutingTableSwitch_sound hs
  case statsClear => exact execStatsClear_sound hs
  case statsFreeze => exact execStatsFreeze_sound hs
  case statsResume => exact execStatsResume_sound hs
  case msixMapWrite => exact execMsixMapWrite_sound hs
  case frcWrap => exact execFrcWrap_sound hs
  case setTime => exact execSetTime_sound hs
  case ptpMessage => exact execPtpMessage_sound hs
  case pathFreezeEnd => exact execPathFreezeEnd_sound hs
  case masterLost => exact execMasterLost_sound hs
  case ptpTransmit => exact execPtpTransmit_sound hs
  case tcFollowupMissed => exact execTcFollowupMissed_sound hs
  case ptpConfigWrite => exact execPtpConfigWrite_sound hs
  case phyPoll => exact execPhyPoll_sound hs
  case mgmtFrame => exact execMgmtFrame_sound hs
  case switchForward => exact execSwitchForward_sound hs
  case macAging => exact execMacAging_sound hs
  case reassemblyExpiry => exact execReassemblyExpiry_sound hs
  case dhcpRenew => exact execDhcpRenew_sound hs
  case addressProbe => exact execAddressProbe_sound hs
  case ipAddressWrite => exact execIpAddressWrite_sound hs
  case modeStandby => exact execModeStandby_sound hs
  case modeAnalyzer => exact execModeAnalyzer_sound hs
  case modeIdle => exact execModeIdle_sound hs
  case modeService => exact execModeService_sound hs
  case shutdown => exact execShutdown_sound hs
  case reboot => exact execReboot_sound hs
  case idleWake => exact execIdleWake_sound hs
  case wakeLate => exact execWakeLate_sound hs
  case vinGood => exact execVinGood_sound hs
  case vinUndervoltage => exact execVinUndervoltage_sound hs
  case vinOvervoltage => exact execVinOvervoltage_sound hs
  case resetNLow => exact execResetNLow_sound hs
  case resetNRise => exact execResetNRise_sound hs
  case pfail => exact execPfail_sound hs
  case pfailNHigh => exact execPfailNHigh_sound hs
  case standbyWake => exact execStandbyWake_sound hs
  case dutyAdjust => exact execDutyAdjust_sound hs
  case thermalHalt => exact execThermalHalt_sound hs
  case thermalTrip => exact execThermalTrip_sound hs
  case powerLimitChanged => exact execPowerLimitChanged_sound hs
  case domainRequest => exact execDomainRequest_sound hs
  case gateForced => exact execGateForced_sound hs
  case ckoutWrite => exact execCkoutWrite_sound hs
  case scheduledTest => exact execScheduledTest_sound hs
  case testProgressRecord => exact execTestProgressRecord_sound hs
  case odStart => exact execOdStart_sound hs
  case odAbort => exact execOdAbort_sound hs
  case ondemandDone => exact execOndemandDone_sound hs
  case tallowPatrol => exact execTallowPatrol_sound hs
  case tallowVote => exact execTallowVote_sound hs
  case tallowReset => exact execTallowReset_sound hs
  case sinkWrite => exact execSinkWrite_sound hs
  case seqUnsuppress => exact execSeqUnsuppress_sound hs
  case coreTraceWrite => exact execCoreTraceWrite_sound hs
  case traceOverflow => exact execTraceOverflow_sound hs
  case symbolLockLost => exact execSymbolLockLost_sound hs
  case transportLost => exact execTransportLost_sound hs
  case ringConsumerWrite => exact execRingConsumerWrite_sound hs
  case msixUnmask => exact execMsixUnmask_sound hs
  case configurationRequest => exact execConfigurationRequest_sound hs
  case ufOperationDone => exact execUfOperationDone_sound hs
  case updateEraseDone => exact execUpdateEraseDone_sound hs
  case bankRailSettled => exact execBankRailSettled_sound hs
  case tifClockEdge => exact execTifClockEdge_sound hs
  case laneTest => exact execLaneTest_sound hs
  case tapInstruction => exact execTapInstruction_sound hs

/-- The queue is no part of soundness. -/
theorem pending_sound {s : State} (l : List Instr) (hs : Sound s) : Sound { s with pending := l } :=
  ⟨hs.objects, hs.dram, hs.log, hs.writes, hs.deposits⟩

/-- What a command leaves of a sound state is sound. -/
theorem exec_next_sound {c : Instr} {s t : State} (hs : Sound s) (h : exec c s = .next t) : Sound t :=
  exec_sound c hs t h

end Sys2Proof.Machine
end

