-- ==== Sys2Proof/Laws/State.lean ====
section
/-! SUPPORT. What each update of the state leaves alone: one lemma per field per update. -/

namespace Sys2Proof.Machine

@[simp] theorem setO_pending (s : State) (i j v : Nat) : (s.setO i j v).pending = s.pending := rfl
@[simp] theorem setO_free (s : State) (i j v : Nat) : (s.setO i j v).free = s.free := rfl
@[simp] theorem setO_moduleId (s : State) (i j v : Nat) : (s.setO i j v).moduleId = s.moduleId := rfl
@[simp] theorem setO_out (s : State) (i j v : Nat) : (s.setO i j v).out = s.out := rfl
@[simp] theorem setO_acp (s : State) (i j v : Nat) : (s.setO i j v).acp = s.acp := rfl
@[simp] theorem setO_lanes (s : State) (i j v : Nat) : (s.setO i j v).lanes = s.lanes := rfl
@[simp] theorem setO_dswap (s : State) (i j v : Nat) : (s.setO i j v).dswap = s.dswap := rfl
@[simp] theorem setO_xswap (s : State) (i j v : Nat) : (s.setO i j v).xswap = s.xswap := rfl
@[simp] theorem setO_ex (s : State) (i j v : Nat) : (s.setO i j v).ex = s.ex := rfl
@[simp] theorem setO_mem (s : State) (i j v : Nat) : (s.setO i j v).mem = s.mem := rfl
@[simp] theorem setO_run (s : State) (i j v : Nat) : (s.setO i j v).run = s.run := rfl
@[simp] theorem setO_lan (s : State) (i j v : Nat) : (s.setO i j v).lan = s.lan := rfl
@[simp] theorem setO_rew (s : State) (i j v : Nat) : (s.setO i j v).rew = s.rew := rfl
@[simp] theorem setO_tif (s : State) (i j v : Nat) : (s.setO i j v).tif = s.tif := rfl
@[simp] theorem setO_img (s : State) (i j v : Nat) : (s.setO i j v).img = s.img := rfl
@[simp] theorem setO_boot (s : State) (i j v : Nat) : (s.setO i j v).boot = s.boot := rfl
@[simp] theorem setO_keys (s : State) (i j v : Nat) : (s.setO i j v).keys = s.keys := rfl
@[simp] theorem setO_pwr (s : State) (i j v : Nat) : (s.setO i j v).pwr = s.pwr := rfl
@[simp] theorem setO_clk (s : State) (i j v : Nat) : (s.setO i j v).clk = s.clk := rfl
@[simp] theorem setO_time (s : State) (i j v : Nat) : (s.setO i j v).time = s.time := rfl
@[simp] theorem setO_net (s : State) (i j v : Nat) : (s.setO i j v).net = s.net := rfl
@[simp] theorem setO_host (s : State) (i j v : Nat) : (s.setO i j v).host = s.host := rfl
@[simp] theorem setO_test (s : State) (i j v : Nat) : (s.setO i j v).test = s.test := rfl
@[simp] theorem setO_trace (s : State) (i j v : Nat) : (s.setO i j v).trace = s.trace := rfl
@[simp] theorem setO_tap (s : State) (i j v : Nat) : (s.setO i j v).tap = s.tap := rfl

@[simp] theorem incO_pending (s : State) (i j v : Nat) : (s.incO i j v).pending = s.pending := rfl
@[simp] theorem incO_free (s : State) (i j v : Nat) : (s.incO i j v).free = s.free := rfl
@[simp] theorem incO_moduleId (s : State) (i j v : Nat) : (s.incO i j v).moduleId = s.moduleId := rfl
@[simp] theorem incO_out (s : State) (i j v : Nat) : (s.incO i j v).out = s.out := rfl
@[simp] theorem incO_acp (s : State) (i j v : Nat) : (s.incO i j v).acp = s.acp := rfl
@[simp] theorem incO_lanes (s : State) (i j v : Nat) : (s.incO i j v).lanes = s.lanes := rfl
@[simp] theorem incO_dswap (s : State) (i j v : Nat) : (s.incO i j v).dswap = s.dswap := rfl
@[simp] theorem incO_xswap (s : State) (i j v : Nat) : (s.incO i j v).xswap = s.xswap := rfl
@[simp] theorem incO_ex (s : State) (i j v : Nat) : (s.incO i j v).ex = s.ex := rfl
@[simp] theorem incO_mem (s : State) (i j v : Nat) : (s.incO i j v).mem = s.mem := rfl
@[simp] theorem incO_run (s : State) (i j v : Nat) : (s.incO i j v).run = s.run := rfl
@[simp] theorem incO_lan (s : State) (i j v : Nat) : (s.incO i j v).lan = s.lan := rfl
@[simp] theorem incO_rew (s : State) (i j v : Nat) : (s.incO i j v).rew = s.rew := rfl
@[simp] theorem incO_tif (s : State) (i j v : Nat) : (s.incO i j v).tif = s.tif := rfl
@[simp] theorem incO_img (s : State) (i j v : Nat) : (s.incO i j v).img = s.img := rfl
@[simp] theorem incO_boot (s : State) (i j v : Nat) : (s.incO i j v).boot = s.boot := rfl
@[simp] theorem incO_keys (s : State) (i j v : Nat) : (s.incO i j v).keys = s.keys := rfl
@[simp] theorem incO_pwr (s : State) (i j v : Nat) : (s.incO i j v).pwr = s.pwr := rfl
@[simp] theorem incO_clk (s : State) (i j v : Nat) : (s.incO i j v).clk = s.clk := rfl
@[simp] theorem incO_time (s : State) (i j v : Nat) : (s.incO i j v).time = s.time := rfl
@[simp] theorem incO_net (s : State) (i j v : Nat) : (s.incO i j v).net = s.net := rfl
@[simp] theorem incO_host (s : State) (i j v : Nat) : (s.incO i j v).host = s.host := rfl
@[simp] theorem incO_test (s : State) (i j v : Nat) : (s.incO i j v).test = s.test := rfl
@[simp] theorem incO_trace (s : State) (i j v : Nat) : (s.incO i j v).trace = s.trace := rfl
@[simp] theorem incO_tap (s : State) (i j v : Nat) : (s.incO i j v).tap = s.tap := rfl

@[simp] theorem maxO_pending (s : State) (i j v : Nat) : (s.maxO i j v).pending = s.pending := rfl
@[simp] theorem maxO_free (s : State) (i j v : Nat) : (s.maxO i j v).free = s.free := rfl
@[simp] theorem maxO_moduleId (s : State) (i j v : Nat) : (s.maxO i j v).moduleId = s.moduleId := rfl
@[simp] theorem maxO_out (s : State) (i j v : Nat) : (s.maxO i j v).out = s.out := rfl
@[simp] theorem maxO_acp (s : State) (i j v : Nat) : (s.maxO i j v).acp = s.acp := rfl
@[simp] theorem maxO_lanes (s : State) (i j v : Nat) : (s.maxO i j v).lanes = s.lanes := rfl
@[simp] theorem maxO_dswap (s : State) (i j v : Nat) : (s.maxO i j v).dswap = s.dswap := rfl
@[simp] theorem maxO_xswap (s : State) (i j v : Nat) : (s.maxO i j v).xswap = s.xswap := rfl
@[simp] theorem maxO_ex (s : State) (i j v : Nat) : (s.maxO i j v).ex = s.ex := rfl
@[simp] theorem maxO_mem (s : State) (i j v : Nat) : (s.maxO i j v).mem = s.mem := rfl
@[simp] theorem maxO_run (s : State) (i j v : Nat) : (s.maxO i j v).run = s.run := rfl
@[simp] theorem maxO_lan (s : State) (i j v : Nat) : (s.maxO i j v).lan = s.lan := rfl
@[simp] theorem maxO_rew (s : State) (i j v : Nat) : (s.maxO i j v).rew = s.rew := rfl
@[simp] theorem maxO_tif (s : State) (i j v : Nat) : (s.maxO i j v).tif = s.tif := rfl
@[simp] theorem maxO_img (s : State) (i j v : Nat) : (s.maxO i j v).img = s.img := rfl
@[simp] theorem maxO_boot (s : State) (i j v : Nat) : (s.maxO i j v).boot = s.boot := rfl
@[simp] theorem maxO_keys (s : State) (i j v : Nat) : (s.maxO i j v).keys = s.keys := rfl
@[simp] theorem maxO_pwr (s : State) (i j v : Nat) : (s.maxO i j v).pwr = s.pwr := rfl
@[simp] theorem maxO_clk (s : State) (i j v : Nat) : (s.maxO i j v).clk = s.clk := rfl
@[simp] theorem maxO_time (s : State) (i j v : Nat) : (s.maxO i j v).time = s.time := rfl
@[simp] theorem maxO_net (s : State) (i j v : Nat) : (s.maxO i j v).net = s.net := rfl
@[simp] theorem maxO_host (s : State) (i j v : Nat) : (s.maxO i j v).host = s.host := rfl
@[simp] theorem maxO_test (s : State) (i j v : Nat) : (s.maxO i j v).test = s.test := rfl
@[simp] theorem maxO_trace (s : State) (i j v : Nat) : (s.maxO i j v).trace = s.trace := rfl
@[simp] theorem maxO_tap (s : State) (i j v : Nat) : (s.maxO i j v).tap = s.tap := rfl

@[simp] theorem emit_pending (s : State) (e : Emission) : (s.emit e).pending = s.pending := rfl
@[simp] theorem emit_obj (s : State) (e : Emission) : (s.emit e).obj = s.obj := rfl
@[simp] theorem emit_free (s : State) (e : Emission) : (s.emit e).free = s.free := rfl
@[simp] theorem emit_moduleId (s : State) (e : Emission) : (s.emit e).moduleId = s.moduleId := rfl
@[simp] theorem emit_acp (s : State) (e : Emission) : (s.emit e).acp = s.acp := rfl
@[simp] theorem emit_lanes (s : State) (e : Emission) : (s.emit e).lanes = s.lanes := rfl
@[simp] theorem emit_dswap (s : State) (e : Emission) : (s.emit e).dswap = s.dswap := rfl
@[simp] theorem emit_xswap (s : State) (e : Emission) : (s.emit e).xswap = s.xswap := rfl
@[simp] theorem emit_ex (s : State) (e : Emission) : (s.emit e).ex = s.ex := rfl
@[simp] theorem emit_mem (s : State) (e : Emission) : (s.emit e).mem = s.mem := rfl
@[simp] theorem emit_run (s : State) (e : Emission) : (s.emit e).run = s.run := rfl
@[simp] theorem emit_lan (s : State) (e : Emission) : (s.emit e).lan = s.lan := rfl
@[simp] theorem emit_rew (s : State) (e : Emission) : (s.emit e).rew = s.rew := rfl
@[simp] theorem emit_tif (s : State) (e : Emission) : (s.emit e).tif = s.tif := rfl
@[simp] theorem emit_img (s : State) (e : Emission) : (s.emit e).img = s.img := rfl
@[simp] theorem emit_boot (s : State) (e : Emission) : (s.emit e).boot = s.boot := rfl
@[simp] theorem emit_keys (s : State) (e : Emission) : (s.emit e).keys = s.keys := rfl
@[simp] theorem emit_pwr (s : State) (e : Emission) : (s.emit e).pwr = s.pwr := rfl
@[simp] theorem emit_clk (s : State) (e : Emission) : (s.emit e).clk = s.clk := rfl
@[simp] theorem emit_time (s : State) (e : Emission) : (s.emit e).time = s.time := rfl
@[simp] theorem emit_net (s : State) (e : Emission) : (s.emit e).net = s.net := rfl
@[simp] theorem emit_host (s : State) (e : Emission) : (s.emit e).host = s.host := rfl
@[simp] theorem emit_test (s : State) (e : Emission) : (s.emit e).test = s.test := rfl
@[simp] theorem emit_trace (s : State) (e : Emission) : (s.emit e).trace = s.trace := rfl
@[simp] theorem emit_tap (s : State) (e : Emission) : (s.emit e).tap = s.tap := rfl
@[simp] theorem emit_o (s : State) (e : Emission) (x y : Nat) : (s.emit e).o x y = s.o x y := rfl

@[simp] theorem modSess_pending (s : State) (n : Nat) (f : Session → Session) : (s.modSess n f).pending = s.pending := rfl
@[simp] theorem modSess_obj (s : State) (n : Nat) (f : Session → Session) : (s.modSess n f).obj = s.obj := rfl
@[simp] theorem modSess_free (s : State) (n : Nat) (f : Session → Session) : (s.modSess n f).free = s.free := rfl
@[simp] theorem modSess_moduleId (s : State) (n : Nat) (f : Session → Session) : (s.modSess n f).moduleId = s.moduleId := rfl
@[simp] theorem modSess_out (s : State) (n : Nat) (f : Session → Session) : (s.modSess n f).out = s.out := rfl
@[simp] theorem modSess_lanes (s : State) (n : Nat) (f : Session → Session) : (s.modSess n f).lanes = s.lanes := rfl
@[simp] theorem modSess_dswap (s : State) (n : Nat) (f : Session → Session) : (s.modSess n f).dswap = s.dswap := rfl
@[simp] theorem modSess_xswap (s : State) (n : Nat) (f : Session → Session) : (s.modSess n f).xswap = s.xswap := rfl
@[simp] theorem modSess_ex (s : State) (n : Nat) (f : Session → Session) : (s.modSess n f).ex = s.ex := rfl
@[simp] theorem modSess_mem (s : State) (n : Nat) (f : Session → Session) : (s.modSess n f).mem = s.mem := rfl
@[simp] theorem modSess_run (s : State) (n : Nat) (f : Session → Session) : (s.modSess n f).run = s.run := rfl
@[simp] theorem modSess_lan (s : State) (n : Nat) (f : Session → Session) : (s.modSess n f).lan = s.lan := rfl
@[simp] theorem modSess_rew (s : State) (n : Nat) (f : Session → Session) : (s.modSess n f).rew = s.rew := rfl
@[simp] theorem modSess_tif (s : State) (n : Nat) (f : Session → Session) : (s.modSess n f).tif = s.tif := rfl
@[simp] theorem modSess_img (s : State) (n : Nat) (f : Session → Session) : (s.modSess n f).img = s.img := rfl
@[simp] theorem modSess_boot (s : State) (n : Nat) (f : Session → Session) : (s.modSess n f).boot = s.boot := rfl
@[simp] theorem modSess_keys (s : State) (n : Nat) (f : Session → Session) : (s.modSess n f).keys = s.keys := rfl
@[simp] theorem modSess_pwr (s : State) (n : Nat) (f : Session → Session) : (s.modSess n f).pwr = s.pwr := rfl
@[simp] theorem modSess_clk (s : State) (n : Nat) (f : Session → Session) : (s.modSess n f).clk = s.clk := rfl
@[simp] theorem modSess_time (s : State) (n : Nat) (f : Session → Session) : (s.modSess n f).time = s.time := rfl
@[simp] theorem modSess_net (s : State) (n : Nat) (f : Session → Session) : (s.modSess n f).net = s.net := rfl
@[simp] theorem modSess_host (s : State) (n : Nat) (f : Session → Session) : (s.modSess n f).host = s.host := rfl
@[simp] theorem modSess_test (s : State) (n : Nat) (f : Session → Session) : (s.modSess n f).test = s.test := rfl
@[simp] theorem modSess_trace (s : State) (n : Nat) (f : Session → Session) : (s.modSess n f).trace = s.trace := rfl
@[simp] theorem modSess_tap (s : State) (n : Nat) (f : Session → Session) : (s.modSess n f).tap = s.tap := rfl
@[simp] theorem modSess_o (s : State) (n : Nat) (f : Session → Session) (x y : Nat) : (s.modSess n f).o x y = s.o x y := rfl

@[simp] theorem setSel_pending (s : State) (n i j v : Nat) : (setSel n i j v s).pending = s.pending := rfl
@[simp] theorem setSel_obj (s : State) (n i j v : Nat) : (setSel n i j v s).obj = s.obj := rfl
@[simp] theorem setSel_free (s : State) (n i j v : Nat) : (setSel n i j v s).free = s.free := rfl
@[simp] theorem setSel_moduleId (s : State) (n i j v : Nat) : (setSel n i j v s).moduleId = s.moduleId := rfl
@[simp] theorem setSel_out (s : State) (n i j v : Nat) : (setSel n i j v s).out = s.out := rfl
@[simp] theorem setSel_lanes (s : State) (n i j v : Nat) : (setSel n i j v s).lanes = s.lanes := rfl
@[simp] theorem setSel_dswap (s : State) (n i j v : Nat) : (setSel n i j v s).dswap = s.dswap := rfl
@[simp] theorem setSel_xswap (s : State) (n i j v : Nat) : (setSel n i j v s).xswap = s.xswap := rfl
@[simp] theorem setSel_ex (s : State) (n i j v : Nat) : (setSel n i j v s).ex = s.ex := rfl
@[simp] theorem setSel_mem (s : State) (n i j v : Nat) : (setSel n i j v s).mem = s.mem := rfl
@[simp] theorem setSel_run (s : State) (n i j v : Nat) : (setSel n i j v s).run = s.run := rfl
@[simp] theorem setSel_lan (s : State) (n i j v : Nat) : (setSel n i j v s).lan = s.lan := rfl
@[simp] theorem setSel_rew (s : State) (n i j v : Nat) : (setSel n i j v s).rew = s.rew := rfl
@[simp] theorem setSel_tif (s : State) (n i j v : Nat) : (setSel n i j v s).tif = s.tif := rfl
@[simp] theorem setSel_img (s : State) (n i j v : Nat) : (setSel n i j v s).img = s.img := rfl
@[simp] theorem setSel_boot (s : State) (n i j v : Nat) : (setSel n i j v s).boot = s.boot := rfl
@[simp] theorem setSel_keys (s : State) (n i j v : Nat) : (setSel n i j v s).keys = s.keys := rfl
@[simp] theorem setSel_pwr (s : State) (n i j v : Nat) : (setSel n i j v s).pwr = s.pwr := rfl
@[simp] theorem setSel_clk (s : State) (n i j v : Nat) : (setSel n i j v s).clk = s.clk := rfl
@[simp] theorem setSel_time (s : State) (n i j v : Nat) : (setSel n i j v s).time = s.time := rfl
@[simp] theorem setSel_net (s : State) (n i j v : Nat) : (setSel n i j v s).net = s.net := rfl
@[simp] theorem setSel_host (s : State) (n i j v : Nat) : (setSel n i j v s).host = s.host := rfl
@[simp] theorem setSel_test (s : State) (n i j v : Nat) : (setSel n i j v s).test = s.test := rfl
@[simp] theorem setSel_trace (s : State) (n i j v : Nat) : (setSel n i j v s).trace = s.trace := rfl
@[simp] theorem setSel_tap (s : State) (n i j v : Nat) : (setSel n i j v s).tap = s.tap := rfl
@[simp] theorem setSel_o (s : State) (n i j v : Nat) (x y : Nat) : (setSel n i j v s).o x y = s.o x y := rfl

@[simp] theorem takeBit_pending (s : State) : (s.takeBit.2).pending = s.pending := rfl
@[simp] theorem takeBit_obj (s : State) : (s.takeBit.2).obj = s.obj := rfl
@[simp] theorem takeBit_moduleId (s : State) : (s.takeBit.2).moduleId = s.moduleId := rfl
@[simp] theorem takeBit_out (s : State) : (s.takeBit.2).out = s.out := rfl
@[simp] theorem takeBit_acp (s : State) : (s.takeBit.2).acp = s.acp := rfl
@[simp] theorem takeBit_lanes (s : State) : (s.takeBit.2).lanes = s.lanes := rfl
@[simp] theorem takeBit_dswap (s : State) : (s.takeBit.2).dswap = s.dswap := rfl
@[simp] theorem takeBit_xswap (s : State) : (s.takeBit.2).xswap = s.xswap := rfl
@[simp] theorem takeBit_ex (s : State) : (s.takeBit.2).ex = s.ex := rfl
@[simp] theorem takeBit_mem (s : State) : (s.takeBit.2).mem = s.mem := rfl
@[simp] theorem takeBit_run (s : State) : (s.takeBit.2).run = s.run := rfl
@[simp] theorem takeBit_lan (s : State) : (s.takeBit.2).lan = s.lan := rfl
@[simp] theorem takeBit_rew (s : State) : (s.takeBit.2).rew = s.rew := rfl
@[simp] theorem takeBit_tif (s : State) : (s.takeBit.2).tif = s.tif := rfl
@[simp] theorem takeBit_img (s : State) : (s.takeBit.2).img = s.img := rfl
@[simp] theorem takeBit_boot (s : State) : (s.takeBit.2).boot = s.boot := rfl
@[simp] theorem takeBit_keys (s : State) : (s.takeBit.2).keys = s.keys := rfl
@[simp] theorem takeBit_pwr (s : State) : (s.takeBit.2).pwr = s.pwr := rfl
@[simp] theorem takeBit_clk (s : State) : (s.takeBit.2).clk = s.clk := rfl
@[simp] theorem takeBit_time (s : State) : (s.takeBit.2).time = s.time := rfl
@[simp] theorem takeBit_net (s : State) : (s.takeBit.2).net = s.net := rfl
@[simp] theorem takeBit_host (s : State) : (s.takeBit.2).host = s.host := rfl
@[simp] theorem takeBit_test (s : State) : (s.takeBit.2).test = s.test := rfl
@[simp] theorem takeBit_trace (s : State) : (s.takeBit.2).trace = s.trace := rfl
@[simp] theorem takeBit_tap (s : State) : (s.takeBit.2).tap = s.tap := rfl
@[simp] theorem takeBit_o (s : State) (x y : Nat) : (s.takeBit.2).o x y = s.o x y := rfl

@[simp] theorem takeNat_pending (s : State) (n : Nat) : ((s.takeNat n).2).pending = s.pending := rfl
@[simp] theorem takeNat_obj (s : State) (n : Nat) : ((s.takeNat n).2).obj = s.obj := rfl
@[simp] theorem takeNat_moduleId (s : State) (n : Nat) : ((s.takeNat n).2).moduleId = s.moduleId := rfl
@[simp] theorem takeNat_out (s : State) (n : Nat) : ((s.takeNat n).2).out = s.out := rfl
@[simp] theorem takeNat_acp (s : State) (n : Nat) : ((s.takeNat n).2).acp = s.acp := rfl
@[simp] theorem takeNat_lanes (s : State) (n : Nat) : ((s.takeNat n).2).lanes = s.lanes := rfl
@[simp] theorem takeNat_dswap (s : State) (n : Nat) : ((s.takeNat n).2).dswap = s.dswap := rfl
@[simp] theorem takeNat_xswap (s : State) (n : Nat) : ((s.takeNat n).2).xswap = s.xswap := rfl
@[simp] theorem takeNat_ex (s : State) (n : Nat) : ((s.takeNat n).2).ex = s.ex := rfl
@[simp] theorem takeNat_mem (s : State) (n : Nat) : ((s.takeNat n).2).mem = s.mem := rfl
@[simp] theorem takeNat_run (s : State) (n : Nat) : ((s.takeNat n).2).run = s.run := rfl
@[simp] theorem takeNat_lan (s : State) (n : Nat) : ((s.takeNat n).2).lan = s.lan := rfl
@[simp] theorem takeNat_rew (s : State) (n : Nat) : ((s.takeNat n).2).rew = s.rew := rfl
@[simp] theorem takeNat_tif (s : State) (n : Nat) : ((s.takeNat n).2).tif = s.tif := rfl
@[simp] theorem takeNat_img (s : State) (n : Nat) : ((s.takeNat n).2).img = s.img := rfl
@[simp] theorem takeNat_boot (s : State) (n : Nat) : ((s.takeNat n).2).boot = s.boot := rfl
@[simp] theorem takeNat_keys (s : State) (n : Nat) : ((s.takeNat n).2).keys = s.keys := rfl
@[simp] theorem takeNat_pwr (s : State) (n : Nat) : ((s.takeNat n).2).pwr = s.pwr := rfl
@[simp] theorem takeNat_clk (s : State) (n : Nat) : ((s.takeNat n).2).clk = s.clk := rfl
@[simp] theorem takeNat_time (s : State) (n : Nat) : ((s.takeNat n).2).time = s.time := rfl
@[simp] theorem takeNat_net (s : State) (n : Nat) : ((s.takeNat n).2).net = s.net := rfl
@[simp] theorem takeNat_host (s : State) (n : Nat) : ((s.takeNat n).2).host = s.host := rfl
@[simp] theorem takeNat_test (s : State) (n : Nat) : ((s.takeNat n).2).test = s.test := rfl
@[simp] theorem takeNat_trace (s : State) (n : Nat) : ((s.takeNat n).2).trace = s.trace := rfl
@[simp] theorem takeNat_tap (s : State) (n : Nat) : ((s.takeNat n).2).tap = s.tap := rfl
@[simp] theorem takeNat_o (s : State) (n : Nat) (x y : Nat) : ((s.takeNat n).2).o x y = s.o x y := rfl

@[simp] theorem takeNonce_pending (s : State) : (s.takeNonce.2).pending = s.pending := rfl
@[simp] theorem takeNonce_obj (s : State) : (s.takeNonce.2).obj = s.obj := rfl
@[simp] theorem takeNonce_moduleId (s : State) : (s.takeNonce.2).moduleId = s.moduleId := rfl
@[simp] theorem takeNonce_out (s : State) : (s.takeNonce.2).out = s.out := rfl
@[simp] theorem takeNonce_acp (s : State) : (s.takeNonce.2).acp = s.acp := rfl
@[simp] theorem takeNonce_lanes (s : State) : (s.takeNonce.2).lanes = s.lanes := rfl
@[simp] theorem takeNonce_dswap (s : State) : (s.takeNonce.2).dswap = s.dswap := rfl
@[simp] theorem takeNonce_xswap (s : State) : (s.takeNonce.2).xswap = s.xswap := rfl
@[simp] theorem takeNonce_ex (s : State) : (s.takeNonce.2).ex = s.ex := rfl
@[simp] theorem takeNonce_mem (s : State) : (s.takeNonce.2).mem = s.mem := rfl
@[simp] theorem takeNonce_run (s : State) : (s.takeNonce.2).run = s.run := rfl
@[simp] theorem takeNonce_lan (s : State) : (s.takeNonce.2).lan = s.lan := rfl
@[simp] theorem takeNonce_rew (s : State) : (s.takeNonce.2).rew = s.rew := rfl
@[simp] theorem takeNonce_tif (s : State) : (s.takeNonce.2).tif = s.tif := rfl
@[simp] theorem takeNonce_img (s : State) : (s.takeNonce.2).img = s.img := rfl
@[simp] theorem takeNonce_boot (s : State) : (s.takeNonce.2).boot = s.boot := rfl
@[simp] theorem takeNonce_keys (s : State) : (s.takeNonce.2).keys = s.keys := rfl
@[simp] theorem takeNonce_pwr (s : State) : (s.takeNonce.2).pwr = s.pwr := rfl
@[simp] theorem takeNonce_clk (s : State) : (s.takeNonce.2).clk = s.clk := rfl
@[simp] theorem takeNonce_time (s : State) : (s.takeNonce.2).time = s.time := rfl
@[simp] theorem takeNonce_net (s : State) : (s.takeNonce.2).net = s.net := rfl
@[simp] theorem takeNonce_host (s : State) : (s.takeNonce.2).host = s.host := rfl
@[simp] theorem takeNonce_test (s : State) : (s.takeNonce.2).test = s.test := rfl
@[simp] theorem takeNonce_trace (s : State) : (s.takeNonce.2).trace = s.trace := rfl
@[simp] theorem takeNonce_tap (s : State) : (s.takeNonce.2).tap = s.tap := rfl
@[simp] theorem takeNonce_o (s : State) (x y : Nat) : (s.takeNonce.2).o x y = s.o x y := rfl

@[simp] theorem modPort_pending (s : State) (p : Nat) (f : Port → Port) : (modPort p f s).pending = s.pending := rfl
@[simp] theorem modPort_obj (s : State) (p : Nat) (f : Port → Port) : (modPort p f s).obj = s.obj := rfl
@[simp] theorem modPort_free (s : State) (p : Nat) (f : Port → Port) : (modPort p f s).free = s.free := rfl
@[simp] theorem modPort_moduleId (s : State) (p : Nat) (f : Port → Port) : (modPort p f s).moduleId = s.moduleId := rfl
@[simp] theorem modPort_out (s : State) (p : Nat) (f : Port → Port) : (modPort p f s).out = s.out := rfl
@[simp] theorem modPort_acp (s : State) (p : Nat) (f : Port → Port) : (modPort p f s).acp = s.acp := rfl
@[simp] theorem modPort_lanes (s : State) (p : Nat) (f : Port → Port) : (modPort p f s).lanes = s.lanes := rfl
@[simp] theorem modPort_dswap (s : State) (p : Nat) (f : Port → Port) : (modPort p f s).dswap = s.dswap := rfl
@[simp] theorem modPort_xswap (s : State) (p : Nat) (f : Port → Port) : (modPort p f s).xswap = s.xswap := rfl
@[simp] theorem modPort_mem (s : State) (p : Nat) (f : Port → Port) : (modPort p f s).mem = s.mem := rfl
@[simp] theorem modPort_run (s : State) (p : Nat) (f : Port → Port) : (modPort p f s).run = s.run := rfl
@[simp] theorem modPort_lan (s : State) (p : Nat) (f : Port → Port) : (modPort p f s).lan = s.lan := rfl
@[simp] theorem modPort_rew (s : State) (p : Nat) (f : Port → Port) : (modPort p f s).rew = s.rew := rfl
@[simp] theorem modPort_tif (s : State) (p : Nat) (f : Port → Port) : (modPort p f s).tif = s.tif := rfl
@[simp] theorem modPort_img (s : State) (p : Nat) (f : Port → Port) : (modPort p f s).img = s.img := rfl
@[simp] theorem modPort_boot (s : State) (p : Nat) (f : Port → Port) : (modPort p f s).boot = s.boot := rfl
@[simp] theorem modPort_keys (s : State) (p : Nat) (f : Port → Port) : (modPort p f s).keys = s.keys := rfl
@[simp] theorem modPort_pwr (s : State) (p : Nat) (f : Port → Port) : (modPort p f s).pwr = s.pwr := rfl
@[simp] theorem modPort_clk (s : State) (p : Nat) (f : Port → Port) : (modPort p f s).clk = s.clk := rfl
@[simp] theorem modPort_time (s : State) (p : Nat) (f : Port → Port) : (modPort p f s).time = s.time := rfl
@[simp] theorem modPort_net (s : State) (p : Nat) (f : Port → Port) : (modPort p f s).net = s.net := rfl
@[simp] theorem modPort_host (s : State) (p : Nat) (f : Port → Port) : (modPort p f s).host = s.host := rfl
@[simp] theorem modPort_test (s : State) (p : Nat) (f : Port → Port) : (modPort p f s).test = s.test := rfl
@[simp] theorem modPort_trace (s : State) (p : Nat) (f : Port → Port) : (modPort p f s).trace = s.trace := rfl
@[simp] theorem modPort_tap (s : State) (p : Nat) (f : Port → Port) : (modPort p f s).tap = s.tap := rfl
@[simp] theorem modPort_o (s : State) (p : Nat) (f : Port → Port) (x y : Nat) : (modPort p f s).o x y = s.o x y := rfl

@[simp] theorem mapLanes_pending (s : State) (f : Nat → LaneRec → LaneRec) : (mapLanes f s).pending = s.pending := rfl
@[simp] theorem mapLanes_obj (s : State) (f : Nat → LaneRec → LaneRec) : (mapLanes f s).obj = s.obj := rfl
@[simp] theorem mapLanes_free (s : State) (f : Nat → LaneRec → LaneRec) : (mapLanes f s).free = s.free := rfl
@[simp] theorem mapLanes_moduleId (s : State) (f : Nat → LaneRec → LaneRec) : (mapLanes f s).moduleId = s.moduleId := rfl
@[simp] theorem mapLanes_out (s : State) (f : Nat → LaneRec → LaneRec) : (mapLanes f s).out = s.out := rfl
@[simp] theorem mapLanes_acp (s : State) (f : Nat → LaneRec → LaneRec) : (mapLanes f s).acp = s.acp := rfl
@[simp] theorem mapLanes_dswap (s : State) (f : Nat → LaneRec → LaneRec) : (mapLanes f s).dswap = s.dswap := rfl
@[simp] theorem mapLanes_xswap (s : State) (f : Nat → LaneRec → LaneRec) : (mapLanes f s).xswap = s.xswap := rfl
@[simp] theorem mapLanes_ex (s : State) (f : Nat → LaneRec → LaneRec) : (mapLanes f s).ex = s.ex := rfl
@[simp] theorem mapLanes_mem (s : State) (f : Nat → LaneRec → LaneRec) : (mapLanes f s).mem = s.mem := rfl
@[simp] theorem mapLanes_run (s : State) (f : Nat → LaneRec → LaneRec) : (mapLanes f s).run = s.run := rfl
@[simp] theorem mapLanes_lan (s : State) (f : Nat → LaneRec → LaneRec) : (mapLanes f s).lan = s.lan := rfl
@[simp] theorem mapLanes_rew (s : State) (f : Nat → LaneRec → LaneRec) : (mapLanes f s).rew = s.rew := rfl
@[simp] theorem mapLanes_tif (s : State) (f : Nat → LaneRec → LaneRec) : (mapLanes f s).tif = s.tif := rfl
@[simp] theorem mapLanes_img (s : State) (f : Nat → LaneRec → LaneRec) : (mapLanes f s).img = s.img := rfl
@[simp] theorem mapLanes_boot (s : State) (f : Nat → LaneRec → LaneRec) : (mapLanes f s).boot = s.boot := rfl
@[simp] theorem mapLanes_keys (s : State) (f : Nat → LaneRec → LaneRec) : (mapLanes f s).keys = s.keys := rfl
@[simp] theorem mapLanes_pwr (s : State) (f : Nat → LaneRec → LaneRec) : (mapLanes f s).pwr = s.pwr := rfl
@[simp] theorem mapLanes_clk (s : State) (f : Nat → LaneRec → LaneRec) : (mapLanes f s).clk = s.clk := rfl
@[simp] theorem mapLanes_time (s : State) (f : Nat → LaneRec → LaneRec) : (mapLanes f s).time = s.time := rfl
@[simp] theorem mapLanes_net (s : State) (f : Nat → LaneRec → LaneRec) : (mapLanes f s).net = s.net := rfl
@[simp] theorem mapLanes_host (s : State) (f : Nat → LaneRec → LaneRec) : (mapLanes f s).host = s.host := rfl
@[simp] theorem mapLanes_test (s : State) (f : Nat → LaneRec → LaneRec) : (mapLanes f s).test = s.test := rfl
@[simp] theorem mapLanes_trace (s : State) (f : Nat → LaneRec → LaneRec) : (mapLanes f s).trace = s.trace := rfl
@[simp] theorem mapLanes_tap (s : State) (f : Nat → LaneRec → LaneRec) : (mapLanes f s).tap = s.tap := rfl
@[simp] theorem mapLanes_o (s : State) (f : Nat → LaneRec → LaneRec) (x y : Nat) : (mapLanes f s).o x y = s.o x y := rfl

@[simp] theorem setLane_pending (s : State) (p : Nat) (r : LaneRec) : (s.setLane p r).pending = s.pending := rfl
@[simp] theorem setLane_obj (s : State) (p : Nat) (r : LaneRec) : (s.setLane p r).obj = s.obj := rfl
@[simp] theorem setLane_free (s : State) (p : Nat) (r : LaneRec) : (s.setLane p r).free = s.free := rfl
@[simp] theorem setLane_moduleId (s : State) (p : Nat) (r : LaneRec) : (s.setLane p r).moduleId = s.moduleId := rfl
@[simp] theorem setLane_out (s : State) (p : Nat) (r : LaneRec) : (s.setLane p r).out = s.out := rfl
@[simp] theorem setLane_acp (s : State) (p : Nat) (r : LaneRec) : (s.setLane p r).acp = s.acp := rfl
@[simp] theorem setLane_dswap (s : State) (p : Nat) (r : LaneRec) : (s.setLane p r).dswap = s.dswap := rfl
@[simp] theorem setLane_xswap (s : State) (p : Nat) (r : LaneRec) : (s.setLane p r).xswap = s.xswap := rfl
@[simp] theorem setLane_ex (s : State) (p : Nat) (r : LaneRec) : (s.setLane p r).ex = s.ex := rfl
@[simp] theorem setLane_mem (s : State) (p : Nat) (r : LaneRec) : (s.setLane p r).mem = s.mem := rfl
@[simp] theorem setLane_run (s : State) (p : Nat) (r : LaneRec) : (s.setLane p r).run = s.run := rfl
@[simp] theorem setLane_lan (s : State) (p : Nat) (r : LaneRec) : (s.setLane p r).lan = s.lan := rfl
@[simp] theorem setLane_rew (s : State) (p : Nat) (r : LaneRec) : (s.setLane p r).rew = s.rew := rfl
@[simp] theorem setLane_tif (s : State) (p : Nat) (r : LaneRec) : (s.setLane p r).tif = s.tif := rfl
@[simp] theorem setLane_img (s : State) (p : Nat) (r : LaneRec) : (s.setLane p r).img = s.img := rfl
@[simp] theorem setLane_boot (s : State) (p : Nat) (r : LaneRec) : (s.setLane p r).boot = s.boot := rfl
@[simp] theorem setLane_keys (s : State) (p : Nat) (r : LaneRec) : (s.setLane p r).keys = s.keys := rfl
@[simp] theorem setLane_pwr (s : State) (p : Nat) (r : LaneRec) : (s.setLane p r).pwr = s.pwr := rfl
@[simp] theorem setLane_clk (s : State) (p : Nat) (r : LaneRec) : (s.setLane p r).clk = s.clk := rfl
@[simp] theorem setLane_time (s : State) (p : Nat) (r : LaneRec) : (s.setLane p r).time = s.time := rfl
@[simp] theorem setLane_net (s : State) (p : Nat) (r : LaneRec) : (s.setLane p r).net = s.net := rfl
@[simp] theorem setLane_host (s : State) (p : Nat) (r : LaneRec) : (s.setLane p r).host = s.host := rfl
@[simp] theorem setLane_test (s : State) (p : Nat) (r : LaneRec) : (s.setLane p r).test = s.test := rfl
@[simp] theorem setLane_trace (s : State) (p : Nat) (r : LaneRec) : (s.setLane p r).trace = s.trace := rfl
@[simp] theorem setLane_tap (s : State) (p : Nat) (r : LaneRec) : (s.setLane p r).tap = s.tap := rfl
@[simp] theorem setLane_o (s : State) (p : Nat) (r : LaneRec) (x y : Nat) : (s.setLane p r).o x y = s.o x y := rfl

@[simp] theorem setIm_pending (s : State) (p w : Nat) (v : BitVec 128) : (s.setIm p w v).pending = s.pending := rfl
@[simp] theorem setIm_obj (s : State) (p w : Nat) (v : BitVec 128) : (s.setIm p w v).obj = s.obj := rfl
@[simp] theorem setIm_free (s : State) (p w : Nat) (v : BitVec 128) : (s.setIm p w v).free = s.free := rfl
@[simp] theorem setIm_moduleId (s : State) (p w : Nat) (v : BitVec 128) : (s.setIm p w v).moduleId = s.moduleId := rfl
@[simp] theorem setIm_out (s : State) (p w : Nat) (v : BitVec 128) : (s.setIm p w v).out = s.out := rfl
@[simp] theorem setIm_acp (s : State) (p w : Nat) (v : BitVec 128) : (s.setIm p w v).acp = s.acp := rfl
@[simp] theorem setIm_dswap (s : State) (p w : Nat) (v : BitVec 128) : (s.setIm p w v).dswap = s.dswap := rfl
@[simp] theorem setIm_xswap (s : State) (p w : Nat) (v : BitVec 128) : (s.setIm p w v).xswap = s.xswap := rfl
@[simp] theorem setIm_ex (s : State) (p w : Nat) (v : BitVec 128) : (s.setIm p w v).ex = s.ex := rfl
@[simp] theorem setIm_mem (s : State) (p w : Nat) (v : BitVec 128) : (s.setIm p w v).mem = s.mem := rfl
@[simp] theorem setIm_run (s : State) (p w : Nat) (v : BitVec 128) : (s.setIm p w v).run = s.run := rfl
@[simp] theorem setIm_lan (s : State) (p w : Nat) (v : BitVec 128) : (s.setIm p w v).lan = s.lan := rfl
@[simp] theorem setIm_rew (s : State) (p w : Nat) (v : BitVec 128) : (s.setIm p w v).rew = s.rew := rfl
@[simp] theorem setIm_tif (s : State) (p w : Nat) (v : BitVec 128) : (s.setIm p w v).tif = s.tif := rfl
@[simp] theorem setIm_img (s : State) (p w : Nat) (v : BitVec 128) : (s.setIm p w v).img = s.img := rfl
@[simp] theorem setIm_boot (s : State) (p w : Nat) (v : BitVec 128) : (s.setIm p w v).boot = s.boot := rfl
@[simp] theorem setIm_keys (s : State) (p w : Nat) (v : BitVec 128) : (s.setIm p w v).keys = s.keys := rfl
@[simp] theorem setIm_pwr (s : State) (p w : Nat) (v : BitVec 128) : (s.setIm p w v).pwr = s.pwr := rfl
@[simp] theorem setIm_clk (s : State) (p w : Nat) (v : BitVec 128) : (s.setIm p w v).clk = s.clk := rfl
@[simp] theorem setIm_time (s : State) (p w : Nat) (v : BitVec 128) : (s.setIm p w v).time = s.time := rfl
@[simp] theorem setIm_net (s : State) (p w : Nat) (v : BitVec 128) : (s.setIm p w v).net = s.net := rfl
@[simp] theorem setIm_host (s : State) (p w : Nat) (v : BitVec 128) : (s.setIm p w v).host = s.host := rfl
@[simp] theorem setIm_test (s : State) (p w : Nat) (v : BitVec 128) : (s.setIm p w v).test = s.test := rfl
@[simp] theorem setIm_trace (s : State) (p w : Nat) (v : BitVec 128) : (s.setIm p w v).trace = s.trace := rfl
@[simp] theorem setIm_tap (s : State) (p w : Nat) (v : BitVec 128) : (s.setIm p w v).tap = s.tap := rfl
@[simp] theorem setIm_o (s : State) (p w : Nat) (v : BitVec 128) (x y : Nat) : (s.setIm p w v).o x y = s.o x y := rfl

@[simp] theorem dramSet_pending (s : State) (a : Nat) (v : Octet) : (s.dramSet a v).pending = s.pending := rfl
@[simp] theorem dramSet_obj (s : State) (a : Nat) (v : Octet) : (s.dramSet a v).obj = s.obj := rfl
@[simp] theorem dramSet_free (s : State) (a : Nat) (v : Octet) : (s.dramSet a v).free = s.free := rfl
@[simp] theorem dramSet_moduleId (s : State) (a : Nat) (v : Octet) : (s.dramSet a v).moduleId = s.moduleId := rfl
@[simp] theorem dramSet_out (s : State) (a : Nat) (v : Octet) : (s.dramSet a v).out = s.out := rfl
@[simp] theorem dramSet_acp (s : State) (a : Nat) (v : Octet) : (s.dramSet a v).acp = s.acp := rfl
@[simp] theorem dramSet_lanes (s : State) (a : Nat) (v : Octet) : (s.dramSet a v).lanes = s.lanes := rfl
@[simp] theorem dramSet_dswap (s : State) (a : Nat) (v : Octet) : (s.dramSet a v).dswap = s.dswap := rfl
@[simp] theorem dramSet_xswap (s : State) (a : Nat) (v : Octet) : (s.dramSet a v).xswap = s.xswap := rfl
@[simp] theorem dramSet_ex (s : State) (a : Nat) (v : Octet) : (s.dramSet a v).ex = s.ex := rfl
@[simp] theorem dramSet_run (s : State) (a : Nat) (v : Octet) : (s.dramSet a v).run = s.run := rfl
@[simp] theorem dramSet_lan (s : State) (a : Nat) (v : Octet) : (s.dramSet a v).lan = s.lan := rfl
@[simp] theorem dramSet_rew (s : State) (a : Nat) (v : Octet) : (s.dramSet a v).rew = s.rew := rfl
@[simp] theorem dramSet_tif (s : State) (a : Nat) (v : Octet) : (s.dramSet a v).tif = s.tif := rfl
@[simp] theorem dramSet_img (s : State) (a : Nat) (v : Octet) : (s.dramSet a v).img = s.img := rfl
@[simp] theorem dramSet_boot (s : State) (a : Nat) (v : Octet) : (s.dramSet a v).boot = s.boot := rfl
@[simp] theorem dramSet_keys (s : State) (a : Nat) (v : Octet) : (s.dramSet a v).keys = s.keys := rfl
@[simp] theorem dramSet_pwr (s : State) (a : Nat) (v : Octet) : (s.dramSet a v).pwr = s.pwr := rfl
@[simp] theorem dramSet_clk (s : State) (a : Nat) (v : Octet) : (s.dramSet a v).clk = s.clk := rfl
@[simp] theorem dramSet_time (s : State) (a : Nat) (v : Octet) : (s.dramSet a v).time = s.time := rfl
@[simp] theorem dramSet_net (s : State) (a : Nat) (v : Octet) : (s.dramSet a v).net = s.net := rfl
@[simp] theorem dramSet_host (s : State) (a : Nat) (v : Octet) : (s.dramSet a v).host = s.host := rfl
@[simp] theorem dramSet_test (s : State) (a : Nat) (v : Octet) : (s.dramSet a v).test = s.test := rfl
@[simp] theorem dramSet_trace (s : State) (a : Nat) (v : Octet) : (s.dramSet a v).trace = s.trace := rfl
@[simp] theorem dramSet_tap (s : State) (a : Nat) (v : Octet) : (s.dramSet a v).tap = s.tap := rfl
@[simp] theorem dramSet_o (s : State) (a : Nat) (v : Octet) (x y : Nat) : (s.dramSet a v).o x y = s.o x y := rfl

@[simp] theorem modPwr_pending (s : State) (f : PwrSt → PwrSt) : (modPwr f s).pending = s.pending := rfl
@[simp] theorem modPwr_obj (s : State) (f : PwrSt → PwrSt) : (modPwr f s).obj = s.obj := rfl
@[simp] theorem modPwr_free (s : State) (f : PwrSt → PwrSt) : (modPwr f s).free = s.free := rfl
@[simp] theorem modPwr_moduleId (s : State) (f : PwrSt → PwrSt) : (modPwr f s).moduleId = s.moduleId := rfl
@[simp] theorem modPwr_out (s : State) (f : PwrSt → PwrSt) : (modPwr f s).out = s.out := rfl
@[simp] theorem modPwr_acp (s : State) (f : PwrSt → PwrSt) : (modPwr f s).acp = s.acp := rfl
@[simp] theorem modPwr_lanes (s : State) (f : PwrSt → PwrSt) : (modPwr f s).lanes = s.lanes := rfl
@[simp] theorem modPwr_dswap (s : State) (f : PwrSt → PwrSt) : (modPwr f s).dswap = s.dswap := rfl
@[simp] theorem modPwr_xswap (s : State) (f : PwrSt → PwrSt) : (modPwr f s).xswap = s.xswap := rfl
@[simp] theorem modPwr_ex (s : State) (f : PwrSt → PwrSt) : (modPwr f s).ex = s.ex := rfl
@[simp] theorem modPwr_mem (s : State) (f : PwrSt → PwrSt) : (modPwr f s).mem = s.mem := rfl
@[simp] theorem modPwr_run (s : State) (f : PwrSt → PwrSt) : (modPwr f s).run = s.run := rfl
@[simp] theorem modPwr_lan (s : State) (f : PwrSt → PwrSt) : (modPwr f s).lan = s.lan := rfl
@[simp] theorem modPwr_rew (s : State) (f : PwrSt → PwrSt) : (modPwr f s).rew = s.rew := rfl
@[simp] theorem modPwr_tif (s : State) (f : PwrSt → PwrSt) : (modPwr f s).tif = s.tif := rfl
@[simp] theorem modPwr_img (s : State) (f : PwrSt → PwrSt) : (modPwr f s).img = s.img := rfl
@[simp] theorem modPwr_boot (s : State) (f : PwrSt → PwrSt) : (modPwr f s).boot = s.boot := rfl
@[simp] theorem modPwr_keys (s : State) (f : PwrSt → PwrSt) : (modPwr f s).keys = s.keys := rfl
@[simp] theorem modPwr_clk (s : State) (f : PwrSt → PwrSt) : (modPwr f s).clk = s.clk := rfl
@[simp] theorem modPwr_time (s : State) (f : PwrSt → PwrSt) : (modPwr f s).time = s.time := rfl
@[simp] theorem modPwr_net (s : State) (f : PwrSt → PwrSt) : (modPwr f s).net = s.net := rfl
@[simp] theorem modPwr_host (s : State) (f : PwrSt → PwrSt) : (modPwr f s).host = s.host := rfl
@[simp] theorem modPwr_test (s : State) (f : PwrSt → PwrSt) : (modPwr f s).test = s.test := rfl
@[simp] theorem modPwr_trace (s : State) (f : PwrSt → PwrSt) : (modPwr f s).trace = s.trace := rfl
@[simp] theorem modPwr_tap (s : State) (f : PwrSt → PwrSt) : (modPwr f s).tap = s.tap := rfl
@[simp] theorem modPwr_o (s : State) (f : PwrSt → PwrSt) (x y : Nat) : (modPwr f s).o x y = s.o x y := rfl

@[simp] theorem modNet_pending (s : State) (f : NetSt → NetSt) : (modNet f s).pending = s.pending := rfl
@[simp] theorem modNet_obj (s : State) (f : NetSt → NetSt) : (modNet f s).obj = s.obj := rfl
@[simp] theorem modNet_free (s : State) (f : NetSt → NetSt) : (modNet f s).free = s.free := rfl
@[simp] theorem modNet_moduleId (s : State) (f : NetSt → NetSt) : (modNet f s).moduleId = s.moduleId := rfl
@[simp] theorem modNet_out (s : State) (f : NetSt → NetSt) : (modNet f s).out = s.out := rfl
@[simp] theorem modNet_acp (s : State) (f : NetSt → NetSt) : (modNet f s).acp = s.acp := rfl
@[simp] theorem modNet_lanes (s : State) (f : NetSt → NetSt) : (modNet f s).lanes = s.lanes := rfl
@[simp] theorem modNet_dswap (s : State) (f : NetSt → NetSt) : (modNet f s).dswap = s.dswap := rfl
@[simp] theorem modNet_xswap (s : State) (f : NetSt → NetSt) : (modNet f s).xswap = s.xswap := rfl
@[simp] theorem modNet_ex (s : State) (f : NetSt → NetSt) : (modNet f s).ex = s.ex := rfl
@[simp] theorem modNet_mem (s : State) (f : NetSt → NetSt) : (modNet f s).mem = s.mem := rfl
@[simp] theorem modNet_run (s : State) (f : NetSt → NetSt) : (modNet f s).run = s.run := rfl
@[simp] theorem modNet_lan (s : State) (f : NetSt → NetSt) : (modNet f s).lan = s.lan := rfl
@[simp] theorem modNet_rew (s : State) (f : NetSt → NetSt) : (modNet f s).rew = s.rew := rfl
@[simp] theorem modNet_tif (s : State) (f : NetSt → NetSt) : (modNet f s).tif = s.tif := rfl
@[simp] theorem modNet_img (s : State) (f : NetSt → NetSt) : (modNet f s).img = s.img := rfl
@[simp] theorem modNet_boot (s : State) (f : NetSt → NetSt) : (modNet f s).boot = s.boot := rfl
@[simp] theorem modNet_keys (s : State) (f : NetSt → NetSt) : (modNet f s).keys = s.keys := rfl
@[simp] theorem modNet_pwr (s : State) (f : NetSt → NetSt) : (modNet f s).pwr = s.pwr := rfl
@[simp] theorem modNet_clk (s : State) (f : NetSt → NetSt) : (modNet f s).clk = s.clk := rfl
@[simp] theorem modNet_time (s : State) (f : NetSt → NetSt) : (modNet f s).time = s.time := rfl
@[simp] theorem modNet_host (s : State) (f : NetSt → NetSt) : (modNet f s).host = s.host := rfl
@[simp] theorem modNet_test (s : State) (f : NetSt → NetSt) : (modNet f s).test = s.test := rfl
@[simp] theorem modNet_trace (s : State) (f : NetSt → NetSt) : (modNet f s).trace = s.trace := rfl
@[simp] theorem modNet_tap (s : State) (f : NetSt → NetSt) : (modNet f s).tap = s.tap := rfl
@[simp] theorem modNet_o (s : State) (f : NetSt → NetSt) (x y : Nat) : (modNet f s).o x y = s.o x y := rfl

@[simp] theorem modTest_pending (s : State) (f : TestSt → TestSt) : (modTest f s).pending = s.pending := rfl
@[simp] theorem modTest_obj (s : State) (f : TestSt → TestSt) : (modTest f s).obj = s.obj := rfl
@[simp] theorem modTest_free (s : State) (f : TestSt → TestSt) : (modTest f s).free = s.free := rfl
@[simp] theorem modTest_moduleId (s : State) (f : TestSt → TestSt) : (modTest f s).moduleId = s.moduleId := rfl
@[simp] theorem modTest_out (s : State) (f : TestSt → TestSt) : (modTest f s).out = s.out := rfl
@[simp] theorem modTest_acp (s : State) (f : TestSt → TestSt) : (modTest f s).acp = s.acp := rfl
@[simp] theorem modTest_lanes (s : State) (f : TestSt → TestSt) : (modTest f s).lanes = s.lanes := rfl
@[simp] theorem modTest_dswap (s : State) (f : TestSt → TestSt) : (modTest f s).dswap = s.dswap := rfl
@[simp] theorem modTest_xswap (s : State) (f : TestSt → TestSt) : (modTest f s).xswap = s.xswap := rfl
@[simp] theorem modTest_ex (s : State) (f : TestSt → TestSt) : (modTest f s).ex = s.ex := rfl
@[simp] theorem modTest_mem (s : State) (f : TestSt → TestSt) : (modTest f s).mem = s.mem := rfl
@[simp] theorem modTest_run (s : State) (f : TestSt → TestSt) : (modTest f s).run = s.run := rfl
@[simp] theorem modTest_lan (s : State) (f : TestSt → TestSt) : (modTest f s).lan = s.lan := rfl
@[simp] theorem modTest_rew (s : State) (f : TestSt → TestSt) : (modTest f s).rew = s.rew := rfl
@[simp] theorem modTest_tif (s : State) (f : TestSt → TestSt) : (modTest f s).tif = s.tif := rfl
@[simp] theorem modTest_img (s : State) (f : TestSt → TestSt) : (modTest f s).img = s.img := rfl
@[simp] theorem modTest_boot (s : State) (f : TestSt → TestSt) : (modTest f s).boot = s.boot := rfl
@[simp] theorem modTest_keys (s : State) (f : TestSt → TestSt) : (modTest f s).keys = s.keys := rfl
@[simp] theorem modTest_pwr (s : State) (f : TestSt → TestSt) : (modTest f s).pwr = s.pwr := rfl
@[simp] theorem modTest_clk (s : State) (f : TestSt → TestSt) : (modTest f s).clk = s.clk := rfl
@[simp] theorem modTest_time (s : State) (f : TestSt → TestSt) : (modTest f s).time = s.time := rfl
@[simp] theorem modTest_net (s : State) (f : TestSt → TestSt) : (modTest f s).net = s.net := rfl
@[simp] theorem modTest_host (s : State) (f : TestSt → TestSt) : (modTest f s).host = s.host := rfl
@[simp] theorem modTest_trace (s : State) (f : TestSt → TestSt) : (modTest f s).trace = s.trace := rfl
@[simp] theorem modTest_tap (s : State) (f : TestSt → TestSt) : (modTest f s).tap = s.tap := rfl
@[simp] theorem modTest_o (s : State) (f : TestSt → TestSt) (x y : Nat) : (modTest f s).o x y = s.o x y := rfl

@[simp] theorem modBoot_pending (s : State) (f : BootSt → BootSt) : (modBoot f s).pending = s.pending := rfl
@[simp] theorem modBoot_obj (s : State) (f : BootSt → BootSt) : (modBoot f s).obj = s.obj := rfl
@[simp] theorem modBoot_free (s : State) (f : BootSt → BootSt) : (modBoot f s).free = s.free := rfl
@[simp] theorem modBoot_moduleId (s : State) (f : BootSt → BootSt) : (modBoot f s).moduleId = s.moduleId := rfl
@[simp] theorem modBoot_out (s : State) (f : BootSt → BootSt) : (modBoot f s).out = s.out := rfl
@[simp] theorem modBoot_acp (s : State) (f : BootSt → BootSt) : (modBoot f s).acp = s.acp := rfl
@[simp] theorem modBoot_lanes (s : State) (f : BootSt → BootSt) : (modBoot f s).lanes = s.lanes := rfl
@[simp] theorem modBoot_dswap (s : State) (f : BootSt → BootSt) : (modBoot f s).dswap = s.dswap := rfl
@[simp] theorem modBoot_xswap (s : State) (f : BootSt → BootSt) : (modBoot f s).xswap = s.xswap := rfl
@[simp] theorem modBoot_ex (s : State) (f : BootSt → BootSt) : (modBoot f s).ex = s.ex := rfl
@[simp] theorem modBoot_mem (s : State) (f : BootSt → BootSt) : (modBoot f s).mem = s.mem := rfl
@[simp] theorem modBoot_run (s : State) (f : BootSt → BootSt) : (modBoot f s).run = s.run := rfl
@[simp] theorem modBoot_lan (s : State) (f : BootSt → BootSt) : (modBoot f s).lan = s.lan := rfl
@[simp] theorem modBoot_rew (s : State) (f : BootSt → BootSt) : (modBoot f s).rew = s.rew := rfl
@[simp] theorem modBoot_tif (s : State) (f : BootSt → BootSt) : (modBoot f s).tif = s.tif := rfl
@[simp] theorem modBoot_img (s : State) (f : BootSt → BootSt) : (modBoot f s).img = s.img := rfl
@[simp] theorem modBoot_keys (s : State) (f : BootSt → BootSt) : (modBoot f s).keys = s.keys := rfl
@[simp] theorem modBoot_pwr (s : State) (f : BootSt → BootSt) : (modBoot f s).pwr = s.pwr := rfl
@[simp] theorem modBoot_clk (s : State) (f : BootSt → BootSt) : (modBoot f s).clk = s.clk := rfl
@[simp] theorem modBoot_time (s : State) (f : BootSt → BootSt) : (modBoot f s).time = s.time := rfl
@[simp] theorem modBoot_net (s : State) (f : BootSt → BootSt) : (modBoot f s).net = s.net := rfl
@[simp] theorem modBoot_host (s : State) (f : BootSt → BootSt) : (modBoot f s).host = s.host := rfl
@[simp] theorem modBoot_test (s : State) (f : BootSt → BootSt) : (modBoot f s).test = s.test := rfl
@[simp] theorem modBoot_trace (s : State) (f : BootSt → BootSt) : (modBoot f s).trace = s.trace := rfl
@[simp] theorem modBoot_tap (s : State) (f : BootSt → BootSt) : (modBoot f s).tap = s.tap := rfl
@[simp] theorem modBoot_o (s : State) (f : BootSt → BootSt) (x y : Nat) : (modBoot f s).o x y = s.o x y := rfl

@[simp] theorem modCtx_pending (s : State) (f : LanCtx → LanCtx) : (modCtx f s).pending = s.pending := rfl
@[simp] theorem modCtx_obj (s : State) (f : LanCtx → LanCtx) : (modCtx f s).obj = s.obj := rfl
@[simp] theorem modCtx_free (s : State) (f : LanCtx → LanCtx) : (modCtx f s).free = s.free := rfl
@[simp] theorem modCtx_moduleId (s : State) (f : LanCtx → LanCtx) : (modCtx f s).moduleId = s.moduleId := rfl
@[simp] theorem modCtx_out (s : State) (f : LanCtx → LanCtx) : (modCtx f s).out = s.out := rfl
@[simp] theorem modCtx_acp (s : State) (f : LanCtx → LanCtx) : (modCtx f s).acp = s.acp := rfl
@[simp] theorem modCtx_lanes (s : State) (f : LanCtx → LanCtx) : (modCtx f s).lanes = s.lanes := rfl
@[simp] theorem modCtx_dswap (s : State) (f : LanCtx → LanCtx) : (modCtx f s).dswap = s.dswap := rfl
@[simp] theorem modCtx_xswap (s : State) (f : LanCtx → LanCtx) : (modCtx f s).xswap = s.xswap := rfl
@[simp] theorem modCtx_ex (s : State) (f : LanCtx → LanCtx) : (modCtx f s).ex = s.ex := rfl
@[simp] theorem modCtx_mem (s : State) (f : LanCtx → LanCtx) : (modCtx f s).mem = s.mem := rfl
@[simp] theorem modCtx_run (s : State) (f : LanCtx → LanCtx) : (modCtx f s).run = s.run := rfl
@[simp] theorem modCtx_rew (s : State) (f : LanCtx → LanCtx) : (modCtx f s).rew = s.rew := rfl
@[simp] theorem modCtx_tif (s : State) (f : LanCtx → LanCtx) : (modCtx f s).tif = s.tif := rfl
@[simp] theorem modCtx_img (s : State) (f : LanCtx → LanCtx) : (modCtx f s).img = s.img := rfl
@[simp] theorem modCtx_boot (s : State) (f : LanCtx → LanCtx) : (modCtx f s).boot = s.boot := rfl
@[simp] theorem modCtx_keys (s : State) (f : LanCtx → LanCtx) : (modCtx f s).keys = s.keys := rfl
@[simp] theorem modCtx_pwr (s : State) (f : LanCtx → LanCtx) : (modCtx f s).pwr = s.pwr := rfl
@[simp] theorem modCtx_clk (s : State) (f : LanCtx → LanCtx) : (modCtx f s).clk = s.clk := rfl
@[simp] theorem modCtx_time (s : State) (f : LanCtx → LanCtx) : (modCtx f s).time = s.time := rfl
@[simp] theorem modCtx_net (s : State) (f : LanCtx → LanCtx) : (modCtx f s).net = s.net := rfl
@[simp] theorem modCtx_host (s : State) (f : LanCtx → LanCtx) : (modCtx f s).host = s.host := rfl
@[simp] theorem modCtx_test (s : State) (f : LanCtx → LanCtx) : (modCtx f s).test = s.test := rfl
@[simp] theorem modCtx_trace (s : State) (f : LanCtx → LanCtx) : (modCtx f s).trace = s.trace := rfl
@[simp] theorem modCtx_tap (s : State) (f : LanCtx → LanCtx) : (modCtx f s).tap = s.tap := rfl
@[simp] theorem modCtx_o (s : State) (f : LanCtx → LanCtx) (x y : Nat) : (modCtx f s).o x y = s.o x y := rfl

@[simp] theorem setSeg_pending (s : State) (g : Nat) (v : SegSt) : (setSeg g v s).pending = s.pending := rfl
@[simp] theorem setSeg_obj (s : State) (g : Nat) (v : SegSt) : (setSeg g v s).obj = s.obj := rfl
@[simp] theorem setSeg_free (s : State) (g : Nat) (v : SegSt) : (setSeg g v s).free = s.free := rfl
@[simp] theorem setSeg_moduleId (s : State) (g : Nat) (v : SegSt) : (setSeg g v s).moduleId = s.moduleId := rfl
@[simp] theorem setSeg_out (s : State) (g : Nat) (v : SegSt) : (setSeg g v s).out = s.out := rfl
@[simp] theorem setSeg_acp (s : State) (g : Nat) (v : SegSt) : (setSeg g v s).acp = s.acp := rfl
@[simp] theorem setSeg_lanes (s : State) (g : Nat) (v : SegSt) : (setSeg g v s).lanes = s.lanes := rfl
@[simp] theorem setSeg_dswap (s : State) (g : Nat) (v : SegSt) : (setSeg g v s).dswap = s.dswap := rfl
@[simp] theorem setSeg_xswap (s : State) (g : Nat) (v : SegSt) : (setSeg g v s).xswap = s.xswap := rfl
@[simp] theorem setSeg_ex (s : State) (g : Nat) (v : SegSt) : (setSeg g v s).ex = s.ex := rfl
@[simp] theorem setSeg_mem (s : State) (g : Nat) (v : SegSt) : (setSeg g v s).mem = s.mem := rfl
@[simp] theorem setSeg_run (s : State) (g : Nat) (v : SegSt) : (setSeg g v s).run = s.run := rfl
@[simp] theorem setSeg_rew (s : State) (g : Nat) (v : SegSt) : (setSeg g v s).rew = s.rew := rfl
@[simp] theorem setSeg_tif (s : State) (g : Nat) (v : SegSt) : (setSeg g v s).tif = s.tif := rfl
@[simp] theorem setSeg_img (s : State) (g : Nat) (v : SegSt) : (setSeg g v s).img = s.img := rfl
@[simp] theorem setSeg_boot (s : State) (g : Nat) (v : SegSt) : (setSeg g v s).boot = s.boot := rfl
@[simp] theorem setSeg_keys (s : State) (g : Nat) (v : SegSt) : (setSeg g v s).keys = s.keys := rfl
@[simp] theorem setSeg_pwr (s : State) (g : Nat) (v : SegSt) : (setSeg g v s).pwr = s.pwr := rfl
@[simp] theorem setSeg_clk (s : State) (g : Nat) (v : SegSt) : (setSeg g v s).clk = s.clk := rfl
@[simp] theorem setSeg_time (s : State) (g : Nat) (v : SegSt) : (setSeg g v s).time = s.time := rfl
@[simp] theorem setSeg_net (s : State) (g : Nat) (v : SegSt) : (setSeg g v s).net = s.net := rfl
@[simp] theorem setSeg_host (s : State) (g : Nat) (v : SegSt) : (setSeg g v s).host = s.host := rfl
@[simp] theorem setSeg_test (s : State) (g : Nat) (v : SegSt) : (setSeg g v s).test = s.test := rfl
@[simp] theorem setSeg_trace (s : State) (g : Nat) (v : SegSt) : (setSeg g v s).trace = s.trace := rfl
@[simp] theorem setSeg_tap (s : State) (g : Nat) (v : SegSt) : (setSeg g v s).tap = s.tap := rfl
@[simp] theorem setSeg_o (s : State) (g : Nat) (v : SegSt) (x y : Nat) : (setSeg g v s).o x y = s.o x y := rfl

@[simp] theorem modEng_pending (s : State) (e : Nat) (f : DmaEng → DmaEng) : (modEng e f s).pending = s.pending := rfl
@[simp] theorem modEng_obj (s : State) (e : Nat) (f : DmaEng → DmaEng) : (modEng e f s).obj = s.obj := rfl
@[simp] theorem modEng_free (s : State) (e : Nat) (f : DmaEng → DmaEng) : (modEng e f s).free = s.free := rfl
@[simp] theorem modEng_moduleId (s : State) (e : Nat) (f : DmaEng → DmaEng) : (modEng e f s).moduleId = s.moduleId := rfl
@[simp] theorem modEng_out (s : State) (e : Nat) (f : DmaEng → DmaEng) : (modEng e f s).out = s.out := rfl
@[simp] theorem modEng_acp (s : State) (e : Nat) (f : DmaEng → DmaEng) : (modEng e f s).acp = s.acp := rfl
@[simp] theorem modEng_lanes (s : State) (e : Nat) (f : DmaEng → DmaEng) : (modEng e f s).lanes = s.lanes := rfl
@[simp] theorem modEng_dswap (s : State) (e : Nat) (f : DmaEng → DmaEng) : (modEng e f s).dswap = s.dswap := rfl
@[simp] theorem modEng_xswap (s : State) (e : Nat) (f : DmaEng → DmaEng) : (modEng e f s).xswap = s.xswap := rfl
@[simp] theorem modEng_ex (s : State) (e : Nat) (f : DmaEng → DmaEng) : (modEng e f s).ex = s.ex := rfl
@[simp] theorem modEng_mem (s : State) (e : Nat) (f : DmaEng → DmaEng) : (modEng e f s).mem = s.mem := rfl
@[simp] theorem modEng_run (s : State) (e : Nat) (f : DmaEng → DmaEng) : (modEng e f s).run = s.run := rfl
@[simp] theorem modEng_lan (s : State) (e : Nat) (f : DmaEng → DmaEng) : (modEng e f s).lan = s.lan := rfl
@[simp] theorem modEng_rew (s : State) (e : Nat) (f : DmaEng → DmaEng) : (modEng e f s).rew = s.rew := rfl
@[simp] theorem modEng_tif (s : State) (e : Nat) (f : DmaEng → DmaEng) : (modEng e f s).tif = s.tif := rfl
@[simp] theorem modEng_img (s : State) (e : Nat) (f : DmaEng → DmaEng) : (modEng e f s).img = s.img := rfl
@[simp] theorem modEng_boot (s : State) (e : Nat) (f : DmaEng → DmaEng) : (modEng e f s).boot = s.boot := rfl
@[simp] theorem modEng_keys (s : State) (e : Nat) (f : DmaEng → DmaEng) : (modEng e f s).keys = s.keys := rfl
@[simp] theorem modEng_pwr (s : State) (e : Nat) (f : DmaEng → DmaEng) : (modEng e f s).pwr = s.pwr := rfl
@[simp] theorem modEng_clk (s : State) (e : Nat) (f : DmaEng → DmaEng) : (modEng e f s).clk = s.clk := rfl
@[simp] theorem modEng_time (s : State) (e : Nat) (f : DmaEng → DmaEng) : (modEng e f s).time = s.time := rfl
@[simp] theorem modEng_net (s : State) (e : Nat) (f : DmaEng → DmaEng) : (modEng e f s).net = s.net := rfl
@[simp] theorem modEng_test (s : State) (e : Nat) (f : DmaEng → DmaEng) : (modEng e f s).test = s.test := rfl
@[simp] theorem modEng_trace (s : State) (e : Nat) (f : DmaEng → DmaEng) : (modEng e f s).trace = s.trace := rfl
@[simp] theorem modEng_tap (s : State) (e : Nat) (f : DmaEng → DmaEng) : (modEng e f s).tap = s.tap := rfl
@[simp] theorem modEng_o (s : State) (e : Nat) (f : DmaEng → DmaEng) (x y : Nat) : (modEng e f s).o x y = s.o x y := rfl

@[simp] theorem modNoc_pending (s : State) (f : NocSt → NocSt) : (modNoc f s).pending = s.pending := rfl
@[simp] theorem modNoc_obj (s : State) (f : NocSt → NocSt) : (modNoc f s).obj = s.obj := rfl
@[simp] theorem modNoc_free (s : State) (f : NocSt → NocSt) : (modNoc f s).free = s.free := rfl
@[simp] theorem modNoc_moduleId (s : State) (f : NocSt → NocSt) : (modNoc f s).moduleId = s.moduleId := rfl
@[simp] theorem modNoc_out (s : State) (f : NocSt → NocSt) : (modNoc f s).out = s.out := rfl
@[simp] theorem modNoc_acp (s : State) (f : NocSt → NocSt) : (modNoc f s).acp = s.acp := rfl
@[simp] theorem modNoc_lanes (s : State) (f : NocSt → NocSt) : (modNoc f s).lanes = s.lanes := rfl
@[simp] theorem modNoc_dswap (s : State) (f : NocSt → NocSt) : (modNoc f s).dswap = s.dswap := rfl
@[simp] theorem modNoc_xswap (s : State) (f : NocSt → NocSt) : (modNoc f s).xswap = s.xswap := rfl
@[simp] theorem modNoc_ex (s : State) (f : NocSt → NocSt) : (modNoc f s).ex = s.ex := rfl
@[simp] theorem modNoc_mem (s : State) (f : NocSt → NocSt) : (modNoc f s).mem = s.mem := rfl
@[simp] theorem modNoc_run (s : State) (f : NocSt → NocSt) : (modNoc f s).run = s.run := rfl
@[simp] theorem modNoc_lan (s : State) (f : NocSt → NocSt) : (modNoc f s).lan = s.lan := rfl
@[simp] theorem modNoc_rew (s : State) (f : NocSt → NocSt) : (modNoc f s).rew = s.rew := rfl
@[simp] theorem modNoc_tif (s : State) (f : NocSt → NocSt) : (modNoc f s).tif = s.tif := rfl
@[simp] theorem modNoc_img (s : State) (f : NocSt → NocSt) : (modNoc f s).img = s.img := rfl
@[simp] theorem modNoc_boot (s : State) (f : NocSt → NocSt) : (modNoc f s).boot = s.boot := rfl
@[simp] theorem modNoc_keys (s : State) (f : NocSt → NocSt) : (modNoc f s).keys = s.keys := rfl
@[simp] theorem modNoc_pwr (s : State) (f : NocSt → NocSt) : (modNoc f s).pwr = s.pwr := rfl
@[simp] theorem modNoc_clk (s : State) (f : NocSt → NocSt) : (modNoc f s).clk = s.clk := rfl
@[simp] theorem modNoc_time (s : State) (f : NocSt → NocSt) : (modNoc f s).time = s.time := rfl
@[simp] theorem modNoc_net (s : State) (f : NocSt → NocSt) : (modNoc f s).net = s.net := rfl
@[simp] theorem modNoc_test (s : State) (f : NocSt → NocSt) : (modNoc f s).test = s.test := rfl
@[simp] theorem modNoc_trace (s : State) (f : NocSt → NocSt) : (modNoc f s).trace = s.trace := rfl
@[simp] theorem modNoc_tap (s : State) (f : NocSt → NocSt) : (modNoc f s).tap = s.tap := rfl
@[simp] theorem modNoc_o (s : State) (f : NocSt → NocSt) (x y : Nat) : (modNoc f s).o x y = s.o x y := rfl

@[simp] theorem modSerial_pending (s : State) (k : Nat) (f : Serial → Serial) : (modSerial k f s).pending = s.pending := rfl
@[simp] theorem modSerial_obj (s : State) (k : Nat) (f : Serial → Serial) : (modSerial k f s).obj = s.obj := rfl
@[simp] theorem modSerial_free (s : State) (k : Nat) (f : Serial → Serial) : (modSerial k f s).free = s.free := rfl
@[simp] theorem modSerial_moduleId (s : State) (k : Nat) (f : Serial → Serial) : (modSerial k f s).moduleId = s.moduleId := rfl
@[simp] theorem modSerial_out (s : State) (k : Nat) (f : Serial → Serial) : (modSerial k f s).out = s.out := rfl
@[simp] theorem modSerial_acp (s : State) (k : Nat) (f : Serial → Serial) : (modSerial k f s).acp = s.acp := rfl
@[simp] theorem modSerial_lanes (s : State) (k : Nat) (f : Serial → Serial) : (modSerial k f s).lanes = s.lanes := rfl
@[simp] theorem modSerial_dswap (s : State) (k : Nat) (f : Serial → Serial) : (modSerial k f s).dswap = s.dswap := rfl
@[simp] theorem modSerial_xswap (s : State) (k : Nat) (f : Serial → Serial) : (modSerial k f s).xswap = s.xswap := rfl
@[simp] theorem modSerial_ex (s : State) (k : Nat) (f : Serial → Serial) : (modSerial k f s).ex = s.ex := rfl
@[simp] theorem modSerial_mem (s : State) (k : Nat) (f : Serial → Serial) : (modSerial k f s).mem = s.mem := rfl
@[simp] theorem modSerial_run (s : State) (k : Nat) (f : Serial → Serial) : (modSerial k f s).run = s.run := rfl
@[simp] theorem modSerial_lan (s : State) (k : Nat) (f : Serial → Serial) : (modSerial k f s).lan = s.lan := rfl
@[simp] theorem modSerial_rew (s : State) (k : Nat) (f : Serial → Serial) : (modSerial k f s).rew = s.rew := rfl
@[simp] theorem modSerial_img (s : State) (k : Nat) (f : Serial → Serial) : (modSerial k f s).img = s.img := rfl
@[simp] theorem modSerial_boot (s : State) (k : Nat) (f : Serial → Serial) : (modSerial k f s).boot = s.boot := rfl
@[simp] theorem modSerial_keys (s : State) (k : Nat) (f : Serial → Serial) : (modSerial k f s).keys = s.keys := rfl
@[simp] theorem modSerial_pwr (s : State) (k : Nat) (f : Serial → Serial) : (modSerial k f s).pwr = s.pwr := rfl
@[simp] theorem modSerial_clk (s : State) (k : Nat) (f : Serial → Serial) : (modSerial k f s).clk = s.clk := rfl
@[simp] theorem modSerial_time (s : State) (k : Nat) (f : Serial → Serial) : (modSerial k f s).time = s.time := rfl
@[simp] theorem modSerial_net (s : State) (k : Nat) (f : Serial → Serial) : (modSerial k f s).net = s.net := rfl
@[simp] theorem modSerial_host (s : State) (k : Nat) (f : Serial → Serial) : (modSerial k f s).host = s.host := rfl
@[simp] theorem modSerial_test (s : State) (k : Nat) (f : Serial → Serial) : (modSerial k f s).test = s.test := rfl
@[simp] theorem modSerial_trace (s : State) (k : Nat) (f : Serial → Serial) : (modSerial k f s).trace = s.trace := rfl
@[simp] theorem modSerial_tap (s : State) (k : Nat) (f : Serial → Serial) : (modSerial k f s).tap = s.tap := rfl
@[simp] theorem modSerial_o (s : State) (k : Nat) (f : Serial → Serial) (x y : Nat) : (modSerial k f s).o x y = s.o x y := rfl

end Sys2Proof.Machine
end

