-- ==== Sys2Proof/Tests/Slice0.lean ====
section
/-! SUPPORT. Tests: ill-formed commands are refused; for each statement with hypotheses a concrete state and operands that meet them,
clause by clause; and values that the manual's own examples give. -/

namespace Sys2Proof.Tests

open Sys2Proof Sys2Proof.Machine

set_option Elab.async false

/-! ### The states that the tests use -/

/-- A Custodian's session on carrier 0, with every feature agreed and the owner token presented. -/
def me : Session := { id := 1, isOpen := true, level := 3, carrier := 0, negotiated := true, agreed := 65535, token := true }

/-- The first request of that session. -/
def rq : Req := { session := 1, seq := 1, tag := 0, carrier := 0, src := 0, srcPort := 0 }

/-- The module in IDLE with every domain on, depth D0, an IPv4 address, and that session open. -/
def idle : State := { State.reset with
  acp := { State.reset.acp with sessions := [me] }
  net := { State.reset.net with addr := 1 }
  pwr := { mode := 3, dom := List.replicate 20 2, gate := List.replicate 20 0, vinGood := true } }

/-- A state with objects stored. -/
def objs (l : List (Nat × Nat × Nat)) (s : State) : State := l.foldl (fun t x => t.setO x.1 x.2.1 x.2.2) s

/-- A state with per-session selectors stored. -/
def sels (l : List (Nat × Nat × Nat)) (s : State) : State := l.foldl (fun t x => setSel 1 x.1 x.2.1 x.2.2 t) s

/-- A state in a run state and mode. -/
def inState (st : RunState) (m : Nat) (s : State) : State :=
  { s with run := { s.run with state := st }, pwr := { s.pwr with mode := m } }

/-- A state in SERVICE. -/
def service : State := { idle with pwr := { idle.pwr with mode := 11 } }

/-- Values of the types that the tests write. -/
def u8 (n : Nat) : WVal := { ty := 2, data := octetsBE 1 n }
def u16 (n : Nat) : WVal := { ty := 3, data := octetsBE 2 n }
def u32 (n : Nat) : WVal := { ty := 4, data := octetsBE 4 n }
def u64 (n : Nat) : WVal := { ty := 5, data := octetsBE 8 n }
def flag (b : Bool) : WVal := { ty := 1, data := octetsBE 1 b.toNat }

/-- The session as a state holds it. -/
def mine (s : State) : Session := (s.sess 1).getD me

/-- Whether the request meets `Reaches`, as a truth value. -/
def reachesB (r : Req) (x : Session) (s : State) : Bool :=
  decide (2 ≤ s.pwr.mode) && decide (s.pwr.depth = 0) && carrierTakes s r.carrier && decide (sessionFor s r = some x) &&
  seqFresh x r.seq && decide (x.waiting.length < 8)

theorem reaches_of {r : Req} {x : Session} {s : State} (h : reachesB r x s = true) : Reaches r x s := by
  simp only [reachesB, Bool.and_eq_true, decide_eq_true_eq] at h
  obtain ⟨⟨⟨⟨⟨h1, h2⟩, h3⟩, h4⟩, h5⟩, h6⟩ := h
  exact ⟨h1, h2, h3, h4, h5, h6⟩

/-- Whether a WRITE of v to idx:sub reaches its chapter's checks: the hypotheses of `WriteDone`, `WriteAnswered` and `WriteRefused`. -/
def fits (idx sub : Nat) (v : WVal) (s : State) : Bool :=
  reachesB rq (mine s) s && decide (checkWrite s (mine s) idx sub v false = none)

/-- What `fits` says. -/
theorem fits_spec {idx sub : Nat} {v : WVal} {s : State} (h : fits idx sub v s = true) :
    Reaches rq (mine s) s ∧ checkWrite s (mine s) idx sub v false = none := by
  simp only [fits, Bool.and_eq_true, decide_eq_true_eq] at h
  exact ⟨reaches_of h.1, h.2⟩

/-- The state that has accepted the request. -/
abbrev acc (s : State) : State := accepted rq (mine s) s

/-- The same for the three forms of a row that stores elements (`FormDone`): a WRITE of one element, a WRITE of the block object, and a
WRITE_BLOCK from element `start` on. -/
def forms (idx sub1 sub2 start : Nat) (one block : WVal) (data : List Octet) (long : List Octet → LengthFn) (s : State) : Bool :=
  reachesB rq (mine s) s &&
  decide (checkWrite s (mine s) idx sub1 one (sub1 == sub2 && long one.data 1 (acc s)) = none) &&
  decide (checkWrite s (mine s) idx sub2 block (long block.data 1 (acc s)) = none) &&
  (match blockInfo idx sub2 with
  | some (sel, _, _, _) =>
    let t := setStart 1 idx sel start (acc s)
    decide (checkWrite t (mine s) idx sub2 { ty := 11, data } (long data 1 t) = none)
  | none => false)

/-- A U32 value whose number is a CRC, and one whose number is not. -/
theorem crc_values (l : List Octet) : natBE (u32 (crc32 l)).data = crc32 l ∧ ∃ n, natBE (u32 n).data ≠ crc32 l := by
  refine ⟨by rw [u32, natBE_octetsBE]; exact Nat.mod_eq_of_lt (crc32_lt l), ?_⟩
  by_cases h : crc32 l = 0
  · exact ⟨1, by rw [h]; decide⟩
  · exact ⟨0, fun e => h (by rw [← e]; rfl)⟩

/-! ### Well-formed commands -/

/-- Each check of `wellFormed` refuses a command that names the first absent unit, and exec stops on it. -/
theorem test_ill_formed_refused :
    [Instr.pllFailed 8, .clockForced 9, .identitySend 8, .farWriteRetired 128, .correctionWriteBack 512 0, .busStuck 8,
     .bankRailSettled 10, .apWrite 4 false 0, .mbSlotSubmit 4 48, .msixUnmask 64, .dmaEnable 8, .ringConsumerWrite 10 0, .pcieReset 3,
     .transportLost 2, .tallowPatrol 5 [] none, .tallowVote 3, .routingTableSwitch 28].all
      (fun c => !c.wellFormed && (match exec c idle with | .fault .absentUnit => true | _ => false)) = true := by decide +kernel

/-- Witnesses of `WellFormedCommandsComplete`: the last unit of a kind, and the first absent one. -/
theorem hyp_wellFormed : (Instr.pllFailed 7).wellFormed = true ∧ (Instr.pllFailed 8).wellFormed = false := by decide

/-- Witnesses of `StepCarriesOutFront` and `IdleStepLetsTimePass`. -/
theorem hyp_step : (({ idle with pending := [.frcWrap, .pfail] } : State).pending = [.frcWrap, .pfail]) ∧ idle.pending = [] ∧
    domState idle 4 = 2 ∧ domState State.reset 4 ≠ 2 ∧ nocBusy idle.host.noc = false ∧ (idle.port 7).state = .off := by decide +kernel

/-- A linked port whose line is at the end of a superframe. -/
def lineDue : State :=
  modPort 0 (fun q => { q with state := .linked }) { idle with ex := { idle.ex with lineTime := 81 } }

/-- Witnesses of the FILL superframe of `IdleStepLetsTimePass`. -/
theorem hyp_fill : lineDue.pending = [] ∧ domState lineDue 4 = 2 ∧ nocBusy lineDue.host.noc = false ∧ 81 ≤ lineDue.ex.lineTime ∧
    lineDue.ex.ports.length = 8 ∧ (lineDue.port 0).state = .linked ∧ (lineDue.port 7).state = .off := by decide +kernel

/-- Witness of `EveryStepKeepsSound`: the state after reset, whose step answers a next state. -/
theorem hyp_sound : ∃ t, step State.reset = .next t := ⟨_, rfl⟩

/-- Witnesses of the statements on the service of a request. -/
theorem hyp_service : reachesB rq me idle = true ∧ idle.sess rq.session = some me ∧ requestOf (.run rq) = some rq ∧
    State.reset.pwr.mode < 2 := by decide +kernel

/-- A session that has accepted request 1, whose reply is kept. -/
def used : State := { idle with acp := { idle.acp with sessions := [{ me with high := 1, seen := [1], kept := [{ seq := 1, tag := 0, frames := [] }] }] } }

/-- Witnesses of `StaleAndStrayRequestsAreNotCarriedOut`: a repeated request, a stale one without a kept reply, and a stray one. -/
theorem hyp_stale : seqFresh (mine used) rq.seq = false ∧ sessionFor used rq = some (mine used) ∧ (keptFor (mine used) rq).isSome = true ∧
    (keptFor (mine used) { rq with tag := 1 }) = none ∧ sessionFor idle { rq with session := 2 } = none ∧
    carrierTakes idle rq.carrier = true := by decide +kernel

/-! ### Sweeps, run control and clocks -/

/-- A state with its run changed. -/
def running (f : RunSt → RunSt) (s : State) : State := { s with run := f s.run }

/-- In a settled commit window of a run, SYNC released. -/
def window : State := running (fun r => { r with state := .running, phase := .commit, settled := true, released := true }) idle

/-- The same where a cluster has failed since C8. -/
def lateFailure : State := running (fun r => { r with failed := [(0, 0)] }) window

/-- In a sweep with one executed step left. -/
def sweeping : State := running (fun r => { r with state := .running, phase := .sweep, todo := [2047] }) idle

/-- Witnesses of `SweepEventsComplete` and `SweepStepAdvancesTheSweep`, clause by clause. -/
theorem hyp_sweeps :
    (window.run.phase = .starting ∨ window.run.phase = .commit ∧ window.run.settled = true) ∧ window.run.released = true ∧
    failsLate window = false ∧ lateFailure.run.released = true ∧ failsLate lateFailure = true ∧
    failsLate (running (fun r => { r with released := false, holdStop := false }) window) = false ∧
    (running (fun r => { r with phase := .starting, released := true }) idle).run.phase = .starting ∧
    sweeping.run.phase = .sweep ∧ sweeping.run.todo = [2047] ∧
    (running (fun r => { r with todo := [] }) sweeping).run.todo = [] ∧
    (running (fun r => { r with released := false, holdStop := false }) window).run.released = false ∧
    activeHolds (running (fun r => { r with released := false, holdStop := false }) window) = 0 ∧
    (running (fun r => { r with holdStop := false, lowSince := some 0 }) window).run.lowSince ≠ none ∧
    (running (fun r => { r with holdStop := false, lowSince := some 0 }) window).ex.stopSeen = [] ∧
    (running (fun r => { r with holdStop := false, lowSince := some 0 }) window).run.timedOut = false ∧
    window.o 0x3440 1 ≠ 0 := by decide +kernel

/-- A stopped design, ready to run. -/
def stopped : State := inState .stopped 5 (objs [(0x3400, 3, 1)] idle)

/-- Witnesses of `RunCommandsComplete`, clause by clause. -/
theorem hyp_runCommands :
    fits 0x3400 1 (codeVal 1) stopped = true ∧ (runAdmit false (acc stopped)).1 = none ∧
    (runAdmit false (acc (inState .parked 3 stopped))).1 = none ∧ fits 0x3400 1 (codeVal 1) (inState .parked 3 stopped) = true ∧
    fits 0x3400 1 (codeVal 1) (inState .running 4 stopped) = true ∧
    fits 0x3400 1 (codeVal 1) (inState .stepping 5 stopped) = true ∧ (runAdmit true (acc (inState .stepping 5 stopped))).1 = none ∧
    fits 0x3400 1 (codeVal 2) (inState .recovering 9 stopped) = true ∧ fits 0x3400 1 (codeVal 2) stopped = true ∧
    fits 0x3400 1 (codeVal 3) stopped = true ∧
    fits 0x3400 1 (codeVal 4) stopped = true ∧ (acc stopped).run.cycle.toNat < (acc stopped).o 0x3400 3 ∧
    fits 0x3400 1 (codeVal 4) (inState .running 4 stopped) = true ∧ (runAdmit true (acc (inState .running 4 stopped))).1 = none ∧
    fits 0x3400 1 (codeVal 5) (inState .waiting 4 stopped) = true ∧ fits 0x3400 1 (codeVal 5) (inState .faulted 5 stopped) = true ∧
    fits 0x3400 1 (codeVal 6) (inState .faulted 5 stopped) = true ∧ ¬ (stopped.img.hasFar = true ∧ stopped.o 0x6100 6 = 0) ∧
    fits 0x3400 1 (codeVal 7) stopped = true ∧ fits 0x3400 1 (codeVal 8) (inState .faulted 5 stopped) = true := by decide +kernel

/-- Witnesses of `RunCommandsAreRefused`: each command in a state of a run that does not accept it where there is one, each in
NO_DESIGN, and RUN_TO to the cycle of the counter. -/
theorem hyp_runRefused :
    ([1, 2, 3, 4, 6, 7, 8].all fun n =>
      fits 0x3400 1 (codeVal n) (inState .waiting 4 idle) && !(commandAccepted n .waiting)) = true ∧
    ([1, 2, 3, 4, 5, 6, 7, 8].all fun n => fits 0x3400 1 (codeVal n) idle && !(commandAccepted n .noDesign)) = true ∧
    (acc (objs [(0x3400, 3, 0)] stopped)).o 0x3400 3 ≤ (acc (objs [(0x3400, 3, 0)] stopped)).run.cycle.toNat := by decide +kernel

/-- The clocks as a boot leaves them: the step PLLs locked. -/
def clocked : State := objs [(0x2020, 1, 2), (0x2020, 2, 2), (0x2020, 3, 2), (0x2020, 4, 2), (0x3460, 1, 800000), (0x3460, 2, 800000)] idle

/-- The same with CKOUT driven by the step clock divided by 2: 400 MHz. -/
def ckoutAtLimit : State := objs [(0x2050, 1, 5), (0x2050, 2, 2), (0x2050, 3, 1)] clocked

/-- Witnesses of `ClockWritesComplete`, clause by clause, at ends of the ranges. -/
theorem hyp_clockWrites :
    fits 0x3460 2 (u32 400000) clocked = true ∧ fits 0x3460 2 (u32 1600000) clocked = true ∧ (acc clocked).o 0x3460 4 ≠ 1 ∧
    (acc clocked).clk.fosc = false ∧ (acc clocked).o 0x3460 3 = 0 ∧ ckoutLifted (acc clocked) 1600000 = false ∧
    ckoutLifted (acc ckoutAtLimit) 800000 = false ∧ natBE (u32 1600000).data = 1600000 ∧
    fits 0x2010 1 (u8 0) clocked = true ∧ (acc clocked).o 0x2010 1 = 0 ∧
    fits 0x2010 1 (u8 1) clocked = true ∧ stepPllsRun (acc clocked) = true ∧ (acc clocked).clk.ramp = none ∧
    (acc clocked).clk.newRef = none ∧ stepPllsRun (acc idle) = false ∧ fits 0x2010 1 (u8 1) idle = true ∧
    fits 0x2010 1 (u8 0) { objs [(0x2010, 1, 1)] clocked with clk := { clocked.clk with newRef := some 0 } } = true ∧
    fits 0x2050 1 (u8 15) clocked = true ∧ fits 0x2050 2 (u32 65536) clocked = true ∧
    fits 0x2050 3 (flag true) (objs [(0x2050, 1, 5), (0x2050, 2, 2)] clocked) = true ∧
    ckoutHz (objs [(0x2050, 1, 5), (0x2050, 2, 2)] clocked) 5 ≤ 400000000 * 2 ∧
    fits 0x2030 1 { ty := 10, data := [255, 15] } clocked = true ∧ natLE [255#8, 15#8] = 4095 ∧
    (List.range 12).any (gateBusy (acc clocked)) = false := by decide +kernel

/-- A ramp from 0.4 to 1.6 GHz at its increment i. -/
def ramping (i : Nat) : State :=
  { clocked with clk := { clocked.clk with ramp := some { f0 := 400000, f1 := 1600000, n := 16, i, kind := 0, since := 0 } } }

/-- Witnesses of `ClockEventsComplete`, clause by clause. -/
theorem hyp_clockEvents :
    ((ramping 15).clk.ramp.map fun q => decide (q.i < q.n)) = some true ∧
    ((ramping 16).clk.ramp.map fun q => decide (q.n ≤ q.i) && q.kind == 0) = some true ∧ (ramping 16).clk.newRef = none ∧
    refWatched clocked .xtb = true ∧ refMissing clocked .xta = false ∧ refWatched clocked .xta = true ∧
    refMissing (objs [(0x2020, 9, 3)] clocked) .xta = true ∧ ({ clocked with clk := { clocked.clk with xtbLost := true } } : State).clk.xtbLost = true ∧ clocked.clk.xtbLost = false ∧
    refMissing clocked (pllRef clocked 3) = false ∧ pllState clocked 3 = 2 ∧ 2 ≤ clocked.pwr.mode ∧
    ({ State.reset with pwr := { State.reset.pwr with mode := 1 } } : State).pwr.mode = 1 := by decide +kernel

/-- Witnesses of `StepFrequencyRequestsAreRefused`: one below the range, one above it, one off the grid, one during a change, and
one that would lift CKOUT above 400 MHz. -/
theorem hyp_stepRefused :
    fits 0x3460 2 (u32 399999) clocked = true ∧ fits 0x3460 2 (u32 1612500) clocked = true ∧ fits 0x3460 2 (u32 400001) clocked = true ∧
    400001 % 12500 ≠ 0 ∧ fits 0x3460 2 (u32 400000) (objs [(0x3460, 4, 1)] clocked) = true ∧
    (acc (objs [(0x3460, 4, 1)] clocked)).o 0x3460 4 = 1 ∧
    fits 0x3460 2 (u32 812500) ckoutAtLimit = true ∧ (acc ckoutAtLimit).o 0x3460 4 ≠ 1 ∧ (acc ckoutAtLimit).clk.fosc = false ∧
    ckoutLifted (acc ckoutAtLimit) 812500 = true := by decide +kernel

/-! ### Lanes, dictionaries and the exchange -/

/-- A word that writes the result of entry 16 to address 383, without ST and NOP. -/
def writeWord : BitVec 128 := BitVec.ofNat 128 (16 * 2 ^ 118 + 383 * 2 ^ 48)

/-- Witnesses of `LaneResultIsTruthTableBit` and `ResultWritesItsPlanes`: the last state address, with and without ST. -/
theorem hyp_lanes :
    (fetchWord (physLane idle 0) 0 (idle.setIm (physLane idle 0) 0 writeWord)).1 = some writeWord ∧
    (fetchEntry (physLane idle 0 / 64) (wFn writeWord) (((List.range 6).map (wA writeWord)).foldl
      (fun t a => checkOperand (physLane idle 0) (idle.lane (physLane idle 0)) a t) idle)).1.isSome = true ∧
    wNop writeWord = false ∧ wDst writeWord = 383 ∧ wSt writeWord = false ∧ wSt (writeWord ||| 8192) = true ∧
    wNop (writeWord ||| 8192) = false := by decide +kernel

/-- The selectors of lane 0 of tile 0, word 2,047. -/
def atWord : State := sels [(0x3010, 1, 0), (0x3010, 2, 2047)] idle

/-- The selectors of the last entry of the shadow bank of cluster 0 of tile 0. -/
def atEntry : State := sels [(0x3100, 1, 0), (0x3100, 2, 0), (0x3100, 3, 1023)] idle

/-- A deposit into lane 0 of tile 0. -/
def dep0 : Deposit := { lane := 0, addr := 383, bit := true }

/-- The module while tile 0 is written as the region of an image. -/
def regionWritten : State :=
  let h : ImgHdr :=
    { typ := 1, prot := false, swapAtEnd := false, tapsPublic := false, portMask := 0, level := 0, latencies := [], tag := 2, baseTag := 1,
      ownerTag := 0, frameCount := 1, quadMask := 0, tileMask := 1, dictMask := 0, exchMask := 0, bankMask := 0, required := 0 }
  let a : Applying := { hdr := h, frames := [], off := 0, len := 0, inReset := true, from_ := 0, stopped := true }
  { idle with img := { idle.img with applying := some a } }

/-- R535: a deposit into a lane of the region in reset waits for its STATE frames; one into another tile does not. -/
theorem test_deposit_waits : depositWaits regionWritten dep0 = true ∧ depositWaits regionWritten { dep0 with lane := laneAddr 1 0 0 } = false := by
  decide +kernel

/-- Witnesses of `LaneContentsWritesComplete`, clause by clause. -/
theorem hyp_laneWrites :
    forms 0x3010 3 4 2047 { ty := 11, data := octetsBE 16 0 } { ty := 11, data := octetsBE 16 0 } (octetsBE 16 0)
      (blockTooLong 0x3010 4 2048) atWord = true ∧
    addrLane (acc atWord) (selOf (acc atWord) 1 0x3010 1) = some 0 ∧ wReserved 0 = false ∧
    forms 0x3100 4 5 1023 (u64 1) { ty := 11, data := octetsBE 8 1 } (octetsBE 8 1) (blockTooLong 0x3100 5 1024) atEntry = true ∧
    addrCluster (acc atEntry) (selOf (acc atEntry) 1 0x3100 1) = some 0 ∧ selOf (acc atEntry) 1 0x3100 3 = 1023 ∧
    shadowLocked false 0 (acc atEntry) = false ∧
    selOf (acc (sels [(0x3100, 2, 1)] atEntry)) 1 0x3100 2 = 1 ∧ activeAnswer (acc (inState .stopped 5 atEntry)) = none ∧
    fits 0x3200 4 (flag true) (sels [(0x3200, 1, 0), (0x3200, 2, 1007), (0x3200, 3, 1)] idle) = true ∧
    selOf (sels [(0x3200, 2, 1007)] idle) 1 0x3200 2 = 1007 ∧ addrLane idle 0 ≠ none ∧
    fits 0x3200 5 { ty := 11, data := octetsBE 128 1 } (sels [(0x3200, 1, 0), (0x3200, 3, 1)] idle) = true ∧
    fits 0x3210 3 (flag true) (inState .running 4 (sels [(0x3210, 1, 0), (0x3210, 2, 383)] idle)) = true ∧
    fits 0x3210 3 (flag true) (sels [(0x3210, 1, 0), (0x3210, 2, 383)] idle) = true ∧ mayRead idle 1 = true ∧
    selOf (sels [(0x3210, 2, 383)] idle) 1 0x3210 2 ≤ 383 ∧ idle.lanes.deposits.length < 256 ∧
    inRun (acc (sels [(0x3210, 1, 0), (0x3210, 2, 383)] idle)) = false ∧
    inRun (acc (inState .running 4 (sels [(0x3210, 1, 0), (0x3210, 2, 383)] idle))) = true := by decide +kernel

/-- Witnesses of `DictionarySealNeedsTheCrc`: the seal of cluster 0 with the CRC of its shadow bank, and with another number. -/
theorem hyp_dictSeal :
    (∀ n, fits 0x3100 6 (u32 n) (sels [(0x3100, 1, 0)] idle) = true) ∧ addrCluster idle 0 = some 0 ∧
    (∃ n, natBE (u32 n).data = dictCrc idle 0 (1 - dictActive idle 0)) ∧
    (∃ n, natBE (u32 n).data ≠ dictCrc idle 0 (1 - dictActive idle 0)) :=
  ⟨fun _ => rfl, by decide +kernel, ⟨_, (crc_values _).1⟩, (crc_values _).2⟩

/-- A joined swap that waits. -/
def joined : State := { idle with dswap := { state := 2, scope := 1, joined := true }, xswap := { state := 2, scope := 1, joined := true } }

/-- Witnesses of `SwapCommandsComplete`, clause by clause. -/
theorem hyp_swaps :
    fits 0x3110 2 (codeVal 1) idle = true ∧ fits 0x3900 2 (codeVal 1) idle = true ∧ fits 0x3900 2 (codeVal 3) idle = true ∧
    idle.run.state ≠ .recovering ∧ idle.dswap.joined = false ∧ idle.xswap.joined = false ∧
    fits 0x3110 2 (codeVal 2) idle = true ∧ fits 0x3900 2 (codeVal 2) idle = true ∧
    fits 0x3110 2 (codeVal 2) joined = true ∧ fits 0x3900 2 (codeVal 2) joined = true ∧ joined.dswap.joined = true := by decide +kernel

/-- The selectors of the last entry of the shadow bank of tile 127. -/
def atExs : State := sels [(0x3810, 1, laneAddr 127 0 0), (0x3810, 2, 0), (0x3810, 3, 2047)] idle

/-- Witnesses of `ExchangeWritesComplete`, clause by clause. -/
theorem hyp_exchange :
    forms 0x3810 4 5 2047 { ty := 11, data := octetsBE 384 0 } { ty := 11, data := octetsBE 384 0 } (octetsBE 384 0)
      (blockTooLong 0x3810 5 2048) atExs = true ∧
    addrTile (selOf (acc atExs) 1 0x3810 1) = some 127 ∧ exsValid 0 = true ∧ shadowLocked true 127 (acc atExs) = false ∧
    activeAnswer (acc (inState .stopped 5 atExs)) = none := by
  decide +kernel

/-- Witnesses of its seals: the CRC of the shadow bank of tile 127, and another number. -/
theorem hyp_exsSeal :
    (∀ n, fits 0x3810 6 (u32 n) atExs = true) ∧ (∃ n, natBE (u32 n).data = exsCrc idle 127 (1 - exsActive idle 127)) ∧
    (∃ n, natBE (u32 n).data ≠ exsCrc idle 127 (1 - exsActive idle 127)) :=
  ⟨fun _ => rfl, ⟨_, (crc_values _).1⟩, (crc_values _).2⟩

/-! ### Ilyan ports -/

/-- A state with port p changed. -/
def port (p : Nat) (f : Port → Port) (s : State) : State := modPort p f s

/-- A training result in which nothing is refused, at the longest admitted transit. -/
def trained : TrainResult :=
  { order := List.range 9, failedLanes := [8], sendFailed := [], drift := false, polarity := 0, echoGone := 343, hold := 0, micros := 1 }

/-- An IDENTITY of module 1, port 0, in no system. -/
def other : Identity := { moduleId := 1, port := 0, systemId := 0, imageTag := 1, freqCode := 0, guardLead := 2, members := 3 }

/-- Port 7 in a state. -/
def inPort (st : PortState) : State := port 7 (fun q => { q with state := st }) idle

/-- Witnesses of `PortRowsComplete`, clause by clause, on the last port. -/
theorem hyp_ports :
    fits 0x3A07 1 (flag false) idle = true ∧ fits 0x3A07 1 (flag true) idle = true ∧
    ((inPort .training).port 7).state = .training ∧ orderFits trained id = true ∧
    orderFits { trained with order := [7, 6, 5, 4, 3, 2, 1, 0, 8] } reversedLane = true ∧ trained =
      { trained with failedLanes := nsOf (trained.failedLanes ++ failedLanesOf (inPort .training) 7 0),
                     sendFailed := nsOf (trained.sendFailed ++ failedLanesOf (inPort .training) 7 1) } ∧
    trained.failedLanes.length < 2 ∧ trained.sendFailed.length < 2 ∧
    trained.drift = false ∧ transitOf trained.echoGone trained.hold + 8 ≤ 192 ∧
    framed (inPort .refused) 7 = true ∧ ((inPort .lost).port 7).state = .lost ∧
    ((inPort .lost).port 7).lostAt + 1000000 ≤ ({ inPort .lost with time := { idle.time with frc := 1000000 } } : State).now ∧
    framed (port 7 (fun q => { q with spareFor := 0 }) (inPort .linked)) 7 = true ∧
    ((port 7 (fun q => { q with spareFor := 0 }) (inPort .linked)).port 7).spareFor ≠ 15 ∧
    fits 0x3830 3 { ty := 10, data := octetsLE 16 (2 ^ 127) } idle = true ∧
    bitOf (natLE (octetsLE 16 (2 ^ 127))) (acc idle).moduleId = true := by
  decide +kernel

/-- R769: a receive lane that the health map has as failed takes the spare at training, and a second one ends it in REFUSED. -/
theorem test_training_health :
    let bad (l : List Nat) : State := { inPort .training with test := { (inPort .training).test with force := { lanes := l } } }
    (match exec (.trainingDone 7 { trained with failedLanes := [] } other) (bad [18 * 7 + 3]) with
      | .next t => (t.port 7).spareFor == 3 && (t.port 7).txSpareFor == 15
      | _ => false) = true ∧
    (match exec (.trainingDone 7 { trained with failedLanes := [5] } other) (bad [18 * 7 + 3]) with
      | .next t => (t.port 7).state == .refused && (t.port 7).reason == 2
      | _ => false) = true := by decide +kernel

/-- A linked port that the image enables, with its partner known. -/
def judged : State := port 0 (fun q => { q with state := .linked, enabled := true, partner := some other }) idle

/-- Witnesses of `LinkedPortIsJudged`: a port whose image tag is 0 fails code 7, the lowest that fails. -/
theorem hyp_judged : (judged.port 0).state = .linked ∧ (judged.port 0).enabled = true ∧ (judged.port 0).partner = some other ∧
    (ownIdentity judged 0).moduleId ≠ other.moduleId ∧ (ownIdentity judged 0).systemId = other.systemId ∧
    ((evalPort 0 judged).port 0).reason = 7 := by decide +kernel

/-- A superframe of a type on port p whose slot 33 carries a sideband word, with the header check that fits. -/
def frameOf (p typ word : Nat) : RxSuperframe :=
  let f : RxSuperframe :=
    { port := p, marker := 0, typ, cycle := 0, index := 0, slotMap := 0, spareFor := 15, switchNext := 0, hcrc := 0,
      slots := (List.range 34).map (fun j => { bits := [], side := if j = 33 then word else 0 }),
      corrected := [], correctedWords := 0, badWords := [], ago := 0 }
  { f with hcrc := crc16 92 (sfHeader f) }

/-- Witnesses of `SuperframeReceivedCompletes`: a port that does not exist, one that is not framed, a header that fails its check, a
reserved TYPE, and a FILL and a DATA superframe in a run. -/
theorem hyp_superframe :
    8 ≤ (frameOf 8 0 0).port ∧ framed (inPort .training) 7 = false ∧ framed (inPort .exchange) 7 = true ∧
    (frameOf 7 0 0).hcrc + 1 ≠ crc16 92 (sfHeader { frameOf 7 0 0 with hcrc := (frameOf 7 0 0).hcrc + 1 }) ∧
    ([0, 1, 2, 3].all fun n => (frameOf 7 n 0).hcrc == crc16 92 (sfHeader (frameOf 7 n 0))) = true ∧ 2 ≤ (frameOf 7 2 0).typ ∧
    (frameOf 7 1 0).typ < 2 ∧ inRun (inState .running 4 (inPort .exchange)) = true := by decide +kernel

/-- R237, R239: a STATUS message (TYPE 1) with HOLDING in a FILL superframe shows the partner holding. R238: one with TYPE 15 is
discarded and counted. -/
theorem test_sideband :
    ((takeSuperframe (frameOf 7 0 (0x8000 + 1024 + 512)) (inPort .linked)).port 7).holding = true ∧
    (takeSuperframe (frameOf 7 0 (0x8000 + 15 * 1024)) (inPort .linked)).o 0x3B07 0x0D = 1 := by decide +kernel

/-- Table 3-7: a guard word leaves before a control word, and a control word before a management word. -/
theorem test_sideband_order :
    (popSide { gtx := some (0, [5]), ctl := [6], mg := [7] }).1 = 0x4005 ∧ (popSide { ctl := [6], mg := [7] }).1 = 0x8006 ∧
    (popSide { mg := [7] }).1 = 0xC007 ∧ (popSide {}).1 = 0 := by decide +kernel

/-- Witnesses of `PortMessagesComplete`: each branch of its clauses, on the last port: framed, off and in EXCHANGE; an origin that has
been heard and one that has not; a transit that leaves 8 steps (`trained`) and one that does not, on a port refused for another reason
too; a free spare and a used one; guard words with and without FIRST. -/
theorem hyp_messages :
    framed (inPort .linked) 7 = true ∧ framed (inPort .off) 7 = false ∧ bitOf 256 8 = true ∧ bitOf 255 8 = false ∧
    (127 : Nat) ∉ (inPort .linked).ex.faultSeen ∧
    (127 : Nat) ∈ ({ inPort .linked with ex := { (inPort .linked).ex with faultSeen := [127] } } : State).ex.faultSeen ∧
    (inPort .exchange).ex.ports.length = 8 ∧ ((inPort .exchange).port 7).state = .exchange ∧
    192 - ((400 - 0 + 1) / 2 + 12) < 8 ∧ ¬(192 - ((343 - 0 + 1) / 2 + 12) < 8) ∧
    ((port 7 (fun q => { q with reason := 5 }) (inPort .refused)).port 7).reason = 5 ∧
    ((inPort .linked).port 7).txSpareFor = 15 ∧ ((inPort .linked).port 7).txSwitch = none ∧
    ((inPort .linked).port 7).spareFor = 15 ∧ (0 : Nat) < (inPort .linked).o 0x3A07 0x0A ∧ (inPort .linked).o 0x3A07 0x0A < 10001 ∧
    bitOf 0x2000 13 = true ∧ bitOf 0x1FFF 13 = false ∧ ((inPort .exchange).port 7).guard = [] ∧
    ((port 7 (fun q => { q with guard := [0x2000] }) (inPort .exchange)).port 7).guard ≠ [] := by decide +kernel

/-- R244: a reply that leaves fewer than 8 steps refuses a linked port with reason 4; one that leaves 8 does not. -/
theorem test_transit :
    ((takeTransit 7 (transitOf 400 0) (inPort .linked)).port 7).reason = 4 ∧
    ((takeTransit 7 (transitOf 343 0) (inPort .linked)).port 7).state = .linked := by decide +kernel

/-- A lane test of lane 7 of port 7 that runs. -/
def laneTesting : State := { inPort .linked with ex := { (inPort .linked).ex with test := some (7, 7) } }

/-- The lane-test objects for lane 7 of port 7. -/
def laneChosen : State := objs [(0x3C00, 1, 7), (0x3C00, 2, 7)] (inPort .linked)

/-- Witnesses of `LaneTestCompletes`, clause by clause. -/
theorem hyp_laneTest :
    fits 0x3C00 4 (codeVal 1) laneChosen = true ∧ (acc laneChosen).o 0x3C00 1 = 7 ∧ (acc laneChosen).o 0x3C00 2 = 7 ∧
    ((acc laneChosen).port 7).spareFor = 15 ∧ ((acc laneChosen).port 7).txSpareFor = 15 ∧ ((acc laneChosen).port 7).txSwitch = none ∧
    (acc laneChosen).ex.test = none ∧ (acc laneChosen).ex.testBack = none ∧ domState (acc laneChosen) (portDomain 7) = 2 ∧ ((acc laneChosen).port 7).state = .linked ∧
    fits 0x3C00 4 (codeVal 2) idle = true ∧ (acc idle).ex.test = none ∧
    fits 0x3C00 4 (codeVal 2) laneTesting = true ∧ (acc laneTesting).ex.test = some (7, 7) ∧
    framed laneChosen 7 = true ∧ fld 7 4 4 = 0 ∧ fld 7 8 2 = 0 := by decide +kernel

/-- Witnesses of `PortRequestsAreRefused`: members without the module; a port whose spare is used; one whose domain is off; one that is
off. -/
theorem hyp_portRefused :
    fits 0x3830 3 { ty := 10, data := octetsLE 16 2 } idle = true ∧ bitOf (natLE (octetsLE 16 2)) (acc idle).moduleId = false ∧
    fits 0x3C00 4 (codeVal 1) laneTesting = true ∧ (acc laneTesting).ex.test ≠ none ∧
    fits 0x3C00 4 (codeVal 1) { laneChosen with pwr := { laneChosen.pwr with dom := List.replicate 17 2 ++ [0, 0, 2] } } = true ∧
    domState { laneChosen with pwr := { laneChosen.pwr with dom := List.replicate 17 2 ++ [0, 0, 2] } } (portDomain 7) ≠ 2 ∧
    fits 0x3C00 4 (codeVal 1) idle = true ∧ ((acc idle).port ((acc idle).o 0x3C00 1)).state = .off ∧
    ((acc idle).port ((acc idle).o 0x3C00 1)).spareFor = 15 ∧ ((acc idle).port ((acc idle).o 0x3C00 1)).txSwitch = none := by
  decide +kernel

/-! ### Design memories, Rewind and Lantern -/

/-- The factory layout applied. -/
def laidOut : State := { idle with mem := { idle.mem with layout := pendingLayout idle } }

/-- The selectors of the last word of bank 3 of tile 127. -/
def atBank : State := sels [(0x4200, 1, laneAddr 127 0 0), (0x4200, 2, 3), (0x4200, 3, 65535)] idle

/-- The selector of the last far word. -/
def atFar : State := sels [(0x4210, 1, farSize laidOut - 1)] laidOut

/-- Witnesses of `MemoryContentsWritesComplete`, in the three forms, with room for one word and with none to spare. -/
theorem hyp_memoryWrites :
    forms 0x4200 4 5 65535 (u64 1) { ty := 11, data := octetsBE 8 1 } (octetsBE 8 1) (blockTooLong 0x4200 5 65536) atBank = true ∧
    addrTile (selOf (acc atBank) 1 0x4200 1) = some 127 ∧
    (acc atBank).mem.hostQ.length + (bankHostWords 127 (octetsBE 8 1) (mine atBank) (acc atBank)).length ≤ 1024 ∧
    forms 0x4210 2 3 (farSize laidOut - 1) (u64 1) { ty := 11, data := octetsBE 8 1 } (octetsBE 8 1)
      (fun d n s => blockTooLong 0x4210 3 (farSize s) d n s) atFar = true ∧
    selOf (acc atFar) 1 0x4210 1 < farSize (acc atFar) ∧
    (acc atFar).mem.hostQ.length + (farHostWords (octetsBE 8 1) (mine atFar) (acc atFar)).length ≤ 1024 := by decide +kernel

/-- A state in which the far read of tile 127 is due and its commit window runs. -/
def farDue : State :=
  { running (fun r => { r with state := .running, phase := .commit }) idle with
    mem := { idle.mem with
      farDel := [{ tile := 127, cluster := 15, addr := 0, data := some 1, ready := false, done := false, failed := false }] } }

/-- The last word of bank 511 corrected by a read of port B; and its port taken n times. -/
def fixedWord : State := { idle with mem := { idle.mem with fixed := [(bankKey 511 65535, 1)] } }
def takeAll (n : Nat) (s : State) : State := (List.range n).foldl (fun t _ => takePort 127 7 t) s

/-- Witnesses of `MemoryRowsComplete`, clause by clause. -/
theorem hyp_memoryRows :
    fits 0x4010 0x0A (u8 15) idle = true ∧ addrTile (selOf (acc idle) 1 0x4010 1) = some 0 ∧
    ((List.range 9).all fun q => q == 8 || decide (portOwner (acc idle) 0 q ≠ some 15)) = true ∧
    fits 0x4010 2 (u8 255) idle = true ∧ fits 0x4010 0x0B { ty := 10, data := [15] } idle = true ∧
    fits 0x4110 2 (codeVal 1) laidOut = true ∧ layoutRefusal (acc laidOut) = none ∧
    ((List.range 4).all fun q => !(gateShut (acc laidOut) (13 + q))) = true ∧
    ({ laidOut with mem := { laidOut.mem with applying := true, applyTo := laidOut.mem.layout } } : State).mem.applying = true ∧
    farDue.run.phase = .commit ∧ (farDue.mem.farDel.find? (fun d => d.tile == 127 && !d.done && d.data.isSome)).isSome = true ∧
    fixedWord.mem.fixed.find? (fun x => x.1 == bankKey 511 65535) = some (bankKey 511 65535, 1) ∧ portFree fixedWord 127 7 = true ∧
    portFree (takeAll 8 (running (fun r => { r with state := .running, phase := .commit }) fixedWord)) 127 7 = false ∧
    fits 0x4110 2 (codeVal 2) laidOut = true := by decide +kernel

/-- Tile 0 with port 0 bound to cluster 3. -/
def bound : State := { idle with mem := { idle.mem with owner := Sparse.set0 [] 0 4 } }

/-- Witnesses of `BindingsAndMarksAreRefused`: a cluster outside 0-15, a cluster that another port has, and a second host mark. -/
theorem hyp_bindings :
    fits 0x4010 2 (u8 16) idle = true ∧ fits 0x4010 3 (u8 3) bound = true ∧ portOwner (acc bound) 0 0 = some 3 ∧
    addrTile (selOf (acc bound) 1 0x4010 1) = some 0 ∧
    fits 0x5A00 1 (u32 7) { idle with lan := { idle.lan with hostMark := some 1 } } = true := by decide +kernel

/-- A complete checkpoint of cycle 0. -/
def ckpt0 : Ckpt :=
  { cycle := 0, state := 2, cause := 0, by_ := 255, frc := 0, planes := [], first := true, gov := [], far := [], patPos := 0,
    ctx := {}, held := [], pre := [], drained := true, guardOk := true, fb := false, fresh := false, lone := false }

/-- A stopped design at cycle n with that checkpoint. -/
def kept (n : Nat) : State :=
  let s := running (fun r => { r with state := .stopped, cycle := BitVec.ofNat 64 n }) { idle with pwr := { idle.pwr with mode := 5 } }
  { s with rew := { s.rew with ckpts := [ckpt0] } }

/-- A stopped design at cycle 1 with a checkpoint of cycle 1, and a restore to it that replays nothing. -/
def restorable : State :=
  let s := objs [(0x4900, 1, 1), (0x4900, 2, 0)] (kept 1)
  { s with rew := { s.rew with ckpts := [{ ckpt0 with cycle := 1 }] } }

/-- A host's restore that has replayed its last cycle. -/
def replayed (host : Bool) : State :=
  running (fun r => { r with
    replay := some { host, first := 0, last := 0, since := 0, resume := .running, recovered := [], finished := true } }) (kept 1)

/-- A run that halted after cluster 0 of tile 0 failed in cycle 1; tile 0 can be rebuilt from the held image. -/
def halted : State :=
  let s := objs [(0x6100, 6, 1)] (kept 2)
  running (fun r => { r with state := .recovering, holdRecovery := true, failed := [(0, 0)] }) s

/-- Witnesses of `RewindRowsComplete`, clause by clause. -/
theorem hyp_rewind :
    fits 0x4800 8 (codeVal 1) (kept 1023) = true ∧ ((completeCkpts (acc (kept 1023))).getLast?).isSome = true ∧
    (∀ c ∈ (completeCkpts (acc (kept 1023))).getLast?, c.cycle + 1024 ≤ (acc (kept 1023)).run.cycle.toNat + 1) ∧
    ({ idle with rew := { idle.rew with deferred := true } } : State).rew.deferred = true ∧ draining idle = false ∧
    fits 0x4900 3 (codeVal 1) restorable = true ∧ restoreRefusal (acc restorable) = none ∧
    ((completeCkpts (acc restorable)).find? (fun k => k.cycle == (acc restorable).o 0x4900 1)).isSome = true ∧
    ((replayed true).run.replay.map fun q => q.host && q.finished) = some true ∧
    ((replayed false).run.replay.map fun q => !q.host && q.finished) = some true ∧
    halted.run.state = .recovering ∧ halted.run.holdRecovery = true ∧ halted.run.failed ≠ [] ∧
    (substituteAll 1 [(0, 0)] (finishDrain (drainMicros halted) halted)).1 = true ∧
    (substituteAll 1 [(0, 0)] (finishDrain (drainMicros halted) halted)).2.run.replay = none ∧
    (newestAt 1 (substituteAll 1 [(0, 0)] (finishDrain (drainMicros halted) halted)).2).isSome = true := by decide +kernel

/-- The factory layout, with segment 0 of one block and the min-max reduction that needs no group. -/
def armable : State :=
  setSeg 0 { start := 0, blocks := 1 } (setSeg 1 { start := 1, blocks := 1 } (objs [(0x5700, 2, 1), (0x5700, 3, 1)] laidOut))

/-- A state with Lantern armed. -/
def armed : State := { armable with lan := { armable.lan with ctx := { armable.lan.ctx with acq := .filling } } }

/-- Witnesses of `LanternRowsComplete`, clause by clause. -/
theorem hyp_lantern :
    fits 0x5200 1 (codeVal 1) armable = true ∧ armRefusal (acc armable) 1 = none ∧
    fits 0x5200 1 (codeVal 2) idle = true ∧ (acc idle).lan.ctx.acq = .disarmed ∧
    fits 0x5200 1 (codeVal 2) (inState .running 4 armed) = true ∧ (acc armed).lan.ctx.acq ≠ .disarmed ∧
    inRun (acc (inState .running 4 armed)) = true ∧ inRun (acc armed) = false ∧
    fits 0x5200 1 (codeVal 3) idle = true ∧ fits 0x5A00 1 (u32 0) idle = true ∧ (acc idle).lan.hostMark = none ∧
    forms 0x5100 2 3 4194303 (u32 0) { ty := 11, data := octetsBE 4 0 } (octetsBE 4 0) (blockTooLong 0x5100 3 4194304)
      (sels [(0x5100, 1, 4194303)] idle) = true ∧
    mayRead idle 1 = true ∧ mapClash (probeMapWith 4194303 [0] idle) = false ∧
    (segOf (setSeg 0 { (segOf armed 0) with state := 1 } armed) 0).state = 1 ∧
    timedIn 0 (inState .running 4 armed) (segOf armed 0) = false ∧ armed.lan.timeMap = none ∧ idle.test.booted.delays = [] ∧
    (segOf armed 0).stamp + idle.o 0x5900 1 * 1000000 ≤ ({ idle with time := { idle.time with frc := 1000000000 } } : State).now ∧
    (objs [(0x5800, 4, 1)] idle).o 0x5800 4 = 1 ∧ (objs [(0x5800, 1, 1)] idle).o 0x5800 1 ≠ 0 ∧
    (inState .noDesign 8 idle).pwr.mode = 8 ∧ inRun (inState .running 4 idle) = true := by decide +kernel

/-! ### Target interface fabric -/

/-- Witnesses of `FabricWritesComplete`, clause by clause, at ends of the ranges. -/
theorem hyp_fabricWrites :
    forms 0x6810 2 3 8191 { ty := 11, data := octetsBE 32 0 } { ty := 11, data := octetsBE 32 0 } (octetsBE 32 0)
      (blockTooLong 0x6810 3 8192) (sels [(0x6810, 1, 8191)] idle) = true ∧ cellReserved 0 = false ∧
    forms 0x6828 2 3 4194303 (u16 0x4000) { ty := 11, data := octetsBE 2 0x4000 } (octetsBE 2 0x4000) (blockTooLong 0x6828 3 4194304)
      (sels [(0x6828, 1, 4194303)] idle) = true ∧
    ((chunks 2 (octetsBE 2 0x4000)).map natBE).any (fun e => fld e 10 4 != 0 || (!(bitOf e 14) && fld e 0 10 != 0)) = false ∧
    fits 0x6820 2 (u32 (2 ^ 31 + 2 ^ 22 - 1)) (sels [(0x6820, 1, 1023)] idle) = true ∧ fld (2 ^ 31 + 2 ^ 22 - 1) 22 9 = 0 ∧
    idle.tif.omap = [] ∧
    fits 0x6860 2 (u16 0x80) (objs [(0x6859, 1, 5)] (sels [(0x6860, 1, 319)] idle)) = true ∧ fld 0x80 6 2 = 2 ∧ fld 0x80 8 2 = 0 ∧
    (acc (objs [(0x6859, 1, 5)] (sels [(0x6860, 1, 319)] idle))).o (0x6850 + 319 / 32) 1 = 5 ∧
    fits 0x6840 1 (u64 8) idle = true ∧ fits 0x6830 1 (codeVal 1) idle = true ∧
    fits 0x6873 1 (u32 400000) idle = true ∧ fits 0x6870 1 (u32 50000) idle = true ∧
    fits 0x6859 1 (u8 5) idle = true ∧ fits 0x6859 1 (u8 1) idle = true ∧ strongPins idle 9 = false := by decide +kernel

/-- Entry 0 of the output map names index 5. -/
def mapped : State := { sels [(0x6820, 1, 1)] idle with tif := { idle.tif with omap := Sparse.set0 [] 0 (2 ^ 31 + 5) } }

/-- Witnesses of `OutputMapNamesAnIndexOnce`: entry 1 would name it too. -/
theorem hyp_outputMap : fits 0x6820 2 (u32 (2 ^ 31 + 5)) mapped = true ∧ bitOf (natBE (u32 (2 ^ 31 + 5)).data) 31 = true ∧
    (∃ p ∈ (acc mapped).tif.omap, p.1 ≠ selOf (acc mapped) 1 0x6820 1 ∧ bitOf p.2 31 = true ∧ fld p.2 0 22 = fld (2 ^ 31 + 5) 0 22) := by
  refine ⟨by decide +kernel, by decide +kernel, (0, 2 ^ 31 + 5), by decide +kernel, by decide +kernel, by decide +kernel, rfl⟩

/-- The fabric configured, with the read input of the user flash at 1. -/
def readsFlash : State :=
  { idle with tif := { idle.tif with state := 1, cells := [(128 * 63 + 19, BitVec.ofNat 256 (22 * 2 ^ 21))] } }

/-- Serial port 7 in mode m, with command n running. -/
def serial (m n : Nat) : State := objs [(0x6C07, 1, m)] (modSerial 7 (fun p => { p with running := n }) idle)

/-- The same where the wire that gives it the signal sig selects a source by its code: 0 an incoming wire, 22 the constant 1. -/
def lineFrom (code sig : Nat) (s : State) : State :=
  { s with tif := { s.tif with cells := [(128 * (56 + sig) + 127, BitVec.ofNat 256 (code * 2 ^ 41))] } }

/-- Witnesses of `FabricUnitsComplete`, clause by clause. -/
theorem hyp_fabricUnits :
    tifRuns readsFlash = true ∧ readsFlash.tif.ufRd = false ∧ tval readsFlash tifFuel (.wire (128 * 63 + 19) 0) = some true ∧
    fits 0x6880 3 (u8 1) idle = true ∧ (acc idle).tif.ufBusy = none ∧
    forms 0x6880 2 2 4095 { ty := 11, data := [1] } { ty := 11, data := [1] } [1] flashTooLong (sels [(0x6880, 1, 4095)] idle) = true ∧
    ({ idle with tif := { idle.tif with ufBusy := some (0, true) } } : State).tif.ufBusy ≠ none ∧
    fits 0x6C07 7 (codeVal 1) (serial 1 0) = true ∧ ((acc (serial 1 0)).serialPort 7).running = 0 ∧ (acc (serial 1 0)).o 0x6C07 1 = 1 ∧
    fits 0x6C07 7 (codeVal 3) (serial 3 0) = true ∧ (acc (serial 3 0)).o 0x6C07 1 = 3 ∧ fits 0x6C07 7 (codeVal 4) (serial 3 3) = true ∧
    ((serial 3 3).serialPort 7).running ≠ 0 ∧ (serial 3 3).o 0x6C07 1 = 3 ∧ (serial 1 0).o 0x6C07 1 = 1 ∧
    steadyLine (lineFrom 0 1 (serial 3 3)) 7 1 = none ∧ steadyLine (lineFrom 0 2 (serial 1 1)) 7 2 = none ∧
    steadyLine (lineFrom 0 1 (serial 1 0)) 7 1 = none ∧
    steadyLine (lineFrom 22 2 (serial 2 1)) 7 2 = some true ∧ (lineFrom 22 2 (serial 2 1)).o 0x6C07 1 ≠ 3 ∧
    steadyLine (lineFrom 22 1 (serial 3 3)) 7 1 = some true ∧
    (objs [(0x6859, 2, 1)] idle).o 0x6859 2 = 1 ∧ (objs [(0x6859, 2, 2)] idle).o 0x6859 2 = 2 ∧
    (objs [(0x6873, 2, 1)] idle).o (0x6870 + (4 - 1)) 2 ≠ 0 := by decide +kernel

/-! ### Images, keys and updates -/

/-- One octet of image staged, in the factory layout. -/
def staged : State := objs [(0x6100, 1, 0), (0x6100, 2, 1)] laidOut

/-- The header of an image of a type. -/
def header (typ : Nat) : ImgHdr :=
  { typ, prot := false, swapAtEnd := false, tapsPublic := false, portMask := 0, level := 0, latencies := [], tag := 1, baseTag := 0,
    ownerTag := 0, frameCount := 2, quadMask := 0, tileMask := 0, dictMask := 0, exchMask := 0, bankMask := 0, required := 0 }

/-- An application of a type that runs. -/
def applying (typ : Nat) (stopped : Bool) : Applying :=
  { hdr := header typ, frames := [], off := 0, len := 1, inReset := true, from_ := 0, stopped }

/-- A check that runs. -/
def check0 : ImgCheck := { off := 0, len := 1, apply := false, session := 1, seq := 1, before := 1, kept := none }

/-- Witnesses of `ImageRowsComplete`, clause by clause. -/
theorem hyp_images :
    forms 0x6100 3 3 0 { ty := 11, data := [1] } { ty := 11, data := [1] } [1] stageTooLong staged = true ∧ lockedRange (acc staged) = none ∧
    fits 0x6200 1 (codeVal 1) staged = true ∧ fits 0x6200 1 (codeVal 2) staged = true ∧ imageBlocked true (acc staged) = false ∧
    imageBlocked false (acc staged) = false ∧ imageRefusal (acc staged) = none ∧ fits 0x6200 1 (codeVal 3) staged = true ∧
    ({ staged with img := { staged.img with check := some check0 } } : State).img.check = some check0 ∧ inRun staged = false ∧
    (applying 1 true).hdr.typ = 1 ∧ (applying 1 false).inReset = true ∧ (applying 1 false).written = false ∧
    (applying 2 false).hdr.typ = 2 := by decide +kernel

/-- Witnesses of `KeyCommandsComplete`: the four commands in SERVICE, with no key in the eFuses and with one. -/
theorem hyp_keys :
    fits 0x6040 6 (codeVal 1) service = true ∧ inService (acc service) = true ∧ (acc service).o 0x6040 7 ≠ 1 ∧
    fits 0x6040 6 (codeVal 2) service = true ∧ (acc service).o 0x6040 1 ≠ 1 ∧ fits 0x6040 6 (codeVal 3) service = true ∧
    fits 0x6040 6 (codeVal 4) (objs [(0x6040, 1, 1)] service) = true ∧ (acc (objs [(0x6040, 1, 1)] service)).o 0x6040 1 ≠ 0 ∧
    unwrapKey (acc service) 1 (acc service).keys.wrapped = none := by decide +kernel

/-- All tamper detectors enabled. -/
def guarded (m : Nat) : State := inState .noDesign m (objs [(0x6050, 3, 15)] idle)

/-- Witnesses of `UpdateAndCredentialRowsComplete`, clause by clause. -/
theorem hyp_updates :
    bitOf ((guarded 1).o 0x6050 3) 3 = true ∧ awakeMode (guarded 1) = false ∧ awakeMode (guarded 3) = true ∧
    ({ guarded 0 with pwr := { (guarded 0).pwr with vinGood := false } } : State).pwr.vinGood = false ∧
    fits 0x1E00 5 (codeVal 1) service = true ∧ fits 0x1E00 5 (codeVal 2) service = true ∧ inService (acc service) = true ∧
    fits 0x6030 3 (u32 512) service = true ∧ (acc service).o 0x6030 5 ≠ 1 ∧ (objs [(0x6030, 5, 1)] service).o 0x6030 5 = 1 ∧
    forms 0x6030 2 2 29360127 { ty := 11, data := [1] } { ty := 11, data := [1] } [1] (blockTooLong 0x6030 2 slotSize)
      (objs [(0x6030, 5, 2), (0x6030, 1, 29360127)] service) = true ∧
    (acc (objs [(0x6030, 5, 2)] service)).o 0x6030 5 = 2 ∧ fits 0x6030 4 (codeVal 1) (objs [(0x6030, 5, 2)] service) = true ∧
    fits 0x6030 4 (codeVal 2) service = true ∧ inService (acc (objs [(0x6030, 5, 2)] service)) = true := by decide +kernel

set_option maxRecDepth 20000 in
/-- Witnesses of its OWNER_TOKEN clause: an applied FULL image whose tag is that of the token. -/
theorem hyp_ownerToken : ∃ s : State, fits 0x6400 1 { ty := 11, data := octetsBE 32 0 } s = true ∧
    s.img.full = true ∧
    (Config.hmacSha256 (octetsBE 32 (kImg (acc s)).toNat) (octetsBE 32 0)).toNat >>> 128 = s.img.ownerTag :=
  ⟨{ idle with img := { idle.img with
      full := true
      ownerTag := (Config.hmacSha256 (octetsBE 32 (kImg (acc idle)).toNat) (octetsBE 32 0)).toNat >>> 128 } },
    by decide +kernel, rfl, rfl⟩

/-! ### Boot and the Azmuax Control Protocol -/

/-- A module that has just entered BOOT, and one whose DONE is awaited. -/
def booting (step : Nat) : State := inState .noDesign 2 (objs [(0x6000, 1, step)] idle)

/-- Witnesses of `BootRowsComplete`: the boot of a module in BOOT before step 1, and DONE awaited in step 4. -/
theorem hyp_boot : (booting 0).pwr.mode = 2 ∧ (booting 0).o 0x6000 1 = 0 ∧ (booting 4).o 0x6000 1 = 4 ∧
    (booting 4).boot.doneTimedOut = false ∧
    (∃ found bad u, trySlots [] (bootOrder (booting 0)) (booting 0) = (found, bad, u)) :=
  ⟨by decide +kernel, by decide +kernel, by decide +kernel, by decide +kernel, _, _, _, rfl⟩

/-- A module whose Custodian key is provisioned, with session 2 reserved. -/
def reserved : State :=
  { idle with
    keys := { idle.keys with creds := [none, none, none, some 1] }
    acp := { idle.acp with sessions := [me, { id := 2, level := 3 }] } }

/-- Session 2 of it. -/
def second : Session := { id := 2, level := 3 }

/-- Witnesses of `SessionRowsComplete`: sessions that open. -/
theorem hyp_open : frameTaken reserved 0 = true ∧ isLocked reserved (sourceOf 0 5) = false ∧ wakeDepth reserved = reserved ∧
    openStatus reserved 0 3 = .ok ∧ reserved.sess 2 = some second ∧ second.carrier = rq.carrier ∧ second.isOpen = false ∧
    (∃ (r : Req) (proof : BitVec 256), r.session = 2 ∧ r.seq = 1 ∧ r.tag = proveTag reserved second proof ∧
      proof = proofOf reserved second "CH9 prove") ∧ ¬ (({ rq with session := 2, seq := 2 } : Req).seq = 1) := by
  refine ⟨by decide +kernel, by decide +kernel, rfl, by decide +kernel, by decide +kernel, rfl, rfl,
    ⟨{ rq with session := 2, tag := proveTag reserved second (proofOf reserved second "CH9 prove") }, _, rfl, rfl, rfl, rfl⟩, by decide⟩

/-- A session that has not negotiated. -/
def fresh : State := { idle with acp := { idle.acp with sessions := [{ me with negotiated := false, agreed := 0 }] } }

/-- A session with an operation that waits. -/
def waits : State :=
  { idle with acp := { idle.acp with sessions := [{ me with waiting := [{ seq := 7, tag := 0, op := 6, idx := 0x6200, sub := 1 }] }] } }

/-- Witnesses of its other clauses, and of `NegotiateAndSubscribeAreChecked`: 16 filters, 17, and a body of 3 octets. -/
theorem hyp_sessions :
    reachesB rq (mine fresh) fresh = true ∧ (mine fresh).negotiated = false ∧ (1 : BitVec 128).getLsbD 0 = true ∧
    (0 : BitVec 128).getLsbD 0 = false ∧ reachesB rq me idle = true ∧ me.negotiated = true ∧ bitOf me.agreed 2 = true ∧
    (octetsBE 64 0).length % 4 = 0 ∧ (octetsBE 64 0).length ≤ 64 ∧ 16 * 4 < (octetsBE 68 0).length ∧ (octetsBE 3 0).length % 4 ≠ 0 ∧
    frameTaken idle 0 = true ∧ idle.sess 1 = some me ∧ me.isOpen = true ∧ (mine waits).waiting.any (fun w => w.seq == 7) = true := by
  decide +kernel

/-- Witnesses of `ObjectAccessCompletes`, clause by clause. -/
theorem hyp_access :
    (match checkCommon (acc idle) (mine idle) 0x2000 1 false with | .ok _ => true | .error _ => false) = true ∧
    startsPastEnd (acc idle) 1 0x2000 1 = false ∧ domainBlocked (acc idle) 1 0x2000 1 = false ∧
    ((findObj 0x2000 1).map fun d =>
      !(tooLong (mine idle) ((d.ty.size).getD 0)) && (match (readOctets d (mine idle) 0x2000 1 (acc idle)).1 with
        | .ok l => l == [3] && !(tooLong (mine idle) l.length)
        | .error _ => false)) = some true ∧
    blockInfo 0x4200 5 = some (3, 8, 4096, 1) ∧
    (match checkCommon (acc idle) (mine idle) 0x4200 5 false with | .ok _ => true | .error _ => false) = true ∧
    65535 + 8 / 8 ≤ blockElements (acc idle) 1 0x4200 5 ∧ 8 ≤ bodyLimit (mine idle) ∧ domainBlocked (acc idle) 1 0x4200 5 = false ∧
    (readChunks (mine idle) 0x4200 5 3 8 4096 1 65535 1 0 (setStart 1 0x4200 3 65535 (acc idle))).1 ≠ [] ∧
    fits 0x2000 5 (u32 (2 ^ 32 - 1)) idle = true ∧ (rowOf rq 0x2000 5 (u32 (2 ^ 32 - 1))).isNone = true ∧
    (findObj 0x2000 5).isSome = true ∧ writeRefusal (acc idle) 1 0x2000 5 (2 ^ 32 - 1) = none ∧
    (match checkWrite (setStart 1 0x4200 3 65535 (acc atBank)) (mine atBank) 0x4200 5 { ty := 11, data := octetsBE 8 1 }
      (blockTooLong 0x4200 5 65536 (octetsBE 8 1) 1 (setStart 1 0x4200 3 65535 (acc atBank))) with | none => true | some _ => false) = true ∧
    addrTile (selOf (setStart 1 0x4200 3 65535 (acc atBank)) 1 0x4200 1) = some 127 := by decide +kernel

/-- Witnesses of `AbsentObjectsAreRefused`: an index beyond every chapter, and a feature that was not agreed. -/
theorem hyp_absent : (findObj 0xFFFF 1).isNone = true ∧ (rowOf rq 0xFFFF 1 (u8 0)).isNone = true ∧ (findObj 0x7820 3).isSome = true ∧
    bitOf ({ me with agreed := 1 } : Session).agreed (featureOf 0x7820 3) = false := by decide +kernel


/-! ### Host link and packet network -/

/-- A module whose host link is up, with the mailbox enabled. -/
def linked : State := { idle with boot := { idle.boot with firmware := true }, host := { idle.host with mbOn := true } }

/-- The same with an event ring of 64 entries and a reply ring of 16 that are full. -/
def brim : State := { linked with host := { linked.host with evProd := 64, rpProd := 16 } }

/-- Engine 7 with a descriptor in progress. -/
def moving : State := modEng 7 (fun g => { g with running := true, enable := true }) linked

/-- Witnesses of `HostAccessesComplete` and of the apertures of `BadHostMapsAreRefused`. -/
theorem hyp_hostAccess : endpointOn linked = true ∧ linked.host.d3hot = false ∧ apertureOk true (2 ^ 64 - 2 ^ 30) = true ∧
    apertureOk false 7 = true ∧ apertureOk false 8 = false ∧ apertureOk true 1 = false ∧ (8 : Nat) % 256 > 7 ∧
    (wakeDepth linked).host.slotLen.getD 3 0 = 0 ∧ dmaGated (wakeDepth linked) 7 = false ∧ (moving.eng 7).running = true ∧
    endpointOn moving = true ∧ moving.host.d3hot = false ∧ wideReg (0x8008 / 8 * 8) = false ∧ wideReg (0x8024 / 8 * 8) = true ∧
    0x7FF8 + 8 ≤ 0x8000 ∧ 0x8000 ≤ 0x8008 ∧ moving.host.gating = [] ∧
    ¬ ((8 : Nat) = 4 ∧ 4 % 4 = 0 ∨ (8 : Nat) = 8 ∧ 4 % 8 = 0) := by decide +kernel

/-- A read request of 64 octets from endpoint 0 to endpoint 223, and one to an endpoint that does not exist. -/
def packet : NocPacket :=
  { dst := 223, src := 0, vn := 0, opcode := 1, body := 0, size := 64, tag := 0, status := 0, addr := 0, reserved := 0, initiator := 0,
    age := 0 }
def stray : NocPacket := { packet with dst := 224 }

/-- The network with that packet's tag held, and with a worm in flight through router 27. -/
def tagHeld : State := modNoc (fun n => { n with tags := [(0, 0, 64, 0, 0)] }) linked
def wormIn : State := modNoc (fun n => { n with hold := [(48 * 27, 1)] }) linked

/-- Witnesses of the packets of `HostEventsComplete`. -/
theorem hyp_packets : crossable packet = true ∧ pktRequest packet = true ∧ crossable stray = false ∧ domState linked 2 = 2 ∧
    tagHeld.host.noc.tags.any (fun x => x.1 == packet.src && x.2.1 == packet.tag) = true ∧ domState tagHeld 2 = 2 ∧
    linked.host.noc.tags = [] ∧ wormIn.host.noc.newTables = [] ∧ wormThrough wormIn.host.noc 27 = true ∧
    wormThrough linked.host.noc 27 = false := by decide +kernel

/-- The read request crosses the network to endpoint 223, whose response (R624: opcode 3, the tag of the request) is on its way back. -/
theorem test_packet_crosses : (match exec (.packetReceived packet) linked with
    | .next t => t.host.noc.pkts.map (fun x => (x.2.opcode, x.2.src, x.2.dst, x.2.tag, x.2.size)) == [(3, 223, 0, 0, 64)]
    | _ => false) = true := by decide +kernel

/-- Witnesses of `HostEventsComplete`, and of the refusals of `BadHostMapsAreRefused`. -/
theorem hyp_hostEvents : endpointOn linked = true ∧ linked.boot.firmware = true ∧ brim.host.mbOn = true ∧
    brim.host.evSize ≤ ringUsed brim.host.evProd brim.host.evCons ∧ brim.host.fullRaised.getD 1 false = false ∧
    brim.host.rpSize ≤ ringUsed brim.host.rpProd brim.host.rpCons ∧ brim.host.fullRaised.getD 0 false = false ∧ domState linked 2 = 2 ∧
    fits 0x7380 1 (codeVal 1) idle = true ∧ fits 0x7380 1 (codeVal 2) idle = true ∧ fits 0x7380 1 (codeVal 3) idle = true ∧
    fits 0x7700 48 (u64 (2 ^ 63)) idle = true ∧ fld (natBE (u64 (2 ^ 63)).data) 32 31 = 0 ∧
    fits 0x7700 1 (u64 (2 ^ 62)) idle = true ∧ fld (natBE (u64 (2 ^ 62)).data) 32 31 ≠ 0 ∧
    fits 0x7100 4 (u8 8) idle = true ∧ fits 0x7100 8 (u64 1) idle = true := by decide +kernel

/-! ### Time base and management ports -/

/-- A module whose clock runs on a linked port 0, with the port state and settings given. -/
def clock (l : List (Nat × Nat × Nat)) : State := objs ([(0x7820, 1, 1), (0x7900, 1, 1)] ++ l) idle

/-- A frame to the module's own address from port 1. -/
def frame (p : HostPayload) : EthFrame :=
  { port := 1, dst := 2, src := 4, vlan := [], length := 64, fcsOk := true, macControl := false, ipSrc := 7, ipDst := 9, payload := p, collisions := 0,
    late := false, rxStamp := 0, txStamp := 0 }

/-- A linked module that forwards, with address 9 in use and a full token bucket. -/
def online : State := modNet (fun n => { n with addr := 9 }) (objs [(0x7900, 1, 1), (0x7901, 1, 1), (0x7A00, 1, 1), (0x7C00, 1, 1), (0x7C00, 2, 1)] idle)

/-- The same after the frame is counted. -/
def counted : State := online.incO 0x7901 5 1

/-- Witnesses of `SystemTimeIsComputedAndSet`: SET_TIME as MASTER, and while UNCALIBRATED and SLAVE. -/
theorem hyp_setTime : fits 0x7800 8 { ty := 9, data := octetsBE 8 0 } (clock [(0x7820, 0x0D, 6)]) = true ∧
    (acc (clock [(0x7820, 0x0D, 6)])).o 0x7820 0x0D = 6 ∧
    fits 0x7800 8 { ty := 9, data := octetsBE 8 (2 ^ 64 - 1) } (clock [(0x7820, 0x0D, 8)]) = true ∧
    (acc (clock [(0x7820, 0x0D, 8)])).o 0x7820 0x0D = 8 ∧
    fits 0x7800 8 { ty := 9, data := octetsBE 8 1 } (clock [(0x7820, 0x0D, 9)]) = true ∧
    (acc (clock [(0x7820, 0x0D, 9)])).o 0x7820 0x0D = 9 := by decide +kernel

/-- Witnesses of `TimeRowsComplete`: kinds 0 to 3 of own messages, and a correction that waits. -/
theorem hyp_time : domState idle 4 = 2 ∧ clockRuns ((clock []).incO 0x7830 8 1) = true ∧ ptpPort ((clock []).incO 0x7830 8 1) 0 = true ∧
    clockRuns (clock []) = true ∧ (objs [(0x7810, 1, 4)] idle).o 0x7810 1 = 4 ∧
    clockRuns (clock [(0x7820, 0x0D, 6)]) = true ∧ ownKindDue (clock [(0x7820, 0x0D, 6)]) 0 = true ∧
    ownKindDue (clock [(0x7820, 0x0D, 6)]) 1 = true ∧ ownKindDue (clock [(0x7820, 0x0D, 9), (0x7820, 5, 1)]) 2 = true ∧
    ownKindDue (clock [(0x7820, 5, 2)]) 3 = true ∧
    (modNet (fun n => { n with tc := [(1, 5, 6, 7)] }) idle).net.tc.find? (fun y => y.1 == 1) = some (1, 5, 6, 7) ∧
    fits 0x7820 1 (flag true) idle = true ∧ (clockWrite 1 (natBE (flag true).data) (acc idle)).1 = .ok := by decide +kernel

/-- Witnesses of the link and switch clauses of `NetworkRowsComplete`. -/
theorem hyp_switch : netOn idle = true ∧ idle.o 0x7900 1 = 0 ∧ idle.o 0x7901 1 ≠ 1 ∧ online.o 0x7901 1 = 1 ∧
    macError (frame .acp) = false ∧ counted.o 0x7A00 1 = 1 ∧ linkLocal 2 = false ∧ isMulticast 2 = false ∧
    (counted.net.macs.find? (fun e => e.1 == 2)).map (fun e => e.2.1) ≠ some 1 := by decide +kernel

/-- Witnesses of its address clauses. -/
theorem hyp_address :
    (modNet (fun n => { n with renewAt := 1 }) (objs [(0x7B00, 2, 1)] idle)).o 0x7B00 2 = 1 ∧
    (modNet (fun n => { n with renewAt := 1 }) (objs [(0x7B00, 2, 1)] idle)).net.renewAt ≠ 0 ∧
    (modNet (fun n => { n with probing := 5 }) idle).net.probing ≠ 0 ∧ netOn (modNet (fun n => { n with probing := 5 }) idle) = true ∧
    idle.o 0x7B00 5 ≠ 3 ∧ (objs [(0x7B00, 5, 3)] idle).o 0x7B00 5 = 3 ∧
    (if online.net.probing = 0 then online.net.addr else online.net.probing) = 9 ∧
    fits 0x7B00 2 (u8 1) idle = true ∧ (addressWrite 2 1 (acc idle)).1 = .ok ∧
    fits 0x7B00 3 (u32 (2 ^ 32 - 1)) idle = true := by decide +kernel

/-- Witnesses of its frame clauses: an ACP datagram that passes, and fragments that wait. -/
theorem hyp_frames : vlanOk counted (frame .acp) = true ∧ hostAccepts counted (frame .acp) = true ∧
    (∀ b d src m, (frame .acp).payload = .ptp b d src m → counted.time.master ≠ some src) ∧
    (limiterTake (limiterKey (frame .acp)) counted).1 = true ∧
    ({ idle with net := { idle.net with frags := [{ src := 1, ident := 2, parts := [(0, 3)], total := 4, since := 0 }] } } : State).net.frags.any
      (fun g => g.src == 1 && g.ident == 2) = true :=
  ⟨by decide +kernel, by decide +kernel, (by intro _ _ _ _ h; cases h), by decide +kernel, by decide +kernel⟩

/-! ### Power, modes and temperature -/

/-- A module in STANDBY. -/
def asleep : State := { State.reset with pwr := { State.reset.pwr with mode := 1, vinGood := true } }

/-- STANDBY with RESET_N low, and after PFAIL_N. -/
def heldLow : State := { asleep with pwr := { asleep.pwr with resetHigh := false } }
def failing : State := { asleep with pwr := { asleep.pwr with pfailDown := true, pfailLow := true } }

/-- Witnesses of `SupplyEventsComplete`, clause by clause. -/
theorem hyp_supply : State.reset.pwr.mode = 0 ∧ State.reset.pwr.offByCommand = false ∧
    ({ State.reset with pwr := { State.reset.pwr with offByCommand := true } } : State).pwr.offByCommand = true ∧
    2 ≤ idle.pwr.mode ∧ idle.pwr.pfailLow = false ∧ asleep.pwr.mode ≠ 0 ∧ asleep.pwr.pfailLow = false ∧ heldLow.pwr.mode = 1 ∧ heldLow.pwr.resetHigh = false ∧ heldLow.pwr.pfailDown = false ∧
    failing.pwr.mode = 1 ∧ failing.pwr.pfailDown = true ∧ failing.pwr.resetHigh = true ∧ failing.pwr.vinGood = true ∧
    failing.pwr.tripped = false ∧ (objs [(0x2000, 5, 9)] asleep).o 0x2000 5 ≠ 0 ∧ mayBoot (objs [(0x2000, 5, 9)] asleep) = true := by
  decide +kernel

/-- A sample of Tj and input power. -/
def sample (tj : Int) (mw : Nat) : PowerSample := { tj, sensor := 0, power := mw, vin := 48000, vbat := 3000 }

/-- IDLE with limits of 95 °C and 250 W, duty 8 and all phases; a run in it; and depth D1 with a wake 300 µs ahead. -/
def limited : State := objs [(0x2400, 3, 95000), (0x2200, 4, 250000), (0x2200, 5, 48), (0x2400, 6, 8)] idle
def hot : State := inState .running 4 limited
def dozing : State := { objs [(0x2100, 3, 300000)] idle with pwr := { idle.pwr with depth := 1 } }

/-- Witnesses of `TemperatureAndDepthRowsComplete`, clause by clause, and of `PowerLimitFollowsTheWorkingPhases`. -/
theorem hyp_temperature : 2 ≤ limited.pwr.mode ∧ toSigned 32 (limited.o 0x2400 3) ≤ (sample 95000 0).tj ∧
    limited.o 0x2200 4 < (sample 0 250001).power ∧ (sample 94999 0).tj < toSigned 32 (limited.o 0x2400 3) ∧
    (sample 94999 0).power ≤ limited.o 0x2200 4 ∧ 2 ≤ hot.pwr.mode ∧ 105000 ≤ (sample 105000 0).tj ∧ hot.pwr.haltLevel = false ∧
    hot.run.state = .running ∧ dozing.pwr.mode = 3 ∧ dozing.pwr.depth ≠ 0 ∧ (leftOf dozing dozing.pwr.depth).isSome = true ∧
    leftOf dozing dozing.pwr.depth = some 300000 ∧ 300000 ≤ 1000 * (wakeMicros dozing.pwr.depth + 100) ∧
    wakeMicros dozing.pwr.depth < 201 ∧ ¬ wakeMicros dozing.pwr.depth < 200 ∧
    47 < limited.o 0x2200 5 ∧ usedSample (sample 95000 0) limited = sample 95000 0 ∧
    (usedSample (sample 95000 0) { limited with test := { limited.test with booted := { limited.test.booted with sensors := [0] } } }).tj
      = 0 := by decide +kernel

/-- What the manual gives for one phase lost: 250 W · 47 / 48 is 244,791 mW. -/
theorem test_power_limit : (match exec (.powerLimitChanged 47) limited with
    | .next t => t.o 0x2200 4 == 244791 && t.o 0x2200 5 == 47
    | _ => false) = true := by decide +kernel

/-- Witnesses of the mode clauses: IDLE without a design, ANALYZER, and a stopped design in STEP. -/
theorem hyp_modes : fits 0x2000 2 (codeVal 2) idle = true ∧ inRun (acc idle) = false ∧
    modeAccepted 2 (acc idle).pwr.mode (acc idle).run.state ((acc idle).o 0x6000 1 == 6) = true ∧
    fits 0x2000 2 (codeVal 3) (inState .noDesign 8 idle) = true ∧
    modeAccepted 3 (acc (inState .noDesign 8 idle)).pwr.mode (acc (inState .noDesign 8 idle)).run.state
      ((acc (inState .noDesign 8 idle)).o 0x6000 1 == 6) = true ∧
    fits 0x2000 2 (codeVal 3) (inState .stopped 5 idle) = true ∧ inRun (acc (inState .stopped 5 idle)) = false ∧
    modeAccepted 3 (acc (inState .stopped 5 idle)).pwr.mode (acc (inState .stopped 5 idle)).run.state
      ((acc (inState .stopped 5 idle)).o 0x6000 1 == 6) = true ∧
    fits 0x2000 2 (codeVal 4) (booting 6) = true ∧
    modeAccepted 4 (acc (booting 6)).pwr.mode (acc (booting 6)).run.state ((acc (booting 6)).o 0x6000 1 == 6) = true := by decide +kernel

/-- Witnesses of STANDBY, SHUTDOWN and REBOOT. -/
theorem hyp_lastModes : reachesB rq (mine idle) idle = true ∧
    checkWrite (takeDue idle).2 (mine idle) 0x2000 2 (codeVal 1) false = none ∧
    checkWrite (takeDue idle).2 (mine idle) 0x2000 2 (codeVal 5) false = none ∧
    checkWrite (takeDue idle).2 (mine idle) 0x2000 2 (codeVal 6) false = none ∧ inRun idle = false ∧
    modeAccepted 1 idle.pwr.mode idle.run.state (idle.o 0x6000 1 == 6) = true ∧
    modeAccepted 5 idle.pwr.mode idle.run.state (idle.o 0x6000 1 == 6) = true ∧
    modeAccepted 6 idle.pwr.mode idle.run.state (idle.o 0x6000 1 == 6) = true := by decide +kernel

/-- A module whose DRAM has no regions. -/
def bare : State := { idle with mem := { idle.mem with layout := List.replicate 128 0 } }

/-- Witnesses of the domain clause, at its first and last domain, of `ModesAndSinksAreRefused`, and of the sinks. -/
theorem hyp_domains : fits (0x2300 + 13) 2 (u8 1) bare = true ∧ domainFree (acc bare) 13 = true ∧ fits (0x2300 + 18) 2 (u8 0) idle = true ∧
    domainFree (acc idle) 18 = true ∧ reachesB rq (mine (inState .waiting 4 idle)) (inState .waiting 4 idle) = true ∧
    checkWrite (takeDue (inState .waiting 4 idle)).2 (mine idle) 0x2000 2 (codeVal 6) false = none ∧
    checkWrite (inState .waiting 4 idle) (mine idle) 0x2000 2 (codeVal 2) false = none ∧
    reachesB rq (mine (inState .parked 3 idle)) (inState .parked 3 idle) = true ∧
    checkWrite (inState .parked 3 idle) (mine idle) 0x2000 2 (codeVal 4) false = none ∧
    modeAccepted 4 3 .parked ((inState .parked 3 idle).o 0x6000 1 == 6) = false ∧
    fits 0x8830 1 (u8 2) idle = true ∧ (acc idle).o (0x6850 + 9) 1 = 0 ∧ fits 0x8830 1 (u8 3) bare = true ∧
    regionUnits (acc bare) 6 = [] ∧ fits 0x8830 1 (u8 1) idle = true ∧ (acc idle).o 0x8830 1 ≠ 1 := by decide +kernel

/-! ### Self-test and flow trace -/

/-- A scheduled test that has an interval, one that runs, and an on-command test of each kind in progress. -/
def scheduledAt : State := objs [(0x8010, 1, 1)] idle
def testing : State := { inState .noDesign 10 idle with test := { idle.test with running := true, scheduled := true } }
def onDemand (kind : Nat) : State := objs [(0x8200, 1, kind), (0x8200, 4, 2)] idle

/-- Area 3 of Tallow enabled in all three copies. -/
def patrolling : State := { idle with test := { idle.test with tallow := List.replicate 3 { enable := 15 } } }

/-- Witnesses of `SelfTestRowsComplete`. -/
theorem hyp_tests : scheduledAt.pwr.mode = 3 ∧ scheduledAt.run.state = .noDesign ∧ scheduledAt.test.running = false ∧
    scheduledAt.o 0x8010 1 ≠ 0 ∧ (inState .parked 3 scheduledAt).run.state ≠ .noDesign ∧ scheduledAt.test.schedDue = false ∧
    testing.pwr.mode = 10 ∧ testing.test.running = true ∧ fits 0x8200 3 (codeVal 1) (objs [(0x8200, 1, 1)] bare) = true ∧
    odRefusal (acc (objs [(0x8200, 1, 1)] bare)) = none ∧ fits 0x8200 3 (codeVal 2) (onDemand 1) = true ∧ (onDemand 3).o 0x8200 4 ≠ 0 ∧
    (onDemand 3).o 0x8200 1 = 3 ∧ (onDemand 2).o 0x8200 1 ≠ 3 ∧ (onDemand 2).o 0x8200 4 ≠ 0 ∧
    bitOf (tallowVoted patrolling).enable 3 = true ∧ 2 ≤ patrolling.pwr.mode := by decide +kernel

/-- A trace that has dropped records and has room again. -/
def overflowed : State := { idle with trace := { idle.trace with dropping := true, dropped := 3 } }

/-- Witnesses of `TraceRowsComplete`: core trace by a Custodian, by an Operator on a firmware that is not secure, and switched off. -/
theorem hyp_trace : fits 0x8830 1 (u8 1) idle = true ∧ natBE (u8 1).data ≤ 3 ∧
    fits 0x8810 3 (flag true) idle = true ∧ (acc idle).sess 1 = some (mine (acc idle)) ∧ (mine (acc idle)).level = 3 ∧
    (mine (acc idle)).token = true ∧ fits 0x8820 1 { ty := 10, data := [15] } idle = true ∧ (acc idle).o 0x8800 5 ≠ 1 ∧
    (objs [(0x8800, 5, 1)] idle).o 0x8800 5 = 1 ∧ natLE ({ ty := 10, data := [0] } : WVal).data = 0 ∧
    overflowed.trace.dropping = true ∧ overflowed.trace.buf.length + 65536 ≤ traceRoomWords := by decide +kernel

/-! ### Values that the manual's worked examples give -/

/-- The 4-bit counter of chapter 1 in Q0.T00.C03: entries 16-18, and lane L00 with Q = 0111b and EN copied into 384. -/
def counter : State :=
  let s := ((idle.setDict 3 0 16 0x7878787878787878#64).setDict 3 0 17 0x7F807F807F807F80#64).setDict 3 0 18 0x7FFF80007FFF8000#64
  (s.setLane 192 { s.lane 192 with cur := 7, tmp := 1 }).setIm 192 6 0x049800000100803FC00303F000002000#128

/-- The fields of its word of step 6, and of the bits of the word that are 0. -/
theorem test_counter_word :
    let w := 0x049800000100803FC00303F000002000#128
    wFn w = 18 ∧ (List.range 6).map (wA w) = [384, 0, 1, 2, 3, 1008] ∧ wDst w = 3 ∧ wCapAddr w = 1008 ∧ wSt w = true ∧ wPrb w = false := by
  decide +kernel

/-- "Q3' = 1": the result of step 6 is 1, and it goes into the next plane at address 3. -/
theorem test_counter_step : (laneWord 6 6 [] [] 192 ({}, counter)).1.res = [192] ∧
    (laneWord 6 6 [] [] 192 ({}, counter)).1.writes = [{ lane := 192, plane := 1, addr := 3, bit := true }] := by decide +kernel

/-- The other three bits of the check, and TC. -/
theorem test_counter_tables :
    evalTable 0x7F807F807F807F80#64 [true, true, true, true, false, false] = false ∧
    evalTable 0x7878787878787878#64 [true, true, true, false, false, false] = false ∧
    evalTable (fixedEntry 12) [true, true, false, false, false, false] = false ∧
    evalTable (fixedEntry 4) [true, true, true, true, false, true] = false := by decide +kernel

/-- The comparator of chapter 1: a = 5 and b = 3 is index 29. -/
theorem test_comparator : evalTable 0x0080C0E0F0F8FCFE#64 [true, false, true, true, true, false] = true := by decide +kernel

/-- The clock change of chapter 12 from 1.6 to 1.0 GHz takes 8 increments. -/
theorem test_ramp : rampSteps 1600000 1000000 = 8 := by decide +kernel

/-- The snapshot of chapter 11. -/
def snapshot : State := { idle with time := { idle.time with
  frc := 1000500000000#64, anchor := 1000000000000, offset := 1699999000000000000, rate := 429497 } }

/-- Its system time, and what the step of -3 ms makes of it. -/
theorem test_system_time : sysTime snapshot = 1700000000500050000 ∧ sysTime (stepTime (-3000000) snapshot) = 1700000000497050000 ∧
    (stepTime (-3000000) snapshot).time.offset = 1699998999997000000 ∧ (stepTime (-3000000) snapshot).run = idle.run := by decide +kernel

/-- The parked design of chapter 12: with a job in 40 s, a Tallow slot in 2.495 s and a guard of 5 ms, the module enters D3. -/
def marrow : State :=
  let s := objs [(0x2100, 1, 4), (0x2100, 2, 5000), (0x2100, 3, 40000000000), (0x1120, 1, 100), (0x6100, 6, 1), (0x8300, 1, 2)] (inState .parked 3 idle)
  { s with test := { s.test with slotAt := 495000000 } }

/-- Its depth. -/
theorem test_parked_depth : chooseFrom marrow 4 = 3 := by decide +kernel

/-- The READ of chapter 9: DESIGN_CYCLE in session 7 at cycle 41,001; the reply has SEQ 5, ECHO 3, STATUS OK, TYPE U64 and 8 octets. -/
def reader : State :=
  { idle with
    run := { idle.run with cycle := 41001 }
    acp := { idle.acp with sessions := [{ me with id := 7, high := 2, seen := [2], txSeq := 4 }] } }

/-- Its reply. -/
theorem test_read_design_cycle : (match exec (.read { rq with session := 7, seq := 3 } 0x3410 1 5) reader with
    | .next t => (match t.out with
      | .frame _ f _ :: _ => f.session == 7 && f.op == 5 && f.last && f.seq == 5 && f.echo == 3 && f.status == .ok && f.idx == 0x3410 &&
          f.sub == 1 && f.ty == 5 && f.offset == 0 && f.body == [0, 0, 0, 0, 0, 0, 0xA0, 0x29]
      | _ => false)
    | _ => false) = true := by decide +kernel

end Sys2Proof.Tests
end

section
/-! SUPPORT. Lanes and dictionaries (chapter 1): the result of a lane's word, and the seal of a dictionary bank. -/

namespace Sys2Proof.Machine

/-! ### The result of a lane (R16) -/

/-- The index of a truth table counts operand Ax with weight 2 ^ x. -/
theorem evalTable_six_operands (tt : Word64) (b : Nat → Bool) :
    evalTable tt ((List.range 6).map b) =
      tt.getLsbD (32 * (b 5).toNat + 16 * (b 4).toNat + 8 * (b 3).toNat + 4 * (b 2).toNat + 2 * (b 1).toNat + (b 0).toNat) := by
  have operands : ((List.range 6).map b).zipIdx = [(b 0, 0), (b 1, 1), (b 2, 2), (b 3, 3), (b 4, 4), (b 5, 5)] := rfl
  have weight (c : Bool) (n : Nat) : (if c = true then n else 0) = n * c.toNat := by cases c <;> simp
  simp only [evalTable, operands, weight, List.foldl_cons, List.foldl_nil]
  congr 1
  ring

/-- Taking a probe-collector slot leaves the results of the step as they are. -/
@[simp] theorem takeSlot_res (step tile : Nat) (bnd r : Bool) (o : LaneOut) (s : State) :
    (takeSlot step tile bnd r o s).1.res = o.res := by
  unfold takeSlot
  dsimp only
  split
  case isTrue => rfl
  case isFalse =>
    split
    case isTrue => split <;> rfl
    case isFalse => split <;> rfl

/-- A lane whose word and truth table can be read joins the results of the step exactly when the table gives 1 for its operands. -/
theorem laneWord_res {step word : Nat} {inj imps : List Nat} {ll : Nat} {o : LaneOut} {s s1 s2 : State} {w : BitVec 128}
    {tt : Word64} (hw : fetchWord (physLane s ll) word s = (some w, s1))
    (ht : fetchEntry (physLane s ll / 64) (wFn w)
      (((List.range 6).map (wA w)).foldl (fun t a => checkOperand (physLane s ll) (s1.lane (physLane s ll)) a t) s1) =
        (some tt, s2)) :
    (laneWord step word inj imps ll (o, s)).1.res =
      if evalTable tt ((List.range 6).map (fun x => readBit s2 inj ll (s1.lane (physLane s ll)) (wA w x))) then o.res ++ [ll]
      else o.res := by
  simp only [laneWord, hw, ht, List.map_map, Function.comp_def]
  split
  case isTrue => exact takeSlot_res ..
  case isFalse => rfl

/-- Settles O18: the six operand bits select the bit of the table, and nothing that the word does after its evaluation changes the
results of the step. -/
theorem laneResultIsTruthTableBit : Obligations.LaneResultIsTruthTableBit := by
  intro step word inj imps ll o s s1 s2 w tt i hw ht a hi
  rw [laneWord_res hw ht, evalTable_six_operands, hi]

/-! ### The seal of a dictionary bank (R49) -/

/-- Counting the corrected reads of a bank changes nothing that the lanes hold. -/
@[simp] theorem countDictReads_lanes (pc bank : Nat) (s : State) : (countDictReads pc bank s).lanes = s.lanes := by
  simp only [countDictReads, incO_lanes]

/-- Which bank is active is read from the lanes alone. -/
theorem dictActive_congr {s t : State} (h : s.lanes = t.lanes) (pc : Nat) : dictActive s pc = dictActive t pc := by
  simp only [dictActive, h]

/-- So is the CRC of a bank. -/
theorem dictCrc_congr {s t : State} (h : s.lanes = t.lanes) (pc bank : Nat) : dictCrc s pc bank = dictCrc t pc bank := by
  simp only [dictCrc, State.dictEntry, h]

/-- What a seal of a cluster's shadow bank does once its checks have passed: it reads the whole bank, and the number written decides
between the seal and BAD_VALUE. The reads that it counts change neither the bank nor its CRC (log 16). -/
theorem exec_dictSeal {r : Req} {x : Session} {s : State} {v : WVal} {pc : Nat} (h : Reaches r x s)
    (hc : checkWrite s x 0x3100 6 v false = none)
    (hpc : addrCluster (accepted r x s) (selOf (accepted r x s) x.id 0x3100 1) = some pc) :
    exec (.dictSeal r v) s =
      let a := accepted r x s
      let t := countDictReads pc (1 - dictActive a pc) a
      .next (if natBE v.data = dictCrc a pc (1 - dictActive a pc) then
        replied r 6 0x3100 6 .ok (settleSwaps { t with lanes := { t.lanes with dictSealed := nsAdd pc t.lanes.dictSealed } })
      else replied r 6 0x3100 6 .badValue t) := by
  extract_lets a t
  have hlanes : t.lanes = a.lanes := countDictReads_lanes ..
  change execDictSeal r v s = _
  unfold execDictSeal
  split
  case isTrue hcrc =>
    refine congrArg _ (serveWrite_eq h hc ?_)
    simp only [hpc]
    rw [dictActive_congr hlanes, dictCrc_congr hlanes, if_pos hcrc]
  case isFalse hcrc =>
    refine congrArg _ (serveWrite_eq h hc ?_)
    simp only [hpc]
    rw [dictActive_congr hlanes, dictCrc_congr hlanes, if_neg hcrc]

/-- Settles O21, in its two cases: the number written is the CRC of the shadow bank, or it is not. -/
theorem dictionarySealNeedsTheCrc : Obligations.DictionarySealNeedsTheCrc := by
  intro r v pc
  constructor
  · rintro x s h hc ⟨hpc, hcrc⟩
    rw [exec_dictSeal h hc hpc]
    exact congrArg _ (if_pos hcrc)
  · rintro x s h hc ⟨hpc, hcrc⟩
    rw [exec_dictSeal h hc hpc]
    exact congrArg _ (if_neg hcrc)

end Sys2Proof.Machine
end

section
/-! SUPPORT. Refusals by a WRITE's own chapter: run commands (chapter 2) and requests for a step frequency (chapters 2 and 12). -/

namespace Sys2Proof.Machine

/-- A WRITE is refused with st when its handler answers st and leaves the accepting state as it is. -/
theorem writeRefused_of_handler {c : Instr} {r : Req} {idx sub : Nat} {v : WVal} {st : Status} {f : WriteFn}
    {pre : Session → State → Prop} (he : ∀ s, exec c s = .next (serveWrite r idx sub v f s))
    (hf : ∀ x t, pre x t → f x.id t = (st, t)) : WriteRefused c r idx sub v st pre := by
  intro x s h hc hp
  rw [he, serveWrite_eq h hc (hf x _ hp)]

/-! ### Run commands in states that do not accept them (R156) -/

/-- The states in which sweeps run are those that R156 answers with BUSY. -/
theorem inRun_iff_mem (s : State) : inRun s = true ↔ s.run.state ∈ [.running, .stepping, .stopping, .waiting, .recovering] := by
  unfold inRun
  cases s.run.state <;> decide

theorem notAccepted_eq_busy {s : State} (h : s.run.state ∈ [.running, .stepping, .stopping, .waiting, .recovering]) :
    notAccepted s = .busy := if_pos ((inRun_iff_mem s).2 h)

theorem notAccepted_eq_badValue {s : State} (h : s.run.state ∉ [.running, .stepping, .stopping, .waiting, .recovering]) :
    notAccepted s = .badValue := if_neg (mt (inRun_iff_mem s).1 h)

/-- The handler of each run command answers as R156 says in every state that Table 2-7 does not list for it, and changes nothing there. -/
theorem runCommand_handler_notAccepted {n : Nat} {c : Req → Instr} {r : Req}
    (hrow : (n, c) ∈ [(1, Instr.run), (2, Instr.stop), (3, Instr.step), (4, Instr.runTo), (5, Instr.abort), (6, Instr.designReset),
      (7, Instr.park), (8, Instr.stateLoad)]) :
    ∃ f : WriteFn, (∀ s, exec (c r) s = runCommand r n f s) ∧
      ∀ i t, commandAccepted n t.run.state = false → f i t = (notAccepted t, t) := by
  simp only [List.mem_cons, Prod.mk.injEq, List.not_mem_nil, or_false] at hrow
  rcases hrow with ⟨rfl, rfl⟩ | ⟨rfl, rfl⟩ | ⟨rfl, rfl⟩ | ⟨rfl, rfl⟩ | ⟨rfl, rfl⟩ | ⟨rfl, rfl⟩ | ⟨rfl, rfl⟩ | ⟨rfl, rfl⟩
  all_goals
    refine ⟨_, fun _ => rfl, fun i t => ?_⟩
    cases hstate : t.run.state <;> simp [commandAccepted, notAccepted, inRun, hstate]

/-- A run command that the state does not accept is refused with the status that R156 gives for the state. -/
theorem runCommand_refused {n : Nat} {c : Req → Instr} {r : Req} {st : Status}
    (hrow : (n, c) ∈ [(1, Instr.run), (2, Instr.stop), (3, Instr.step), (4, Instr.runTo), (5, Instr.abort), (6, Instr.designReset),
      (7, Instr.park), (8, Instr.stateLoad)]) :
    WriteRefused (c r) r 0x3400 1 (codeVal n) st (fun _ s => commandAccepted n s.run.state = false ∧ notAccepted s = st) := by
  obtain ⟨f, hexec, hf⟩ := runCommand_handler_notAccepted (r := r) hrow
  refine writeRefused_of_handler hexec ?_
  rintro x t ⟨hstate, rfl⟩
  exact hf x.id t hstate

/-! ### RUN_TO with a goal already passed (R159) -/

theorem commandAccepted_runTo_iff (st : RunState) : commandAccepted 4 st = true ↔ st = .stopped ∨ st = .parked ∨ st = .running := by
  cases st <;> decide

/-- In a state that accepts RUN_TO the goal is compared with the counter before anything else (Table 2-12). -/
theorem runTo_passed_refused (r : Req) : WriteRefused (.runTo r) r 0x3400 1 (codeVal 4) .badValue
    (fun _ s => commandAccepted 4 s.run.state = true ∧ s.o 0x3400 3 ≤ s.run.cycle.toNat) := by
  refine writeRefused_of_handler (fun _ => rfl) ?_
  rintro x t ⟨hstate, hpassed⟩
  obtain hs | hs | hs := (commandAccepted_runTo_iff _).1 hstate
  all_goals
    simp only [hs]
    exact if_pos hpassed

/-- Settles O14: R156 judges the run state before anything else, and R159 comes next (Table 2-12, log 22). -/
theorem runCommandsAreRefused : Obligations.RunCommandsAreRefused := by
  refine ⟨fun n c r hrow => ⟨?_, ?_⟩, runTo_passed_refused⟩
  · rintro x s h hc ⟨hstate, hrun⟩
    exact runCommand_refused hrow x s h hc ⟨hstate, notAccepted_eq_busy hrun⟩
  · rintro x s h hc ⟨hstate, hrun⟩
    exact runCommand_refused hrow x s h hc ⟨hstate, notAccepted_eq_badValue hrun⟩

/-! ### Requests for a step frequency (R186, R187, R720) -/

/-- R186 is judged first (log 23). -/
theorem stepFreq_outOfRange_refused (r : Req) (v : WVal) : WriteRefused (.stepFreqRequest r v) r 0x3460 2 v .badValue
    (fun _ _ => natBE v.data < 400000 ∨ 1600000 < natBE v.data ∨ natBE v.data % 12500 ≠ 0) := by
  refine writeRefused_of_handler (fun _ => rfl) fun x t hrange => if_pos ?_
  simpa [or_assoc] using hrange

/-- A request that would lift an enabled CKOUT (log 56) is refused with BAD_VALUE whether or not R186 or R188 refuses it before R720. -/
theorem stepFreq_ckoutLifted_refused (r : Req) (v : WVal) : WriteRefused (.stepFreqRequest r v) r 0x3460 2 v .badValue
    (fun _ s => s.o 0x3460 4 ≠ 1 ∧ s.clk.fosc = false ∧ ckoutLifted s (natBE v.data) = true) := by
  refine writeRefused_of_handler (fun _ => rfl) ?_
  rintro x t ⟨hchange, hfosc, hlifted⟩
  have hfree : ¬ (t.o 0x3460 4 == 1 || t.clk.fosc) = true := by simp [hchange, hfosc]
  dsimp only
  rw [if_neg hfree, if_pos hlifted, ite_self, ite_self]

/-- R187 is judged next after R186 (log 23). -/
theorem stepFreq_duringChange_refused (r : Req) (v : WVal) : WriteRefused (.stepFreqRequest r v) r 0x3460 2 v .busy
    (fun _ s => 400000 ≤ natBE v.data ∧ natBE v.data ≤ 1600000 ∧ natBE v.data % 12500 = 0 ∧ s.o 0x3460 4 = 1) := by
  refine writeRefused_of_handler (fun _ => rfl) ?_
  rintro x t ⟨hlow, hhigh, hgrid, hchange⟩
  have hrange : ¬ (natBE v.data < 400000 || 1600000 < natBE v.data || natBE v.data % 12500 != 0) = true := by
    simp [hlow, hhigh, hgrid]
  have hbusy : (t.o 0x3460 4 == 1 || t.clk.fosc) = true := by simp [hchange]
  dsimp only
  rw [if_neg hrange, if_pos hbusy]

/-- Settles O17, one refusal at a time: R186 is judged before R187 (log 23), and R720 limits CKOUT only while it is enabled (log 56). -/
theorem stepFrequencyRequestsAreRefused : Obligations.StepFrequencyRequestsAreRefused := fun r v =>
  ⟨stepFreq_outOfRange_refused r v, stepFreq_ckoutLifted_refused r v, stepFreq_duringChange_refused r v⟩

end Sys2Proof.Machine
end

section
/-! SUPPORT. Ilyan ports (chapter 3): what a port holds after a change of it, the judgement of a linked port, and the refusals of its
requests. -/

namespace Sys2Proof.Machine

/-! ### What a port holds -/

/-- A port that is not off is one of those the state holds. -/
theorem lt_ports_length_of_state_ne_off {s : State} {p : Nat} (h : (s.port p).state ≠ .off) : p < s.ex.ports.length := by
  by_contra hp
  exact h (by rw [State.port, List.getD_eq_default _ _ (not_lt.1 hp)])

theorem modPort_port_same {s : State} {p : Nat} (f : Port → Port) (hp : p < s.ex.ports.length) :
    (modPort p f s).port p = f (s.port p) := by
  simp [modPort, State.port, List.getD_eq_getElem?_getD, hp]

@[simp] theorem raise_port (s : State) (c : Nat) (l : List Octet) (p : Nat) : (raise c l s).port p = s.port p := by
  simp only [State.port, raise_ex]

/-- A port that is refused enters REFUSED with the reason given, whether or not it was there already. -/
theorem refusePort_port_same {s : State} {p : Nat} (n : Nat) (hp : p < s.ex.ports.length) :
    (refusePort p n s).port p = { s.port p with state := .refused, reason := n } := by
  unfold refusePort
  dsimp only
  split
  case isTrue => exact modPort_port_same _ hp
  case isFalse => rw [raise_port, modPort_port_same _ hp]

/-! ### Codes 5 to 10 of Table 3-11 -/

/-- The lowest code that fails of a list of codes in rising order, each with whether it fails; 0 when all pass. -/
def firstFailing (codes : List (Nat × Bool)) : Nat := ((codes.find? (fun c => c.2)).map Prod.fst).getD 0

theorem firstFailing_cons (n : Nat) (fails : Bool) (codes : List (Nat × Bool)) :
    firstFailing ((n, fails) :: codes) = if fails then n else firstFailing codes := by cases fails <;> rfl

/-- The chain of tests of `identityFault` is Table 3-11 read from the top. -/
theorem identityFault_eq_firstFailing (a b : Identity) :
    identityFault a b = firstFailing [(5, a.moduleId == b.moduleId), (6, a.systemId != b.systemId),
      (7, a.imageTag != b.imageTag || a.imageTag == 0), (8, a.freqCode != b.freqCode), (9, a.guardLead != 2 || b.guardLead != 2),
      (10, a.members != b.members || !(bitOf a.members a.moduleId) || !(bitOf a.members b.moduleId))] := by
  simp only [firstFailing_cons, Bool.or_eq_true, beq_iff_eq, bne_iff_ne, or_assoc]
  rfl

/-! ### The judgement of a linked port (R245) -/

section
variable {p : Nat} {i : Identity} {s : State} (hlinked : (s.port p).state = .linked) (henabled : (s.port p).enabled = true)
  (hpartner : (s.port p).partner = some i)
include hlinked henabled hpartner

/-- A linked port enabled for exchange enters EXCHANGE when the identities agree. -/
theorem evalPort_linked_of_agree (h : identityFault (ownIdentity s p) i = 0) : ((evalPort p s).port p).state = .exchange := by
  have hp : p < s.ex.ports.length := lt_ports_length_of_state_ne_off (by simp [hlinked])
  simp [evalPort, hpartner, hlinked, henabled, h, modPort_port_same _ hp]

/-- It is refused with the code that fails when they do not. -/
theorem evalPort_linked_of_fault {n : Nat} (h : identityFault (ownIdentity s p) i = n) (hn : n ≠ 0) :
    evalPort p s = refusePort p n s := by
  simp [evalPort, hpartner, hlinked, henabled, h]

end

/-- Settles O25: the port is judged by `identityFault`, whose value is the first failing code of Table 3-11. -/
theorem linkedPortIsJudged : Obligations.LinkedPortIsJudged := by
  intro p i s hlinked henabled hpartner a codes
  have hfault : identityFault a i = firstFailing codes := identityFault_eq_firstFailing a i
  split
  case h_1 hnone =>
    exact evalPort_linked_of_agree hlinked henabled hpartner (by rw [hfault, firstFailing, hnone]; rfl)
  case h_2 c hsome =>
    have hcode : identityFault a i = c.1 := by rw [hfault, firstFailing, hsome]; rfl
    have hpos : ∀ d ∈ codes, d.1 ≠ 0 := by simp [codes]
    have hp : p < s.ex.ports.length := lt_ports_length_of_state_ne_off (by simp [hlinked])
    rw [evalPort_linked_of_fault hlinked henabled hpartner hcode (hpos c (List.mem_of_find?_eq_some hsome)),
      refusePort_port_same _ hp]
    exact ⟨rfl, rfl⟩

/-! ### Refusals of a port's requests (R259, R275) -/

/-- A member mask that leaves this module out is refused. -/
theorem systemMembers_withoutModule_refused (r : Req) (v : WVal) : WriteRefused (.systemMembersWrite r v) r 0x3830 3 v .badValue
    (fun _ s => bitOf (natLE v.data) s.moduleId = false) :=
  writeRefused_of_handler (fun _ => rfl) fun x t hout => if_pos (by simp [hout])

/-- What R259 answers with BUSY: the spare of the chosen port is in use in a direction, or a test runs or returns its lanes. -/
def laneTestBusy (s : State) : Prop :=
  (s.port (s.o 0x3C00 1)).spareFor ≠ 15 ∨ (s.port (s.o 0x3C00 1)).txSpareFor ≠ 15 ∨ (s.port (s.o 0x3C00 1)).txSwitch ≠ none ∨
    s.ex.test ≠ none ∨ s.ex.testBack ≠ none

/-- The first test of a lane test request is `laneTestBusy`. -/
theorem laneTestBusy_iff (s : State) : laneTestBusy s ↔
    ((s.port (s.o 0x3C00 1)).spareFor != 15 || (s.port (s.o 0x3C00 1)).txSpareFor != 15 ||
      (s.port (s.o 0x3C00 1)).txSwitch.isSome || s.ex.test.isSome || s.ex.testBack.isSome) = true := by
  simp only [laneTestBusy, Bool.or_eq_true, bne_iff_ne, Option.isSome_iff_ne_none, or_assoc]

theorem laneTestStart_busy_refused (r : Req) : WriteRefused (.laneTestStart r) r 0x3C00 4 (codeVal 1) .busy
    (fun _ s => laneTestBusy s) :=
  writeRefused_of_handler (fun _ => rfl) fun _ t hbusy => if_pos ((laneTestBusy_iff t).1 hbusy)

/-- The domain is judged after the spares and the tests (log 33). -/
theorem laneTestStart_domainOff_refused (r : Req) : WriteRefused (.laneTestStart r) r 0x3C00 4 (codeVal 1) .domainOff
    (fun _ s => ¬ laneTestBusy s ∧ domState s (portDomain (s.o 0x3C00 1)) ≠ 2) := by
  refine writeRefused_of_handler (fun _ => rfl) ?_
  rintro x t ⟨hfree, hoff⟩
  dsimp only
  rw [if_neg (mt (laneTestBusy_iff t).2 hfree), if_pos (bne_iff_ne.2 hoff)]

/-- The state of the port is judged last (log 33). -/
theorem laneTestStart_badState_refused (r : Req) : WriteRefused (.laneTestStart r) r 0x3C00 4 (codeVal 1) .badValue
    (fun _ s => ¬ laneTestBusy s ∧ domState s (portDomain (s.o 0x3C00 1)) = 2 ∧
      (s.port (s.o 0x3C00 1)).state ≠ .linked ∧ (s.port (s.o 0x3C00 1)).state ≠ .exchange) := by
  refine writeRefused_of_handler (fun _ => rfl) ?_
  rintro x t ⟨hfree, hon, hlinked, hexchange⟩
  dsimp only
  rw [if_neg (mt (laneTestBusy_iff t).2 hfree), if_neg (by simp [hon]), if_pos (by simp [hlinked, hexchange])]

/-- Settles O29, one refusal at a time; the lane test's are judged in the order BUSY, DOMAIN_OFF, BAD_VALUE (log 33). -/
theorem portRequestsAreRefused : Obligations.PortRequestsAreRefused := by
  refine ⟨systemMembers_withoutModule_refused, fun r used hused => ?_⟩
  obtain rfl : used = laneTestBusy := funext fun s => propext (hused s)
  exact ⟨laneTestStart_busy_refused r, laneTestStart_domainOff_refused r, laneTestStart_badState_refused r⟩

end Sys2Proof.Machine
end

section
/-! SUPPORT. WRITEs to the design memories: port bindings (chapter 4), the DRAM layout (chapter 4) and the host mark (chapter 5). -/

namespace Sys2Proof.Machine

/-- A WRITE completes with the effect eff when its handler answers OK with that effect on the accepting state. -/
theorem writeDone_of_handler {c : Instr} {r : Req} {idx sub : Nat} {v : WVal} {f : WriteFn} {pre : Session → State → Prop}
    {eff : Session → State → State} (he : ∀ s, exec c s = .next (serveWrite r idx sub v f s))
    (hf : ∀ x t, pre x t → f x.id t = (.ok, eff x t)) : WriteDone c r idx sub v pre eff := by
  intro x s h hc hp
  rw [he, serveWrite_eq h hc (hf x _ hp)]

/-! ### Port bindings (R277) -/

/-- A number that is neither a cluster nor the code for unbound is no binding. -/
theorem bindPort_outOfRange {v : Nat} (hunbound : v ≠ 255) (hrange : 15 < v) (tile p : Nat) (s : State) :
    bindPort tile p v s = (.badValue, s) := by
  rw [bindPort, if_neg hunbound, if_pos hrange]

/-- A cluster that owns another of the nine ports of the tile is not bound a second time. -/
theorem bindPort_double {tile p q v : Nat} {s : State} (hunbound : v ≠ 255) (hq : q < 9) (hother : q ≠ p)
    (howner : portOwner s tile q = some v) : bindPort tile p v s = (.badValue, s) := by
  have htaken : (List.range 9).any (fun q => q != p && portOwner s tile q == some v) = true :=
    List.any_eq_true.2 ⟨q, List.mem_range.2 hq, by simp [hother, howner]⟩
  rw [bindPort, if_neg hunbound, if_pos htaken, ite_self]

theorem portBinding_refused (r : Req) (v : WVal) (tile : Nat) {sub : Nat} (hfirst : 2 ≤ sub) (hlast : sub ≤ 0x0A) :
    WriteRefused (.portBindingWrite r sub v) r 0x4010 sub v .badValue
      (fun x s => addrTile (selOf s x.id 0x4010 1) = some tile ∧ natBE v.data ≠ 255 ∧
        (15 < natBE v.data ∨ ∃ q < 9, q ≠ sub - 2 ∧ portOwner s tile q = some (natBE v.data))) := by
  refine writeRefused_of_handler (fun _ => rfl) ?_
  rintro x t ⟨htile, hunbound, hbad⟩
  have hport : sub ≠ 0x0B := by omega
  simp only [htile, if_neg hport, decide_eq_true hfirst, decide_eq_true hlast, Bool.and_self, if_true]
  obtain hrange | ⟨q, hq, hother, howner⟩ := hbad
  · exact bindPort_outOfRange hunbound hrange ..
  · exact bindPort_double hunbound hq hother howner

/-! ### The host mark (R393) -/

/-- While a mark waits for its commit, a second one is refused. -/
theorem hostMark_pending_refused (r : Req) (v : WVal) :
    WriteRefused (.hostMark r v) r 0x5A00 1 v .busy (fun _ s => s.lan.hostMark ≠ none) :=
  writeRefused_of_handler (fun _ => rfl) fun _ _ hmark => if_pos (Option.isSome_iff_ne_none.2 hmark)

/-- Settles O32: the second host mark, and the two faults of a port binding. -/
theorem bindingsAndMarksAreRefused : Obligations.BindingsAndMarksAreRefused :=
  ⟨hostMark_pending_refused, fun r v tile _ hfirst hlast => portBinding_refused r v tile hfirst hlast⟩

/-! ### The layout held in 4110h:01 (R322) -/

/-- Settles O33: a revert is accepted in every state, and takes the layout that is applied then. -/
theorem layoutRevertCopiesTheLayout : Obligations.LayoutRevertCopiesTheLayout := fun _ =>
  writeDone_of_handler (fun _ => rfl) fun _ _ _ => rfl

end Sys2Proof.Machine
end

section
/-! SUPPORT. WRITEs to the maps of the target interface fabric (chapter 7). -/

namespace Sys2Proof.Machine

/-! ### The output map (R472) -/

/-- The test of 6820h:02's handler finds a valid entry, other than the selected one, that names the index. -/
theorem any_otherEntryNames_iff {m : Sparse Nat} {i k : Nat} :
    m.any (fun p => p.1 != i && bitOf p.2 31 && fld p.2 0 22 == k) = true ↔
      ∃ p ∈ m, p.1 ≠ i ∧ bitOf p.2 31 = true ∧ fld p.2 0 22 = k := by
  simp only [List.any_eq_true, Bool.and_eq_true, bne_iff_ne, beq_iff_eq, and_assoc]

/-- Settles O37: the reserved bits are checked before the other entries, and answer BAD_VALUE as well. -/
theorem outputMapNamesAnIndexOnce : Obligations.OutputMapNamesAnIndexOnce := by
  intro r v
  refine writeRefused_of_handler (fun _ => rfl) ?_
  rintro x t ⟨hvalid, hnamed⟩
  have htwice := Bool.and_eq_true_iff.2 ⟨hvalid, any_otherEntryNames_iff.2 hnamed⟩
  dsimp only
  rw [if_pos htwice, ite_self]

end Sys2Proof.Machine
end

section
/-! SUPPORT. Refusals by an operation's own chapter: NEGOTIATE and SUBSCRIBE (chapter 9). -/

namespace Sys2Proof.Machine

/-- An operation that answers st alone and leaves the accepting state as it is has no effect beyond the reply. -/
theorem serve_refused {r : Req} {x : Session} {s : State} (h : Reaches r x s) {op idx sub : Nat}
    {act : Session → State → List Answer × State} {st : Status}
    (ha : act x (accepted r x s) = ([{ status := st }], accepted r x s)) :
    serve r op idx sub act s = replied r op idx sub st (accepted r x s) := serve_eq h _ _ _ _ _ _ _ ha

/-- R588: in the refused cases the features agreed stay as they were. -/
theorem exec_negotiate_badValue {r : Req} {q : BitVec 128} {x : Session} {s : State} (h : Reaches r x s)
    (hbad : q.getLsbD 0 = false ∨ x.negotiated = true) :
    exec (.negotiate r q) s = .next (replied r 4 0 0 .badValue (accepted r x s)) := by
  have htest : (x.negotiated || !(q.getLsbD 0)) = true := by
    obtain hbit | hagain := hbad
    · rw [hbit, Bool.not_false, Bool.or_true]
    · rw [hagain, Bool.true_or]
  exact congrArg _ (serve_refused h (if_pos htest))

/-- R597: the length is judged once the feature is known to be agreed on (R589), and before any filter is stored. -/
theorem exec_subscribe_badLength {r : Req} {body : List Octet} {x : Session} {s : State} (h : Reaches r x s)
    (hneg : x.negotiated = true) (hevents : bitOf x.agreed 2 = true) (hbad : 16 * 4 < body.length ∨ body.length % 4 ≠ 0) :
    exec (.subscribe r body) s = .next (replied r 9 0 0 .badLength (accepted r x s)) := by
  have hagreed : ¬ (!x.negotiated || !(bitOf x.agreed 2)) = true := by simp [hneg, hevents]
  have hlength : (body.length % 4 != 0 || 64 < body.length) = true := by
    rw [Bool.or_eq_true, bne_iff_ne, decide_eq_true_iff]
    exact hbad.symm
  exact congrArg _ (serve_refused h ((if_neg hagreed).trans (if_pos hlength)))

/-- Settles O46: each of the two operations judges its request before it changes the session. -/
theorem negotiateAndSubscribeAreChecked : Obligations.NegotiateAndSubscribeAreChecked :=
  ⟨fun _ _ _ _ => exec_negotiate_badValue, fun _ _ _ _ => exec_subscribe_badLength⟩

end Sys2Proof.Machine
end

section
/-! SUPPORT. WRITEs to objects without a row of their own; the apertures and the event map of the host link (chapter 10). -/

namespace Sys2Proof.Machine

/-! ### WRITEs to objects without a row of their own -/

/-- The handler of such a WRITE answers what `writeRefusal` finds for the value that the octets spell. Serial transmit data, the mode
(2000h:02) and the slot period (8300h:01) have checks that come before. -/
theorem objectWrite_refused {idx sub n : Nat} {v : WVal} {s : State} {st : Status} {d : ObjDesc} (hobj : findObj idx sub = some d)
    (hserial : ¬ (0x6C00 ≤ idx ∧ idx < 0x6C08)) (hmode : okey idx sub ≠ 0x200002) (hslot : okey idx sub ≠ 0x830001)
    (hbad : writeRefusal s n idx sub (decodeVal d.ty v.data) = some st) : objectWrite idx sub v n s = (st, s) := by
  unfold objectWrite
  dsimp only
  rw [if_neg (by simp only [Bool.and_eq_true, decide_eq_true_eq]; tauto), if_neg hmode, if_neg hslot, hobj, hbad]

theorem exec_write_of_rowOf_none {r : Req} {idx sub : Nat} {v : WVal} (hrow : rowOf r idx sub v = none)
    (hserial : ¬ (0x6C00 ≤ idx ∧ idx < 0x6C08)) (s : State) :
    exec (.write r idx sub v) s = .next (serveWrite r idx sub v (objectWrite idx sub v) s) := by
  have hlength : serialTooLong idx sub v.data = false := by simp [serialTooLong, hserial]
  change execWrite r idx sub v s = _
  rw [execWrite, hrow, hlength]
  rfl

/-- A WRITE to an object without a row of its own is refused with what `writeRefusal` finds. -/
theorem write_refused_of_writeRefusal {r : Req} {idx sub : Nat} {v : WVal} {st : Status} {pre : Session → State → Prop} {d : ObjDesc}
    (hrow : rowOf r idx sub v = none) (hobj : findObj idx sub = some d) (hserial : ¬ (0x6C00 ≤ idx ∧ idx < 0x6C08))
    (hmode : okey idx sub ≠ 0x200002) (hslot : okey idx sub ≠ 0x830001)
    (hbad : ∀ x t, pre x t → writeRefusal t x.id idx sub (decodeVal d.ty v.data) = some st) :
    WriteRefused (.write r idx sub v) r idx sub v st pre :=
  writeRefused_of_handler (exec_write_of_rowOf_none hrow hserial) fun x t hp =>
    objectWrite_refused hobj hserial hmode hslot (hbad x t hp)

/-! ### Apertures through BAR0 (R613) -/

/-- A region code is bad when it is reserved. -/
theorem apertureOk_region_eq_false_iff {v : Nat} : apertureOk false v = false ↔ 7 < v := by simp [apertureOk]

/-- A base is bad when it is not a multiple of 1 GiB. -/
theorem apertureOk_base_eq_false_iff {v : Nat} : apertureOk true v = false ↔ v % 2 ^ 30 ≠ 0 := by simp [apertureOk]

/-- An access from the host to an endpoint that answers is carried out with the module awake. -/
theorem hostAccess_of_endpointOn {s : State} (hon : endpointOn s = true) (hpower : s.host.d3hot = false) (f : State → State) :
    hostAccess f s = chooseDepth (f (wakeDepth s)) := if_pos (by rw [hon, hpower]; rfl)

/-- A write of AP_REGION_n or AP_BASE_n whose octets spell a bad value only counts in 7100h:0B. -/
theorem exec_apWrite_ignored {s : State} {n v : Nat} {base : Bool} (hon : endpointOn s = true) (hpower : s.host.d3hot = false)
    (hn : n < 4) (hbad : apertureOk base (if base then v % 2 ^ 64 else v % 256) = false) :
    exec (.apWrite n base v) s = .next (chooseDepth ((wakeDepth s).incO 0x7100 0x0B 1)) := by
  have hput (t : State) : apPut n base v t = t.incO 0x7100 0x0B 1 := if_neg (by rw [hbad]; exact Bool.false_ne_true)
  change onUnit n 4 (hostAccess (apPut n base v) s) = _
  rw [onUnit, if_pos hn, hostAccess_of_endpointOn hon hpower, hput]

/-! ### Apertures through 7100h:01-08 (R648) -/

section
variable {sub : Nat} (hfirst : 1 ≤ sub) (hlast : sub ≤ 8)
include hfirst hlast

theorem rowOf_aperture (r : Req) (v : WVal) : rowOf r 0x7100 sub v = none := by
  interval_cases sub <;> rfl

/-- The apertures are in the dictionary, with types whose octets stand most significant first. -/
theorem findObj_aperture : ∃ d, findObj 0x7100 sub = some d ∧ ∀ l, decodeVal d.ty l = natBE l := by
  interval_cases sub <;> exact ⟨_, rfl, fun _ => rfl⟩

/-- Of the chapters' own checks, only the range of the value is about the apertures. -/
theorem writeRefusal_aperture {s : State} {n v : Nat} (hbad : apertureOk (decide (5 ≤ sub)) v = false) :
    writeRefusal s n 0x7100 sub v = some .badValue := by
  have hcmd : isCommand 0x7100 sub = false := by interval_cases sub <;> rfl
  have hsel : isSelector 0x7100 sub = false := rfl
  have hlantern : lanternSetting 0x7100 = false := rfl
  have hselection : selectionDenied s n 0x7100 sub v = false := by simp [selectionDenied]
  have hrange : valueInRange s 0x7100 sub v = false := hbad
  have hkey {k : Nat} (hk : k < 0x710000) : okey 0x7100 sub ≠ k := by unfold okey; omega
  simp [writeRefusal, hcmd, hsel, hlantern, hselection, hrange, hkey]

theorem write_aperture_refused (r : Req) (v : WVal) :
    WriteRefused (.write r 0x7100 sub v) r 0x7100 sub v .badValue
      (fun _ _ => apertureOk (decide (5 ≤ sub)) (natBE v.data) = false) := by
  obtain ⟨d, hobj, hdecode⟩ := findObj_aperture hfirst hlast
  have hmode : okey 0x7100 sub ≠ 0x200002 := okey_idx_ne (a := 0x2000) (b := 2) (by omega) (by decide) (by decide)
  have hslot : okey 0x7100 sub ≠ 0x830001 := okey_idx_ne (a := 0x8300) (b := 1) (by omega) (by decide) (by decide)
  refine write_refused_of_writeRefusal (rowOf_aperture hfirst hlast r v) hobj (by decide) hmode hslot fun x t hbad => ?_
  rw [hdecode]
  exact writeRefusal_aperture hfirst hlast hbad

end

/-! ### The event map (R648) -/

theorem msixMap_reserved_refused (r : Req) (sub : Nat) (v : WVal) :
    WriteRefused (.msixMapWrite r sub v) r 0x7700 sub v .badValue (fun _ _ => fld (natBE v.data) 32 31 ≠ 0) :=
  writeRefused_of_handler (fun _ => rfl) fun _ _ hbits => if_pos (bne_iff_ne.2 hbits)

/-- Settles O50: BAR0 takes the octets of the register, of which 2 ^ 64 is a multiple of 1 GiB; 7100h:05-08 are the bases. -/
theorem badHostMapsAreRefused : Obligations.BadHostMapsAreRefused := by
  refine ⟨fun s n v hon hpower hn => ⟨fun hcode => ?_, fun hbase => ?_⟩, msixMap_reserved_refused, ?_, ?_⟩
  · exact exec_apWrite_ignored hon hpower hn (apertureOk_region_eq_false_iff.2 hcode)
  · have hoctets : v % 2 ^ 64 % 2 ^ 30 = v % 2 ^ 30 := Nat.mod_mod_of_dvd v (by decide)
    exact exec_apWrite_ignored hon hpower hn (apertureOk_base_eq_false_iff.2 (hoctets ▸ hbase))
  · intro r n v hn x s h hc hcode
    have hregion : decide (5 ≤ 1 + n) = false := decide_eq_false (by omega)
    refine write_aperture_refused (by omega) (by omega) r v x s h hc ?_
    rw [hregion]
    exact apertureOk_region_eq_false_iff.2 hcode
  · intro r n v hn x s h hc hbase
    have hbaseReg : decide (5 ≤ 5 + n) = true := decide_eq_true (by omega)
    refine write_aperture_refused (by omega) (by omega) r v x s h hc ?_
    rw [hbaseReg]
    exact apertureOk_base_eq_false_iff.2 hbase

end Sys2Proof.Machine
end

section
/-! SUPPORT. System time (chapter 11): the records that tell of a step leave the time base alone, and SET_TIME. -/

namespace Sys2Proof.Machine

/-! ### System time as a formula (R652) -/

/-- The rate's part of system time is a floor: the exact quotient lies less than 1 ns above it. -/
theorem sysTime_floor (s : State) : ∃ q : Int, sysTime s = (s.time.frc.toNat : Int) + s.time.offset + q ∧
    2 ^ 32 * q ≤ s.time.rate * ((s.time.frc.toNat : Int) - s.time.anchor) ∧
    s.time.rate * ((s.time.frc.toNat : Int) - s.time.anchor) < 2 ^ 32 * (q + 1) := by
  refine ⟨s.time.rate * ((s.time.frc.toNat : Int) - s.time.anchor) / 2 ^ 32, rfl, Int.mul_ediv_self_le (by decide), ?_⟩
  rw [mul_add_one]
  exact Int.lt_mul_ediv_self_add (by decide)

/-! ### DRAM writes leave the time base alone -/

theorem foldl_time {α : Type} {g : State → α → State} (hg : ∀ s x, (g s x).time = s.time) (l : List α) (s : State) :
    (l.foldl g s).time = s.time := by
  induction l generalizing s with
  | nil => rfl
  | cons x l ih => exact (ih (g s x)).trans (hg s x)

@[simp] theorem regionWrite_time (code a : Nat) (l : List Octet) (s : State) : (regionWrite code a l s).time = s.time := by
  unfold regionWrite
  exact foldl_time (fun t p => dramSet_time t _ _) _ s

/-! ### Lantern's records leave the time base alone -/

@[simp] theorem capPut_time (a v : Nat) (s : State) : (capPut a v s).time = s.time := regionWrite_time ..

@[simp] theorem openBlock_time (g cycle : Nat) (s : State) : (openBlock g cycle s).time = s.time :=
  (setSeg_time ..).trans <| (capPut_time ..).trans <| (capPut_time ..).trans <| (capPut_time ..).trans (capPut_time ..)

@[simp] theorem completeBlock_time (g q : Nat) (s : State) : (completeBlock g q s).time = s.time := by
  simp only [completeBlock, capPut_time]

@[simp] theorem putWord_time (g cycle : Nat) (head : Bool) (w : Nat) (s : State) : (putWord g cycle head w s).time = s.time := by
  simp only [putWord, apply_ite State.time, completeBlock_time, setSeg_time, capPut_time, openBlock_time, ite_self]

@[simp] theorem putRecord_time (g typ : Nat) (f : Bool) (time cycle : Nat) (ws : List Nat) (s : State) :
    (putRecord g typ f time cycle ws s).time = s.time := by
  unfold putRecord
  split
  · rfl
  · exact (foldl_time (fun t w => putWord_time g cycle false w t) ws _).trans (putWord_time ..)

@[simp] theorem noteRecords_time (g : Nat) (l : List (Nat × Nat × Bool)) (s : State) : (noteRecords g l s).time = s.time := rfl

/-- The EXT record that was under construction is written, and its samples are noted. -/
@[simp] theorem flushExt_time (s : State) : (flushExt s).time = s.time := by
  unfold flushExt
  split
  · rfl
  · simp only [apply_ite State.time, noteRecords_time, setSeg_time, putRecord_time, ite_self]

@[simp] theorem timeMapRecords_time (k : Nat) (s : State) : (timeMapRecords k s).time = s.time := by
  unfold timeMapRecords
  extract_lets segs
  split
  · rfl
  · split
    · rfl
    · exact foldl_time (fun t p => (setSeg_time ..).trans (putRecord_time ..)) segs s

@[simp] theorem lanternStepped_time (due : Option (Nat × Nat × Nat)) (s : State) : (lanternStepped due s).time = s.time := by
  simp only [lanternStepped, apply_ite State.time, timeMapRecords_time, flushExt_time, ite_self]

/-! ### The trace unit's records leave the time base alone -/

@[simp] theorem parallelWord_time (w : Nat) (s : State) : (parallelWord w s).time = s.time := by
  simp only [parallelWord, apply_ite State.time, emit_time, ite_self]

/-- One case for each sink of Table 14-5: serial, parallel, DRAM, and none. -/
@[simp] theorem sinkWord_time (w : Nat) (s : State) : (sinkWord w s).time = s.time := by
  unfold sinkWord
  dsimp only
  split
  · rfl
  · simp only [parallelWord_time, apply_ite State.time, ite_self]
  · simp only [apply_ite State.time, setO_time, regionWrite_time, ite_self]
  · rfl

@[simp] theorem traceFlush_time (s : State) : (traceFlush s).time = s.time :=
  foldl_time (fun t w => sinkWord_time w t) s.trace.buf _

@[simp] theorem tracePush_time (ws : List Nat) (s : State) : (tracePush ws s).time = s.time := by
  simp only [tracePush, traceSettle, apply_ite State.time, traceFlush_time, maxO_time, ite_self]

@[simp] theorem traceRaw_time (ws : List Nat) (s : State) : (traceRaw ws s).time = s.time := by
  simp only [traceRaw, apply_ite State.time, tracePush_time, ite_self]

@[simp] theorem padFrame_time (s : State) : (padFrame s).time = s.time := by
  simp only [padFrame, apply_ite State.time, traceRaw_time, ite_self]

@[simp] theorem timeRec_time (next : Nat) (s : State) : (timeRec next s).time = s.time := traceRaw_time ..

@[simp] theorem traceFit_time (next n : Nat) (s : State) : (traceFit next n s).time = s.time := by
  simp only [traceFit, apply_ite State.time, timeRec_time, padFrame_time, ite_self]

@[simp] theorem suppressedRec_time (next : Nat) (s : State) : (suppressedRec next s).time = s.time := by
  simp only [suppressedRec, apply_ite State.time, traceRaw_time, traceFit_time, ite_self]

@[simp] theorem traceRecord_time (next : Nat) (ws : List Nat) (s : State) : (traceRecord next ws s).time = s.time := by
  simp only [traceRecord, apply_ite State.time, traceRaw_time, traceFit_time, padFrame_time, timeRec_time, suppressedRec_time, ite_self]

@[simp] theorem timeMapRec_time (s : State) : (timeMapRec s).time = s.time := by
  unfold timeMapRec
  split
  · rfl
  · exact traceRecord_time ..

@[simp] theorem traceStepped_time (due : Option (Nat × Nat × Nat)) (s : State) : (traceStepped due s).time = s.time := by
  simp only [traceStepped, apply_ite State.time, timeMapRec_time, ite_self]

/-! ### Steps of system time (R655-R658) -/

/-- A step moves OFFSET; its count, its event and the records that become due leave the time base alone. -/
theorem stepTime_time (d : Int) (s : State) : (stepTime d s).time = { s.time with offset := s.time.offset + d } := by
  simp only [stepTime, traceStepped_time, lanternStepped_time, raise_time, incO_time]

/-- R658: a clock that follows no master steps by what the written value is ahead of system time. -/
theorem setTime_done (r : Req) (v : WVal) :
    WriteDone (.setTime r v) r 0x7800 8 v (fun _ s => s.o 0x7820 0x0D ≠ 8 ∧ s.o 0x7820 0x0D ≠ 9)
      (fun _ s => stepTime ((natBE v.data : Int) - sysTime s) s) := by
  refine writeDone_of_handler (fun _ => rfl) fun _ t hstate => if_neg ?_
  obtain ⟨huncalibrated, hslave⟩ := hstate
  rw [Bool.or_eq_true, beq_iff_eq, beq_iff_eq]
  exact not_or.2 ⟨huncalibrated, hslave⟩

/-- R658: system time that follows a master is not the host's to set. -/
theorem setTime_refused (r : Req) (v : WVal) :
    WriteRefused (.setTime r v) r 0x7800 8 v .busy (fun _ s => s.o 0x7820 0x0D = 8 ∨ s.o 0x7820 0x0D = 9) := by
  refine writeRefused_of_handler (fun _ => rfl) fun _ t hstate => if_pos ?_
  rw [Bool.or_eq_true, beq_iff_eq, beq_iff_eq]
  exact hstate

/-- Settles O51: system time holds the floor of the rate's part, and SET_TIME steps OFFSET unless the clock follows a master. -/
theorem systemTimeIsComputedAndSet : Obligations.SystemTimeIsComputedAndSet :=
  ⟨sysTime_floor, fun r v => ⟨setTime_done r v, setTime_refused r v, fun d s => congrArg TimeSt.offset (stepTime_time d s)⟩⟩

end Sys2Proof.Machine
end

section
/-! SUPPORT. Mode commands that are not accepted (chapter 12), and trace sinks that are not there (chapter 14). -/

namespace Sys2Proof.Machine

/-! ### The answer to a mode command (Table 12-9, R726) -/

/-- R726 judges the run state first; after it the model and the statements read Table 12-9 alike. -/
theorem modeRefusal_eq (n : Nat) (s : State) : modeRefusal n s = if inRun s then some .busy else
    if modeAccepted n s.pwr.mode s.run.state (s.o 0x6000 1 == 6) then none else some .badValue := rfl

theorem modeRefusal_eq_busy {n : Nat} {s : State}
    (hrun : s.run.state ∈ [.running, .stepping, .stopping, .waiting, .recovering]) : modeRefusal n s = some .busy := by
  rw [modeRefusal_eq, if_pos ((inRun_iff_mem s).2 hrun)]

theorem modeRefusal_eq_badValue {n : Nat} {s : State}
    (hrun : s.run.state ∉ [.running, .stepping, .stopping, .waiting, .recovering])
    (hmode : modeAccepted n s.pwr.mode s.run.state (s.o 0x6000 1 == 6) = false) : modeRefusal n s = some .badValue := by
  rw [modeRefusal_eq, if_neg (mt (inRun_iff_mem s).1 hrun), hmode, if_neg Bool.false_ne_true]

theorem modeHandler_of_modeRefusal {n : Nat} {s : State} {st : Status} (hbad : modeRefusal n s = some st) :
    modeHandler n s = (st, s) := by
  unfold modeHandler
  rw [hbad]

theorem modeCommand_of_modeRefusal {n : Nat} {r : Req} {x : Session} {s : State} {st : Status} (h : Reaches r x s)
    (hc : checkWrite s x 0x2000 2 (codeVal n) false = none) (hbad : modeRefusal n s = some st) :
    modeCommand r n s = replied r 6 0x2000 2 st (accepted r x s) :=
  serveWrite_eq h hc (modeHandler_of_modeRefusal (s := accepted r x s) hbad)

/-! ### The effect that would follow the answer (log 53) -/

/-- Which frames reach their checks does not depend on a command left due. -/
theorem reaches_takeDue {r : Req} {x : Session} {s : State} (h : Reaches r x s) : Reaches r x (takeDue s).2 :=
  ⟨h.awake, h.depth, h.carrier, h.session, h.fresh, h.room⟩

theorem takeDue_of_due_eq_zero {s : State} (h : s.pwr.due = 0) : takeDue s = (0, s) := by
  have hpwr : { s.pwr with due := 0 } = s.pwr := by rw [← h]
  rw [takeDue, modPwr, h, hpwr]

/-- Answering and resting leave the command that is due as it was. -/
theorem replied_due (r : Req) (op idx sub : Nat) (st : Status) (s : State) :
    (replied r op idx sub st s).pwr.due = s.pwr.due := by
  have hkept : Undisturbed s (replied r op idx sub st s) := chooseDepth_kept (answer_kept (kept_refl s))
  rw [hkept.pwr]

/-- A refused command leaves no effect to follow its answer. -/
theorem takeDue_modeCommand_of_modeRefusal {n : Nat} {r : Req} {x : Session} {s : State} {st : Status} (h : Reaches r x s)
    (hc : checkWrite (takeDue s).2 x 0x2000 2 (codeVal n) false = none) (hbad : modeRefusal n s = some st) :
    takeDue (modeCommand r n (takeDue s).2) = (0, replied r 6 0x2000 2 st (accepted r x (takeDue s).2)) := by
  rw [modeCommand_of_modeRefusal (s := (takeDue s).2) (reaches_takeDue h) hc hbad]
  exact takeDue_of_due_eq_zero (replied_due ..)

/-! ### The six commands -/

theorem exec_modeStandby_of_noneDue {r : Req} {s t : State} (hnone : takeDue (modeCommand r 1 (takeDue s).2) = (0, t)) :
    exec (.modeStandby r) s = .next t := by
  change execModeStandby r s = _
  rw [execModeStandby, hnone]
  rfl

theorem exec_shutdown_of_noneDue {r : Req} {fs : List TestFinding} {done ms : Nat} {s t : State}
    (hnone : takeDue (modeCommand r 5 (takeDue s).2) = (0, t)) : exec (.shutdown r fs done ms) s = .next t := by
  change execShutdown r fs done ms s = _
  rw [execShutdown, hnone]
  rfl

theorem exec_reboot_of_noneDue {r : Req} {s t : State} (hnone : takeDue (modeCommand r 6 (takeDue s).2) = (0, t)) :
    exec (.reboot r) s = .next t := by
  change execReboot r s = _
  rw [execReboot, hnone]
  rfl

/-- The state in which mode command n is served: ANALYZER, IDLE and SERVICE act before they answer, and the other three start with no
command due. -/
def modeServed (n : Nat) (s : State) : State := if n = 2 ∨ n = 3 ∨ n = 4 then s else (takeDue s).2

/-- A refused mode command is answered with the status of its refusal, and does nothing else. -/
theorem exec_modeRow_of_modeRefusal {n : Nat} {c : Req → Instr} {r : Req} {x : Session} {s : State} {st : Status}
    (hrow : (n, c) ∈ [(1, Instr.modeStandby), (2, Instr.modeAnalyzer), (3, Instr.modeIdle), (4, Instr.modeService), (6, Instr.reboot)] ∨
      n = 5 ∧ ∃ fs done ms, c = fun r => .shutdown r fs done ms)
    (h : Reaches r x s) (hc : checkWrite (modeServed n s) x 0x2000 2 (codeVal n) false = none)
    (hbad : modeRefusal n s = some st) : exec (c r) s = .next (replied r 6 0x2000 2 st (accepted r x (modeServed n s))) := by
  simp only [List.mem_cons, Prod.mk.injEq, List.not_mem_nil, or_false] at hrow
  obtain (⟨rfl, rfl⟩ | ⟨rfl, rfl⟩ | ⟨rfl, rfl⟩ | ⟨rfl, rfl⟩ | ⟨rfl, rfl⟩) | ⟨rfl, fs, done, ms, rfl⟩ := hrow
  · exact exec_modeStandby_of_noneDue (takeDue_modeCommand_of_modeRefusal h hc hbad)
  · exact congrArg _ (modeCommand_of_modeRefusal h hc hbad)
  · exact congrArg _ (modeCommand_of_modeRefusal h hc hbad)
  · exact congrArg _ (modeCommand_of_modeRefusal h hc hbad)
  · exact exec_reboot_of_noneDue (takeDue_modeCommand_of_modeRefusal h hc hbad)
  · exact exec_shutdown_of_noneDue (takeDue_modeCommand_of_modeRefusal h hc hbad)

/-! ### Trace sinks (R804) -/

theorem sinkWrite_parallelOff_refused (r : Req) (v : WVal) : WriteRefused (.sinkWrite r v) r 0x8830 1 v .badValue
    (fun _ s => natBE v.data = 2 ∧ s.o (0x6850 + 9) 1 = 0) := by
  refine writeRefused_of_handler (fun _ => rfl) ?_
  rintro x t ⟨hparallel, hoff⟩
  dsimp only
  rw [hparallel, if_neg (by decide), if_pos (by rw [hoff]; rfl)]

theorem sinkWrite_dramWithoutUnits_refused (r : Req) (v : WVal) : WriteRefused (.sinkWrite r v) r 0x8830 1 v .badValue
    (fun _ s => natBE v.data = 3 ∧ regionUnits s 6 = []) := by
  refine writeRefused_of_handler (fun _ => rfl) ?_
  rintro x t ⟨hdram, hunits⟩
  dsimp only
  rw [hdram, if_neg (by decide), if_neg (by simp), if_pos (by rw [hunits]; rfl)]

/-- Settles O58: what R726 answers in each run state, and the two sinks of R804. -/
theorem modesAndSinksAreRefused : Obligations.ModesAndSinksAreRefused := by
  refine ⟨fun n c r x s hrow h hc => ⟨fun hrun => ?_, fun hrun hmode => ?_⟩, fun r v x s h hc hsink => ?_⟩
  · exact exec_modeRow_of_modeRefusal hrow h hc (modeRefusal_eq_busy hrun)
  · exact exec_modeRow_of_modeRefusal hrow h hc (modeRefusal_eq_badValue hrun hmode)
  · obtain hparallel | hdram := hsink
    · exact sinkWrite_parallelOff_refused r v x s h hc hparallel
    · exact sinkWrite_dramWithoutUnits_refused r v x s h hc hdram

end Sys2Proof.Machine
end

section
/-! SUPPORT. The block as a whole: one step, the state after reset, soundness along every step, and which commands answer. -/

namespace Sys2Proof.Machine

/-! ### One step -/

theorem step_of_pending_cons {c : Instr} {rest : List Instr} {s : State} (h : s.pending = c :: rest) :
    step s = exec c { s with pending := rest } := by
  unfold step
  rw [h]

theorem step_of_pending_nil {s : State} (h : s.pending = []) : step s = .next (tick s) := by
  unfold step
  rw [h]

/-- Settles O1: the queue's front is what `step` takes. -/
theorem stepCarriesOutFront : Obligations.StepCarriesOutFront := fun _ _ _ => step_of_pending_cons

/-! ### The state after reset -/

/-- Settles O4: after reset nothing is stored, and the log and the queues are empty. -/
theorem resetIsSound : Obligations.ResetIsSound :=
  ⟨rfl, rfl, Nat.zero_le _, Nat.zero_le _, Nat.zero_le _⟩

/-- Settles O6: every lane is unlisted, so it reads as the record of zeros (R27). -/
theorem resetLeavesTheModuleEmpty : Obligations.ResetLeavesTheModuleEmpty :=
  ⟨fun _ => ⟨rfl, rfl, rfl, rfl⟩, rfl, rfl, rfl, rfl⟩

/-! ### Soundness along every step -/

/-- Taking commands from the queue keeps a sound state sound. -/
theorem sound_with_pending {s : State} (hs : Sound s) (l : List Instr) : Sound { s with pending := l } :=
  ⟨hs.objects, hs.dram, hs.log, hs.writes, hs.deposits⟩

/-- Settles O5: a step is either the passing of local time or the command at the front, and both keep a sound state sound. -/
theorem everyStepKeepsSound : Obligations.EveryStepKeepsSound := by
  intro s t hs ht
  cases hp : s.pending with
  | nil =>
    rw [step_of_pending_nil hp] at ht
    exact next_sound (tick_sound hs) t ht
  | cons c rest =>
    rw [step_of_pending_cons hp] at ht
    exact exec_sound c (sound_with_pending hs rest) t ht

/-! ### Which commands answer (log 10) -/

/-- An outcome is a next state when the command is well formed, and the stop by name when it is not. -/
def Answers (wellFormed : Bool) (o : Host.Outcome State Fault Refusal) : Prop :=
  (wellFormed = true → ∃ t, o = .next t) ∧ (wellFormed = false → o = .fault .absentUnit)

theorem answers_next (t : State) : Answers true (.next t) := ⟨fun _ => ⟨t, rfl⟩, nofun⟩

/-- A command on a unit answers exactly when the module has the unit. -/
theorem answers_onUnit (n count : Nat) (t : State) : Answers (decide (n < count)) (onUnit n count t) := by
  unfold onUnit
  by_cases h : n < count
  · rw [if_pos h, decide_eq_true h]
    exact answers_next t
  · rw [if_neg h, decide_eq_false h]
    exact ⟨nofun, fun _ => rfl⟩

/-- Every command that a frame may be answers. -/
def RowAnswers (o : Option (State → Host.Outcome State Fault Refusal)) : Prop := ∀ f, o = some f → ∀ s, Answers true (f s)

theorem rowAnswers_none : RowAnswers none := nofun

theorem rowAnswers_some {f : State → Host.Outcome State Fault Refusal} (h : ∀ s, Answers true (f s)) : RowAnswers (some f) := by
  rintro _ ⟨⟩
  exact h

theorem rowAnswers_or {a b : Option (State → Host.Outcome State Fault Refusal)} (ha : RowAnswers a) (hb : RowAnswers b) :
    RowAnswers (a.or b) := by
  cases a with
  | none => exact hb
  | some f => exact ha

theorem valueRow_answers (r : Req) (idx sub : Nat) (v : WVal) : RowAnswers (valueRow r idx sub v) := by
  unfold valueRow
  split
  case h_40 => exact rowAnswers_none
  all_goals exact rowAnswers_some fun s => answers_next _

theorem commandRow_answers (r : Req) (idx sub c : Nat) : RowAnswers (commandRow r idx sub c) := by
  unfold commandRow
  split
  case h_27 => exact rowAnswers_none
  all_goals exact rowAnswers_some fun s => answers_next _

theorem serviceRow_answers (r : Req) (idx sub c : Nat) : RowAnswers (serviceRow r idx sub c) := by
  unfold serviceRow
  split
  case h_20 => exact rowAnswers_none
  all_goals exact rowAnswers_some fun s => answers_next _

theorem rangeRow_answers (r : Req) (idx sub : Nat) (v : WVal) : RowAnswers (rangeRow r idx sub v) := by
  unfold rangeRow
  split_ifs
  case neg => exact rowAnswers_none
  on_goal 5 =>
    split
    case h_5 => exact rowAnswers_none
  all_goals exact rowAnswers_some fun s => answers_next _

theorem blockRow_answers (r : Req) (idx sub start : Nat) (data : List Octet) : RowAnswers (blockRow r idx sub start data) := by
  unfold blockRow
  extract_lets w
  split
  case h_12 => exact rowAnswers_none
  all_goals exact rowAnswers_some fun s => answers_next _

theorem execWrite_answers (r : Req) (idx sub : Nat) (v : WVal) (s : State) : Answers true (execWrite r idx sub v s) := by
  have hrow : RowAnswers (rowOf r idx sub v) := rowAnswers_or (valueRow_answers r idx sub v) <|
    rowAnswers_or (commandRow_answers r idx sub _) <| rowAnswers_or (serviceRow_answers r idx sub _) (rangeRow_answers r idx sub v)
  unfold execWrite
  cases h : rowOf r idx sub v with
  | none => exact answers_next _
  | some f => exact hrow f h s

theorem execWriteBlock_answers (r : Req) (idx sub start : Nat) (data : List Octet) (s : State) :
    Answers true (execWriteBlock r idx sub start data s) := by
  have hrow := blockRow_answers r idx sub start data
  unfold execWriteBlock
  cases h : blockRow r idx sub start data with
  | none => exact answers_next _
  | some f => exact hrow f h s

/-- Three kinds of command: a WRITE or WRITE_BLOCK frame, which may be a row of its own; a command on a numbered unit; and
one that names no unit. -/
theorem answers_exec (c : Instr) (s : State) : Answers c.wellFormed (exec c s) := by
  cases c
  case write => exact execWrite_answers ..
  case writeBlock => exact execWriteBlock_answers ..
  case pllFailed | clockForced | trainingDone | identityReceived | identitySend | portRetrain | status | stoppedFwd | faultFwd |
      echo | echoReply | spareReq | spareRequestSend | laneSpared | guardMessageReceived | symbolLockLost | laneTest |
      superframeReceived | farDelivery | farWriteRetired | correctionWriteBack | serialDone | busStuck | uartReceive |
      bankRailSettled | bankFault | apWrite | mbSlotSubmit | msixUnmask | dmaDoorbell | dmaDescriptorDone | dmaEnable | dmaStop |
      ringConsumerWrite | pcieReset | routingTableSwitch | ptpMessage | tcFollowupMissed | phyPoll | transportLost | mgmtFrame |
      switchForward | tallowPatrol | tallowVote =>
    exact answers_onUnit ..
  all_goals exact answers_next _

/-- Settles O3: the unit number is all that can stop a command. -/
theorem wellFormedCommandsComplete : Obligations.WellFormedCommandsComplete := answers_exec

end Sys2Proof.Machine
end

section
/-! SUPPORT. The service of a request (chapter 9): what answering leaves alone, the reply, and the requests that are not carried out. -/

namespace Sys2Proof.Machine

/-! ### What service leaves alone -/

/-- Outside IDLE no idle depth is chosen (R736). -/
theorem chooseDepth_of_mode_ne {s : State} (h : s.pwr.mode ≠ 3) : chooseDepth s = s := if_neg h

/-- Outside IDLE a reply is all that serving adds. -/
theorem replied_of_mode_ne {s : State} (h : s.pwr.mode ≠ 3) (r : Req) (op idx sub : Nat) (st : Status) :
    replied r op idx sub st s = answer r op idx sub [{ status := st }] s :=
  chooseDepth_of_mode_ne (by rwa [answer_pwr])

/-- Settles O7: answering and choosing a depth keep the frame; outside IDLE there is only the answer. -/
theorem serviceLeavesTheDesign : Obligations.ServiceLeavesTheDesign := by
  refine ⟨fun r op idx sub st s => ⟨chooseDepth_kept (answer_kept (kept_refl s)), fun hmode => ?_⟩,
    fun r x s => ⟨modSess_kept (kept_refl s), rfl, rfl, rfl⟩⟩
  rw [replied_of_mode_ne hmode]
  exact ⟨answer_lanes .., answer_mem .., answer_ex .., answer_pwr .., answer_clk ..⟩

/-! ### The reply (R580, R582) -/

/-- A request with one answer has one frame of reply. -/
theorem replyFrames_single (x : Session) (r : Req) (op idx sub : Nat) (a : Answer) :
    replyFrames x r op idx sub [a] =
      [{ session := x.id, op, last := true, seq := x.txSeq + 1, echo := r.seq % 2 ^ 32, status := a.status, idx, sub, ty := a.ty,
         offset := a.offset, body := a.body }] := rfl

theorem sess_congr {s t : State} (h : t.acp = s.acp) (n : Nat) : t.sess n = s.sess n := by
  simp only [State.sess, h]

theorem sess_id {s : State} {n : Nat} {x : Session} (h : s.sess n = some x) : x.id = n := by
  simpa using List.find?_some h

/-- Settles O8: the frame is carried, which changes no session, and then the session keeps it (of 8, the newest: log 59). -/
theorem replyIsSentAndKept : Obligations.ReplyIsSentAndKept := by
  intro r op idx sub a s x hx f
  have hanswer : answer r op idx sub [a] s = (carry x f true s).modSess r.session (fun y => { y with
      txSeq := y.txSeq + 1, kept := ({ seq := r.seq, tag := r.tag, frames := [f] } :: y.kept).take 8 }) := by
    unfold answer
    rw [hx]
    rfl
  obtain ⟨hacp, hsent, -⟩ := carry_sent x f true s
  rw [hanswer]
  refine ⟨hsent, ?_⟩
  refine (modSess_sess _ _ _ _ fun _ => by rfl).trans ?_
  rw [sess_congr hacp, hx, Option.map_some, if_pos (sess_id hx)]

/-! ### Requests that are not carried out (R569, R581, R582, R602) -/

/-- A frame on an awake module whose carrier takes it is served where it is. -/
theorem serve_awake {r : Req} {s : State} (hmode : 2 ≤ s.pwr.mode) (hdepth : s.pwr.depth = 0)
    (hcarrier : carrierTakes s r.carrier = true) (op idx sub : Nat) (act : Session → State → List Answer × State) :
    serve r op idx sub act s = chooseDepth (serveAwake r op idx sub act s) := by
  have hwake : wakeDepth s = s := if_pos hdepth
  unfold serve
  rw [hcarrier, decide_eq_false (not_lt.2 hmode), hwake]
  rfl

theorem serveAwake_stray {r : Req} {s : State} (h : sessionFor s r = none) (op idx sub : Nat)
    (act : Session → State → List Answer × State) : serveAwake r op idx sub act s = s.incO 0x1140 1 1 := by
  unfold serveAwake
  rw [h]

theorem serveAwake_stale {r : Req} {x : Session} {s : State} (hx : sessionFor s r = some x) (hseq : seqFresh x r.seq = false)
    (op idx sub : Nat) (act : Session → State → List Answer × State) :
    serveAwake r op idx sub act s = match keptFor x r with
      | some k => k.frames.foldl (fun s f => carry x f true s) s
      | none => s.incO 0x1140 3 1 := by
  unfold serveAwake
  rw [hx]
  exact if_neg (by rw [hseq]; exact Bool.false_ne_true)

/-! ### The commands that serve a request -/

/-- A command that serves request r and does nothing else: what it is to carry out is met only when the request is. -/
def Serves (c : Instr) (r : Req) : Prop :=
  ∃ op idx sub act, ∀ s, exec c s = .next (serve r op idx sub act s)

theorem serves_of_serveForm {c : Instr} {r : Req} {idx sub1 sub2 : Nat} {w : WForm} {long : List Octet → LengthFn}
    {one many : List Octet → WriteFn} (he : ∀ s, exec c s = .next (serveForm r idx sub1 sub2 w long one many s)) : Serves c r := by
  cases w with
  | word v => exact ⟨6, idx, sub1, _, he⟩
  | run v => exact ⟨6, idx, sub2, _, he⟩
  | block start data => exact ⟨8, idx, sub2, _, he⟩

theorem serves_of_onObject {c : Instr} {r : Req} {n count base sub op idx : Nat} {act : Session → State → List Answer × State}
    (he : ∀ s, exec c s = onObject r n count base sub (serve r op idx sub act) s) : Serves c r := by
  by_cases hn : n < count
  · exact ⟨op, idx, sub, act, fun s => (he s).trans (congrArg _ (if_pos hn))⟩
  · exact ⟨6, base + n, sub, _, fun s => (he s).trans (congrArg _ (if_neg hn))⟩

/-- The rows of WRITE_BLOCK are forms of rows that store elements. -/
theorem serves_writeBlock (r : Req) (idx sub start : Nat) (data : List Octet) : Serves (.writeBlock r idx sub start data) r := by
  have hexec (s : State) : exec (.writeBlock r idx sub start data) s = execWriteBlock r idx sub start data s := rfl
  unfold execWriteBlock at hexec
  cases hrow : blockRow r idx sub start data with
  | none =>
    rw [hrow] at hexec
    exact ⟨8, idx, sub, _, hexec⟩
  | some f =>
    rw [hrow] at hexec
    unfold blockRow at hrow
    dsimp only at hrow
    split at hrow
    case h_12 => cases hrow
    all_goals
      cases hrow
      exact ⟨_, _, _, _, hexec⟩

theorem serves_of_requestOf {c : Instr} {r : Req} (h : requestOf c = some r) : Serves c r := by
  cases c
  case imWordWrite | dictEntryWrite | lbsWrite | exsEntryWrite | dmWordWrite | farWordWrite | probeMapWrite | cellConfigWrite |
      ufProgram | injectionMapWrite | stageDataWrite | updDataWrite =>
    cases h
    exact serves_of_serveForm fun _ => rfl
  case linkEnableWrite | oscFreqWrite | spSend | spI2cRead | spI2cWriteRead | spAbort | bankVoltageWrite | domainRequest =>
    cases h
    exact serves_of_onObject fun _ => rfl
  case writeBlock =>
    cases h
    exact serves_writeBlock ..
  all_goals cases h <;> exact ⟨_, _, _, _, fun _ => rfl⟩

/-- Settles O9: every such command is a service, and none is given in OFF and STANDBY. -/
theorem asleepModuleServesNoRequest : Obligations.AsleepModuleServesNoRequest := by
  intro c r s hc hmode
  obtain ⟨op, idx, sub, act, hexec⟩ := serves_of_requestOf hc
  rw [hexec, serve_asleep (.inl hmode)]

/-- Settles O10: what the request asks for is not met on either path of `serveAwake`. -/
theorem staleAndStrayRequestsAreNotCarriedOut : Obligations.StaleAndStrayRequestsAreNotCarriedOut := by
  intro c r s hc hmode hdepth hcarrier
  obtain ⟨op, idx, sub, act, hexec⟩ := serves_of_requestOf hc
  rw [hexec, serve_awake hmode hdepth hcarrier]
  exact ⟨fun x hx hseq => congrArg (fun t => Host.Outcome.next (chooseDepth t)) (serveAwake_stale hx hseq op idx sub act),
    fun hnone => congrArg (fun t => Host.Outcome.next (chooseDepth t)) (serveAwake_stray hnone op idx sub act)⟩

end Sys2Proof.Machine
end

section
/-! SUPPORT. The run commands in the states that accept them (chapter 2). -/

namespace Sys2Proof.Machine

/-- A run that Table 2-12 admits is admitted in the state that its checks leave (R858). -/
theorem runAdmit_of_admitted {moving : Bool} {s : State} (h : (runAdmit moving s).1 = none) :
    runAdmit moving s = (none, (runAdmit moving s).2) := Prod.ext h rfl

/-! ### RUN (R157, R165, R862) -/

theorem run_start (r : Req) : WriteDone (.run r) r 0x3400 1 (codeVal 1)
    (fun _ s => (s.run.state = .stopped ∨ s.run.state = .parked) ∧ (runAdmit false s).1 = none)
    (fun _ s => startRun .running (runAdmit false s).2) := by
  refine writeDone_of_handler (fun _ => rfl) ?_
  rintro x t ⟨hstate, hadmit⟩
  obtain hs | hs := hstate
  all_goals
    simp only [hs]
    rw [runAdmit_of_admitted hadmit]

theorem run_whileRunning (r : Req) : WriteDone (.run r) r 0x3400 1 (codeVal 1) (fun _ s => s.run.state = .running) (fun _ s => s) := by
  refine writeDone_of_handler (fun _ => rfl) fun x t hstate => ?_
  simp only [hstate]

/-- R165: what a stepped or a stopping run had still to do is dropped. -/
theorem run_takesOver (r : Req) : WriteDone (.run r) r 0x3400 1 (codeVal 1)
    (fun _ s => (s.run.state = .stepping ∨ s.run.state = .stopping) ∧ (runAdmit true s).1 = none)
    (fun _ s =>
      let t := (runAdmit true s).2
      enterRunning { t with run := { t.run with
        stepLeft := 0, causes := t.run.causes.filter (fun c => !(c == 1 || c == 2 || c == 6)) } }) := by
  refine writeDone_of_handler (fun _ => rfl) ?_
  rintro x t ⟨hstate, hadmit⟩
  obtain hs | hs := hstate
  all_goals
    simp only [hs]
    rw [runAdmit_of_admitted hadmit]

/-! ### STOP, STEP, RUN_TO (R159, R163, R166) -/

theorem stop_running (r : Req) : WriteDone (.stop r) r 0x3400 1 (codeVal 2)
    (fun _ s => s.run.state = .running ∨ s.run.state = .stepping ∨ s.run.state = .recovering) (fun _ s => postStop 1 s) := by
  refine writeDone_of_handler (fun _ => rfl) fun x t hstate => ?_
  obtain hs | hs | hs := hstate
  all_goals simp only [hs]

theorem stop_whileStopped (r : Req) : WriteDone (.stop r) r 0x3400 1 (codeVal 2) (fun _ s => s.run.state = .stopped) (fun _ s => s) := by
  refine writeDone_of_handler (fun _ => rfl) fun x t hstate => ?_
  simp only [hstate]

theorem step_start (r : Req) : WriteDone (.step r) r 0x3400 1 (codeVal 3)
    (fun _ s => (s.run.state = .stopped ∨ s.run.state = .parked) ∧ (runAdmit false s).1 = none)
    (fun _ s =>
      let t := (runAdmit false s).2
      startRun .stepping { t with run := { t.run with stepLeft := t.o 0x3400 2 } }) := by
  refine writeDone_of_handler (fun _ => rfl) ?_
  rintro x t ⟨hstate, hadmit⟩
  obtain hs | hs := hstate
  all_goals
    simp only [hs]
    rw [runAdmit_of_admitted hadmit]

theorem runTo_start (r : Req) : WriteDone (.runTo r) r 0x3400 1 (codeVal 4)
    (fun _ s => (s.run.state = .stopped ∨ s.run.state = .parked) ∧ s.run.cycle.toNat < s.o 0x3400 3 ∧ (runAdmit false s).1 = none)
    (fun _ s =>
      let t := (runAdmit false s).2
      startRun .running { t with run := { t.run with runTo := some (s.o 0x3400 3) } }) := by
  refine writeDone_of_handler (fun _ => rfl) ?_
  rintro x t ⟨hstate, hgoal, hadmit⟩
  obtain hs | hs := hstate
  all_goals
    simp only [hs, if_neg (not_le.2 hgoal)]
    rw [runAdmit_of_admitted hadmit]
    rfl

theorem runTo_whileRunning (r : Req) : WriteDone (.runTo r) r 0x3400 1 (codeVal 4)
    (fun _ s => s.run.state = .running ∧ s.run.cycle.toNat < s.o 0x3400 3 ∧ (runAdmit true s).1 = none)
    (fun _ s =>
      let t := (runAdmit true s).2
      { t with run := { t.run with runTo := some (s.o 0x3400 3) } }) := by
  refine writeDone_of_handler (fun _ => rfl) ?_
  rintro x t ⟨hs, hgoal, hadmit⟩
  simp only [hs, if_neg (not_le.2 hgoal)]
  rw [runAdmit_of_admitted hadmit]
  rfl

/-! ### ABORT, DESIGN_RESET, PARK, STATE_LOAD (R157, R170-R172, R174-R176) -/

theorem abort_running (r : Req) : WriteDone (.abort r) r 0x3400 1 (codeVal 5)
    (fun _ s => s.run.state ≠ .noDesign ∧ s.run.state ≠ .stopped ∧ s.run.state ≠ .faulted ∧ s.run.state ≠ .parked)
    (fun _ s => abortNow s) := by
  refine writeDone_of_handler (fun _ => rfl) ?_
  rintro x t ⟨hnoDesign, hstopped, hfaulted, hparked⟩
  split
  case h_1 hs => exact absurd hs hnoDesign
  case h_2 hs => exact absurd hs hstopped
  case h_3 hs => exact absurd hs hfaulted
  case h_4 hs => exact absurd hs hparked
  case h_5 => rfl

theorem abort_atRest (r : Req) : WriteDone (.abort r) r 0x3400 1 (codeVal 5)
    (fun _ s => s.run.state = .stopped ∨ s.run.state = .faulted ∨ s.run.state = .parked) (fun _ s => s) := by
  refine writeDone_of_handler (fun _ => rfl) fun x t hstate => ?_
  obtain hs | hs | hs := hstate
  all_goals simp only [hs]

theorem designReset_done (r : Req) : WriteDone (.designReset r) r 0x3400 1 (codeVal 6)
    (fun _ s => (s.run.state = .stopped ∨ s.run.state = .faulted ∨ s.run.state = .parked) ∧
      ¬ (s.img.hasFar = true ∧ s.o 0x6100 6 = 0)) (fun _ s => designResetNow s) := by
  refine writeDone_of_handler (fun _ => rfl) ?_
  rintro x t ⟨hstate, hfar⟩
  have hload : ¬ (t.img.hasFar && t.o 0x6100 6 == 0) = true := by rwa [Bool.and_eq_true, beq_iff_eq]
  obtain hs | hs | hs := hstate
  all_goals
    simp only [hs]
    exact if_neg hload

theorem park_done (r : Req) : WriteDone (.park r) r 0x3400 1 (codeVal 7) (fun _ s => s.run.state = .stopped)
    (fun _ s =>
      let t := dropTx (targetOff (checkpointNow 4 s))
      setRunState .parked { t with run := { t.run with
        phase := .idle, released := false, heldNow := 0, timedOut := false, lowSince := none } }) := by
  refine writeDone_of_handler (fun _ => rfl) fun x t hstate => ?_
  simp only [hstate]

theorem stateLoad_done (r : Req) : WriteDone (.stateLoad r) r 0x3400 1 (codeVal 8)
    (fun _ s => s.run.state = .stopped ∨ s.run.state = .faulted)
    (fun _ s => initialState 3 (mapLanes (fun _ x => { x with nxt := x.cur, badNxt := x.badCur }) s)) := by
  refine writeDone_of_handler (fun _ => rfl) fun x t hstate => ?_
  obtain hs | hs := hstate
  all_goals simp only [hs]

/-- Settles O13, command by command: the run state selects the arm of each handler. -/
theorem runCommandsComplete : Obligations.RunCommandsComplete :=
  ⟨run_start, run_whileRunning, run_takesOver, stop_running, stop_whileStopped, step_start, runTo_start, runTo_whileRunning,
    abort_running, abort_atRest, designReset_done, park_done, stateLoad_done⟩

end Sys2Proof.Machine
end

section
/-! SUPPORT. Writes of the clock objects (chapters 2 and 12). -/

namespace Sys2Proof.Machine

/-! ### The step frequency (R184, R855) -/

theorem stepFreq_done (r : Req) (v : WVal) : WriteDone (.stepFreqRequest r v) r 0x3460 2 v
    (fun _ s => 400000 ≤ natBE v.data ∧ natBE v.data ≤ 1600000 ∧ natBE v.data % 12500 = 0 ∧ s.o 0x3460 4 ≠ 1 ∧ s.clk.fosc = false ∧
      (s.o 0x3460 3 = 0 ∨ s.run.cycle.toNat < s.o 0x3460 3) ∧ ckoutLifted s (natBE v.data) = false)
    (fun _ s =>
      identityChanged (freqState ({ s with clk := { s.clk with want := true } }.setO 0x3460 2 (natBE v.data)))) := by
  refine writeDone_of_handler (fun _ => rfl) ?_
  rintro x t ⟨hlow, hhigh, hgrid, hchange, hfosc, hcycle, hckout⟩
  have hrange : ¬ (natBE v.data < 400000 || 1600000 < natBE v.data || natBE v.data % 12500 != 0) = true := by
    simp [hlow, hhigh, hgrid]
  have hfree : ¬ (t.o 0x3460 4 == 1 || t.clk.fosc) = true := by simp [hchange, hfosc]
  have hahead : ¬ (t.o 0x3460 3 != 0 && decide (t.o 0x3460 3 ≤ t.run.cycle.toNat)) = true := by
    rw [Bool.and_eq_true, bne_iff_ne, decide_eq_true_iff, not_and]
    exact fun hne => not_le.2 (hcycle.resolve_left hne)
  dsimp only
  rw [if_neg hrange, if_neg hfree, if_neg hahead, hckout, if_neg Bool.false_ne_true]

/-! ### The source of the step PLLs (R698, R715) -/

/-- The step PLLs run or stand whatever source is asked for. -/
@[simp] theorem stepPllsRun_setO_source (s : State) (n : Nat) : stepPllsRun (s.setO 0x2010 1 n) = stepPllsRun s := by
  have hpll : okey 0x2020 1 ≠ okey 0x2010 1 := by decide
  simp only [stepPllsRun, pllState, setO_o_other _ hpll, setO_clk]

section
variable (r : Req) (v : WVal)

theorem stepRef_unchanged : WriteDone (.stepRefWrite r v) r 0x2010 1 v
    (fun _ s => natBE v.data ≤ 1 ∧ natBE v.data = s.o 0x2010 1) (fun _ s => s) := by
  refine writeDone_of_handler (fun _ => rfl) ?_
  rintro x t ⟨hsource, hsame⟩
  exact (if_neg (not_lt.2 hsource)).trans (if_pos hsame)

/-- While the step PLLs run, a new source takes the roots down first; a ramp that runs already comes before. -/
theorem stepRef_rampsDown : WriteDone (.stepRefWrite r v) r 0x2010 1 v
    (fun _ s => natBE v.data ≤ 1 ∧ natBE v.data ≠ s.o 0x2010 1 ∧ s.clk.newRef ≠ some (natBE v.data) ∧ stepPllsRun s = true)
    (fun _ s =>
      let t := s.setO 0x2010 1 (natBE v.data)
      let t := { t with clk := { t.clk with newRef := some (s.o 0x2010 1) } }
      if s.clk.ramp.isSome then t else sourceDown t) := by
  refine writeDone_of_handler (fun _ => rfl) ?_
  rintro x t ⟨hsource, hother, hfirst, hrun⟩
  refine (if_neg (not_lt.2 hsource)).trans <| (if_neg hother).trans <| (if_neg hfirst).trans ?_
  rw [stepPllsRun_setO_source, hrun]
  rfl

theorem stepRef_atRest : WriteDone (.stepRefWrite r v) r 0x2010 1 v
    (fun _ s => natBE v.data ≤ 1 ∧ natBE v.data ≠ s.o 0x2010 1 ∧ s.clk.newRef ≠ some (natBE v.data) ∧ stepPllsRun s = false)
    (fun _ s => s.setO 0x2010 1 (natBE v.data)) := by
  refine writeDone_of_handler (fun _ => rfl) ?_
  rintro x t ⟨hsource, hother, hfirst, hrun⟩
  refine (if_neg (not_lt.2 hsource)).trans <| (if_neg hother).trans <| (if_neg hfirst).trans ?_
  rw [stepPllsRun_setO_source, hrun]
  rfl

/-- The former source again: the change that is under way is taken back. -/
theorem stepRef_takenBack : WriteDone (.stepRefWrite r v) r 0x2010 1 v
    (fun _ s => natBE v.data ≤ 1 ∧ natBE v.data ≠ s.o 0x2010 1 ∧ s.clk.newRef = some (natBE v.data))
    (fun _ s =>
      let t := s.setO 0x2010 1 (natBE v.data)
      { t with clk := { t.clk with newRef := none } }) := by
  refine writeDone_of_handler (fun _ => rfl) ?_
  rintro x t ⟨hsource, hother, hback⟩
  exact (if_neg (not_lt.2 hsource)).trans <| (if_neg hother).trans (if_pos hback)

end

/-! ### CKOUT and forced gating (R717, R719, R800) -/

theorem ckout_done (r : Req) (sub : Nat) (v : WVal) (src dv : Nat) (on : Bool) : WriteDone (.ckoutWrite r sub v) r 0x2050 sub v
    (fun _ s => src = (if sub = 1 then natBE v.data else s.o 0x2050 1) ∧ dv = (if sub = 2 then natBE v.data else s.o 0x2050 2) ∧
      on = (if sub = 3 then natBE v.data == 1 else s.o 0x2050 3 == 1) ∧ src ≤ 15 ∧ 0 < dv ∧ dv ≤ 65536 ∧
      (on = true → ckoutHz s src ≤ 400000000 * dv))
    (fun _ s => (s.setO 0x2050 sub (natBE v.data)).emit (.ckout (if on then src else 2 ^ 8) dv)) := by
  refine writeDone_of_handler (fun _ => rfl) ?_
  rintro x t ⟨hsrc, hdv, hon, hsource, hpos, hmax, hlimit⟩
  have hrange : ¬ (15 < src || dv = 0 || 65536 < dv) = true := by simp; omega
  have hover : ¬ ckoutOver t src dv on = true := by
    rw [ckoutOver, Bool.and_eq_true, decide_eq_true_iff, not_and]
    exact fun h => not_lt.2 (hlimit h)
  dsimp only
  rw [← hsrc, ← hdv, ← hon, if_neg hrange, if_neg hover]

theorem gateForced_done (r : Req) (v : WVal) (m : Nat) (new : List Nat) : WriteDone (.gateForced r v) r 0x2030 1 v
    (fun _ s => m = natLE v.data ∧ m < 2 ^ 12 ∧ new = (ones 12 m).filter (fun b => !(bitOf (s.o 0x2030 1) b)) ∧
      new.any (gateBusy s) = false)
    (fun _ s =>
      let t := (s.setO 0x2030 1 m).setO 0x2030 2 (s.o 0x2030 2 &&& m)
      let t := { t with host := { t.host with gating := t.host.gating.filter (fun x => bitOf m x.1) } }
      let t := new.foldl (fun t b => gateBlock b t) t
      let back := if bitOf (s.o 0x2030 1) 11 && !(bitOf m 11) then t.o 0x8820 1 &&& 14 else 0
      coreStart back t) := by
  refine writeDone_of_handler (fun _ => rfl) ?_
  rintro x t ⟨rfl, hblocks, rfl, hfree⟩
  exact (if_neg (not_le.2 hblocks)).trans (if_neg (by rw [hfree]; exact Bool.false_ne_true))

/-- Settles O15: each write in its turn; the source of the step PLLs has four cases. -/
theorem clockWritesComplete : Obligations.ClockWritesComplete :=
  ⟨stepFreq_done, stepRef_unchanged, stepRef_rampsDown, stepRef_atRest, stepRef_takenBack, ckout_done, gateForced_done⟩

end Sys2Proof.Machine
end

section
/-! SUPPORT. Writes of what the lanes hold (chapter 1): instruction words, dictionary entries, local bits, deposits. -/

namespace Sys2Proof.Machine

/-! ### Instruction words and dictionary entries (R47, R79) -/

theorem writeIm_ok {n p : Nat} {d : List Octet} {s : State} (hp : addrLane s (selOf s n 0x3010 1) = some p)
    (hbits : ((chunks 16 d).map (fun o => BitVec.ofNat 128 (natBE o))).any wReserved = false) :
    writeIm n d s = (.ok,
      let w := selOf s n 0x3010 2
      let t := (((chunks 16 d).map (fun o => BitVec.ofNat 128 (natBE o))).zipIdx).foldl (fun t y =>
        let t := t.setIm p (w + y.2) y.1
        { t with lanes := { t.lanes with imHost := nsAdd (2048 * p + w + y.2) t.lanes.imHost } }) s
      { t with img := { t.img with touched := true } }) := by
  unfold writeIm
  simp only [hp, hbits]
  rfl

theorem imWordWrite_done (r : Req) (p : Nat) : FormDone (.imWordWrite r) r 0x3010 3 4 (blockTooLong 0x3010 4 2048)
    (fun _ d x s => addrLane s (selOf s x.id 0x3010 1) = some p ∧
      ((chunks 16 d).map (fun o => BitVec.ofNat 128 (natBE o))).any wReserved = false)
    (fun _ d x s =>
      let w := selOf s x.id 0x3010 2
      let t := (((chunks 16 d).map (fun o => BitVec.ofNat 128 (natBE o))).zipIdx).foldl (fun t y =>
        let t := t.setIm p (w + y.2) y.1
        { t with lanes := { t.lanes with imHost := nsAdd (2048 * p + w + y.2) t.lanes.imHost } }) s
      { t with img := { t.img with touched := true } }) :=
  formDone_of (fun _ _ => rfl) (fun _ _ _ h => writeIm_ok h.1 h.2) (fun _ _ _ h => writeIm_ok h.1 h.2)

/-- The state after dictionary entries are stored in bank b of a physical cluster, from entry e on. -/
def dictStored (pc b e : Nat) (d : List Octet) (s : State) : State :=
  let t := (((chunks 8 d).map natBE).zipIdx).foldl (fun t y =>
    let t := t.setDict pc b (e + y.2) (BitVec.ofNat 64 y.1)
    { t with lanes := { t.lanes with dictHost := nsAdd (dictKey pc b (e + y.2)) t.lanes.dictHost } }) s
  { t with img := { t.img with touched := true } }

/-- Entries 0 to 15 are fixed; the others go into the bank that 3100h:02 selects, when its lock allows it (R102, R541). -/
theorem writeDict_ok {n pc b : Nat} {d : List Octet} {s : State} (hpc : addrCluster s (selOf s n 0x3100 1) = some pc)
    (he : 16 ≤ selOf s n 0x3100 3)
    (hbank : selOf s n 0x3100 2 = 1 ∧ activeAnswer s = none ∧ b = dictActive s pc ∨
      selOf s n 0x3100 2 ≠ 1 ∧ shadowLocked false (pc / 17) s = false ∧ b = 1 - dictActive s pc) :
    writeDict n d s = (.ok,
      let t := dictStored pc b (selOf s n 0x3100 3) d s
      if selOf s n 0x3100 2 = 1 then checkpointFresh 1 4 t
      else { t with lanes := { t.lanes with dictSealed := t.lanes.dictSealed.filter (fun y => y != pc) } }) := by
  unfold writeDict
  simp only [hpc, if_neg (not_lt.2 he)]
  obtain ⟨hactive, hlock, rfl⟩ | ⟨hshadow, hlock, rfl⟩ := hbank
  · simp only [hactive, hlock, beq_self_eq_true, if_true, Bool.not_true, Bool.false_and, Bool.false_eq_true, if_false]
    rfl
  · have hsel : (selOf s n 0x3100 2 == 1) = false := beq_eq_false_iff_ne.2 hshadow
    simp only [hsel, hlock, if_neg hshadow, Bool.and_false, Bool.false_eq_true, if_false]
    rfl

theorem dictEntryWrite_done (r : Req) (pc b : Nat) : FormDone (.dictEntryWrite r) r 0x3100 4 5 (blockTooLong 0x3100 5 1024)
    (fun _ _ x s => addrCluster s (selOf s x.id 0x3100 1) = some pc ∧ 16 ≤ selOf s x.id 0x3100 3 ∧
      (selOf s x.id 0x3100 2 = 1 ∧ activeAnswer s = none ∧ b = dictActive s pc ∨
       selOf s x.id 0x3100 2 ≠ 1 ∧ shadowLocked false (pc / 17) s = false ∧ b = 1 - dictActive s pc))
    (fun _ d x s =>
      let t := dictStored pc b (selOf s x.id 0x3100 3) d s
      if selOf s x.id 0x3100 2 = 1 then checkpointFresh 1 4 t
      else { t with lanes := { t.lanes with dictSealed := t.lanes.dictSealed.filter (fun y => y != pc) } }) := by
  refine formDone_of (fun _ _ => rfl) ?_ ?_
  all_goals
    rintro d x s ⟨hpc, he, hbank⟩
    exact writeDict_ok hpc he hbank

/-! ### Local bits (R103, R104) -/

theorem lbsWord_done (r : Req) (v : WVal) (p : Nat) : WriteDone (.lbsWrite r (.word v)) r 0x3200 4 v
    (fun x s => addrLane s (selOf s x.id 0x3200 1) = some p ∧ selOf s x.id 0x3200 3 ≠ 2 ∧ selOf s x.id 0x3200 2 < 1008)
    (fun x s =>
      let a := selOf s x.id 0x3200 2
      let b := natBE v.data == 1
      let t := s.setLane p (if selOf s x.id 0x3200 3 = 1 ∧ a < 384 then (s.lane p).writeNext a b else (s.lane p).write a b)
      if a < 384 then patchPark (selOf s x.id 0x3200 1) a b t else t) := by
  refine writeDone_of_handler (fun _ => rfl) ?_
  rintro x t ⟨hp, hplane, ha⟩
  have hfits : ¬ (decide (selOf t x.id 0x3200 3 = 2) || decide (1008 ≤ selOf t x.id 0x3200 2) || false) = true := by
    simp [hplane, ha]
  simp only [writeLbs, hp, List.any_cons, List.any_nil, List.foldl_cons, List.foldl_nil]
  rw [if_neg (by simpa using hfits)]
  simp only [Bool.and_eq_true, decide_eq_true_eq, Bool.false_eq_true, if_false]

/-- The whole lane is 1008 bits long, so none of them lies past its end. -/
theorem lbsRun_done (r : Req) (v : WVal) : WriteDone (.lbsWrite r (.run v)) r 0x3200 5 v
    (fun x s => addrLane s (selOf s x.id 0x3200 1) ≠ none ∧ selOf s x.id 0x3200 3 ≠ 2)
    (fun x s => (writeLbs x.id ((List.range 1008).map (fun i => (i, (natLE v.data).testBit i))) true s).2) := by
  refine writeDone_of_handler (fun _ => rfl) ?_
  rintro x t ⟨hlane, hplane⟩
  obtain ⟨p, hp⟩ := Option.ne_none_iff_exists'.1 hlane
  have hin : ((List.range 1008).map (fun i => (i, (natLE v.data).testBit i))).any (fun b => decide (1008 ≤ b.1)) = false := by
    simp
  refine Prod.ext ?_ rfl
  simp only [writeLbs, hp, hin, decide_eq_false hplane, Bool.or_self, Bool.false_eq_true, if_false]

/-! ### Deposits (R105-R108) -/

section
variable (r : Req) (v : WVal)

theorem deposit_inRun : WriteDone (.deposit r v) r 0x3210 3 v
    (fun x s => mayRead s x.id = true ∧ selOf s x.id 0x3210 2 ≤ 383 ∧ addrLane s (selOf s x.id 0x3210 1) ≠ none ∧
      s.lanes.deposits.length < 256 ∧ inRun s = true)
    (fun x s => { s with lanes := { s.lanes with deposits := s.lanes.deposits ++
      [{ lane := selOf s x.id 0x3210 1, addr := selOf s x.id 0x3210 2, bit := natBE v.data == 1 }] } }) := by
  refine writeDone_of_handler (fun _ => rfl) ?_
  rintro x t ⟨hread, haddr, hlane, hroom, hrun⟩
  have hnamed : ¬ (addrLane t (selOf t x.id 0x3210 1)).isNone = true := by simpa using hlane
  dsimp only
  rw [if_neg hnamed, hread, if_neg (by decide), if_neg (not_le.2 hroom), if_neg (not_lt.2 haddr), if_pos hrun]

theorem deposit_atRest : WriteDone (.deposit r v) r 0x3210 3 v
    (fun x s => mayRead s x.id = true ∧ selOf s x.id 0x3210 2 ≤ 383 ∧ addrLane s (selOf s x.id 0x3210 1) ≠ none ∧
      s.lanes.deposits.length < 256 ∧ inRun s = false)
    (fun x s =>
      let d : Deposit := { lane := selOf s x.id 0x3210 1, addr := selOf s x.id 0x3210 2, bit := natBE v.data == 1 }
      patchPark d.lane d.addr d.bit (depositAt s.run.cycle.toNat (discardKept s) d)) := by
  refine writeDone_of_handler (fun _ => rfl) ?_
  rintro x t ⟨hread, haddr, hlane, hroom, hrun⟩
  have hnamed : ¬ (addrLane t (selOf t x.id 0x3210 1)).isNone = true := by simpa using hlane
  dsimp only
  rw [if_neg hnamed, hread, if_neg (by decide), if_neg (not_le.2 hroom), if_neg (not_lt.2 haddr),
    if_neg (by rw [hrun]; exact Bool.false_ne_true)]

end

/-- Settles O20: the two stores in their three forms, a bit and a whole lane, and a deposit in a run and outside one. -/
theorem laneContentsWritesComplete : Obligations.LaneContentsWritesComplete :=
  ⟨imWordWrite_done, dictEntryWrite_done, lbsWord_done, lbsRun_done, deposit_inRun, deposit_atRest⟩

end Sys2Proof.Machine
end

section
/-! SUPPORT. Swaps of banks, and the exchange schedule (chapters 1 and 3). -/

namespace Sys2Proof.Machine

/-- A WRITE is answered with st, and has the effect eff, when its handler answers so on the accepting state. -/
theorem writeAnswered_of_handler {c : Instr} {r : Req} {idx sub : Nat} {v : WVal} {st : Status} {f : WriteFn}
    {pre : Session → State → Prop} {eff : Session → State → State} (he : ∀ s, exec c s = .next (serveWrite r idx sub v f s))
    (hf : ∀ x t, pre x t → f x.id t = (st, eff x t)) : WriteAnswered c r idx sub v st pre eff := by
  intro x s h hc hp
  rw [he, serveWrite_eq h hc (hf x _ hp)]

/-! ### Requests (R52, R53, R221-R223) -/

theorem dictSwap_answered (r : Req) (st : Status) (t : State) : WriteAnswered (.dictSwapRequest r) r 0x3110 2 (codeVal 1) st
    (fun _ s => s.run.state ≠ .recovering ∧ s.dswap.joined = false ∧ s.xswap.joined = false ∧
      t = { s with dswap := { state := 2, scope := s.o 0x3110 1, joined := false } } ∧ st = if dictReady t then .ok else .pending)
    (fun _ _ => settleSwaps t) := by
  refine writeAnswered_of_handler (fun _ => rfl) ?_
  rintro x s ⟨hrun, hdict, hexch, rfl, rfl⟩
  exact (if_neg hrun).trans (if_neg (by rw [hdict, hexch]; decide))

theorem exsSwap_answered (r : Req) (st : Status) (t : State) : WriteAnswered (.xswapRequest r) r 0x3900 2 (codeVal 1) st
    (fun _ s => s.run.state ≠ .recovering ∧ s.dswap.joined = false ∧ s.xswap.joined = false ∧
      t = { s with xswap := { state := 2, scope := s.o 0x3900 1, joined := false } } ∧ st = if exsReady t then .ok else .pending)
    (fun _ _ => settleSwaps t) := by
  refine writeAnswered_of_handler (fun _ => rfl) ?_
  rintro x s ⟨hrun, hdict, hexch, rfl, rfl⟩
  exact (if_neg hrun).trans (if_neg (by rw [hdict, hexch]; decide))

/-- A joined request replaces what is pending (R223). -/
theorem joinedSwap_answered (r : Req) (st : Status) (t : State) : WriteAnswered (.joinedSwapRequest r) r 0x3900 2 (codeVal 3) st
    (fun _ s => s.run.state ≠ .recovering ∧
      t = { s with dswap := { state := 2, scope := s.o 0x3110 1, joined := true },
                   xswap := { state := 2, scope := s.o 0x3900 1, joined := true } } ∧
      st = if dictReady t && exsReady t then .ok else .pending)
    (fun _ _ => settleSwaps t) := by
  refine writeAnswered_of_handler (fun _ => rfl) ?_
  rintro x s ⟨hrun, rfl, rfl⟩
  exact (if_neg hrun).trans (if_neg Bool.false_ne_true)

/-! ### Cancels (R54, R223) -/

/-- A cancel of one kind leaves the other kind as it is while no joined swap stands. -/
theorem cancelSwap_single {s : State} (hdict : s.dswap.joined = false) (hexch : s.xswap.joined = false) (dict : Bool) :
    cancelSwap dict s = if dict then { s with dswap := if s.dswap.waiting then {} else s.dswap }
      else { s with xswap := if s.xswap.waiting then {} else s.xswap } := by
  unfold cancelSwap
  rw [hdict, hexch]
  rfl

theorem cancelSwap_joined {s : State} (h : s.dswap.joined = true ∨ s.xswap.joined = true) (dict : Bool) :
    cancelSwap dict s = { s with dswap := if s.dswap.waiting then {} else s.dswap,
                                 xswap := if s.xswap.waiting then {} else s.xswap } :=
  if_pos (Bool.or_eq_true_iff.2 h)

theorem dictCancel_done (r : Req) : WriteDone (.dictSwapCancel r) r 0x3110 2 (codeVal 2)
    (fun _ s => s.dswap.joined = false ∧ s.xswap.joined = false)
    (fun _ s => { s with dswap := if s.dswap.waiting then {} else s.dswap }) :=
  writeDone_of_handler (fun _ => rfl) fun _ _ h => congrArg _ (cancelSwap_single h.1 h.2 true)

theorem exsCancel_done (r : Req) : WriteDone (.xswapCancel r) r 0x3900 2 (codeVal 2)
    (fun _ s => s.dswap.joined = false ∧ s.xswap.joined = false)
    (fun _ s => { s with xswap := if s.xswap.waiting then {} else s.xswap }) :=
  writeDone_of_handler (fun _ => rfl) fun _ _ h => congrArg _ (cancelSwap_single h.1 h.2 false)

theorem joinedCancel_done {r : Req} {c : Instr} {sub idx : Nat}
    (hrow : (c, idx, sub) ∈ [(Instr.dictSwapCancel r, 0x3110, 2), (Instr.xswapCancel r, 0x3900, 2)]) :
    WriteDone c r idx sub (codeVal 2) (fun _ s => s.dswap.joined = true ∨ s.xswap.joined = true)
      (fun _ s => { s with dswap := if s.dswap.waiting then {} else s.dswap, xswap := if s.xswap.waiting then {} else s.xswap }) := by
  simp only [List.mem_cons, Prod.mk.injEq, List.not_mem_nil, or_false] at hrow
  obtain ⟨rfl, rfl, rfl⟩ | ⟨rfl, rfl, rfl⟩ := hrow
  · exact writeDone_of_handler (fun _ => rfl) fun _ _ h => congrArg _ (cancelSwap_joined h true)
  · exact writeDone_of_handler (fun _ => rfl) fun _ _ h => congrArg _ (cancelSwap_joined h false)

/-- Settles O22: three requests, and the cancels with and without a joined swap. -/
theorem swapCommandsComplete : Obligations.SwapCommandsComplete :=
  ⟨dictSwap_answered, exsSwap_answered, joinedSwap_answered, dictCancel_done, exsCancel_done, fun _ _ _ _ => joinedCancel_done⟩

/-! ### Entries of the exchange schedule (R218, R220) -/

/-- Entries without reserved bits and with valid selects go into the bank that 3810h:02 selects, when its lock allows it. -/
theorem writeExs_ok {n tile b : Nat} {d : List Octet} {s : State} (htile : addrTile (selOf s n 0x3810 1) = some tile)
    (hvalid : ((chunks 384 d).map (fun o => BitVec.ofNat 3072 (natBE o))).any
      (fun v => decide (2 ^ 3024 ≤ v.toNat) || !(exsValid v)) = false)
    (hbank : selOf s n 0x3810 2 = 1 ∧ activeAnswer s = none ∧ b = exsActive s tile ∨
      selOf s n 0x3810 2 ≠ 1 ∧ shadowLocked true tile s = false ∧ b = 1 - exsActive s tile) :
    writeExs n d s = (.ok,
      let t := (((chunks 384 d).map (fun o => BitVec.ofNat 3072 (natBE o))).zipIdx).foldl
        (fun t y => t.setExs tile b (selOf s n 0x3810 3 + y.2) y.1) s
      let t := { t with img := { t.img with touched := true } }
      if selOf s n 0x3810 2 = 1 then checkpointFresh 1 4 t
      else { t with ex := { t.ex with sealed := t.ex.sealed.filter (fun y => y != tile) } }) := by
  unfold writeExs
  simp only [htile, hvalid, Bool.false_eq_true, if_false]
  obtain ⟨hactive, hlock, rfl⟩ | ⟨hshadow, hlock, rfl⟩ := hbank
  · simp only [hactive, hlock, beq_self_eq_true, if_true, Bool.not_true, Bool.false_and, Bool.false_eq_true, if_false]
  · have hsel : (selOf s n 0x3810 2 == 1) = false := beq_eq_false_iff_ne.2 hshadow
    simp only [hsel, hlock, if_neg hshadow, Bool.and_false, Bool.false_eq_true, if_false]

theorem exsEntryWrite_done (r : Req) (tile b : Nat) : FormDone (.exsEntryWrite r) r 0x3810 4 5 (blockTooLong 0x3810 5 2048)
    (fun _ d x s => addrTile (selOf s x.id 0x3810 1) = some tile ∧
      ((chunks 384 d).map (fun o => BitVec.ofNat 3072 (natBE o))).any (fun v => decide (2 ^ 3024 ≤ v.toNat) || !(exsValid v)) = false ∧
      (selOf s x.id 0x3810 2 = 1 ∧ activeAnswer s = none ∧ b = exsActive s tile ∨
       selOf s x.id 0x3810 2 ≠ 1 ∧ shadowLocked true tile s = false ∧ b = 1 - exsActive s tile))
    (fun _ d x s =>
      let t := (((chunks 384 d).map (fun o => BitVec.ofNat 3072 (natBE o))).zipIdx).foldl
        (fun t y => t.setExs tile b (selOf s x.id 0x3810 3 + y.2) y.1) s
      let t := { t with img := { t.img with touched := true } }
      if selOf s x.id 0x3810 2 = 1 then checkpointFresh 1 4 t
      else { t with ex := { t.ex with sealed := t.ex.sealed.filter (fun y => y != tile) } }) := by
  refine formDone_of (fun _ _ => rfl) ?_ ?_
  all_goals
    rintro d x s ⟨htile, hvalid, hbank⟩
    exact writeExs_ok htile hvalid hbank

/-! ### The seal of a schedule bank (R218) -/

/-- Counting the corrected reads of a bank changes nothing that the exchange holds. -/
@[simp] theorem countExsReads_ex (tile bank : Nat) (s : State) : (countExsReads tile bank s).ex = s.ex := by
  simp only [countExsReads, incO_ex]

theorem exsActive_congr {s t : State} (h : s.ex = t.ex) (tile : Nat) : exsActive s tile = exsActive t tile := by
  simp only [exsActive, h]

theorem exsCrc_congr {s t : State} (h : s.ex = t.ex) (tile bank : Nat) : exsCrc s tile bank = exsCrc t tile bank := by
  simp only [exsCrc, State.exsEntry, h]

theorem exsSeal_done (r : Req) (v : WVal) (tile : Nat) : WriteDone (.exsSeal r v) r 0x3810 6 v
    (fun x s => addrTile (selOf s x.id 0x3810 1) = some tile ∧ natBE v.data = exsCrc s tile (1 - exsActive s tile))
    (fun _ s =>
      let t := countExsReads tile (1 - exsActive s tile) s
      settleSwaps { t with ex := { t.ex with sealed := nsAdd tile t.ex.sealed } }) := by
  refine writeDone_of_handler (fun _ => rfl) ?_
  rintro x t ⟨htile, hcrc⟩
  have hex : (countExsReads tile (1 - exsActive t tile) t).ex = t.ex := countExsReads_ex ..
  simp only [htile]
  rw [exsActive_congr hex, exsCrc_congr hex, if_pos hcrc]

/-- A wrong CRC leaves what was sealed as it was; the reads are counted (log 16). -/
theorem exsSeal_badCrc (r : Req) (v : WVal) (tile : Nat) : WriteAnswered (.exsSeal r v) r 0x3810 6 v .badValue
    (fun x s => addrTile (selOf s x.id 0x3810 1) = some tile ∧ natBE v.data ≠ exsCrc s tile (1 - exsActive s tile))
    (fun _ s => countExsReads tile (1 - exsActive s tile) s) := by
  refine writeAnswered_of_handler (fun _ => rfl) ?_
  rintro x t ⟨htile, hcrc⟩
  have hex : (countExsReads tile (1 - exsActive t tile) t).ex = t.ex := countExsReads_ex ..
  simp only [htile]
  rw [exsActive_congr hex, exsCrc_congr hex, if_neg hcrc]

/-- Settles O23: an entry in each form, and the seal with a right and a wrong CRC. -/
theorem exchangeWritesComplete : Obligations.ExchangeWritesComplete :=
  ⟨exsEntryWrite_done, exsSeal_done, exsSeal_badCrc⟩

end Sys2Proof.Machine
end

section
/-! SUPPORT. Ilyan ports (chapter 3): bringing a port up and down, and received superframes. -/

namespace Sys2Proof.Machine

/-- A command on a unit of the module answers what its meaning gives. -/
theorem onUnit_of_lt {n count : Nat} (h : n < count) (t : State) : onUnit n count t = .next t := if_pos h

theorem onUnit_of_le {n count : Nat} (h : count ≤ n) (t : State) : onUnit n count t = .fault .absentUnit := if_neg (not_lt.2 h)

/-- A WRITE to an object of a numbered unit completes when its handler does. -/
theorem writeDone_onObject {c : Instr} {r : Req} {n count base sub : Nat} {v : WVal} {f : WriteFn} {pre : Session → State → Prop}
    {eff : Session → State → State} (hn : n < count)
    (he : ∀ s, exec c s = onObject r n count base sub (serveWrite r (base + n) sub v f) s)
    (hf : ∀ x t, pre x t → f x.id t = (.ok, eff x t)) : WriteDone c r (base + n) sub v pre eff :=
  writeDone_of_handler (fun s => (he s).trans (congrArg _ (if_pos hn))) hf

/-! ### Port rows (R227, R242-R248, R769) -/

theorem linkEnable_done {r : Req} {p : Nat} {v : WVal} (hp : p < 8) : WriteDone (.linkEnableWrite r p v) r (0x3A00 + p) 1 v
    (fun _ _ => True)
    (fun _ s => if natBE v.data = 1 then startTraining p (s.setO (0x3A00 + p) 1 1) else portOff p (s.setO (0x3A00 + p) 1 0)) := by
  refine writeDone_onObject hp (fun _ => rfl) fun x t _ => ?_
  by_cases hon : natBE v.data = 1
  · have hbit : (natBE v.data == 1) = true := beq_iff_eq.2 hon
    rw [if_pos hon, hbit]
    rfl
  · have hbit : (natBE v.data == 1) = false := beq_eq_false_iff_ne.2 hon
    rw [if_neg hon, hbit]
    rfl

/-- A port whose training ended with result q is refused with the first of codes 1 to 4 of Table 3-11 that it meets, and linked
when it meets none. -/
def judgeTraining (p : Nat) (q : TrainResult) (i : Identity) (s : State) : State :=
  let t := modPort p (fun y => { y with
    reversed := !(orderFits q id) && orderFits q reversedLane, polarity := q.polarity, transit := transitOf q.echoGone q.hold,
    trainingTime := q.micros, spareFor := spareOf q.failedLanes, txSpareFor := spareOf q.sendFailed, txSwitch := none }) s
  if !(orderFits q id || orderFits q reversedLane) then refusePort p 1 t
  else if 2 ≤ q.failedLanes.length || 2 ≤ q.sendFailed.length then refusePort p 2 t
  else if q.drift then refusePort p 3 t
  else if 192 < transitOf q.echoGone q.hold + 8 then refusePort p 4 t
  else
    let t := (modPort p (fun y => { y with state := .linked, reason := 0 }) t).incO (0x3A00 + p) 0x0D 1
    takeIdentity p i (queueIdentity p t)

/-- The lanes that the health map has as failed count as failed in the training (R769). -/
theorem exec_trainingDone {p : Nat} {r : TrainResult} {i : Identity} {s : State} (hp : p < 8) (htrain : (s.port p).state = .training) :
    exec (.trainingDone p r i) s = .next (judgeTraining p { r with
      failedLanes := nsOf (r.failedLanes ++ failedLanesOf s p 0), sendFailed := nsOf (r.sendFailed ++ failedLanesOf s p 1) } i s) :=
  (onUnit_of_lt hp _).trans (congrArg _ (if_neg (by rw [htrain]; decide)))

theorem judgeTraining_linked {p : Nat} {q : TrainResult} {i : Identity} {s : State}
    (horder : orderFits q id = true ∨ orderFits q reversedLane = true) (hlanes : q.failedLanes.length < 2)
    (hsend : q.sendFailed.length < 2) (hdrift : q.drift = false) (htransit : transitOf q.echoGone q.hold + 8 ≤ 192) :
    judgeTraining p q i s =
      (let t := modPort p (fun y => { y with
         reversed := !(orderFits q id) && orderFits q reversedLane, polarity := q.polarity, transit := transitOf q.echoGone q.hold,
         trainingTime := q.micros, spareFor := spareOf q.failedLanes, txSpareFor := spareOf q.sendFailed, txSwitch := none }) s
       let t := (modPort p (fun y => { y with state := .linked, reason := 0 }) t).incO (0x3A00 + p) 0x0D 1
       takeIdentity p i (queueIdentity p t)) := by
  have hfit : (!(orderFits q id || orderFits q reversedLane)) = false := by rw [Bool.or_eq_true_iff.2 horder]; rfl
  have hfew : (decide (2 ≤ q.failedLanes.length) || decide (2 ≤ q.sendFailed.length)) = false := by simp [hlanes, hsend]
  simp only [judgeTraining, hfit, hfew, hdrift, Bool.false_eq_true, if_false, if_neg (not_lt.2 htransit)]

theorem exec_identityReceived {p : Nat} {i : Identity} {s : State} (hp : p < 8) (hframed : framed s p = true) :
    exec (.identityReceived p i) s = .next (takeIdentity p i s) :=
  (onUnit_of_lt hp _).trans (congrArg _ (if_pos hframed))

theorem exec_identitySend {p : Nat} {s : State} (hp : p < 8) (hframed : framed s p = true) :
    exec (.identitySend p) s = .next (evalPort p (queueIdentity p s)) :=
  (onUnit_of_lt hp _).trans (congrArg _ (if_pos hframed))

theorem exec_portRetrain {p : Nat} {s : State} (hp : p < 8) (hlost : (s.port p).state = .lost)
    (hwaited : (s.port p).lostAt + 1000000 ≤ s.now) :
    exec (.portRetrain p) s = .next (startTraining p (modPort p (fun q => { q with state := .off }) s)) :=
  (onUnit_of_lt hp _).trans (congrArg _ (if_pos (by simp [hlost, hwaited])))

theorem exec_symbolLockLost {p lane : Nat} {s : State} (hp : p < 8) (hlane : lane < 8) (hframed : framed s p = true)
    (hspare : (s.port p).spareFor ≠ 15) : exec (.symbolLockLost p lane) s = .next (loseP p s) :=
  (onUnit_of_lt hp _).trans (congrArg _ (if_pos (by simp [hframed, hlane, hspare])))

theorem systemMembers_done (r : Req) (v : WVal) : WriteDone (.systemMembersWrite r v) r 0x3830 3 v
    (fun _ s => bitOf (natLE v.data) s.moduleId = true) (fun _ s => identityChanged (s.setO 0x3830 3 (natLE v.data))) :=
  writeDone_of_handler (fun _ => rfl) fun _ _ hmember => if_neg (by simp [hmember])

/-- Settles O24, row by row; the spare of a direction stands for its one failed lane (log 74). -/
theorem portRowsComplete : Obligations.PortRowsComplete :=
  ⟨fun _ _ _ => linkEnable_done,
    fun _ _ _ _ _ hp htrain hq horder hlanes hsend hdrift htransit => (exec_trainingDone hp htrain).trans
      (congrArg _ (hq ▸ judgeTraining_linked horder hlanes hsend hdrift htransit)),
    fun _ _ _ => exec_identityReceived,
    fun _ _ => exec_identitySend, fun _ _ => exec_portRetrain, fun _ _ _ => exec_symbolLockLost, systemMembers_done⟩

/-! ### Received superframes (R235-R237, R248, R250-R252) -/

/-- The uncorrectable codewords of a superframe. -/
def badCodewords (f : RxSuperframe) : List Nat := (nsOf f.badWords).filter (fun i => decide (i < 7))

/-- The counters of Table 3-18 after what the decoder of a superframe met. -/
def codewordsCounted (f : RxSuperframe) (s : State) : State :=
  let ix := 0x3B00 + f.port
  let a := ((f.corrected.zipIdx).foldl (fun s x =>
    if x.2 < 8 then s.incO ix (x.2 + 1) x.1
    else if x.2 = 8 ∧ (s.port f.port).spareFor = 15 then s.incO ix 9 x.1 else s) s)
  ((a.incO ix 0x0A 7).incO ix 0x0B (min 7 f.correctedWords)).incO ix 0x0C (badCodewords f).length

/-- The tests of `takeSuperframe`, read as propositions. -/
theorem takeSuperframe_eq (f : RxSuperframe) (s : State) : takeSuperframe f s =
    let ix := 0x3B00 + f.port
    let b := codewordsCounted f s
    if f.hcrc ≠ crc16 92 (sfHeader f) ∨ 2 ≤ f.typ then
      let c := b.incO ix 0x0C 1
      let run := if f.hcrc ≠ crc16 92 (sfHeader f) then (b.port f.port).badRun + 1 else 0
      let d := modPort f.port (fun q => { q with badRun := run }) c
      if 8 ≤ run then loseP f.port d else d
    else
      let c := followSpare f.port f.spareFor (modPort f.port (fun q => { q with badRun := 0 }) b)
      let d := if f.typ = 0 then c.incO ix 0x0E 1
        else if (c.port f.port).state = .exchange ∧ (inRun c = true ∨ c.run.phase ≠ .idle) then takeData f (badCodewords f) c else c
      (f.slots.zipIdx).foldl (fun t x =>
        if (badCodewords f).any (fun i => codewordHoldsSide i x.2) then t else sideWord f.port t x.1.side) d := by
  simp only [takeSuperframe, codewordsCounted, badCodewords, Bool.or_eq_true, Bool.and_eq_true, bne_iff_ne, beq_iff_eq, decide_eq_true_eq]
  rfl

theorem exec_superframeReceived_of_framed {f : RxSuperframe} {s : State} (hp : f.port < 8) (hframed : framed s f.port = true) :
    exec (.superframeReceived f) s = .next (takeSuperframe f s) :=
  (onUnit_of_lt hp _).trans (congrArg _ (if_pos hframed))

/-- Settles O26: after the counts, the header's check and its TYPE choose between the three cases. -/
theorem superframeReceivedCompletes : Obligations.SuperframeReceivedCompletes := by
  intro f s
  refine ⟨fun hp => onUnit_of_le hp _, fun hp hframed => ?_, fun hp hframed => ?_⟩
  · exact (onUnit_of_lt hp _).trans (congrArg _ (if_neg (by rw [hframed]; exact Bool.false_ne_true)))
  · rw [exec_superframeReceived_of_framed hp hframed, takeSuperframe_eq]
    refine ⟨fun hcrc => congrArg _ ?_, fun hcrc htyp => congrArg _ ?_, fun hcrc htyp => congrArg _ ?_⟩
    · simp only [if_pos (Or.inl hcrc), if_pos hcrc]
      rfl
    · simp only [if_pos (Or.inr htyp), if_neg (not_not.2 hcrc)]
      rfl
    · have hgood : ¬ (f.hcrc ≠ crc16 92 (sfHeader f) ∨ 2 ≤ f.typ) := by simp [hcrc, htyp]
      rw [if_neg hgood]
      rfl

end Sys2Proof.Machine
end

section
/-! SUPPORT. Ilyan ports (chapter 3): control and guard messages, and the lane test. -/

namespace Sys2Proof.Machine

/-- Two branchings agree when their tests, read as propositions, and their branches do. -/
theorem ite_eq_ite {α : Type} {P Q : Prop} [Decidable P] [Decidable Q] {a b c d : α} (h : P ↔ Q) (ha : a = c) (hb : b = d) :
    (if P then a else b) = if Q then c else d := by
  subst ha; subst hb; exact if_congr h rfl rfl

/-- What was sent to a port that is not one of those the state holds is lost. -/
theorem modPort_port_of_le {s : State} {p : Nat} (f : Port → Port) (hp : s.ex.ports.length ≤ p) :
    (modPort p f s).port p = s.port p := by
  simp [modPort, State.port, List.getD_eq_getElem?_getD, hp]

theorem modPort_port_other {s : State} {p q : Nat} (f : Port → Port) (h : q ≠ p) : (modPort p f s).port q = s.port q := by
  simp only [modPort, State.port, List.getD_eq_getElem?_getD, List.getElem?_modify_ne _ _ (Ne.symm h)]

/-! ### Control messages (R239, R240, R243, R254-R257) -/

theorem takeStatus_eq (p arg : Nat) (s : State) : takeStatus p arg s =
    (let t := modPort p (fun q => { q with holding := bitOf arg 9 }) s
     if bitOf arg 8 = true then
       forwardOrigin false (arg % 128) (some p) { t with ex := { t.ex with stopSeen := nsAdd (arg % 128) t.ex.stopSeen } }
     else t) := rfl

/-- The first FAULT_FWD of an origin in a window raises 3F05h, and a later one does not. -/
theorem takeFault_eq (p o : Nat) (s : State) : takeFault p o s =
    (let t := s.setO 0x3F00 6 o
     if o ∈ s.ex.faultSeen then forwardOrigin true o (some p) t
     else forwardOrigin true o (some p) (raise 0x3F05 (pU8 o ++ pU8 p ++ pCycle t)
       { t with ex := { t.ex with faultSeen := nsAdd o t.ex.faultSeen } })) := by
  have hseen : (s.setO 0x3F00 6 o).ex.faultSeen.contains o = true ↔ o ∈ s.ex.faultSeen := by
    rw [setO_ex, List.contains_iff_mem]
  by_cases ho : o ∈ s.ex.faultSeen
  · simp only [takeFault, if_pos (hseen.2 ho), if_pos ho]
  · simp only [takeFault, if_neg (mt hseen.1 ho), if_neg ho]

theorem sendCtl_port_same {s : State} {p : Nat} (typ o : Nat) (hp : p < s.ex.ports.length) :
    ((sendCtl p typ o s).port p).ctl = (s.port p).ctl ++ [typ % 16 * 1024 + o % 1024] := by
  rw [sendCtl, modPort_port_same _ hp]

/-- Sending on over a list of ports puts one message on each of them but the port of arrival. -/
theorem forward_foldl_ctl (typ o p q : Nat) (l : List Nat) (hl : l.Nodup) (s : State) (hq : q < s.ex.ports.length) :
    ((l.foldl (fun s i => if some p == some i then s else sendCtl i typ o s) s).port q).ctl =
      if q ∈ l ∧ q ≠ p then (s.port q).ctl ++ [typ % 16 * 1024 + o % 1024] else (s.port q).ctl := by
  induction l generalizing s with
  | nil => simp
  | cons i l ih =>
    obtain ⟨hi, hrest⟩ := List.nodup_cons.1 hl
    rw [List.foldl_cons]
    by_cases hpi : p = i
    · subst hpi
      rw [if_pos (beq_self_eq_true _), ih hrest s hq]
      refine ite_eq_ite ⟨fun h => ⟨List.mem_cons_of_mem _ h.1, h.2⟩, fun h => ⟨?_, h.2⟩⟩ rfl rfl
      exact (List.mem_cons.1 h.1).resolve_left h.2
    · rw [if_neg (show ¬ (some p == some i) = true by simpa using hpi), ih hrest _ (by simpa [sendCtl, modPort] using hq)]
      by_cases hqi : q = i
      · subst hqi
        rw [if_neg (by simp [hi]), if_pos ⟨List.mem_cons_self, fun h => hpi h.symm⟩, sendCtl_port_same _ _ hq]
      · rw [sendCtl, modPort_port_other _ hqi]
        exact ite_eq_ite (by simp [hqi]) rfl rfl

/-- R240: at most once per origin and window, and not back to the port of arrival. -/
theorem forwardOrigin_ctl (fault : Bool) (o p q : Nat) (s : State) (hq : q < 8) (hports : s.ex.ports.length = 8) :
    ((forwardOrigin fault o (some p) s).port q).ctl =
      if o ∉ (if fault then s.ex.faultFwd else s.ex.stopFwd) ∧ q ≠ p ∧ (s.port q).state = .exchange
      then (s.port q).ctl ++ [(if fault then 3 else 2) * 1024 + o % 1024] else (s.port q).ctl := by
  by_cases hsent : o ∈ (if fault then s.ex.faultFwd else s.ex.stopFwd)
  · rw [if_neg (fun h => h.1 hsent), forwardOrigin, if_pos (List.contains_iff_mem.2 hsent)]
  · rw [forwardOrigin, if_neg (mt List.contains_iff_mem.1 hsent)]
    have hnodup : ∀ t : State, (exchangePorts t).Nodup := fun _ => List.nodup_range.filter _
    have hmem : ∀ t : State, t.ex.ports = s.ex.ports → (q ∈ exchangePorts t ↔ (s.port q).state = .exchange) := by
      intro t ht
      simp [exchangePorts, hq, ht, State.port]
    cases fault <;>
      exact (forward_foldl_ctl _ o p q _ (hnodup _) _ (by simp [hports, hq])).trans
        (ite_eq_ite ⟨fun h => ⟨hsent, h.2, (hmem _ rfl).1 h.1⟩, fun h => ⟨(hmem _ rfl).2 h.2.2, h.2.1⟩⟩ rfl rfl)

/-- Only a port in OFF or LOST takes no echo. -/
theorem exec_echo {p hold : Nat} {s : State} (hp : p < 8) : exec (.echo p hold) s = .next
    (if (s.port p).state = .off ∨ (s.port p).state = .lost then s
     else modPort p (fun q => { q with ctl := q.ctl ++ [7 * 1024 + hold % 1024] }) s) := by
  refine (onUnit_of_lt hp _).trans (congrArg _ ?_)
  split
  · next h => exact (if_pos (.inl h)).symm
  · next h => exact (if_pos (.inr h)).symm
  · next h1 h2 => exact (if_neg (not_or.2 ⟨h1, h2⟩)).symm

/-- R243, R244: the transit of the reply refuses a framed port, and one that was refused for a higher reason. -/
theorem takeTransit_eq {p tr : Nat} {s : State} (hp : (s.port p).state ≠ .off) : takeTransit p tr s =
    (let t := modPort p (fun q => { q with transit := tr }) s
     if framed s p = true ∧ 192 - tr < 8 ∧ ¬((s.port p).state = .refused ∧ (s.port p).reason ≤ 4) then
       let u := modPort p (fun q => { q with state := .refused, reason := 4 }) t
       if (s.port p).state = .refused then u else raise 0x3A83 (pU8 p ++ pU8 4 ++ pU8 (s.port p).partnerId) u
     else t) := by
  have hport := modPort_port_same (fun q => { q with transit := tr }) (lt_ports_length_of_state_ne_off hp)
  refine ite_eq_ite ?_ ?_ rfl
  · simp only [framed, hport, Bool.and_eq_true, Bool.not_eq_true', decide_eq_true_eq, ← Bool.not_eq_true, and_assoc]
    refine and_congr_right fun _ => and_congr ?_ Iff.rfl
    omega
  · simp only [refusePort, hport, decide_eq_true_eq]

theorem exec_echoReply {p gone hold : Nat} {s : State} (hp : p < 8) : exec (.echoReply p gone hold) s = .next
    (if (s.port p).state = .off ∨ (s.port p).state = .lost then s else takeTransit p (transitOf gone hold) s) := by
  refine (onUnit_of_lt hp _).trans (congrArg _ ?_)
  split
  · next h => exact (if_pos (.inl h)).symm
  · next h => exact (if_pos (.inr h)).symm
  · next h1 h2 => exact (if_neg (not_or.2 ⟨h1, h2⟩)).symm

theorem exec_spareReq {p lane : Nat} {s : State} (hp : p < 8) : exec (.spareReq p lane) s = .next
    (if framed s p = true ∧ lane < 8 ∧ (s.port p).txSpareFor = 15 ∧ (s.port p).txSwitch = none then
       modPort p (fun q => { q with txSwitch := some lane }) s
     else s) := by
  refine (onUnit_of_lt hp _).trans (congrArg _ ?_)
  by_cases hframed : framed s p = true
  · rw [if_pos hframed]
    exact ite_eq_ite (by simp [hframed, and_assoc]) rfl rfl
  · rw [if_neg hframed, if_neg (fun h => hframed h.1)]

theorem exec_spareRequestSend {p lane symbols : Nat} {lock : Bool} {errs : Nat} {s : State} (hp : p < 8) :
    exec (.spareRequestSend p lane symbols lock errs) s = .next
      (if framed s p = true ∧ lane < 8 ∧ (s.port p).spareFor = 15 ∧ errs < s.o (0x3A00 + p) 0x0A ∧
          (s.o (0x3A00 + p) 0x0A < symbols ∨ lock = true) then
         modPort p (fun q => { q with ctl := q.ctl ++ [4 * 1024 + lane] }) s
       else s) := by
  refine (onUnit_of_lt hp _).trans (congrArg _ ?_)
  by_cases hlane : lane < 8
  · refine ite_eq_ite (by simp [and_assoc]) ?_ rfl
    rw [sendCtl, Nat.mod_eq_of_lt (show lane < 1024 by omega)]
  · exact (if_neg (by simp [hlane])).trans (if_neg (by simp [hlane])).symm

theorem exec_laneSpared {p lane : Nat} {s : State} (hp : p < 8) : exec (.laneSpared p lane) s = .next
    (if framed s p = true ∧ lane < 8 ∧ (s.port p).spareFor = 15 then spareLane p lane s else s) := by
  refine (onUnit_of_lt hp _).trans (congrArg _ ?_)
  by_cases h : framed s p = true ∧ lane < 8 ∧ (s.port p).spareFor = 15
  · obtain ⟨hframed, hlane, hspare⟩ := h
    rw [if_neg (by simp [hframed, hlane, hspare]), if_pos ⟨hframed, hlane, hspare⟩]
  · rw [if_neg h]
    refine if_pos ?_
    simp only [Bool.or_eq_true, Bool.not_eq_true', decide_eq_true_eq, bne_iff_ne, ← Bool.not_eq_true]
    rw [not_and_or, not_and_or, not_lt] at h
    rwa [or_assoc]

/-! ### Guard messages (R262, R265) -/

/-- A first word begins a message, and cuts short one that has begun. -/
theorem guardWord_of_first {p w : Nat} {s : State} (hfirst : bitOf w 13 = true) : guardWord p w s =
    modPort p (fun q => { q with guard := [w], guardSkip := 0 })
      (if (s.port p).guard = [] then s else s.incO (0x3B00 + p) 0x0D 1) := by
  by_cases hnone : (s.port p).guard = [] <;> simp [guardWord, hfirst, hnone]

/-- A word before any first word is discarded with the rest of its message, which is counted once. -/
theorem guardWord_of_stray {p w : Nat} {s : State} (hfirst : bitOf w 13 = false) (hnone : (s.port p).guard = []) :
    guardWord p w s =
      if (s.port p).guardSkip = 0 then modPort p (fun q => { q with guard := [], guardSkip := 15 }) (s.incO (0x3B00 + p) 0x0D 1)
      else modPort p (fun q => { q with guard := [], guardSkip := (s.port p).guardSkip - 1 }) s := by
  by_cases hskip : (s.port p).guardSkip = 0 <;> simp [guardWord, hfirst, hnone, hskip]

/-- A word that follows is added to its message, and the sixteenth completes it. -/
theorem guardWord_of_next {p w : Nat} {s : State} (hfirst : bitOf w 13 = false) (hbegun : (s.port p).guard ≠ []) :
    guardWord p w s =
      (let ws := (s.port p).guard ++ [w]
       if ws.length < 16 then modPort p (fun q => { q with guard := ws, guardSkip := 0 }) s
       else
         let t := modPort p (fun q => { q with guard := [], guardSkip := 0 }) s
         match cycleOfLow t (fld (guardBits ws) 192 16) with
         | none => t
         | some k => mergeGuard (stepsSinceC1 t) k (fld (guardBits ws) 64 128) (fld (guardBits ws) 0 64) t) := by
  have hsome : (s.port p).guard.isEmpty = false := List.isEmpty_eq_false_iff.2 hbegun
  simp only [guardWord, hfirst, hsome, Bool.false_eq_true, if_false] <;> rfl

/-- Settles O27, message by message. -/
theorem portMessagesComplete : Obligations.PortMessagesComplete := by
  refine ⟨fun p arg s hp => (onUnit_of_lt hp _).trans rfl, fun p o s hp => (onUnit_of_lt hp _).trans rfl,
    fun p o s hp => ?_, fun fault o p q s => forwardOrigin_ctl fault o p q s, fun _ _ _ => exec_echo,
    fun p gone hold s hp => ?_, fun _ _ _ => exec_spareReq, fun _ _ _ _ _ _ => exec_spareRequestSend,
    fun p lane s hp => (exec_laneSpared hp).trans rfl,
    fun p ws s hp => onUnit_of_lt hp _, fun _ _ _ => guardWord_of_first, fun _ _ _ => guardWord_of_stray,
    fun p w s hfirst hbegun => (guardWord_of_next hfirst hbegun).trans rfl, fun p s hp a b c lock e ws => ?_⟩
  · refine (onUnit_of_lt hp _).trans (congrArg _ ?_)
    rw [takeFault_eq]
  · rw [exec_echoReply hp]
    by_cases hdown : (s.port p).state = .off ∨ (s.port p).state = .lost
    · rw [if_pos hdown, if_pos hdown]
    · rw [if_neg hdown, if_neg hdown, takeTransit_eq (not_or.1 hdown).1]
      rfl
  · exact ⟨onUnit_of_le hp _, onUnit_of_le hp _, onUnit_of_le hp _, onUnit_of_le hp _, onUnit_of_le hp _, onUnit_of_le hp _,
      onUnit_of_le hp _, onUnit_of_le hp _, onUnit_of_le hp _⟩

/-! ### The lane test (R259, R260) -/

theorem laneTestStart_done (r : Req) (p lane : Nat) : WriteDone (.laneTestStart r) r 0x3C00 4 (codeVal 1)
    (fun _ s => p = s.o 0x3C00 1 ∧ lane = s.o 0x3C00 2 ∧ (s.port p).spareFor = 15 ∧ (s.port p).txSpareFor = 15 ∧
      (s.port p).txSwitch = none ∧ s.ex.test = none ∧ s.ex.testBack = none ∧ domState s (portDomain p) = 2 ∧
      ((s.port p).state = .linked ∨ (s.port p).state = .exchange))
    (fun _ s =>
      let t := { s with ex := { s.ex with test := some (p, lane) } }
      scheduleSpare p lane (sendCtl p 5 lane ((t.setO 0x3C00 5 1).setO 0x3C00 6 0))) := by
  refine writeDone_of_handler (fun _ => rfl) fun x t ⟨hport, hlane, hspare, htx, hswitch, htest, hback, hon, hup⟩ => ?_
  subst hport hlane
  dsimp only
  rw [if_neg (by simp [hspare, htx, hswitch, htest, hback]), if_neg (by simp [hon]), if_neg (by rcases hup with h | h <;> simp [h])]

theorem exec_laneTest_start {p arg errs : Nat} {s : State} (hp : p < 8) (hframed : framed s p = true) (hlane : arg % 16 < 8)
    (hres : fld arg 4 4 = 0) (hkind : fld arg 8 2 = 0) (htest : s.ex.test = none) (hback : s.ex.testBack = none)
    (htx : (s.port p).txSpareFor = 15) (hswitch : (s.port p).txSwitch = none) :
    exec (.laneTest p arg errs) s = .next (scheduleSpare p (arg % 16)
      ((({ s with ex := { s.ex with test := some (p, arg % 16) } }).setO 0x3C00 5 1).setO 0x3C00 6 0)) := by
  refine (onUnit_of_lt hp _).trans (congrArg _ ((if_pos hframed).trans ?_))
  refine (if_neg (by simp [hlane, hres])).trans ?_
  rw [hkind]
  exact if_pos (by simp [htest, hback, htx, hswitch])

/-- Settles O28, row by row. -/
theorem laneTestCompletes : Obligations.LaneTestCompletes := by
  refine ⟨laneTestStart_done, fun r => writeDone_of_handler (fun _ => rfl) fun x t hnone => ?_,
    fun r p lane => writeDone_of_handler (fun _ => rfl) fun x t hsome => ?_, fun p lane errs mv mh s hsome => congrArg Host.Outcome.next ?_,
    fun _ _ _ _ => exec_laneTest_start⟩
  · rw [hnone]
  · rw [hsome]
  · rw [hsome]

end Sys2Proof.Machine
end

section
/-! SUPPORT. The events of the clocks (chapter 12): Taper, lost and restored references, failed PLLs and forced roots. -/

namespace Sys2Proof.Machine

/-! ### What a change of a reference leaves alone -/

/-- t has the run, the lanes, the memories and the sources (2010h) of s. -/
structure RefKept (s t : State) : Prop where
  run : t.run = s.run
  lanes : t.lanes = s.lanes
  mem : t.mem = s.mem
  sources : ∀ j, j < 256 → t.o 0x2010 j = s.o 0x2010 j

theorem RefKept.refl (s : State) : RefKept s s := ⟨rfl, rfl, rfl, fun _ _ => rfl⟩

theorem RefKept.trans {s t u : State} (h : RefKept s t) (k : RefKept t u) : RefKept s u :=
  ⟨k.run.trans h.run, k.lanes.trans h.lanes, k.mem.trans h.mem, fun j hj => (k.sources j hj).trans (h.sources j hj)⟩

theorem RefKept.ite {s t u : State} {P : Prop} [Decidable P] (h : RefKept s t) (k : RefKept s u) :
    RefKept s (if P then t else u) := by
  split
  · exact h
  · exact k

theorem RefKept.foldl {α : Type} {s t : State} {f : State → α → State} (h : RefKept s t)
    (hf : ∀ u x, RefKept s u → RefKept s (f u x)) (l : List α) : RefKept s (l.foldl f t) := by
  induction l generalizing t with
  | nil => exact h
  | cons x l ih => exact ih (hf t x h)

/-- Other parts of the state may change. -/
theorem RefKept.with {s t u : State} (h : RefKept s t) (hrun : u.run = t.run := by rfl) (hlanes : u.lanes = t.lanes := by rfl)
    (hmem : u.mem = t.mem := by rfl) (hobj : u.obj = t.obj := by rfl) : RefKept s u :=
  h.trans ⟨hrun, hlanes, hmem, fun j _ => by rw [State.o, hobj]; rfl⟩

theorem RefKept.setO {s t : State} {a b v : Nat} (h : RefKept s t) (ha : a ≠ 0x2010 := by decide) (hb : b < 256 := by decide) :
    RefKept s (t.setO a b v) :=
  h.trans ⟨rfl, rfl, rfl, fun _ hj => setO_o_other t (okey_idx_ne hj hb (Ne.symm ha))⟩

theorem RefKept.raise {s t : State} {c : Nat} {l : List Octet} (h : RefKept s t) : RefKept s (raise c l t) :=
  h.trans ⟨raise_run t c l, raise_lanes t c l, raise_mem t c l, fun _ hj => raise_o t c l rfl hj⟩

theorem RefKept.setPll {s t : State} {p v : Nat} (h : RefKept s t) (hp : p < 8) : RefKept s (setPll p v t) :=
  (h.setO (by decide) (by omega)).setO

/-- Going through the eight PLLs. -/
theorem RefKept.plls {s t : State} {f : State → Nat → State} (h : RefKept s t) (hf : ∀ u p, p < 8 → RefKept s u → RefKept s (f u p)) :
    RefKept s ((List.range 8).foldl f t) := by
  have hall : ∀ l : List Nat, (∀ p ∈ l, p < 8) → ∀ u, RefKept s u → RefKept s (l.foldl f u) := by
    intro l
    induction l with
    | nil => exact fun _ _ hu => hu
    | cons p l ih =>
      intro hl u hu
      obtain ⟨hp, hl⟩ := List.forall_mem_cons.1 hl
      exact ih hl (f u p) (hf u p hp hu)
  exact hall _ (fun p hp => List.mem_range.1 hp) t h

theorem RefKept.freqState {s t : State} (h : RefKept s t) : RefKept s (freqState t) := h.setO

theorem RefKept.startRamp {s t : State} {kind f1 : Nat} (h : RefKept s t) : RefKept s (startRamp kind f1 t) :=
  (h.with (u := { t with clk := { t.clk with ramp := some _ } })).setO.freqState

theorem RefKept.coastStart {s t : State} (h : RefKept s t) : RefKept s (coastStart t) :=
  (h.with (u := { t with clk := { t.clk with ramp := none, back := false, due := t.clk.due || commandedRamp t } })).setO.startRamp

theorem RefKept.backStart {s t : State} (h : RefKept s t) : RefKept s (backStart t) :=
  .ite h (.ite (h.with (u := { t with clk := { t.clk with back := false } })).setO.freqState
    (.ite h.with (h.with (u := { t with clk := { t.clk with ramp := none } })).startRamp))

theorem RefKept.setServo {s t : State} {v : Nat} (h : RefKept s t) : RefKept s (setServo v t) := h.setO.setO

theorem RefKept.xtaLost {s t : State} (h : RefKept s t) : RefKept s (xtaLost t) :=
  (RefKept.with (t := (Machine.setServo 5 (t.setO 0x7800 9 _)).setO 0x7820 0x0D 2) h.setO.setServo.setO).raise

theorem RefKept.xtaBack {s t : State} (h : RefKept s t) : RefKept s (xtaBack t) := h.setO.setServo.setO.raise

theorem RefKept.testSettle {s t : State} {p : Nat} (h : RefKept s t) : RefKept s (testSettle p t) :=
  .ite (h.with (u := { t with ex := { t.ex with testBack := none } })).setO h

theorem RefKept.startTraining {s t : State} {p : Nat} (h : RefKept s t) : RefKept s (startTraining p t) :=
  .ite (h.with (u := modPort p _ t)).testSettle h

/-! ### References (R700-R705) -/

/-- A reference that is lost or back, as the objects show it: its bit of 2010h:02, and its bit of 2020h:09. -/
def sourceShown (src : RefSrc) (present : Bool) (s : State) : State :=
  let s := s.setO 0x2010 2 (putBit (s.o 0x2010 2) (refNo src) present)
  s.setO 0x2020 9 (putBit (s.o 0x2020 9) (missBit src) (!present))

theorem sourceShown_o (src : RefSrc) (present : Bool) (s : State) :
    (sourceShown src present s).o 0x2010 2 = putBit (s.o 0x2010 2) (refNo src) present :=
  (setO_o_other _ (okey_idx_ne (by decide) (by decide) (by decide))).trans (setO_o_same _ _ _ _)

/-- What follows from a lost reference but its own bit. -/
theorem loseRef_of_present {src : RefSrc} {s : State} (hpresent : (if src = .xtb then s.clk.xtbLost else refMissing s src) = false)
    (hwatched : refWatched s src = true) : ∃ a b : State, a.o 0x2010 2 = putBit (s.o 0x2010 2) (refNo src) false ∧
      a.run = s.run ∧ a.lanes = s.lanes ∧ a.mem = s.mem ∧ RefKept a b ∧
      loseRef src s = if src = .xtb then { a.setO 0x2010 3 0 with clk := { a.clk with xtbLost := true } } else b := by
  let a := { sourceShown src false s with clk := { s.clk with lostAt := s.clk.lostAt.set (refIndex src) s.now } }
  let b := (List.range 8).foldl (fun s p =>
    if pllRef s p = src && (pllState s p == 1 || pllState s p == 2) then setPll p 3 s else s) a
  have hb : RefKept a b := (RefKept.refl a).plls fun u p hp hu => .ite (hu.setPll hp) hu
  refine ⟨a, _, sourceShown_o src false s, rfl, rfl, rfl, ?_, if_neg (by rw [hpresent, hwatched]; exact Bool.false_ne_true)⟩
  exact .ite (.xtaLost (.raise (.ite hb.coastStart hb))) (.raise (.ite hb.coastStart hb))

/-- What follows from a restored reference but its own bit. -/
theorem exec_referenceRestored_of_missing {src : RefSrc} {s : State}
    (hmissing : (if src = .xtb then s.clk.xtbLost else refMissing s src) = true) :
    ∃ a b : State, a.o 0x2010 2 = putBit (s.o 0x2010 2) (refNo src) true ∧
      a.run = s.run ∧ a.lanes = s.lanes ∧ a.mem = s.mem ∧ RefKept a b ∧
      exec (.referenceRestored src) s =
        .next (if src = .xtb then { a.setO 0x2010 3 1 with clk := { a.clk with xtbLost := false } } else b) := by
  let a := sourceShown src true s
  let b := (List.range 8).foldl (fun s p => if pllRef s p = src && pllState s p == 3 then setPll p 2 s else s) a
  have hb : RefKept a b := (RefKept.refl a).plls fun u p hp hu => .ite (hu.setPll hp) hu
  refine ⟨a, _, sourceShown_o src true s, rfl, rfl, rfl, ?_,
    congrArg Host.Outcome.next (if_neg (by rw [hmissing]; exact Bool.false_ne_true))⟩
  have hports : ∀ c l, RefKept a ((List.range 8).foldl (fun s p => startTraining p s) (raise c l b)) :=
    fun c l => (hb.raise).foldl (fun _ _ hu => hu.startTraining) _
  exact .ite (.xtaBack (.ite (hports _ _).backStart (hports _ _))) (.ite (hports _ _).backStart (hports _ _))

/-- The root of WICK's crystal changes with XTB only; a change of any other source is seen in its bit alone. -/
theorem reference_changed {src : RefSrc} {s a b : State} {present : Bool} {root : Nat} {c : State}
    (hc : c = a.setO 0x2010 3 root) (hbit : a.o 0x2010 2 = putBit (s.o 0x2010 2) (refNo src) present) (hrun : a.run = s.run)
    (hlanes : a.lanes = s.lanes) (hmem : a.mem = s.mem) (hb : RefKept a b) (k : ClkSt) :
    ∃ t, (Host.Outcome.next (if src = .xtb then { c with clk := k } else b) : Host.Outcome State Fault Refusal) = .next t ∧
      t.o 0x2010 2 = putBit (s.o 0x2010 2) (refNo src) present ∧
      (src = .xtb → t.o 0x2010 3 = root) ∧ t.run = s.run ∧ t.lanes = s.lanes ∧ t.mem = s.mem := by
  subst hc
  by_cases hxtb : src = .xtb
  · rw [if_pos hxtb]
    exact ⟨_, rfl, (setO_o_other a (okey_ne (by decide) (by decide) (by decide))).trans hbit, fun _ => setO_o_same a _ _ _,
      hrun, hlanes, hmem⟩
  · rw [if_neg hxtb]
    exact ⟨b, rfl, (hb.sources 2 (by decide)).trans hbit, fun h => absurd h hxtb, hb.run.trans hrun, hb.lanes.trans hlanes,
      hb.mem.trans hmem⟩

/-! ### Ramps, PLLs and roots (R185, R706-R708, R711) -/

theorem taperStep_of_ramp {s : State} {q : Ramp} (hramp : s.clk.ramp = some q) (hrun : q.i < q.n) : taperStep s =
    ({ s with clk := { s.clk with ramp := some { q with i := q.i + 1 } } }).setO 0x3460 1 (rampFreq q.f0 q.f1 q.n (q.i + 1)) := by
  rw [taperStep, hramp]
  exact if_neg (not_le.2 hrun)

theorem not_source_waiting {t : State} (h : t.clk.newRef = none) :
    ¬ (t.clk.newRef.isSome && t.clk.ramp.isNone && stepPllsRun t) = true := by simp [h]

/-- R185: a commanded ramp that ends with no change of source waiting. -/
theorem rampDone_of_commanded {s : State} {q : Ramp} (hramp : s.clk.ramp = some q) (hend : q.n ≤ q.i) (hkind : q.kind = 0)
    (hnone : s.clk.newRef = none) :
    rampDone s = freqChanged (freqState (((endRamp s).setO 0x2028 2 q.n).setO 0x2028 3 (4 * q.n))) := by
  rw [rampDone, hramp]
  refine (if_neg (not_lt.2 hend)).trans ?_
  rw [hkind]
  have hkeep : (freqChanged (freqState (((endRamp s).setO 0x2028 2 q.n).setO 0x2028 3 (4 * q.n)))).clk.newRef = none := by
    rw [freqChanged, raise_clk]
    exact hnone
  exact if_neg (not_source_waiting hkeep)

theorem failPll_of_running {p : Nat} {s : State} (href : refMissing s (pllRef s p) = false)
    (hrun : pllState s p = 1 ∨ pllState s p = 2) : failPll p s =
      (let t := raise 0x2023 (pU32 p) (setPll p 4 s)
       if p < 4 then toFosc t else if p = 4 then forceRoot 4 (ilyanRootLost t) else if p = 5 then forceRoot 5 (dramRootLost t)
       else t) :=
  if_neg (by rcases hrun with h | h <;> simp [href, h])

theorem exec_clockForced {n : Nat} {s : State} (hn : n < 9) (hup : 2 ≤ s.pwr.mode ∨ s.pwr.mode = 1 ∧ n = 8) :
    exec (.clockForced n) s = .next (forceRoot n (if n < 4 ∧ s.clk.newRef = none then toFosc s else s)) := by
  refine (onUnit_of_lt hn _).trans (congrArg _ ((if_neg ?_).trans (congrArg (forceRoot n) (ite_eq_ite ?_ rfl rfl))))
  case refine_2 => rw [Bool.and_eq_true, decide_eq_true_eq, Option.isNone_iff_eq_none]
  rcases hup with hmode | ⟨hmode, rfl⟩
  · simp; omega
  · simp [hmode]

/-- Settles O16, event by event. -/
theorem clockEventsComplete : Obligations.ClockEventsComplete := by
  refine ⟨fun _ _ hramp hrun => congrArg _ (taperStep_of_ramp hramp hrun),
    fun _ _ hramp hend hkind hnone => congrArg _ (rampDone_of_commanded hramp hend hkind hnone), ?_, ?_,
    fun _ _ hp href hrun => (onUnit_of_lt hp _).trans (congrArg _ (failPll_of_running href hrun)), fun _ _ => exec_clockForced⟩
  · intro src s hpresent hwatched
    obtain ⟨a, b, hbit, hrun, hlanes, hmem, hb, heq⟩ := loseRef_of_present hpresent hwatched
    obtain ⟨t, ht, hrest⟩ := reference_changed (src := src) rfl hbit hrun hlanes hmem hb _
    exact ⟨t, (congrArg Host.Outcome.next heq).trans ht, hrest⟩
  · intro src s hmissing
    obtain ⟨a, b, hbit, hrun, hlanes, hmem, hb, heq⟩ := exec_referenceRestored_of_missing hmissing
    obtain ⟨t, ht, hrest⟩ := reference_changed (src := src) rfl hbit hrun hlanes hmem hb _
    exact ⟨t, heq.trans ht, hrest⟩

end Sys2Proof.Machine
end

section
/-! SUPPORT. The design memories (chapter 4): host words, port bindings, layouts, far deliveries and write-backs. -/

namespace Sys2Proof.Machine

/-! ### Host words (R295, R297-R299) -/

/-- Words for which the host write queue has room are queued in a run and stored at any other time. -/
theorem hostWords_ok {ws : List HostWr} {s : State} (hroom : s.mem.hostQ.length + ws.length ≤ 1024) :
    hostWords ws s = (.ok, queuedOrStored ws s) := by
  rw [hostWords, if_neg (not_lt.2 hroom)]
  by_cases hrun : inRun s = true
  · rw [if_pos hrun, queuedOrStored, if_pos hrun]
  · rw [if_neg hrun, queuedOrStored, if_neg hrun]
    rfl

theorem writeDm_ok {d : List Octet} {x : Session} {s : State} {tile : Nat} (htile : addrTile (selOf s x.id 0x4200 1) = some tile)
    (hroom : s.mem.hostQ.length + (bankHostWords tile d x s).length ≤ 1024) :
    writeDm x.id d s = (.ok, queuedOrStored (bankHostWords tile d x s) s) := by
  simp only [writeDm, htile]
  exact hostWords_ok hroom

theorem writeFar_ok {one : Bool} {d : List Octet} {x : Session} {s : State} (hsel : one = true → selOf s x.id 0x4210 1 < farSize s)
    (hroom : s.mem.hostQ.length + (farHostWords d x s).length ≤ 1024) :
    writeFar one x.id d s = (.ok, queuedOrStored (farHostWords d x s) s) := by
  refine (if_neg ?_).trans (hostWords_ok hroom)
  cases one with
  | false => exact Bool.false_ne_true
  | true => simpa using hsel rfl

/-- Settles O30: each form goes to `hostWords` with the words of its row. -/
theorem memoryContentsWritesComplete : Obligations.MemoryContentsWritesComplete :=
  ⟨fun _ _ => formDone_of (fun _ _ => rfl) (fun _ _ _ ⟨htile, hroom⟩ => writeDm_ok htile hroom)
      (fun _ _ _ ⟨htile, hroom⟩ => writeDm_ok htile hroom),
    fun _ => formDone_of (fun _ _ => rfl) (fun _ _ _ ⟨hsel, hroom⟩ => writeFar_ok hsel hroom)
      (fun _ _ _ ⟨hsel, hroom⟩ => writeFar_ok hsel hroom)⟩

/-! ### Port bindings and layouts (R276, R318-R320) -/

/-- A binding of a port of the selected tile completes when `bindPort` does. -/
theorem portBinding_done {r : Req} {v : WVal} {tile sub : Nat} (hfirst : 2 ≤ sub) (hlast : sub ≤ 0x0A) {pre : State → Prop}
    {eff : State → State} (hbind : ∀ s, pre s → bindPort tile (sub - 2) (natBE v.data) s = (.ok, eff s)) :
    WriteDone (.portBindingWrite r sub v) r 0x4010 sub v
      (fun x s => addrTile (selOf s x.id 0x4010 1) = some tile ∧ pre s) (fun _ s => eff s) := by
  refine writeDone_of_handler (fun _ => rfl) fun x t ⟨htile, hpre⟩ => ?_
  have hport : (decide (2 ≤ sub) && decide (sub ≤ 0x0A)) = true := by simp [hfirst, hlast]
  dsimp only
  rw [htile]
  exact (if_neg (by omega)).trans ((if_pos hport).trans (hbind t hpre))

theorem bindPort_unbound (tile p : Nat) (s : State) : bindPort tile p 255 s =
    (.ok, { s with mem := { s.mem with owner := Sparse.set0 s.mem.owner (9 * tile + p) 0 } }) := if_pos rfl

theorem bindPort_free {tile p v : Nat} {s : State} (hv : v ≤ 15) (hfree : ∀ q < 9, q ≠ p → portOwner s tile q ≠ some v) :
    bindPort tile p v s = (.ok, { s with mem := { s.mem with owner := Sparse.set0 s.mem.owner (9 * tile + p) (v + 1) } }) := by
  have hsingle : ¬ (List.range 9).any (fun q => q != p && portOwner s tile q == some v) = true := by
    simpa using fun q hq hother => hfree q hq hother
  rw [bindPort, if_neg (by omega), if_neg (by omega), if_neg hsingle]

theorem compat_done (r : Req) (v : WVal) (tile : Nat) : WriteDone (.portBindingWrite r 0x0B v) r 0x4010 0x0B v
    (fun x s => addrTile (selOf s x.id 0x4010 1) = some tile)
    (fun _ s => { s with mem := { s.mem with compat := Sparse.set0 s.mem.compat tile (natLE v.data) } }) := by
  refine writeDone_of_handler (fun _ => rfl) fun x t htile => ?_
  dsimp only
  rw [htile]
  rfl

theorem layoutApply_done (r : Req) : WriteDone (.layoutApply r) r 0x4110 2 (codeVal 1)
    (fun _ s => layoutRefusal s = none ∧ ∀ c ∈ changedCodes s.mem.layout (pendingLayout s), c ≠ 0 →
      ∀ u ∈ unitsOf (pendingLayout s) c, gateShut s (13 + u / 32) = false)
    (fun _ s => { s with mem := { s.mem with applying := true, applyTo := pendingLayout s } }) := by
  refine writeDone_of_handler (fun _ => rfl) fun x t ⟨hnone, hon⟩ => ?_
  dsimp only
  rw [if_neg, hnone]
  simpa using hon

theorem exec_layoutApplied {s : State} (happly : s.mem.applying = true) : exec .layoutApplied s = .next
    (let l := s.mem.applyTo
     let ch := changedCodes s.mem.layout l
     let t := if ch.contains 3 then withdrawAll 6 s else s
     let t := dramZero (ch.flatMap (fun c => unitsOf l c)) { t with mem := { t.mem with layout := l, applying := false, applyTo := [] } }
     let t := if ch.contains 3 then { t with rew := { t.rew with log := [] } } else t
     raise 0x4111 ((List.range 8).flatMap (fun c => pU8 (unitsOf l c).length) ++ pU8 (ch.contains 3).toNat)
       (let t := if ch.contains 4 then { t with mem := { t.mem with farErr := [] } } else t
        if ch.contains 7 then { t with img := { t.img with planes := [], banks := [] } } else t)) :=
  congrArg Host.Outcome.next (if_neg (by rw [happly]; exact Bool.false_ne_true))

/-! ### Far deliveries and corrected words (R301, R310, R313) -/

theorem exec_farDelivery {tile : Nat} {failed : Bool} {s : State} {d : FarDel} (htile : tile < 128) (hcommit : s.run.phase = .commit)
    (hfind : s.mem.farDel.find? (fun d => d.tile == tile && !d.done && d.data.isSome) = some d) :
    exec (.farDelivery tile failed) s = .next (farDeliver { d with ready := true, failed := d.failed || failed }
      (modFar tile d.cluster (fun x => { x with ready := true, failed := x.failed || failed }) s)) := by
  refine (onUnit_of_lt htile _).trans (congrArg Host.Outcome.next ?_)
  rw [hfind]
  exact if_pos hcommit

theorem bankKey_bank (bank word : Nat) : bankKey bank (word % 65536) / 65536 = bank := by
  unfold bankKey
  omega

/-- A corrected word goes back when its port is free. -/
theorem writeBack_of_free {bank word ab : Nat} {s : State}
    (hfind : s.mem.fixed.find? (fun x => x.1 == bankKey bank (word % 65536)) = some (bankKey bank (word % 65536), ab))
    (hfree : portFree s (bank / 4) (2 * (bank % 4) + ab) = true) : writeBack (bankKey bank (word % 65536)) s =
      (let t := takePort (bank / 4) (2 * (bank % 4) + ab) s
       { t with mem := { t.mem with
          bankErr := Sparse.erase t.mem.bankErr (bankKey bank (word % 65536))
          fixed := t.mem.fixed.filter (fun x => x.1 != bankKey bank (word % 65536)) } }) := by
  simp only [writeBack, hfind, bankKey_bank, hfree, if_true]

/-- A corrected word waits while its port is taken, and a word that is not among those that wait stays as it is. -/
theorem writeBack_of_taken {bank word : Nat} {s : State} (htaken : ∀ y ∈ s.mem.fixed, y.1 = bankKey bank (word % 65536) →
    portFree s (bank / 4) (2 * (bank % 4) + y.2) = false) : writeBack (bankKey bank (word % 65536)) s = s := by
  rw [writeBack]
  cases hfind : s.mem.fixed.find? (fun x => x.1 == bankKey bank (word % 65536)) with
  | none => rfl
  | some y =>
    have hkey : y.1 = bankKey bank (word % 65536) := by simpa using List.find?_some hfind
    have hshut := htaken y (List.mem_of_find?_eq_some hfind) hkey
    simp only [bankKey_bank, hshut, Bool.false_eq_true, if_false]

/-- Settles O31, row by row. -/
theorem memoryRowsComplete : Obligations.MemoryRowsComplete := by
  refine ⟨fun r v tile sub hfirst hlast => portBinding_done hfirst hlast fun _ ⟨hv, hfree⟩ => bindPort_free hv hfree,
    fun r v tile sub hfirst hlast => portBinding_done hfirst hlast (pre := fun _ => natBE v.data = 255) fun t hv => ?_,
    compat_done, layoutApply_done, fun _ => exec_layoutApplied, fun _ _ _ _ => exec_farDelivery, fun _ _ ht => onUnit_of_lt ht _,
    fun bank word ab k s t hbank hk hfind hfree ht => ?_,
    fun bank word s hbank htaken => (onUnit_of_lt hbank _).trans (congrArg _ (writeBack_of_taken htaken))⟩
  · rw [hv]
    exact bindPort_unbound tile (sub - 2) t
  · subst hk ht
    exact (onUnit_of_lt hbank _).trans (congrArg _ (writeBack_of_free hfind hfree))

end Sys2Proof.Machine
end

section
/-! SUPPORT. Rewind (chapter 6): checkpoints, drains, restores, replays and recoveries. -/

namespace Sys2Proof.Machine

/-- R397: a commanded checkpoint needs 1024 cycles since the newest one. -/
theorem checkpointCommand_done (r : Req) : WriteDone (.checkpointCommand r) r 0x4800 8 (codeVal 1)
    (fun _ s => ∀ c, (completeCkpts s).getLast? = some c → c.cycle + 1024 ≤ s.run.cycle.toNat + 1)
    (fun _ s => { s with rew := { s.rew with cmdDue := true } }) := by
  refine writeDone_of_handler (fun _ => rfl) fun x t hnear => ?_
  dsimp only
  cases hlast : (completeCkpts t).getLast? with
  | none => rfl
  | some c => exact if_neg (by simpa using hnear c hlast)

theorem exec_deferredSnapshot {s : State} (hdue : s.rew.deferred = true) (hdrained : draining s = false) :
    exec .deferredSnapshot s = .next
      (let t := snapshot true s.run.cycle.toNat (s.rew.dueCause.getD 0) s
       { t with rew := { t.rew with deferred := false, dueCause := none } }) :=
  congrArg Host.Outcome.next (if_pos (by rw [hdue, hdrained]; rfl))

/-- A restore that R433 admits replays from its checkpoint, the older of two of one cycle (log 81). -/
theorem restore_done (r : Req) (k : Ckpt) : WriteDone (.restore r) r 0x4900 3 (codeVal 1)
    (fun _ s => restoreRefusal s = none ∧ (completeCkpts s).find? (fun k => k.cycle == s.o 0x4900 1) = some k)
    (fun _ s =>
      let q : Replay := { host := true, first := k.cycle, last := s.o 0x4900 2, since := s.now, resume := .stopped, recovered := [],
                          finished := false }
      let t := setRunState .recovering { s with rew := { s.rew with parkRestore := false } }
      let t := startReplay k q false (t.setO 0x4900 4 1)
      if s.o 0x4900 2 < k.cycle then
        hostRestoreDone { q with finished := true } { t with run := { t.run with phase := .idle } }
      else t) := by
  refine writeDone_of_handler (fun _ => rfl) fun x t ⟨hnone, hfind⟩ => ?_
  dsimp only
  rw [hnone, hfind]
  dsimp only
  split <;> rfl

theorem exec_replayDone {s : State} {q : Replay} (hreplay : s.run.replay = some q) (hhost : q.host = true)
    (hend : q.finished = true) : exec .replayDone s = .next (hostRestoreDone q s) := by
  refine congrArg Host.Outcome.next ?_
  rw [hreplay]
  exact if_pos (by rw [hhost, hend]; rfl)

/-- The run goes on when no stop fell while it recovered (R440-R442). -/
theorem exec_clusterRecovered {s : State} {q : Replay} (hreplay : s.run.replay = some q) (hhost : q.host = false)
    (hend : q.finished = true) : exec .clusterRecovered s = .next
      (let t := rewriteDone q.first q.last s
       let t := q.recovered.foldl (recoveryEvent q)
         (lateSwaps { t with run := { t.run with replay := none, holdRecovery := false } })
       if t.run.causes.isEmpty then (if q.resume = .stepping then setRunState .stepping t else enterRunning t)
       else stopWith t.run.causes (causeState (t.run.causes.foldl max 0)) t) := by
  refine congrArg Host.Outcome.next ?_
  rw [hreplay]
  exact if_neg (by rw [hhost, hend]; exact Bool.false_ne_true)

/-- A substitution in a run that does not replay sets up the replay of its recovery (R437-R440). -/
theorem exec_spareSubstituted {s w u : State} {k : Ckpt} (hstate : s.run.state = .recovering) (hhold : s.run.holdRecovery = true)
    (hfailed : s.run.failed ≠ []) (hreplay : u.run.replay = none) (hw : w = finishDrain (drainMicros s) s)
    (hsubst : substituteAll (s.run.cycle.toNat - 1) w.run.failed
      (suspectFailed (w.run.failed.filter (fun y => !(s.run.failed.contains y))) w) = (true, u))
    (hnewest : newestAt (s.run.cycle.toNat - 1) u = some k) :
    exec .spareSubstituted s = .next (startReplay k
      { host := false, first := k.cycle, last := s.run.cycle.toNat - 1, since := u.run.haltAt, resume := u.run.before,
        recovered := w.run.failed.map (fun y => (y.1, y.2, s.run.cycle.toNat - 1, u.run.haltAt)), finished := false }
      true u) := by
  subst hw
  have hdue : ¬ (s.run.state != .recovering || !s.run.holdRecovery || s.run.failed.isEmpty) = true := by
    simp [hstate, hhold, hfailed]
  refine congrArg Host.Outcome.next ((if_neg hdue).trans ?_)
  dsimp only
  rw [hsubst]
  dsimp only
  rw [hreplay, Option.none_or, hnewest]
  rfl

/-- Settles O34, row by row. -/
theorem rewindRowsComplete : Obligations.RewindRowsComplete :=
  ⟨checkpointCommand_done, fun _ => exec_deferredSnapshot, fun _ _ _ => rfl, fun _ => rfl, restore_done,
    fun _ _ => exec_replayDone, fun _ _ => exec_clusterRecovered, fun _ _ _ _ => exec_spareSubstituted⟩

end Sys2Proof.Machine
end

section
/-! SUPPORT. Lantern (chapter 5): what a calibration that loses a channel writes (R383, R386). -/

namespace Sys2Proof.Machine

/-- A calibration runs on channel 0, the CAPTURE region is unit 0 of the DRAM, and segment 0, its first block, is open for the EXT
record that holds a sample of the channel. -/
def recordUnderConstruction : State :=
  let s := (State.reset.setO 0x5800 1 1).setO 0x5800 4 1
  { s with
    mem := { s.mem with layout := [1] }
    lan := { s.lan with
      ext := some { seg := 0, sample := 0, cycle := 0, time := 0, frac := 0, nch := 1, samples := [[0]] }
      ctx := { s.lan.ctx with segs := [(0, { blocks := 1, state := 1 })] } } }

/-- The record is completed with the channels that it began with, so the calibration writes it into the DRAM. -/
theorem extCalibrated_writes_dram : ∀ t, exec (.extCalibrated 0 [0]) recordUnderConstruction = .next t → t.mem.dram.isEmpty = false := by
  intro t ht
  obtain rfl := Host.Outcome.next.inj ht
  decide +kernel

/-- Refutes O35: its clause on calibration says that the memories stay as they are, and a calibration that gives up a channel completes
the EXT record under construction in the CAPTURE region. -/
theorem not_lanternRowsComplete : ¬ Obligations.LanternRowsComplete := by
  intro h
  obtain ⟨-, -, -, -, -, -, -, -, -, hcalibrated, -, -⟩ := h
  obtain ⟨t, ht, -, -, -, -, -, hmem⟩ := hcalibrated 0 [0] recordUnderConstruction (by decide) (by decide)
  have hwritten := extCalibrated_writes_dram t ht
  rw [hmem] at hwritten
  exact absurd hwritten (by decide)

end Sys2Proof.Machine
end

section
/-! SUPPORT. The fabric (chapter 7): what makes it up. -/

namespace Sys2Proof.Machine

/-! ### Writes of cells, maps, pins, oscillators and banks (R454, R462, R472, R494, R495, R499, R500) -/

theorem writeCells_ok {d : List Octet} (hres : (chunks 32 d).any (fun o => cellReserved (natBE o)) = false) (x : Session) (s : State) :
    writeCells x.id d s = (.ok, flashFollow ((((chunks 32 d).map natBE).zipIdx).foldl (fun t y =>
      let t := loadCell (selOf s x.id 0x6810 1 + y.2) (BitVec.ofNat 256 y.1) t
      { t with tif := { t.tif with hostCells := nsAdd (selOf s x.id 0x6810 1 + y.2) t.tif.hostCells } }) s)) :=
  if_neg (by rw [hres]; exact Bool.false_ne_true)

theorem writeInjection_ok {d : List Octet}
    (hres : ((chunks 2 d).map natBE).any (fun e => fld e 10 4 != 0 || (!(bitOf e 14) && fld e 0 10 != 0)) = false) (x : Session)
    (s : State) : writeInjection x.id d s = (.ok, { s with tif := { s.tif with
      imap := (((chunks 2 d).map natBE).zipIdx).foldl (fun m y => Sparse.set0 m (selOf s x.id 0x6828 1 + y.2) y.1) s.tif.imap } }) :=
  if_neg (by rw [hres]; exact Bool.false_ne_true)

theorem outputMap_done (r : Req) (v : WVal) : WriteDone (.outputMapWrite r v) r 0x6820 2 v
    (fun x s => fld (natBE v.data) 22 9 = 0 ∧ (bitOf (natBE v.data) 31 = true →
      s.tif.omap.any (fun p => p.1 != selOf s x.id 0x6820 1 && bitOf p.2 31 && fld p.2 0 22 == fld (natBE v.data) 0 22) = false))
    (fun x s =>
      let e := fld (natBE v.data) 31 1 * 2 ^ 31 + fld (natBE v.data) 0 22
      { s with tif := { s.tif with omap := Sparse.set0 s.tif.omap (selOf s x.id 0x6820 1) e } }) := by
  refine writeDone_of_handler (fun _ => rfl) fun x t ⟨hres, honce⟩ => (if_neg (by simp [hres])).trans (if_neg ?_)
  cases hvalid : bitOf (natBE v.data) 31 with
  | false => exact Bool.false_ne_true
  | true =>
    rw [honce hvalid]
    exact Bool.false_ne_true

theorem pinConfig_done (r : Req) (v : WVal) (vb : Nat) : WriteDone (.pinConfigWrite r v) r 0x6860 2 v
    (fun x s => vb = s.o (0x6850 + selOf s x.id 0x6860 1 / 32) 1 ∧ fld (natBE v.data) 8 2 ≠ 3 ∧ fld (natBE v.data) 6 2 ≠ 3 ∧
      fld (natBE v.data) 0 3 = 0 ∧ fld (natBE v.data) 10 6 = 0 ∧ ¬ (fld (natBE v.data) 6 2 = 2 ∧ (vb = 1 ∨ vb = 2)))
    (fun x s => flashFollow { s with tif := { s.tif with pins := Sparse.set0 s.tif.pins (selOf s x.id 0x6860 1) (natBE v.data) } }) := by
  refine writeDone_of_handler (fun _ => rfl) fun x t ⟨hvb, hpull, hdrive, hlow, hhigh, hstrong⟩ => ?_
  subst hvb
  exact (if_neg (by simp [hpull, hdrive, hlow, hhigh])).trans (if_neg (by simpa using hstrong))

theorem patStart_done (r : Req) (v : WVal) : WriteDone (.patStartWrite r v) r 0x6840 1 v (fun _ _ => natBE v.data % 8 = 0)
    (fun _ s =>
      let t := s.setO 0x6840 1 (natBE v.data)
      { t with tif := { t.tif with patPos := natBE v.data }, run := { t.run with frame := none } }) :=
  writeDone_of_handler (fun _ => rfl) fun _ _ halign => if_neg (by simp [halign])

theorem oscFreq_done (r : Req) (k : Nat) (v : WVal) (hk : k < 4) : WriteDone (.oscFreqWrite r k v) r (0x6870 + k) 1 v
    (fun _ _ => 50000 ≤ natBE v.data ∧ natBE v.data ≤ 400000 ∧ natBE v.data % 100 = 0)
    (fun _ s => s.setO (0x6870 + k) 1 (natBE v.data)) :=
  writeDone_onObject hk (fun _ => rfl) fun _ _ ⟨hlow, hhigh, hstep⟩ => if_neg (by simp [hlow, hhigh, hstep])

theorem bankVoltage_done (r : Req) (b : Nat) (v : WVal) (hb : b < 10) : WriteDone (.bankVoltageWrite r b v) r (0x6850 + b) 1 v
    (fun _ s => natBE v.data ≤ 5 ∧ ((natBE v.data = 1 ∨ natBE v.data = 2) → strongPins s b = false))
    (fun _ s => if natBE v.data = s.o (0x6850 + b) 1 ∧ s.o (0x6850 + b) 2 = 2 then s
      else flashFollow ((s.setO (0x6850 + b) 1 (natBE v.data)).setO (0x6850 + b) 2 (if natBE v.data = 0 then 0 else 1))) := by
  refine writeDone_onObject hb (fun _ => rfl) fun x t ⟨hcode, hstrong⟩ => ?_
  have hweak : ¬ ((decide (natBE v.data = 1) || decide (natBE v.data = 2)) && strongPins t b) = true := by
    intro h
    obtain ⟨hlow, hpins⟩ := Bool.and_eq_true_iff.1 h
    rw [hstrong (by simpa using hlow)] at hpins
    exact Bool.false_ne_true hpins
  refine (if_neg (not_lt.2 hcode)).trans ((if_neg hweak).trans ?_)
  by_cases hsame : natBE v.data = t.o (0x6850 + b) 1 ∧ t.o (0x6850 + b) 2 = 2
  · rw [if_pos hsame]
    exact if_pos (by simp [← hsame.1, hsame.2])
  · rw [if_neg hsame]
    exact if_neg (by simpa using hsame)

/-- Settles O36, row by row. -/
theorem fabricWritesComplete : Obligations.FabricWritesComplete :=
  ⟨fun _ => formDone_of (fun _ _ => rfl) (fun _ x s hres => writeCells_ok hres x s) (fun _ x s hres => writeCells_ok hres x s),
    fun _ => formDone_of (fun _ _ => rfl) (fun _ x s hres => writeInjection_ok hres x s) (fun _ x s hres => writeInjection_ok hres x s),
    outputMap_done, pinConfig_done, patStart_done, fun _ => writeDone_of_handler (fun _ => rfl) fun _ _ _ => rfl,
    oscFreq_done, bankVoltage_done⟩

end Sys2Proof.Machine
end

section
/-! SUPPORT. The units of the fabric (chapter 7): user flash, serial ports, bank rails and clocks. -/

namespace Sys2Proof.Machine

/-! ### User flash (R463) -/

theorem flashStart_eq (s : State) : flashStart s =
    flashRead { (flashAddr s).2 with tif := { (flashAddr s).2.tif with ufRd := true, ufAddr := (flashAddr s).1 } } := by
  unfold flashStart
  generalize flashAddr s = p
  obtain ⟨a, t⟩ := p
  rfl

theorem exec_ufRead {s : State} (hruns : tifRuns s = true) (hlow : s.tif.ufRd = false)
    (hrise : tval s tifFuel (.wire (128 * 63 + 19) 0) = some true) : exec .ufRead s = .next
      (let t := (flashAddr s).2
       flashRead { t with tif := { t.tif with ufRd := true, ufAddr := (flashAddr s).1 } }) :=
  congrArg Host.Outcome.next ((if_pos (by simp [hruns, hlow, hrise])).trans (flashStart_eq s))

theorem ufErase_done (r : Req) (v : WVal) (sec : Nat) : WriteDone (.ufErase r v) r 0x6880 3 v
    (fun x s => natBE v.data = 1 ∧ s.tif.ufBusy = none ∧ sec = selOf s x.id 0x6880 1 / 4096)
    (fun _ s => { s with tif := { s.tif with
      flash := Sparse.clear s.tif.flash (4096 * sec) (4096 * (sec + 1)), ufBusy := some (sec, true) } }) := by
  refine writeDone_of_handler (fun _ => rfl) fun x t ⟨hcode, hfree, hsec⟩ => ?_
  subst hsec
  exact (if_neg (by simp [hcode])).trans (if_neg (by simp [hfree]))

theorem programFlash_ok {s : State} (hfree : s.tif.ufBusy = none) (d : List Octet) (x : Session) : programFlash x.id d s = (.ok,
    let a := selOf s x.id 0x6880 1
    { s with tif := { s.tif with
      flash := (d.zipIdx).foldl (fun m y =>
        if Sparse.get (fun _ => (255 : Octet)) m (a + y.2) = 255 then Sparse.set (fun _ => (255 : Octet)) m (a + y.2) y.1 else m)
        s.tif.flash,
      ufBusy := some (a / 4096, false) } }) := if_neg (by simp [hfree])

theorem exec_ufOperationDone {s : State} (hbusy : s.tif.ufBusy ≠ none) : exec .ufOperationDone s = .next
    (let t := { s with tif := { s.tif with ufBusy := none } }
     if s.tif.ufRd = true ∧ s.tif.ufValid = false then flashRead t else t) :=
  congrArg Host.Outcome.next ((if_neg (by simpa using hbusy)).trans (ite_eq_ite (by simp) rfl rfl))

/-! ### Serial ports (R458, R464-R466) -/

/-- A command starts on an idle port whose mode serves it: any mode but 0 a send, and mode 3 every command. -/
theorem startSerial_ok {k n : Nat} {s : State} (hidle : (s.serialPort k).running = 0) (hmode : s.o (0x6C00 + k) 1 ≠ 0)
    (hi2c : 2 ≤ n → s.o (0x6C00 + k) 1 = 3) :
    startSerial k n s = (.ok, flashFollow ((modSerial k (fun p => { p with running := n }) s).setO (0x6C00 + k) 9 1)) := by
  refine (if_neg (by simp [hidle])).trans (if_neg ?_)
  simpa [hmode] using hi2c

theorem serialStart_done {r : Req} {k n : Nat} {c : Req → Nat → Instr} (hk : k < 8)
    (hc : (n, c) ∈ [(1, Instr.spSend), (2, Instr.spI2cRead), (3, Instr.spI2cWriteRead)]) :
    WriteDone (c r k) r (0x6C00 + k) 7 (codeVal n)
      (fun _ s => (s.serialPort k).running = 0 ∧ s.o (0x6C00 + k) 1 ≠ 0 ∧ (2 ≤ n → s.o (0x6C00 + k) 1 = 3))
      (fun _ s => flashFollow ((modSerial k (fun p => { p with running := n }) s).setO (0x6C00 + k) 9 1)) := by
  simp only [List.mem_cons, Prod.mk.injEq, List.not_mem_nil, or_false] at hc
  obtain ⟨rfl, rfl⟩ | ⟨rfl, rfl⟩ | ⟨rfl, rfl⟩ := hc
  all_goals exact writeDone_onObject hk (fun _ => rfl) fun _ _ ⟨hidle, hmode, hi2c⟩ => startSerial_ok hidle hmode hi2c

theorem spAbort_done (r : Req) (k : Nat) (hk : k < 8) : WriteDone (.spAbort r k) r (0x6C00 + k) 7 (codeVal 4) (fun _ _ => True)
    (fun _ s => if (s.serialPort k).running = 0 then s else endSerial k 6 [] 0 s) := by
  refine writeDone_onObject hk (fun _ => rfl) fun x t _ => ?_
  by_cases hidle : (t.serialPort k).running = 0
  · simp only [if_pos hidle]
  · simp only [if_neg hidle]

/-- What the port receives on a line that carries data is what came in. -/
theorem exec_serialDone_of_line {k status sent : Nat} {l : List Octet} {s : State} (hk : k < 8) (hrun : (s.serialPort k).running ≠ 0)
    (hline : steadyLine s k (if s.o (0x6C00 + k) 1 = 3 then 1 else 2) = none) : exec (.serialDone k status l sent) s = .next
      (endSerial k (if s.o (0x6C00 + k) 1 = 3 ∧ (status = 3 ∨ status = 4) then status else 2)
        (if s.o (0x6C00 + k) 1 = 3 ∧ 2 ≤ (s.serialPort k).running then l.take (s.o (0x6C00 + k) 0x0A)
         else if s.o (0x6C00 + k) 1 = 2 then l else [])
        (min sent (s.serialPort k).tx.length) s) := by
  refine (onUnit_of_lt hk _).trans (congrArg Host.Outcome.next ((if_neg hrun).trans ?_))
  have hsig : steadyLine s k (if (s.o (0x6C00 + k) 1 == 3) = true then 1 else 2) = none := by simpa only [beq_iff_eq] using hline
  rw [hsig]
  refine (if_neg (by simp)).trans ?_
  simp only [Bool.and_eq_true, Bool.or_eq_true, beq_iff_eq, decide_eq_true_eq]

/-- A line of one level gives that level in every bit of what came in. -/
theorem exec_serialDone_of_level {k status sent : Nat} {l : List Octet} {b : Bool} {s : State} (hk : k < 8)
    (hrun : (s.serialPort k).running ≠ 0) (hmode : s.o (0x6C00 + k) 1 ≠ 3) (hline : steadyLine s k 2 = some b) :
    exec (.serialDone k status l sent) s = .next
      (endSerial k 2 (if s.o (0x6C00 + k) 1 = 2 then List.replicate l.length (if b then 255 else 0) else [])
        (min sent (s.serialPort k).tx.length) s) := by
  have hi2c : (s.o (0x6C00 + k) 1 == 3) = false := beq_eq_false_iff_ne.2 hmode
  refine (onUnit_of_lt hk _).trans (congrArg Host.Outcome.next ((if_neg hrun).trans ?_))
  rw [hi2c, if_neg Bool.false_ne_true, hline]
  refine (if_neg (by simp)).trans ?_
  simp only [Bool.false_and, Bool.false_eq_true, if_false, beq_iff_eq, List.map_const']

/-- No device acknowledges on a line that is always high. -/
theorem exec_serialDone_of_high {k status sent : Nat} {l : List Octet} {s : State} (hk : k < 8) (hrun : (s.serialPort k).running ≠ 0)
    (hmode : s.o (0x6C00 + k) 1 = 3) (hline : steadyLine s k 1 = some true) :
    exec (.serialDone k status l sent) s = .next (endSerial k 3 [] (min sent (s.serialPort k).tx.length) s) := by
  have hi2c : (s.o (0x6C00 + k) 1 == 3) = true := beq_iff_eq.2 hmode
  refine (onUnit_of_lt hk _).trans (congrArg Host.Outcome.next ((if_neg hrun).trans ?_))
  rw [hi2c, if_pos rfl, hline]
  exact if_pos rfl

theorem exec_busStuck {k : Nat} {s : State} (hk : k < 8) (hrun : (s.serialPort k).running ≠ 0) (hmode : s.o (0x6C00 + k) 1 = 3) :
    exec (.busStuck k) s = .next (endSerial k 5 [] 0 s) :=
  (onUnit_of_lt hk _).trans (congrArg _ (if_pos (by simp [hrun, hmode])))

theorem exec_uartReceive {k : Nat} {o : Octet} {s : State} (hk : k < 8) (hmode : s.o (0x6C00 + k) 1 = 1)
    (hline : steadyLine s k 1 = none) : exec (.uartReceive k o) s = .next (serialReceive k [o] s) :=
  (onUnit_of_lt hk _).trans (congrArg _ (if_pos (by simp [hmode, hline])))

/-! ### Bank rails and clocks (R494) -/

theorem exec_bankRailSettled {b : Nat} {s : State} (hb : b < 10) (hrail : s.o (0x6850 + b) 2 = 1) :
    exec (.bankRailSettled b) s = .next (flashFollow (s.setO (0x6850 + b) 2 2)) :=
  (onUnit_of_lt hb _).trans (congrArg _ (if_pos (beq_iff_eq.2 hrail)))

theorem exec_bankFault {b mv : Nat} {s : State} (hb : b < 10) (hrail : s.o (0x6850 + b) 2 = 2) :
    exec (.bankFault b mv) s = .next (raise 0x6851 (pU8 b ++ pU32 mv) (flashFollow (s.setO (0x6850 + b) 2 3))) :=
  (onUnit_of_lt hb _).trans (congrArg _ (if_pos (beq_iff_eq.2 hrail)))

theorem exec_tifClockEdge {clock : Nat} {l : List (Nat × Bool)} {s : State} (hlow : 0 < clock) (hhigh : clock ≤ 14)
    (hosc : clock < 5 → s.o (0x6870 + (clock - 1)) 2 ≠ 0) :
    exec (.tifClockEdge clock l) s = .next (flashFollow (clockEdge clock { s with tif := { s.tif with target := l } })) := by
  refine congrArg Host.Outcome.next ((if_neg ?_).trans (if_neg ?_))
  · simp only [Bool.or_eq_true, decide_eq_true_eq]
    omega
  · rw [Bool.and_eq_true, decide_eq_true_eq, beq_iff_eq]
    exact fun ⟨hclock, hoff⟩ => hosc hclock hoff

/-- Settles O38, unit by unit. -/
theorem fabricUnitsComplete : Obligations.FabricUnitsComplete :=
  ⟨fun _ => exec_ufRead, ufErase_done,
    fun _ => formDone_of (fun _ _ => rfl) (fun d x _ hfree => programFlash_ok hfree d x) (fun d x _ hfree => programFlash_ok hfree d x),
    fun _ => exec_ufOperationDone, fun _ _ _ _ => serialStart_done, spAbort_done, fun _ _ _ _ _ => exec_serialDone_of_line,
    fun _ _ _ _ _ _ => exec_serialDone_of_level, fun _ _ _ _ _ => exec_serialDone_of_high, fun _ _ => exec_busStuck,
    fun _ _ _ hk hmode hline => (exec_uartReceive hk hmode hline).trans rfl, fun _ _ => exec_bankRailSettled,
    fun _ _ _ => exec_bankFault, fun _ _ _ => exec_tifClockEdge⟩

end Sys2Proof.Machine
end

section
/-! SUPPORT. Images and keys (chapter 8): staging, checks, applications and the key commands. -/

namespace Sys2Proof.Machine

/-! ### Staging and checks (R524, R529, R530) -/

theorem stageData_ok {s : State} (hfree : lockedRange s = none) (d : List Octet) (x : Session) :
    stageData x.id d s = (.ok, stageWrite (s.o 0x6100 1 + selOf s x.id 0x6100 8) d s) :=
  if_neg (by rw [hfree]; exact Bool.false_ne_true)

/-- The check that a CHECK or CHECK_APPLY begins. -/
def checkBegun (r : Req) (apply : Bool) (n : Nat) (s : State) : State :=
  let c : ImgCheck := { off := s.o 0x6100 1, len := s.o 0x6100 2, apply, session := n, seq := r.seq
                        before := s.o 0x6100 4, kept := s.img.passed }
  { s.setO 0x6100 4 2 with img := { s.img with check := some c, passed := none } }

theorem startCheck_ok {r : Req} {apply : Bool} {n : Nat} {s : State} (hgates : imageBlocked apply s = false)
    (hadmit : imageRefusal s = none) : startCheck r apply n s = (none, checkBegun r apply n s) := by
  rw [startCheck, hgates, hadmit]
  rfl

theorem imageDiscard_done (r : Req) : WriteDone (.imageDiscard r) r 0x6200 1 (codeVal 3) (fun _ s => lockedRange s = none)
    (fun _ s => { s.setO 0x6100 4 0 with img := { s.img with passed := none } }) :=
  writeDone_of_handler (fun _ => rfl) fun _ _ hfree => if_neg (by rw [hfree]; exact Bool.false_ne_true)

/-! ### The end of an application (R534-R542) -/

/-- An application of a region whose frames are due to be written. -/
theorem region_due {a : Applying} (htyp : a.hdr.typ = 1) (hreset : a.inReset = true) (hwritten : a.written = false) :
    ¬ (a.hdr.typ != 1 || !a.inReset || a.written) = true := by simp [htyp, hreset, hwritten]

theorem modRec_img (k : Nat) (f : LogRec → LogRec) (s : State) : (modRec k f s).img = s.img := by
  unfold modRec
  split
  · rfl
  · split <;> rfl

theorem applyDeposit_img (s : State) (d : Deposit) : (applyDeposit s d).img = s.img := by
  unfold applyDeposit
  split <;> rfl

/-- The deposits of a region change the lanes and the stimulus log. -/
theorem regionDeposits_img (a : Applying) (s : State) : (regionDeposits a s).img = s.img := by
  have hall : ∀ (l : List Deposit) (t : State), (l.foldl (fun t d => depositAt t.run.cycle.toNat t d) t).img = t.img := by
    intro l
    induction l with
    | nil => exact fun _ => rfl
    | cons d l ih => exact fun t => (ih _).trans ((modRec_img _ _ _).trans (applyDeposit_img t d))
  exact hall _ _

theorem exec_regionWriteDone_stopped {s : State} {a : Applying} (happly : s.img.applying = some a) (htyp : a.hdr.typ = 1)
    (hreset : a.inReset = true) (hwritten : a.written = false) (hstopped : a.stopped = true) :
    exec .regionWriteDone s = .next (chooseDepth
      (let t := regionDeposits a (writeRegion a.hdr a.frames (wakeDepth s))
       let w := carrySwaps false { t with img := { t.img with applying := none } }
       let t := checkpointNow 3 w.2
       releaseRegion a t.run.cycle.toNat (if w.1 then withdrawOlder 4 t else t))) := by
  refine congrArg Host.Outcome.next ?_
  rw [happly]
  refine (if_neg (region_due htyp hreset hwritten)).trans ((if_pos hstopped).trans ?_)
  simp only [← regionDeposits_img a (writeRegion a.hdr a.frames (wakeDepth s))]

theorem exec_regionWriteDone_running {s : State} {a : Applying} (happly : s.img.applying = some a) (htyp : a.hdr.typ = 1)
    (hreset : a.inReset = true) (hwritten : a.written = false) (hstopped : a.stopped = false) :
    exec .regionWriteDone s = .next
      (let t := writeRegion a.hdr a.frames (wakeDepth s)
       { t with img := { t.img with applying := some { a with written := true } } }) := by
  refine congrArg Host.Outcome.next ?_
  rw [happly]
  exact (if_neg (region_due htyp hreset hwritten)).trans (if_neg (by rw [hstopped]; exact Bool.false_ne_true))

theorem exec_shadowApplyDone {s : State} {a : Applying} (happly : s.img.applying = some a) (htyp : a.hdr.typ = 2) :
    exec .shadowApplyDone s = .next (finishShadow a s) := by
  refine congrArg Host.Outcome.next ?_
  rw [happly]
  exact if_pos htyp

/-- Settles O39, row by row. -/
theorem imageRowsComplete : Obligations.ImageRowsComplete := by
  refine ⟨fun r => formDone_of (fun _ _ => rfl) (fun d x _ hfree => stageData_ok hfree d x) (fun d x _ hfree => stageData_ok hfree d x),
    fun n c r x s hc hreach hcheck hgates hadmit => ?_, imageDiscard_done, fun s a c hcheck ha => ?_,
    fun _ _ => exec_regionWriteDone_stopped, fun _ _ => exec_regionWriteDone_running, fun _ _ => exec_shadowApplyDone⟩
  · simp only [List.mem_cons, Prod.mk.injEq, List.not_mem_nil, or_false] at hc
    obtain ⟨rfl, rfl⟩ | ⟨rfl, rfl⟩ := hc
    all_goals exact congrArg Host.Outcome.next (serveWriteLater_eq hreach hcheck (startCheck_ok hgates hadmit))
  · subst ha
    refine congrArg Host.Outcome.next ?_
    rw [hcheck]
    dsimp only
    generalize checkImage _ c.off c.len = q
    obtain ⟨reason, frame, unit⟩ | ⟨h, fs⟩ := q <;> rfl

/-! ### Key commands (R514, R515) -/

/-- Settles O40: each command in SERVICE, on the key that opens and on one that does not. -/
theorem keyCommandsComplete : Obligations.KeyCommandsComplete := by
  refine ⟨fun r st => writeAnswered_of_handler (fun _ => rfl) fun x t ⟨hserv, hvbat, hst⟩ => ?_,
    fun r st => writeAnswered_of_handler (fun _ => rfl) fun x t ⟨hserv, hfree, hst⟩ => ?_,
    fun r => writeDone_of_handler (fun _ => rfl) fun _ _ hserv => if_pos hserv,
    fun r => writeDone_of_handler (fun _ => rfl) fun _ _ ⟨hserv, hfuse⟩ => (if_pos hserv).trans (if_neg hfuse)⟩
  · subst hst
    refine (if_pos hserv).trans ?_
    cases hk : unwrapKey t x.id t.keys.wrapped with
    | none => simp only [hk]
    | some k => simp only [hk, if_neg hvbat, keyEvent]
  · subst hst
    refine (if_pos hserv).trans ((if_neg hfree).trans ?_)
    cases hk : unwrapKey t x.id t.keys.wrapped with
    | none => simp only [hk]
    | some k => simp only [hk, keyEvent]

end Sys2Proof.Machine
end

section
/-! SUPPORT. What leaves the sessions alone: choosing an idle depth, and putting frames on a carrier; and what of a session an answer, an
event and a rest keep. -/

namespace Sys2Proof.Machine

/-! ### Choosing an idle depth leaves the protocol's state as it is (R736) -/

theorem foldl_acp {α : Type} {f : State → α → State} (hf : ∀ s x, (f s x).acp = s.acp) (l : List α) (s : State) :
    (l.foldl f s).acp = s.acp := by
  induction l generalizing s with
  | nil => rfl
  | cons x l ih => exact (ih (f s x)).trans (hf s x)

theorem ite_acp {P : Prop} [Decidable P] {s t u : State} (ht : t.acp = s.acp) (hu : u.acp = s.acp) :
    (if P then t else u).acp = s.acp := by
  split
  · exact ht
  · exact hu

theorem countLatency_acp (i age : Nat) (s : State) : (countLatency i age s).acp = s.acp := ite_acp rfl rfl

theorem respond_acp (p : NocPacket) (status : Nat) (s : State) : (respond p status s).acp = s.acp := ite_acp rfl rfl

theorem takePacket_acp (p : NocPacket) (s : State) : (takePacket p s).acp = s.acp := by
  have hlatency : (if p.opcode = 5 then countLatency p.initiator p.age s else s).acp = s.acp :=
    ite_acp (countLatency_acp ..) rfl
  exact ite_acp (ite_acp ((respond_acp ..).trans hlatency) hlatency) (ite_acp ((respond_acp ..).trans hlatency) hlatency)

theorem deliverHeld_acp (d : Nat) (s : State) : (deliverHeld d s).acp = s.acp :=
  foldl_acp (fun t p => takePacket_acp p t) _ _

theorem settleDomain_acp (d dom gate : Nat) (s : State) : (settleDomain d dom gate s).acp = s.acp := by
  unfold settleDomain
  cases s.host.noc.closing.find? (fun x => x.1 == d) <;> exact ite_acp (deliverHeld_acp ..) rfl

theorem setDomain_acp (d dom gate : Nat) (s : State) : (setDomain d dom gate s).acp = s.acp :=
  ite_acp rfl (settleDomain_acp ..)

theorem restDomain_acp (d dom gate : Nat) (s : State) : (restDomain d dom gate s).acp = s.acp :=
  ite_acp rfl (setDomain_acp ..)

theorem runPll_acp (p : Nat) (s : State) : (runPll p s).acp = s.acp := ite_acp rfl rfl

theorem startTraining_acp (p : Nat) (s : State) : (startTraining p s).acp = s.acp := ite_acp (ite_acp rfl rfl) rfl

theorem startRoots_acp (n : Nat) (s : State) : (startRoots n s).acp = s.acp := ite_acp rfl rfl

theorem setPll_acp (p v : Nat) (s : State) : (setPll p v s).acp = s.acp := rfl

theorem freqState_acp (s : State) : (freqState s).acp = s.acp := rfl

theorem endRamp_acp (s : State) : (endRamp s).acp = s.acp := rfl

theorem stopPlls_acp (s : State) : ((List.range 4).foldl (fun s p => if pllState s p = 4 then s else setPll p 5 s) s).acp = s.acp := by
  refine foldl_acp (fun t p => ?_) _ s
  exact ite_acp rfl rfl

theorem stopStepPlls_acp (s : State) : (stopStepPlls s).acp = s.acp := by
  simp only [stopStepPlls, apply_ite State.acp, freqState_acp, setO_acp, stopPlls_acp, endRamp_acp, ite_self]

theorem loseCompute_acp (s : State) : (loseCompute s).acp = s.acp := by
  simp only [loseCompute, apply_ite State.acp, mapLanes_acp, ite_self]

theorem loseTier_acp (s : State) : (loseTier s).acp = s.acp := rfl

theorem portsOff_acp (s : State) : ((List.range 8).foldl (fun s p => portOff p s) s).acp = s.acp := by
  refine foldl_acp (fun t p => ?_) _ s
  rfl

theorem quads_acp {f : State → Nat → State} (hf : ∀ s q, (f s q).acp = s.acp) (s : State) : ([3, 2, 1, 0].foldl f s).acp = s.acp :=
  foldl_acp hf _ s

theorem deepen_acp (d : Nat) (s : State) : (deepen d s).acp = s.acp := by
  unfold deepen
  split
  · simp only [apply_ite State.acp, setPll_acp, stopStepPlls_acp, restDomain_acp, portsOff_acp, ite_self]
  · rw [loseCompute_acp]
    exact quads_acp (fun t q => (restDomain_acp ..).trans (restDomain_acp ..)) s
  · rw [loseTier_acp]
    exact quads_acp (fun t q => restDomain_acp ..) s
  · have hstacks : ([3, 2, 1, 0].foldl (fun s q => restDomain (13 + q) 4 3 s) s).acp = s.acp :=
      quads_acp (fun t q => restDomain_acp ..) s
    simp only [setDomain_acp, apply_ite State.acp, setPll_acp, hstacks, ite_self]
  · rfl

theorem wakeStacks_acp (s : State) : ((List.range 4).foldl (fun s q => wakeDomain (13 + q) s) s).acp = s.acp :=
  foldl_acp (fun _ _ => restDomain_acp ..) _ s

theorem wakeQuads_acp (s : State) :
    ((List.range 4).foldl (fun s q => restDomain (5 + q) 2 0 (restDomain (9 + q) 2 0 s)) s).acp = s.acp :=
  foldl_acp (fun _ _ => (restDomain_acp ..).trans (restDomain_acp ..)) _ s

theorem runPlls_acp (n : Nat) (s : State) : ((List.range n).foldl (fun s p => runPll p s) s).acp = s.acp :=
  foldl_acp (fun t p => runPll_acp p t) _ s

theorem trainPorts_acp (s : State) : ((List.range 8).foldl (fun s p => startTraining p s) s).acp = s.acp :=
  foldl_acp (fun t p => startTraining_acp p t) _ s

theorem wakeDepth_acp (s : State) : (wakeDepth s).acp = s.acp := by
  simp only [wakeDepth, apply_ite State.acp, trainPorts_acp, startRoots_acp, wakeQuads_acp, runPlls_acp, restDomain_acp, runPll_acp,
    wakeStacks_acp, setDomain_acp, ite_self]

theorem takeDepth_acp (d : Nat) (s : State) : (takeDepth d s).acp = s.acp := by
  have hdeepen : ∀ (l : List Nat) (t : State), (l.foldl (fun s k => deepen k s) t).acp = t.acp :=
    fun l t => foldl_acp (fun t k => deepen_acp k t) l t
  simp only [takeDepth, apply_ite State.acp, hdeepen, wakeDepth_acp, ite_self]

@[simp] theorem chooseDepth_acp (s : State) : (chooseDepth s).acp = s.acp := ite_acp (takeDepth_acp ..) rfl

/-! ### Putting a frame on a carrier leaves it as it is too (R578, R602) -/

theorem collide_acp (p n : Nat) (late : Bool) (s : State) : (collide p n late s).2.acp = s.acp := by
  unfold collide
  split
  · rfl
  · dsimp only
    split
    · rfl
    · split <;> rfl

theorem transmit_acp (p most : Nat) (s : State) : (transmit p most s).2.acp = s.acp := by
  unfold transmit
  split
  · rfl
  · split
    · rfl
    · dsimp only
      split
      next t ht => exact (congrArg (fun x => x.2.acp) ht).symm.trans (collide_acp ..)
      next t ht => exact (congrArg (fun x => x.2.acp) ht).symm.trans (collide_acp ..)

theorem sendOn_acp (p : Nat) (e : Emission) (s : State) : (sendOn p e s).acp = s.acp := by
  unfold sendOn
  split
  next t ht => exact (congrArg (fun x => x.2.acp) ht).symm.trans (transmit_acp ..)
  next t ht => exact (congrArg (fun x => x.2.acp) ht).symm.trans (transmit_acp ..)

theorem replyRingPut_acp (l : List Octet) (s : State) : (replyRingPut l s).acp = s.acp := by
  unfold replyRingPut
  extract_lets h emitted host produced counted shown
  have hproduced : produced.acp = s.acp := rfl
  clear_value produced
  rw [signalVector_acp]
  exact ite_acp hproduced hproduced

theorem eventRingPut_acp (l : List Octet) (s : State) : (eventRingPut l s).acp = s.acp := by
  unfold eventRingPut
  extract_lets h emitted host produced counted shown
  have hproduced : produced.acp = s.acp := rfl
  clear_value produced
  rw [signalVector_acp]
  exact ite_acp hproduced hproduced

theorem carry_acp (x : Session) (f : Frame) (reply : Bool) (s : State) : (carry x f reply s).acp = s.acp := by
  unfold carry
  extract_lets via t oct parts
  have ht : t.acp = s.acp := rfl
  clear_value t
  rw [← ht]
  split
  · split
    · exact replyRingPut_acp ..
    · exact eventRingPut_acp ..
  · split
    · split
      next u hu => exact (congrArg (fun x => x.2.acp) hu).symm.trans (transmit_acp ..)
      next u hu => exact (congrArg (fun x => x.2.acp) hu).symm.trans (transmit_acp ..)
    · exact foldl_acp (fun t g => sendOn_acp ..) _ _

/-! ### What is counted against a session (R545) stays when an event is raised and when a request is answered -/

/-- The failed owner tokens of session n. -/
def tokenFailsOf (n : Nat) (s : State) : Option Nat := (s.sess n).map (fun x => x.tokenFails)

theorem tokenFailsOf_of_acp {s t : State} (h : t.acp = s.acp) (n : Nat) : tokenFailsOf n t = tokenFailsOf n s := by
  rw [tokenFailsOf, tokenFailsOf, State.sess, State.sess, h]

theorem tokenFailsOf_of_map {s t : State} {f : Session → Session} (hid : ∀ y, (f y).id = y.id)
    (hfails : ∀ y, (f y).tokenFails = y.tokenFails) (h : t.acp.sessions = s.acp.sessions.map f) (n : Nat) :
    tokenFailsOf n t = tokenFailsOf n s := by
  rw [tokenFailsOf, tokenFailsOf, State.sess, State.sess, h, List.find?_map]
  have hsame : (fun x : Session => x.id == n) ∘ f = fun x => x.id == n := funext fun y => by rw [Function.comp, hid]
  rw [hsame, Option.map_map]
  exact congrArg (fun g => Option.map g (s.acp.sessions.find? (fun x => x.id == n))) (funext hfails)

theorem tokenFailsOf_modSess (s : State) (m : Nat) {f : Session → Session} (hid : ∀ y, (f y).id = y.id)
    (hfails : ∀ y, (f y).tokenFails = y.tokenFails) (n : Nat) : tokenFailsOf n (s.modSess m f) = tokenFailsOf n s := by
  refine tokenFailsOf_of_map (f := fun x => if x.id = m then f x else x) (fun y => ?_) (fun y => ?_) rfl n
  · split
    · exact hid y
    · rfl
  · split
    · exact hfails y
    · rfl

theorem enqueue_id (r : EventRec) (x : Session) : (enqueue r x).id = x.id := by
  unfold enqueue
  split
  · split <;> rfl
  · rfl

theorem enqueue_tokenFails (r : EventRec) (x : Session) : (enqueue r x).tokenFails = x.tokenFails := by
  unfold enqueue
  split
  · split <;> rfl
  · rfl

theorem tokenFailsOf_drainQueue (m fuel : Nat) (s : State) (n : Nat) : tokenFailsOf n (drainQueue m fuel s) = tokenFailsOf n s := by
  induction fuel generalizing s with
  | zero => rfl
  | succ fuel ih =>
    unfold drainQueue
    split
    · rfl
    · split
      · rfl
      · split
        · refine (ih _).trans ((tokenFailsOf_modSess _ m ?_ ?_ n).trans (tokenFailsOf_of_acp (carry_acp ..) n))
          · exact fun _ => rfl
          · exact fun _ => rfl
        · rfl

theorem tokenFailsOf_foldl {α : Type} {n : Nat} {f : State → α → State} (hf : ∀ s x, tokenFailsOf n (f s x) = tokenFailsOf n s)
    (l : List α) (s : State) : tokenFailsOf n (l.foldl f s) = tokenFailsOf n s := by
  induction l generalizing s with
  | nil => rfl
  | cons x l ih => exact (ih (f s x)).trans (hf s x)

theorem tokenFailsOf_raise (code : Nat) (l : List Octet) (s : State) (n : Nat) :
    tokenFailsOf n (raise code l s) = tokenFailsOf n s := by
  have hdrain : ∀ t, tokenFailsOf n (drainQueues t) = tokenFailsOf n t :=
    fun t => tokenFailsOf_foldl (fun t x => tokenFailsOf_drainQueue ..) _ t
  unfold raise
  extract_lets r acp logged sent
  have hsent : tokenFailsOf n sent = tokenFailsOf n s :=
    (hdrain _).trans (tokenFailsOf_of_map (f := enqueue r) (enqueue_id r) (enqueue_tokenFails r) rfl n)
  clear_value sent
  split
  · exact (tokenFailsOf_of_acp (signalVector_acp ..) n).trans hsent
  · exact hsent

theorem tokenFailsOf_answer (r : Req) (op idx sub : Nat) (as_ : List Answer) (s : State) (n : Nat) :
    tokenFailsOf n (answer r op idx sub as_ s) = tokenFailsOf n s := by
  unfold answer
  split
  · rfl
  · refine (tokenFailsOf_modSess _ r.session ?_ ?_ n).trans (tokenFailsOf_of_acp (foldl_acp (fun t f => carry_acp ..) _ s) n)
    · exact fun _ => rfl
    · exact fun _ => rfl

theorem tokenFailsOf_replied (r : Req) (op idx sub : Nat) (st : Status) (s : State) (n : Nat) :
    tokenFailsOf n (replied r op idx sub st s) = tokenFailsOf n s :=
  (tokenFailsOf_of_acp (chooseDepth_acp _) n).trans (tokenFailsOf_answer ..)

end Sys2Proof.Machine
end

section
/-! SUPPORT. Tamper, credentials, updates of the boot stream and the owner token (chapters 8 and 9), and the boot. -/

namespace Sys2Proof.Machine

/-! ### Tamper and credentials (R513, R572-R574) -/

/-- What a detector that fires destroys. -/
def tampered (d : Nat) (s : State) : State :=
  let t := putVbat none 2 s
  let t := { t with keys := { t.keys with creds := [none, none, none, none], tamper := putBit s.keys.tamper d true } }
  t.setO 0x6050 1 (putBit (s.o 0x6050 1) d true)

theorem exec_tamperZeroised {d : Nat} {s : State} (hd : d < 4) (hon : bitOf (s.o 0x6050 3) d = true)
    (hvin : d = 0 → s.pwr.vinGood = false) : exec (.tamperZeroised d) s = .next
      (let t := if d = 0 then (tampered d s).setO 0x2200 6 0 else tampered d s
       if awakeMode s then keysChanged s 0 t else t) := by
  refine congrArg Host.Outcome.next (if_neg ?_)
  simp only [Bool.or_eq_true, Bool.and_eq_true, decide_eq_true_eq, beq_iff_eq, hon, Bool.not_true, Bool.false_eq_true, or_false]
  rintro (hhigh | ⟨hzero, hgood⟩)
  · exact not_le.2 hd hhigh
  · rw [hvin hzero] at hgood
    exact Bool.false_ne_true hgood

/-! ### Updates (R522) -/

theorem updateRefusal_none {s : State} (hserv : inService s = true) (herased : s.o 0x6030 5 = 2) : updateRefusal s = none := by
  rw [updateRefusal, hserv, herased]
  rfl

theorem updLength_done (r : Req) (v : WVal) : WriteDone (.updLengthWrite r v) r 0x6030 3 v
    (fun _ s => inService s = true ∧ s.o 0x6030 5 ≠ 1)
    (fun _ s =>
      let t := writeDirectory (idleSlot s) {} s
      let t := { t with boot := { t.boot with flash := t.boot.flash.set (idleSlot s) [] } }
      ((t.setO 0x6030 3 (natBE v.data)).setO 0x6030 5 1).setO 0x6030 6 0) :=
  writeDone_of_handler (fun _ => rfl) fun _ _ ⟨hserv, hfree⟩ =>
    (if_neg (by rw [hserv]; exact Bool.false_ne_true)).trans (if_neg hfree)

/-- What an update takes while it is in SERVICE and its slot is erased. -/
def updPut (d : List Octet) : WriteFn := fun _ s =>
  match updateRefusal s with
  | some st => (st, s)
  | none => (.ok, slotWrite (idleSlot s) (s.o 0x6030 1) d s)

theorem updPut_ok {s : State} (hserv : inService s = true) (herased : s.o 0x6030 5 = 2) (d : List Octet) (n : Nat) :
    updPut d n s = (.ok, slotWrite (idleSlot s) (s.o 0x6030 1) d s) := by
  rw [updPut, updateRefusal_none hserv herased]

theorem updData_done (r : Req) : FormDone (.updDataWrite r) r 0x6030 2 2 (blockTooLong 0x6030 2 slotSize)
    (fun _ _ _ s => inService s = true ∧ s.o 0x6030 5 = 2) (fun _ d _ s => slotWrite (idleSlot s) (s.o 0x6030 1) d s) :=
  formDone_of (one := updPut) (many := updPut) (fun _ _ => rfl) (fun d x _ ⟨hserv, herased⟩ => updPut_ok hserv herased d x.id)
    (fun d x _ ⟨hserv, herased⟩ => updPut_ok hserv herased d x.id)

/-! ### The owner token (R545) -/

/-- The right token is answered OK and opens the readback; the session closes when it has failed eight times before. -/
theorem exec_ownerToken_right {r : Req} {v : WVal} {x : Session} {s : State} (hreach : Reaches r x s)
    (hcheck : checkWrite s x 0x6400 1 v false = none) (hfull : s.img.full = true)
    (htag : (Config.hmacSha256 (octetsBE 32 (kImg (accepted r x s)).toNat) v.data).toNat >>> 128 = s.img.ownerTag) :
    exec (.ownerToken r v) s = .next
      (let t := replied r 6 0x6400 1 .ok
        (raise 0x6401 (pU32 x.id) ((accepted r x s).modSess x.id (fun y => { y with token := true })))
       if 8 ≤ x.tokenFails then closeSession r.session 2 t else t) := by
  have hright : ((accepted r x s).img.full &&
      (Config.hmacSha256 (octetsBE 32 (kImg (accepted r x s)).toNat) v.data).toNat >>> 128 == (accepted r x s).img.ownerTag) = true := by
    rw [htag]
    exact Bool.and_eq_true_iff.2 ⟨hfull, beq_self_eq_true _⟩
  refine congrArg Host.Outcome.next ?_
  rw [serveWrite_eq hreach hcheck (if_pos hright)]
  dsimp only
  have hfails : tokenFailsOf r.session (replied r 6 0x6400 1 .ok
      (raise 0x6401 (pU32 x.id) ((accepted r x s).modSess x.id (fun y => { y with token := true })))) = some x.tokenFails := by
    rw [tokenFailsOf_replied, tokenFailsOf_raise]
    refine (tokenFailsOf_modSess _ x.id ?_ ?_ _).trans ((tokenFailsOf_modSess s x.id ?_ ?_ _).trans ?_)
    · exact fun _ => rfl
    · exact fun _ => rfl
    · exact fun _ => rfl
    · exact fun _ => rfl
    · rw [tokenFailsOf, (Reaches_session hreach).1]
      rfl
  obtain ⟨y, hy, hyfails⟩ := Option.map_eq_some_iff.1 hfails
  rw [hy, ← hyfails]

/-- Settles O41, row by row. -/
theorem updateAndCredentialRowsComplete : Obligations.UpdateAndCredentialRowsComplete := by
  refine ⟨fun d s hd hon hvin hasleep => (exec_tamperZeroised hd hon hvin).trans ?_,
    fun d s hd hpos hon hawake => (exec_tamperZeroised hd hon (fun h => absurd h hpos.ne')).trans ?_,
    fun r st => writeAnswered_of_handler (fun _ => rfl) fun x t ⟨hserv, hst⟩ => ?_,
    fun r => writeDone_of_handler (fun _ => rfl) fun _ _ hserv => if_pos hserv, updLength_done,
    fun _ herase => congrArg _ (if_pos herase), updData_done,
    fun r st => writeAnswered_of_handler (fun _ => rfl) fun x t ⟨hserv, herased, hst⟩ => ?_,
    fun r => writeDone_of_handler (fun _ => rfl) fun _ _ hserv => if_pos hserv, fun _ _ _ _ => exec_ownerToken_right⟩
  · rw [hasleep]
    rfl
  · rw [hawake, if_neg hpos.ne']
    rfl
  · subst hst
    refine (if_pos hserv).trans ?_
    cases hk : unwrapKey t x.id t.keys.credWrapped <;> simp only [hk]
  · rw [hst]
    simp only [updateRefusal_none hserv herased]
    cases hk : checkUpdate t <;> simp only [hk]

end Sys2Proof.Machine
end

section
/-! SUPPORT. The boot (chapter 8) and the sessions (chapter 9). -/

namespace Sys2Proof.Machine

/-! ### The boot (R517, R520, R521) -/

theorem exec_doneRise {s : State} (hboot : s.pwr.mode = 2) (hwaits : s.o 0x6000 1 = 4) :
    exec .doneRise s = .next (bootComplete (s.setO 0x6020 2 1)) := by
  have hstill : (s.setO 0x6020 2 1).o 0x6000 1 = 4 := (setO_o_other s (okey_idx_ne (by decide) (by decide) (by decide))).trans hwaits
  refine congrArg Host.Outcome.next ((if_neg (by omega)).trans (if_pos ?_))
  exact Bool.and_eq_true_iff.2 ⟨decide_eq_true hboot, decide_eq_true hstill⟩

theorem exec_doneTimeout {s : State} (hboot : s.pwr.mode = 2) (hwaits : s.o 0x6000 1 = 4) (honce : s.boot.doneTimedOut = false) :
    exec .doneTimeout s = .next (raise 0x6021 (pU32 (s.o 0x6020 1)) (modBoot (fun y => { y with doneTimedOut := true }) s)) :=
  congrArg Host.Outcome.next (if_pos (by simp [hboot, hwaits, honce]))

/-- Settles O42: the boot follows what `trySlots` found. -/
theorem bootRowsComplete : Obligations.BootRowsComplete := by
  refine ⟨fun fs ms s t u found bad why hmode hfresh ht htry hwhy => ?_, fun _ => exec_doneRise, fun _ => exec_doneTimeout⟩
  obtain rfl : why = fun i => ((bad.find? (fun y => y.1 == i)).map (fun y => y.2)).getD 1 := funext hwhy
  rw [ht] at htry
  refine congrArg Host.Outcome.next ((if_neg (by simp [hmode, hfresh])).trans ?_)
  dsimp only
  rw [htry]
  cases found <;> rfl

/-! ### Opening and closing (R571, R576, R577, R585) -/

/-- A frame is judged when its carrier takes it. -/
theorem not_frameRefused {s : State} {carrier : Nat} (h : frameTaken s carrier = true) : ¬ (!(frameTaken s carrier)) = true := by
  rw [h]
  exact Bool.false_ne_true

theorem openAwake_ok {carrier src port mac level : Nat} {nonce mine : BitVec 128} {t u : State}
    (hok : openStatus t carrier level = .ok) (hnonce : t.takeNonce = (mine, u)) : openAwake carrier src port mac level nonce t =
      (let x : Session := { id := u.acp.nextId, level, carrier, src, srcPort := port, mac, clientNonce := nonce, moduleNonce := mine,
                            since := u.now }
       let l := u.acp.sessions ++ [x]
       challenge { carrier, mac, vid := t.o 0x7A00 5, dst := src, dstPort := port } u.acp.nextId .ok mine
         { u with acp := { u.acp with nextId := u.acp.nextId + 1, sessions := l } }) := by
  unfold openAwake
  dsimp only
  rw [hnonce, hok]
  rfl

/-- A PROVE in a reserved session of the frame's carrier is judged by its proof and its tag. -/
theorem proveAwake_of_reserved {r : Req} {proof : BitVec 256} {t : State} {x : Session} (hx : t.sess r.session = some x)
    (hcarrier : x.carrier = r.carrier) (hreserved : x.isOpen = false) : proveAwake r proof t =
      if r.seq = 1 ∧ r.tag = proveTag t x proof ∧ proof = proofOf t x "CH9 prove" then proveAccepted r x t else proveFailed r x t := by
  unfold proveAwake
  rw [hx]
  refine (if_neg (by simp [hcarrier])).trans ((if_neg (by rw [hreserved]; exact Bool.false_ne_true)).trans ?_)
  exact ite_eq_ite (by simp [and_assoc]) rfl rfl

theorem exec_prove {r : Req} {proof : BitVec 256} {s : State} (htaken : frameTaken s r.carrier = true) :
    exec (.prove r proof) s = .next (chooseDepth (proveAwake r proof (wakeDepth s))) :=
  congrArg Host.Outcome.next (if_neg (not_frameRefused htaken))

/-! ### Negotiation, subscription, closing (R585, R587, R596) -/

theorem exec_negotiate_ok {r : Req} {q : BitVec 128} {x : Session} {s : State} (hreach : Reaches r x s)
    (hfirst : x.negotiated = false) (hbit : q.getLsbD 0 = true) : exec (.negotiate r q) s = .next (chooseDepth (answer r 4 0 0
      [{ status := .ok, body := octetsLE 16 0xFFFF ++ octetsLE 16 (q.toNat &&& 0xFFFF) }]
      ((accepted r x s).modSess x.id (fun y => { y with negotiated := true, requested := q.toNat, agreed := q.toNat &&& 0xFFFF })))) := by
  have hadmit : ¬ (x.negotiated || !(q.getLsbD 0)) = true := by rw [hfirst, hbit]; exact Bool.false_ne_true
  exact congrArg Host.Outcome.next (serve_eq hreach _ _ _ _ _ _ _ (if_neg hadmit))

theorem exec_subscribe_ok {r : Req} {body : List Octet} {x : Session} {s : State} (hreach : Reaches r x s)
    (hneg : x.negotiated = true) (hevents : bitOf x.agreed 2 = true) (hwords : body.length % 4 = 0) (hlength : body.length ≤ 64) :
    exec (.subscribe r body) s = .next (replied r 9 0 0 .ok
      ((accepted r x s).modSess x.id (fun y =>
        let y := { y with filters := bodyFilters body }
        { y with queue := y.queue.filter (fun e => wants y e.code) }))) := by
  have hagreed : ¬ (!x.negotiated || !(bitOf x.agreed 2)) = true := by simp [hneg, hevents]
  have hbody : ¬ (body.length % 4 != 0 || decide (64 < body.length)) = true := by simp [hwords, hlength]
  exact congrArg Host.Outcome.next (serve_eq hreach _ _ _ _ _ _ _ ((if_neg hagreed).trans (if_neg hbody)))

theorem accepts_of_reaches {r : Req} {x : Session} {s : State} (h : Reaches r x s) : accepts s r = true := by
  unfold accepts
  rw [h.session]
  simp [frameTaken, h.awake, h.carrier, h.fresh, h.room]

theorem exec_close {r : Req} {x : Session} {s : State} (hreach : Reaches r x s) :
    exec (.close r) s = .next (chooseDepth (closeSession r.session 0 (replied r 0x0B 0 0 .ok (accepted r x s)))) := by
  refine congrArg Host.Outcome.next ((if_pos (accepts_of_reaches hreach)).trans ?_)
  exact congrArg (fun t => chooseDepth (closeSession r.session 0 t)) (serve_eq hreach _ _ _ _ _ _ _ rfl)

theorem exec_sessionIdleTimeout {n : Nat} {x : Session} {s : State} (hx : s.sess n = some x) (hopen : x.isOpen = true) :
    exec (.sessionIdleTimeout n) s = .next (chooseDepth (closeSession n 1 s)) := by
  refine congrArg Host.Outcome.next ?_
  rw [hx]
  exact if_pos hopen

theorem exec_serviceTimeout {n q : Nat} {x : Session} {s : State} (hx : s.sess n = some x)
    (hwaits : x.waiting.any (fun w => w.seq == q) = true) :
    exec (.serviceTimeout n q) s = .next (answerWaiting n q .timeout (undoWaiting n q s)) := by
  refine congrArg Host.Outcome.next ?_
  rw [hx]
  exact if_pos hwaits

/-- Settles O43, row by row. -/
theorem sessionRowsComplete : Obligations.SessionRowsComplete := by
  refine ⟨fun carrier src port mac level nonce s t u mine htaken hfree ht hok hnonce => ?_,
    fun r proof s t x htaken ht hx hcarrier hreserved hseq htag hproof => ?_,
    fun r proof s t x htaken ht hx hcarrier hreserved hwrong => ?_, fun _ _ => rfl,
    fun carrier src s l hl => by subst hl; rfl, fun _ _ _ _ => exec_negotiate_ok, fun _ _ _ _ => exec_subscribe_ok,
    fun _ _ _ => exec_close, fun _ _ _ htaken => congrArg _ (if_pos htaken), fun _ _ _ => exec_sessionIdleTimeout,
    fun _ _ _ _ => exec_serviceTimeout⟩
  · subst ht
    refine congrArg Host.Outcome.next ((if_neg (by simp [htaken, hfree])).trans (congrArg chooseDepth ?_))
    exact openAwake_ok hok hnonce
  · subst ht
    rw [exec_prove htaken, proveAwake_of_reserved hx hcarrier hreserved, if_pos ⟨hseq, htag, hproof⟩]
  · subst ht
    rw [exec_prove htaken, proveAwake_of_reserved hx hcarrier hreserved, if_neg hwrong]

end Sys2Proof.Machine
end

section
/-! SUPPORT. READ, READ_BLOCK, WRITE and WRITE_BLOCK (chapter 9). -/

namespace Sys2Proof.Machine

/-! ### Checks that an object fails before any other (R15) -/

theorem checkCommon_of_absent {x : Session} {idx sub : Nat} (hneg : x.negotiated = true) (habsent : findObj idx sub = none)
    (s : State) (wr : Bool) : checkCommon s x idx sub wr = .error .badIndex := by
  rw [checkCommon, hneg, habsent]
  rfl

theorem checkCommon_of_not_agreed {x : Session} {idx sub : Nat} (hneg : x.negotiated = true) (hobj : findObj idx sub ≠ none)
    (hfeature : bitOf x.agreed (featureOf idx sub) = false) (s : State) (wr : Bool) :
    checkCommon s x idx sub wr = .error .notAgreed := by
  obtain ⟨d, hd⟩ := Option.ne_none_iff_exists'.1 hobj
  rw [checkCommon, hneg, hd, hfeature]
  rfl

/-- A READ that fails a check of Table 9-4 is answered with its status and changes nothing. -/
theorem exec_read_refused {r : Req} {idx sub ty : Nat} {x : Session} {s : State} {st : Status} (hreach : Reaches r x s)
    (hbad : checkCommon (accepted r x s) x idx sub false = .error st) (hst : st.done = false) :
    exec (.read r idx sub ty) s = .next (chooseDepth (answer r 5 idx sub [{ status := st, ty }] (accepted r x s))) := by
  refine congrArg Host.Outcome.next (serve_eq hreach _ _ _ _ _ _ _ ?_)
  have hread : readObject x idx sub ty (accepted r x s) = ({ status := st }, accepted r x s) := by rw [readObject, hbad]
  dsimp only
  rw [hread]
  simp only [hst, Bool.false_eq_true, if_false]

/-- A WRITE without a row of its own that fails such a check is refused with its status. -/
theorem exec_write_refused {r : Req} {idx sub : Nat} {v : WVal} {x : Session} {s : State} {st : Status} (hreach : Reaches r x s)
    (hrow : rowOf r idx sub v = none) (hbad : checkCommon (accepted r x s) x idx sub true = .error st) :
    exec (.write r idx sub v) s = .next (replied r 6 idx sub st (accepted r x s)) := by
  have hcheck : ∀ long, checkWrite (accepted r x s) x idx sub v long = some st := fun long => by rw [checkWrite, hbad]
  change execWrite r idx sub v s = _
  rw [execWrite, hrow]
  refine congrArg Host.Outcome.next (serve_eq hreach _ _ _ _ _ _ _ ?_)
  rw [hcheck]

/-- Settles O47: such an object fails the first or the second check of Table 9-4. -/
theorem absentObjectsAreRefused : Obligations.AbsentObjectsAreRefused := fun _ _ _ _ _ _ _ hreach hneg hrow =>
  ⟨fun habsent => ⟨exec_read_refused hreach (checkCommon_of_absent hneg habsent _ _) rfl,
      exec_write_refused hreach hrow (checkCommon_of_absent hneg habsent _ _)⟩,
    fun hobj hfeature => ⟨exec_read_refused hreach (checkCommon_of_not_agreed hneg hobj hfeature _ _) rfl,
      exec_write_refused hreach hrow (checkCommon_of_not_agreed hneg hobj hfeature _ _)⟩⟩

/-! ### Reads (R589-R594) -/

theorem readObject_ok {x : Session} {idx sub ty : Nat} {s t : State} {d : ObjDesc} {l : List Octet}
    (hcheck : checkCommon s x idx sub false = .ok d) (hty : ty = 0 ∨ ty = d.ty.code) (hsize : tooLong x ((d.ty.size).getD 0) = false)
    (hstart : startsPastEnd s x.id idx sub = false) (hdomain : domainBlocked s x.id idx sub = false)
    (hread : readOctets d x idx sub s = (.ok l, t)) (hlength : tooLong x l.length = false) :
    readObject x idx sub ty s = ({ status := .ok, ty := d.ty.code, body := l }, t) := by
  have htype : ¬ (ty != 0 && ty != d.ty.code) = true := by
    rcases hty with h | h <;> simp [h]
  rw [readObject, hcheck]
  dsimp only
  rw [if_neg htype, hsize, hstart, hdomain, hread]
  dsimp only
  rw [hlength]
  rfl

/-- The answer of an operation comes later when it waits as u says, and is sent at once otherwise. -/
def laterOr (r : Req) (op idx sub : Nat) (w : Option State) (as_ : List Answer) (t : State) : State :=
  chooseDepth (w.elim (answer r op idx sub as_ t) fun u => u.modSess (r.session) (fun y => { y with
    waiting := y.waiting ++ [{ seq := r.seq, tag := r.tag, op, idx, sub }] }))

theorem serve_laterOr {r : Req} {x : Session} {s t : State} (hreach : Reaches r x s) (op idx sub : Nat)
    {act : Session → State → List Answer × State} {as_ : List Answer} {w : Option State} (has : as_ ≠ [])
    (hact : act x (accepted r x s) = w.elim (as_, t) fun u => ([], u)) :
    serve r op idx sub act s = laterOr r op idx sub w as_ t := by
  cases w with
  | none =>
    obtain ⟨a, l, rfl⟩ := List.exists_cons_of_ne_nil has
    exact serve_eq hreach _ _ _ _ _ _ _ hact
  | some u => exact (serve_later hreach _ _ _ _ _ hact).trans (by rw [Reaches_id hreach]; rfl)

theorem exec_read_ok {r : Req} {idx sub ty : Nat} {x : Session} {s t : State} {d : ObjDesc} {l : List Octet} (hreach : Reaches r x s)
    (hread : readObject x idx sub ty (accepted r x s) = ({ status := .ok, ty := d.ty.code, body := l }, t)) :
    exec (.read r idx sub ty) s = .next (laterOr r 5 idx sub
      (waitingRead r idx sub (wordStart (accepted r x s) x.id idx) (l.length / 8) d.ty.code (max 8 l.length) none (accepted r x s))
      [{ status := .ok, ty := d.ty.code, body := l }] t) := by
  refine congrArg Host.Outcome.next (serve_laterOr hreach 5 idx sub (List.cons_ne_nil _ _) ?_)
  dsimp only
  rw [hread]
  simp only [show Status.ok.done = true from rfl, if_true]
  cases waitingRead r idx sub (wordStart (accepted r x s) x.id idx) (l.length / 8) d.ty.code (max 8 l.length) none
    (accepted r x s) <;> rfl

theorem exec_readBlock_ok {r : Req} {idx sub start total sel el chunk m : Nat} {x : Session} {s t : State} {d : ObjDesc}
    {as_ : List Answer} (hreach : Reaches r x s) (hneg : x.negotiated = true) (hblocks : bitOf x.agreed 1 = true)
    (hinfo : blockInfo idx sub = some (sel, el, chunk, m)) (hcheck : checkCommon (accepted r x s) x idx sub false = .ok d)
    (hpos : 0 < total) (hmax : total ≤ 65536) (hwhole : total % el = 0)
    (hend : start + total / el ≤ blockElements (accepted r x s) x.id idx sub) (hel : el ≤ bodyLimit x)
    (hdomain : domainBlocked (accepted r x s) x.id idx sub = false) (has : as_ ≠ [])
    (hread : readChunks x idx sub sel el chunk (total / el) start (total / el) 0 (setStart x.id idx sel start (accepted r x s)) = (as_, t)) :
    exec (.readBlock r idx sub start total) s = .next (laterOr r 7 idx sub
      (if as_.all (fun a => a.status.done) then waitingRead r idx sub start (total / el) 11
        (max 8 (el * (min chunk (bodyLimit x) / el))) (some (idx, sel, start, selOf (accepted r x s) x.id idx sel))
        (setStart x.id idx sel start (accepted r x s)) else none) as_ t) := by
  have hagreed : ¬ (!x.negotiated || !(bitOf x.agreed 1)) = true := by simp [hneg, hblocks]
  have hlength : ¬ (decide (total = 0) || decide (65536 < total) || total % el != 0 ||
      decide (blockElements (accepted r x s) x.id idx sub < start + total / el) || decide (bodyLimit x < el)) = true := by
    simp [hpos.ne', hmax, hwhole, hend, hel]
  refine congrArg Host.Outcome.next (serve_laterOr hreach 7 idx sub has ?_)
  dsimp only
  rw [if_neg hagreed, hinfo, hcheck]
  dsimp only
  rw [if_neg hlength, hdomain, if_neg Bool.false_ne_true, hread]
  dsimp only
  generalize (if as_.all (fun a => a.status.done) then _ else _ : Option State) = w
  cases w <;> rfl

/-! ### Writes -/

theorem objectWrite_ok {idx sub n : Nat} {v : WVal} {s : State} {d : ObjDesc} (hobj : findObj idx sub = some d)
    (hserial : ¬ (0x6C00 ≤ idx ∧ idx < 0x6C08)) (hmode : okey idx sub ≠ 0x200002) (hslot : okey idx sub ≠ 0x830001)
    (hfit : writeRefusal s n idx sub (decodeVal d.ty v.data) = none) :
    objectWrite idx sub v n s = (.ok, writeEffect n idx sub (decodeVal d.ty v.data) v.data s) := by
  unfold objectWrite
  dsimp only
  rw [if_neg (by simp only [Bool.and_eq_true, decide_eq_true_eq]; tauto), if_neg hmode, if_neg hslot, hobj, hfit]

theorem exec_write_ok {r : Req} {idx sub : Nat} {v : WVal} {x : Session} {s : State} {d : ObjDesc} (hreach : Reaches r x s)
    (hrow : rowOf r idx sub v = none) (hobj : findObj idx sub = some d) (hserial : ¬ (0x6C00 ≤ idx ∧ idx < 0x6C08))
    (hmode : okey idx sub ≠ 0x200002) (hslot : okey idx sub ≠ 0x830001) (hcheck : checkWrite s x idx sub v false = none)
    (hfit : writeRefusal (accepted r x s) x.id idx sub (decodeVal d.ty v.data) = none) :
    exec (.write r idx sub v) s =
      .next (replied r 6 idx sub .ok (writeEffect x.id idx sub (decodeVal d.ty v.data) v.data (accepted r x s))) := by
  rw [exec_write_of_rowOf_none hrow hserial, serveWrite_eq hreach hcheck (objectWrite_ok hobj hserial hmode hslot hfit)]

/-- A WRITE_BLOCK of bank words is the row of bank words. -/
theorem exec_writeBlock_bank (r : Req) (start : Nat) (data : List Octet) (s : State) :
    exec (.writeBlock r 0x4200 5 start data) s = exec (.dmWordWrite r (.block start data)) s := rfl

theorem blockInfo_bank : ∃ n m, blockInfo 0x4200 5 = some (3, 8, n, m) := ⟨_, _, rfl⟩

/-- Settles O44: the two reads by what has to wait, the two writes through their rows. -/
theorem objectAccessCompletes : Obligations.ObjectAccessCompletes := by
  refine ⟨fun r idx sub ty x s t d l hreach hcheck hty hsize hstart hdomain hread hlength => ?_,
    fun r idx sub start total sel el chunk m x s t d as_ hreach hneg hblocks hinfo hcheck hpos hmax hwhole hend hel hdomain has hread => ?_,
    fun r idx sub n v x s d hreach hrow hobj hn hserial hmode hslot hcheck hfit => ?_,
    fun r start tile data x s t hreach hneg hblocks ht hcheck htile hroom => ?_⟩
  · rw [exec_read_ok hreach (readObject_ok hcheck hty hsize hstart hdomain hread hlength), laterOr, ← Reaches_id hreach]
    cases waitingRead r idx sub (wordStart (accepted r x s) x.id idx) (l.length / 8) d.ty.code (max 8 l.length) none
      (accepted r x s) <;> rfl
  · rw [exec_readBlock_ok hreach hneg hblocks hinfo hcheck hpos hmax hwhole hend hel hdomain has hread, laterOr, ← Reaches_id hreach]
    generalize (if as_.all (fun a => a.status.done) then _ else _ : Option State) = w
    cases w <;> rfl
  · subst hn
    exact exec_write_ok hreach hrow hobj hserial hmode hslot hcheck hfit
  · obtain ⟨n, m, hinfo⟩ := blockInfo_bank
    rw [exec_writeBlock_bank]
    exact (memoryContentsWritesComplete.1 r tile).block start data x s 3 8 n m t hreach hneg hblocks hinfo ht hcheck ⟨htile, hroom⟩

/-! ### A frame that names a command is that command -/

theorem exec_write_of_row {r : Req} {idx sub : Nat} {v : WVal} {f : State → Host.Outcome State Fault Refusal}
    (h : rowOf r idx sub v = some f) (s : State) : exec (.write r idx sub v) s = f s := by
  change execWrite r idx sub v s = _
  rw [execWrite, h]

theorem exec_writeBlock_of_row {r : Req} {idx sub start : Nat} {data : List Octet} {f : State → Host.Outcome State Fault Refusal}
    (h : blockRow r idx sub start data = some f) (s : State) : exec (.writeBlock r idx sub start data) s = f s := by
  change execWriteBlock r idx sub start data s = _
  rw [execWriteBlock, h]

/-- Settles O45: row by row of the two tables. -/
theorem writeOfACommandCodeIsTheCommand : Obligations.WriteOfACommandCodeIsTheCommand := by
  refine ⟨fun r s idx sub n c hc => ?_, fun r s idx sub start data c hc => ?_⟩
  · fin_cases hc <;> exact exec_write_of_row rfl s
  · fin_cases hc <;> exact exec_writeBlock_of_row rfl s

end Sys2Proof.Machine
end

section
/-! SUPPORT. The host link and the packet network (chapter 10). -/

namespace Sys2Proof.Machine

/-! ### Accesses to BAR0 and BAR2 (R606-R622) -/

theorem exec_bar2Read {s : State} (hon : endpointOn s = true) (hpower : s.host.d3hot = false) (off n : Nat) :
    exec (.bar2Read off n) s = .next (chooseDepth (bar2Read off n (wakeDepth s))) :=
  congrArg Host.Outcome.next ((if_neg (by simp [hpower])).trans (hostAccess_of_endpointOn hon hpower _))

theorem apPut_ok {n v : Nat} {base : Bool} (hok : apertureOk base (if base then v % 2 ^ 64 else v % 256) = true) (s : State) :
    apPut n base v s = s.setO 0x7100 (if base then 5 + n else 1 + n) (if base then v % 2 ^ 64 else v % 256) := if_pos hok

theorem slotSubmit_ok {slot len : Nat} {s : State} (hfree : s.host.slotLen.getD slot 0 = 0) (hmin : 48 ≤ len) (hmax : len ≤ 6208) :
    slotSubmit slot len s = takeSlots { s with host := { s.host with slotLen := s.host.slotLen.set slot len } } :=
  (if_neg (by simpa using hfree)).trans (if_neg (by simp [hmin, hmax]))

/-- A write of a register that is neither of 4 nor of 8 aligned octets is ignored. -/
theorem barWrite_of_misaligned {off size : Nat} (v : Nat) (s : State) (hreg : 0x8000 ≤ off)
    (hbad : ¬ (size = 4 ∧ off % 4 = 0 ∨ size = 8 ∧ off % 8 = 0)) : barWrite off size v s = s := by
  obtain ⟨hfour, height⟩ := not_or.1 hbad
  exact (if_neg (not_lt.2 hreg)).trans ((if_neg (by simpa using hfour)).trans (if_neg (by simpa using height)))

/-- An aligned write of 4 octets of no register of 8 is a write of its register. -/
theorem barWrite_of_word {off : Nat} (v : Nat) (s : State) (hreg : 0x8000 ≤ off) (halign : off % 4 = 0)
    (hnarrow : wideReg (off / 8 * 8) = false) : barWrite off 4 v s = barReg off (v % 2 ^ 32) s := by
  refine (if_neg (not_lt.2 hreg)).trans ((if_pos (by simp [halign])).trans (if_pos ?_))
  rw [hnarrow]
  rfl

/-- A write within the request slots stores its octets. -/
theorem barWrite_of_slots {off size : Nat} (v : Nat) (s : State) (hend : off + size ≤ 0x8000) (hpos : 0 < size) :
    barWrite off size v s = { s with host := { s.host with
      slots := (List.range size).foldl (fun m i => Sparse.set (fun _ => 0) m (off + i) (BitVec.ofNat 8 (v / 2 ^ (8 * i))))
        s.host.slots } } := by
  have hinside : (List.range size).foldl (fun m i =>
        if off + i < 0x8000 then Sparse.set (fun _ => 0) m (off + i) (BitVec.ofNat 8 (v / 2 ^ (8 * i))) else m) s.host.slots =
      (List.range size).foldl (fun m i => Sparse.set (fun _ => 0) m (off + i) (BitVec.ofNat 8 (v / 2 ^ (8 * i)))) s.host.slots := by
    refine List.foldl_ext _ _ _ fun m i hi => if_pos ?_
    have := List.mem_range.1 hi
    omega
  rw [barWrite, if_pos (by omega), hinside]

/-- An engine that is not gated takes a write of its registers. -/
theorem enginePut_of_not_gated {e off v : Nat} {s : State} (hgate : dmaGated s e = false) :
    enginePut e off v s = modEng e (engineReg off v) s := if_neg (by simp [hgate])

/-- The consumer count of an engine is only the host's. -/
theorem consumerPut_engine (e v : Nat) (s : State) :
    consumerPut (2 + e) v s = modEng e (fun g => dmaGo { g with compCons := v % 2 ^ 32 }) s := by
  have he : 2 + e - 2 = e := by omega
  rw [Nat.add_comm]
  exact if_neg (by simp)

/-- Settles O48, access by access. -/
theorem hostAccessesComplete : Obligations.HostAccessesComplete := by
  intro s hon hpower
  have haccess : ∀ f : State → State, hostAccess f s = chooseDepth (f (wakeDepth s)) := hostAccess_of_endpointOn hon hpower
  have hunit : ∀ {n count : Nat} (f : State → State), n < count →
      onUnit n count (hostAccess f s) = .next (chooseDepth (f (wakeDepth s))) :=
    fun f h => (onUnit_of_lt h _).trans (congrArg _ (haccess f))
  have hput : ∀ {e off v : Nat}, dmaGated (wakeDepth s) e = false →
      chooseDepth (enginePut e off v (wakeDepth s)) = chooseDepth (modEng e (engineReg off v) (wakeDepth s)) :=
    fun h => congrArg _ (enginePut_of_not_gated h)
  refine ⟨exec_bar2Read hon hpower, fun off d => congrArg _ (haccess _), fun n base v hn hok => ?_,
    fun slot len hslot hfree hmin hmax => ?_, fun off size v => congrArg _ (haccess _), fun off size v hreg hbad => ?_,
    fun off v hreg halign hnarrow => ?_, fun off size v hend hpos => ?_, fun v hv => hunit _ hv, fun e v he hgate => ?_,
    fun e he hgate => ?_, fun e he hgate => ?_, fun e d he hrun => ?_, fun v => hunit (n := 0) (count := 10) (consumerPut 0 v) (by decide),
    fun v => hunit (n := 1) (count := 10) (consumerPut 1 v) (by decide),
    fun e v he => ?_⟩
  · exact (hunit _ hn).trans (congrArg (fun t => Host.Outcome.next (chooseDepth t)) (apPut_ok hok _))
  · exact (hunit _ hslot).trans (congrArg (fun t => Host.Outcome.next (chooseDepth t)) (slotSubmit_ok hfree hmin hmax))
  · exact congrArg _ ((haccess _).trans (congrArg chooseDepth (barWrite_of_misaligned v _ hreg hbad)))
  · exact congrArg _ ((haccess _).trans (congrArg chooseDepth (barWrite_of_word v _ hreg halign hnarrow)))
  · exact congrArg _ ((haccess _).trans (congrArg chooseDepth (barWrite_of_slots v _ hend hpos)))
  · exact (hunit _ he).trans (congrArg _ (hput hgate))
  · exact (hunit _ he).trans (congrArg _ (hput hgate))
  · exact (hunit _ he).trans (congrArg _ (hput hgate))
  · exact (onUnit_of_lt he _).trans (congrArg _ ((if_pos hrun).trans (haccess _)))
  · exact (hunit _ (by omega)).trans (congrArg (fun t => Host.Outcome.next (chooseDepth t)) (consumerPut_engine e v _))

/-! ### Link resets, stalls, configuration requests and full rings (R604-R606, R617) -/

theorem exec_pcieReset {kind : Nat} {s : State} (hkind : kind < 3) (hon : endpointOn s = true) :
    exec (.pcieReset kind) s = .next
      (let t := s.host.gating.foldl (fun t x => closeGate false x.1 t) (resetBar0 (closeMailbox s))
       let t := if kind = 2 then t else ((t.setO 0x7000 3 0).setO 0x7000 4 0).setO 0x7000 5 0
       raise 0x7011 (pU8 kind) (t.incO 0x7010 5 1)) :=
  (onUnit_of_lt hkind _).trans (congrArg _ (if_neg (by rw [hon]; exact Bool.false_ne_true)))

theorem exec_pcieCreditStall {ms : Nat} {s : State} (hon : endpointOn s = true) (hpos : 0 < ms) :
    exec (.pcieCreditStall ms) s = .next
      (let t := s.maxO 0x7010 6 ms
       if ms < t.o 0x7010 7 ∨ t.host.stalled = true then t
       else raise 0x7012 (pU32 ms) { t with host := { t.host with stalled := true } }) := by
  refine congrArg Host.Outcome.next ((if_neg (by rw [hon]; exact Bool.false_ne_true)).trans ((if_neg hpos.ne').trans ?_))
  exact ite_eq_ite (by simp) rfl rfl

/-- A request to configuration space is answered once the vendor part runs. -/
theorem exec_configurationRequest {write : Bool} {off v : Nat} {s : State} (hon : endpointOn s = true)
    (hrun : s.boot.firmware = true) : exec (.configurationRequest write off v) s = .next
      (if write then (configWrite off v (linkUp s)).emit (.configReply false 0)
       else (configRead off (linkUp s)).2.emit (.configReply false (configRead off (linkUp s)).1)) :=
  congrArg Host.Outcome.next ((if_neg (by rw [hon]; exact Bool.false_ne_true)).trans (if_neg (by rw [hrun]; exact Bool.false_ne_true)))

theorem exec_mailboxRingFull {event : Bool} {s : State} (hon : s.host.mbOn = true)
    (hfull : if event then s.host.evSize ≤ ringUsed s.host.evProd s.host.evCons else s.host.rpSize ≤ ringUsed s.host.rpProd s.host.rpCons)
    (honce : s.host.fullRaised.getD event.toNat false = false) : exec (.mailboxRingFull event) s = .next
      (raise 0x7601 (pU8 event.toNat)
        { s with host := { s.host with fullRaised := s.host.fullRaised.set event.toNat true } }) := by
  refine congrArg Host.Outcome.next (if_pos ?_)
  rw [hon, honce]
  cases event with
  | false => simpa using hfull
  | true => simpa using hfull

/-! ### The packet network (R626-R632, R643, R644) -/

theorem exec_packetReceived {p : NocPacket} {s : State} (hon : domState s 2 = 2) :
    exec (.packetReceived p) s = .next (receivePacket p s) := congrArg _ (if_pos hon)

theorem receivePacket_of_not_crossable {p : NocPacket} (hp : crossable p = false) (s : State) :
    receivePacket p s = gatePacket (stampAge p s.host.noc) s := if_pos (by rw [hp]; rfl)

/-- A request whose tag an earlier one holds is not sent. -/
theorem receivePacket_of_tag_held {p : NocPacket} {s : State} (hp : crossable p = true) (hreq : pktRequest p = true)
    (hheld : s.host.noc.tags.any (fun x => x.1 == p.src && x.2.1 == p.tag) = true) : receivePacket p s = s :=
  (if_neg (by rw [hp]; exact Bool.false_ne_true)).trans (if_pos (by rw [hreq, hheld]; rfl))

theorem receivePacket_of_tag_free {p : NocPacket} {s : State} (hp : crossable p = true)
    (hfree : pktRequest p = true → s.host.noc.tags.any (fun x => x.1 == p.src && x.2.1 == p.tag) = false) : receivePacket p s =
      (let t := countSent p s
       let u := if pktRequest p then modNoc (fun n => { n with tags := n.tags ++
           [(p.src, p.tag, if p.opcode = 1 then p.size else 0, p.initiator, n.clock % 2 ^ 16)] }) t else t
       crossNetwork u.host.noc.nextId 512 (modNoc (inject p) u)) := by
  refine (if_neg (by rw [hp]; exact Bool.false_ne_true)).trans (if_neg ?_)
  cases hreq : pktRequest p with
  | false => exact Bool.false_ne_true
  | true =>
    rw [hfree hreq]
    exact Bool.false_ne_true

/-- A table that is the only one pending waits while a worm holds its router. -/
theorem switchTables_of_worm {router : Nat} {x : Nat × List Nat} {s : State} (hx : s.host.noc.newTables = [x]) (hrouter : x.1 = router)
    (hworm : wormThrough s.host.noc router = true) : switchTables s = s := by
  unfold switchTables
  rw [hx]
  simp [hrouter, hworm]

theorem exec_routingTableSwitch {router : Nat} {s : State} (hrouter : router < 28) (hon : domState s 2 = 2) :
    exec (.routingTableSwitch router) s = .next (switchTables (newTable router s)) :=
  (onUnit_of_lt hrouter _).trans (congrArg _ (if_pos hon))

theorem msixMap_done (r : Req) (sub : Nat) (v : WVal) : WriteDone (.msixMapWrite r sub v) r 0x7700 sub v
    (fun _ _ => fld (natBE v.data) 32 31 = 0) (fun _ s => s.setO 0x7700 sub (natBE v.data)) :=
  writeDone_of_handler (fun _ => rfl) fun _ _ hres => if_neg (by simp [hres])

/-- Settles O49, row by row. -/
theorem hostEventsComplete : Obligations.HostEventsComplete := by
  refine ⟨fun _ _ => exec_pcieReset, fun _ _ => exec_pcieCreditStall, fun _ _ _ => exec_configurationRequest,
    fun _ _ _ hon hrun => exec_configurationRequest hon hrun, fun _ hon hfull honce => exec_mailboxRingFull (event := true) hon hfull honce,
    fun _ hon hfull honce => exec_mailboxRingFull (event := false) hon hfull honce,
    fun p s hon hp => (exec_packetReceived hon).trans (congrArg _ (receivePacket_of_not_crossable hp s)),
    fun p s hon hp hreq hheld => (exec_packetReceived hon).trans (congrArg _ (receivePacket_of_tag_held hp hreq hheld)),
    fun p s t hon hp ht hfree => ?_, fun router s t hrouter hon ht => ?_, fun router s t hrouter hon hnone hworm ht => ?_,
    fun r => writeDone_of_handler (fun _ => rfl) fun _ _ _ => rfl, fun r => writeDone_of_handler (fun _ => rfl) fun _ _ _ => rfl,
    fun r => writeDone_of_handler (fun _ => rfl) fun _ _ _ => rfl, msixMap_done⟩
  · subst ht
    rw [exec_packetReceived hon, receivePacket_of_tag_free hp hfree]
    cases pktRequest p <;> rfl
  · subst ht
    exact exec_routingTableSwitch hrouter hon
  · subst ht
    have hnew : newTable router s = modNoc (fun n => { n with newTables := [(router, xyTable router)] }) s := by
      simp [newTable, modNoc, hnone]
    rw [exec_routingTableSwitch hrouter hon, hnew]
    exact congrArg _ (switchTables_of_worm rfl rfl hworm)

end Sys2Proof.Machine
end

section
/-! SUPPORT. Time, management ports and the switch (chapter 11). -/

namespace Sys2Proof.Machine

/-! ### The time base and PTP (R654, R664, R666-R677) -/

theorem exec_ptpMessage {p src stamp : Nat} {m : PtpMsg} {s : State} (hp : p < 2) (hon : domState s 4 = 2)
    (hruns : clockRuns (s.incO (0x7830 + p) 8 1) = true) (hport : ptpPort (s.incO (0x7830 + p) 8 1) p = true) :
    exec (.ptpMessage p src m stamp) s = .next (ptpHandle p src m stamp (s.incO (0x7830 + p) 8 1)) :=
  (onUnit_of_lt hp _).trans (congrArg _ ((if_neg (by simp [hon])).trans (if_pos (by simp [hruns, hport]))))

theorem exec_masterLost {s : State} (hruns : clockRuns s = true) : exec .masterLost s = .next
    (let t := if s.time.master ≠ none ∧ s.o 0x7810 1 ≠ 3 ∧ s.o 0x7810 1 ≠ 5 then enterHoldover s else s
     (forgetMaster t).setO 0x7820 0x0D (if t.o 0x7820 2 = 2 then 6 else 4)) := by
  refine congrArg Host.Outcome.next ((if_neg (by rw [hruns]; exact Bool.false_ne_true)).trans ?_)
  have hheld : (s.time.master.isSome && s.o 0x7810 1 != 3 && s.o 0x7810 1 != 5) = true ↔
      s.time.master ≠ none ∧ s.o 0x7810 1 ≠ 3 ∧ s.o 0x7810 1 ≠ 5 := by
    simp [Option.isSome_iff_ne_none, and_assoc]
  exact congrArg (fun t => (forgetMaster t).setO 0x7820 0x0D (if t.o 0x7820 2 = 2 then 6 else 4)) (ite_eq_ite hheld rfl rfl)

theorem exec_ptpTransmit {kind : Nat} {l : List Nat} {s : State} (hruns : clockRuns s = true) (hdue : ownKindDue s kind = true) :
    exec (.ptpTransmit kind l) s = .next
      ((List.range 2).foldl (fun t p =>
        if ptpPort t p then ownCopy kind s.time.nextSeq (l.contains p && t.o (0x7900 + p) 3 == 0) p t else t)
        { s with time := { s.time with nextSeq := (s.time.nextSeq + 1) % 65536 } }) :=
  congrArg Host.Outcome.next (if_neg (by simp [hruns, hdue]))

theorem exec_tcFollowupMissed {p : Nat} {s : State} {e : Nat × Nat × Nat × Int} (hp : p < 2)
    (hfind : s.net.tc.find? (fun y => y.1 == p) = some e) :
    exec (.tcFollowupMissed p) s = .next ((modNet (fun n => { n with tc := n.tc.erase e }) s).incO (0x7830 + p) 0x0A 1) := by
  refine (onUnit_of_lt hp _).trans (congrArg Host.Outcome.next ?_)
  rw [hfind]

theorem ptpConfig_done (r : Req) (sub : Nat) (v : WVal) (t : State) : WriteDone (.ptpConfigWrite r sub v) r 0x7820 sub v
    (fun _ s => clockWrite sub (natBE v.data) s = (.ok, t)) (fun _ _ => t) :=
  writeDone_of_handler (fun _ => rfl) fun _ _ hwrite => hwrite

/-- Settles O52, row by row. -/
theorem timeRowsComplete : Obligations.TimeRowsComplete :=
  ⟨fun _ hon => congrArg _ (if_pos hon), fun _ _ _ _ _ => exec_ptpMessage, fun _ => exec_masterLost,
    fun _ hfrozen => congrArg _ (if_pos hfrozen), fun _ _ _ => exec_ptpTransmit, fun _ _ _ => exec_tcFollowupMissed, ptpConfig_done⟩

/-! ### Management ports (R585, R678) -/

/-- A link that comes up with a valid speed is stored and reported. -/
theorem exec_phyPoll_up {p : Nat} {q : PhyStatus} {s : State} (hp : p < 2) (hnet : netOn s = true) (hlink : q.link = true)
    (hspeed : q.speed ≤ 2) (hdown : s.o (0x7900 + p) 1 = 0) : exec (.phyPoll p q) s = .next
      (let t := (s.emit (.mdio p (s.o (0x7900 + p) 4) 0)).emit (.mdio p (s.o (0x7900 + p) 4) 1)
       let t := modNet (fun n => { n with badDuplex := n.badDuplex.set p false }) t
       let t := ((t.setO (0x7900 + p) 1 1).setO (0x7900 + p) 2 q.speed).setO (0x7900 + p) 3 q.fullDuplex.toNat
       drainQueues (raise 0x7901 (pU8 p ++ pU8 1 ++ pU8 q.speed ++ pU8 q.fullDuplex.toNat) t)) := by
  have hvalid : q.speed ≤ 3 := by omega
  have hgood : (q.speed == 3) = false := beq_eq_false_iff_ne.2 (by omega)
  refine (onUnit_of_lt hp _).trans (congrArg Host.Outcome.next ((if_neg (by rw [hnet]; exact Bool.false_ne_true)).trans ?_))
  simp only [hlink, if_pos hvalid, hgood, hdown, Bool.true_and, Bool.false_and, Bool.not_false, Bool.and_true, Bool.not_true,
    Bool.false_eq_true, if_false, if_true, Bool.toNat_true]
  exact if_neg (by simp)

theorem exec_transportLost {p : Nat} {s : State} (hp : p < 2) (hnet : netOn s = true) (hdown : s.o (0x7900 + p) 1 ≠ 1) :
    exec (.transportLost p) s = .next (((s.acp.sessions.filter (fun x => x.isOpen && x.carrier == p)).map (fun x => x.id)).foldl
      (fun t n => closeSession n 4 t) s) :=
  (onUnit_of_lt hp _).trans (congrArg _ (if_neg (by simp [hnet, hdown])))

/-! ### The switch and the internal port (R680-R690) -/

/-- A good unicast frame of a linked port that may leave the switch elsewhere than where it came in. -/
theorem exec_switchForward {f : EthFrame} {s t : State} (hp : f.port < 2) (hnet : netOn s = true) (hup : s.o (0x7900 + f.port) 1 = 1)
    (hgood : macError f = false) (ht : t = s.incO (0x7900 + f.port) 5 1) (hswitch : t.o 0x7A00 1 = 1) (hlocal : linkLocal f.dst = false)
    (huni : isMulticast f.dst = false) (hother : (t.net.macs.find? (fun e => e.1 == f.dst)).map (fun e => e.2.1) ≠ some f.port) :
    exec (.switchForward f) s = .next (let u := learnMac f.src f.port t
      if f.dst = macAddress ∨ forwards f.port (1 - f.port) f u = false then u else forwardTo f.port (1 - f.port) f u) := by
  subst ht
  have hknown : ((((s.incO (0x7900 + f.port) 5 1).net.macs.find? (fun e => e.1 == f.dst)).map (fun e => e.2.1)) == some f.port) = false :=
    beq_eq_false_iff_ne.2 hother
  refine (onUnit_of_lt hp _).trans (congrArg Host.Outcome.next ((if_neg (by simp [hnet, hup])).trans ?_))
  refine (if_neg (by rw [hgood]; exact Bool.false_ne_true)).trans ((if_neg (by simp [hswitch])).trans ?_)
  refine ite_eq_ite ?_ rfl (if_neg (by rw [huni]; exact Bool.false_ne_true))
  rw [hlocal, hknown]
  simp

/-- A frame that the internal port takes is handled when the limiter lets it pass; of the messages only the master's own are exempt. -/
theorem exec_mgmtFrame {f : EthFrame} {s t u : State} (hp : f.port < 2) (hnet : netOn s = true) (hup : s.o (0x7900 + f.port) 1 = 1)
    (hgood : macError f = false)
    (ht : t = (let a := s.incO (0x7900 + f.port) 5 1
               if a.o 0x7A00 1 = 1 then learnMac f.src f.port a else a))
    (hvlan : vlanOk t f = true) (haccept : hostAccepts t f = true)
    (hmaster : ∀ b d src m, f.payload = .ptp b d src m → t.time.master ≠ some src) (hpass : limiterTake (limiterKey f) t = (true, u)) :
    exec (.mgmtFrame f) s = .next (hostHandle f u) := by
  subst ht
  refine (onUnit_of_lt hp _).trans (congrArg Host.Outcome.next ((if_neg (by simp [hnet, hup])).trans ?_))
  refine (if_neg (by rw [hgood]; exact Bool.false_ne_true)).trans ((if_neg (by rw [hvlan, haccept]; exact Bool.false_ne_true)).trans ?_)
  refine (if_neg ?_).trans ?_
  · split
    next b d src m hptp => simpa using hmaster b d src m hptp
    next => exact Bool.false_ne_true
  · rw [hpass]

/-! ### Addressing (R691, R692) -/

theorem exec_dhcpRenew {a m l : Nat} {s : State} (hnet : netOn s = true) (hdhcp : s.o 0x7B00 2 = 1) (hlease : s.net.renewAt ≠ 0) :
    exec (.dhcpRenew a m l) s = .next (dhcpAnswer (a % 2 ^ 32) (m % 2 ^ 32) l (sendDhcp 3 s.net.addr 2 s)) :=
  congrArg Host.Outcome.next (if_neg (by simp [hnet, hdhcp, hlease]))

theorem exec_addressProbe_free {s : State} (hnet : netOn s = true) (hprobing : s.net.probing ≠ 0) (hstate : s.o 0x7B00 5 ≠ 3) :
    exec (.addressProbe none) s = .next (changeAddress s.net.probing ((modNet (fun n => { n with probing := 0 }) s).setO 0x7B00 5 2)) :=
  congrArg Host.Outcome.next ((if_neg (by rw [hnet]; exact Bool.false_ne_true)).trans ((if_neg hstate).trans (if_neg hprobing)))

theorem exec_addressProbe_retry {s : State} (hnet : netOn s = true) (hstate : s.o 0x7B00 5 = 3) :
    exec (.addressProbe none) s = .next (retryAddress s) :=
  congrArg Host.Outcome.next ((if_neg (by rw [hnet]; exact Bool.false_ne_true)).trans (if_pos hstate))

theorem exec_addressProbe_conflict {mac a : Nat} {s : State} (hnet : netOn s = true)
    (ha : a = (if s.net.probing = 0 then s.net.addr else s.net.probing)) (hused : a ≠ 0) :
    exec (.addressProbe (some mac)) s = .next
      (let t := changeAddress 0 (raise 0x7B02 (pU32 a ++ octetsBE 6 mac) (s.setO 0x7B00 5 3))
       if t.o 0x7B00 2 = 1 then sendDhcp 4 a 0 (modNet (fun n => { n with probing := 0, leaseEnd := 0, renewAt := 0 }) t)
       else modNet (fun n => { n with probing := a }) t) := by
  subst ha
  exact congrArg Host.Outcome.next ((if_neg (by rw [hnet]; exact Bool.false_ne_true)).trans (if_neg hused))

/-- Settles O53, row by row. -/
theorem networkRowsComplete : Obligations.NetworkRowsComplete :=
  ⟨fun _ _ _ => exec_phyPoll_up, fun _ _ => exec_transportLost, fun _ _ _ => exec_switchForward, fun _ _ => rfl,
    fun _ _ _ _ => exec_dhcpRenew, fun _ => exec_addressProbe_free, fun _ => exec_addressProbe_retry,
    fun _ _ _ => exec_addressProbe_conflict, fun _ _ _ _ => exec_mgmtFrame, fun _ _ _ hmine => congrArg _ (if_pos hmine),
    fun _ _ _ _ _ _ hreach hcheck hwrite => congrArg (fun t => Host.Outcome.next (applyAddress t)) (serveWrite_eq hreach hcheck hwrite)⟩

end Sys2Proof.Machine
end

section
/-! SUPPORT. Self-tests and Tallow (chapter 13), and the flow trace (chapter 14). -/

namespace Sys2Proof.Machine

/-! ### Scheduled and running tests (R757-R759, R773, R774) -/

theorem exec_scheduledTest_idle {fs : List TestFinding} {done ms : Nat} {s t : State} (hidle : s.pwr.mode = 3)
    (hempty : s.run.state = .noDesign) (hnone : s.test.running = false) (hdue : s.o 0x8010 1 ≠ 0 ∨ s.test.schedDue = true)
    (ht : t = testSteps fs done ms (startTest true (enterSelfTest (wakeDepth s)))) :
    exec (.scheduledTest fs done ms) s = .next (if t.test.running then t else scheduledEnd t) := by
  subst ht
  refine congrArg Host.Outcome.next ((if_neg ?_).trans (if_pos (by simp [hidle, hempty])))
  rcases hdue with h | h <;> simp [hidle, hnone, h]

theorem exec_scheduledTest_postponed {fs : List TestFinding} {done ms : Nat} {s : State} (hon : 2 ≤ s.pwr.mode)
    (hbusy : s.pwr.mode ≠ 3 ∨ s.run.state ≠ .noDesign) (hnone : s.test.running = false) (htime : s.o 0x8010 1 ≠ 0)
    (honce : s.test.schedDue = false) : exec (.scheduledTest fs done ms) s = .next
      (raise 0x8011 (pU8 s.pwr.mode ++ pU8 s.run.state.code) (modTest (fun t => { t with schedDue := true }) s)) := by
  have hlate : ¬ (decide (s.pwr.mode = 3) && decide (s.run.state = .noDesign)) = true := by
    rw [Bool.and_eq_true, decide_eq_true_eq, decide_eq_true_eq]
    exact not_and_or.2 hbusy
  refine congrArg Host.Outcome.next ((if_neg ?_).trans ((if_neg hlate).trans (if_neg (by rw [honce]; exact Bool.false_ne_true))))
  simp [not_lt.2 hon, htime, hnone]

theorem exec_testProgressRecord {fs : List TestFinding} {done ms : Nat} {s t : State} (hmode : s.pwr.mode = 10)
    (hrun : s.test.running = true) (ht : t = testSteps fs done ms s) : exec (.testProgressRecord fs done ms) s = .next
      (if t.test.running then t else if t.test.scheduled then scheduledEnd t else shutdownEnd false t) := by
  subst ht
  exact congrArg Host.Outcome.next (if_neg (by simp [hmode, hrun]))

/-! ### On-command tests (R775-R779) -/

theorem odStart_done (r : Req) : WriteDone (.odStart r) r 0x8200 3 (codeVal 1) (fun _ s => odRefusal s = none)
    (fun _ s =>
      let t := if s.o 0x8200 1 = 1 then setDomain (13 + s.o 0x8200 2) 2 2 s else s
      (modTest (fun y => { y with odKind := t.o 0x8200 1, odTarget := t.o 0x8200 2 }) t).setO 0x8200 4 2) := by
  refine writeDone_of_handler (fun _ => rfl) fun x t hnone => ?_
  dsimp only
  rw [hnone]

theorem exec_ondemandDone_passed {ok : Bool} {detail : Nat} {dev : List Int} {s : State} (hrun : s.o 0x8200 4 ≠ 0)
    (hpass : ok = true ∨ s.test.odKind = 3) : exec (.ondemandDone ok detail dev) s = .next (odEnd 1 (detail % 2 ^ 32)
      (if s.test.odKind = 3 then (List.range 4).foldl (fun t i => t.setO 0x8210 (1 + i) (ofSigned 32 (dev.getD i 0))) s else s)) := by
  have hresult : (ok || decide (s.test.odKind = 3)) = true := by simpa using hpass
  refine congrArg Host.Outcome.next ((if_neg hrun).trans ?_)
  dsimp only
  rw [if_pos hresult]
  refine congrArg (odEnd 1 (detail % 2 ^ 32)) ?_
  by_cases hkind : s.test.odKind = 3
  · rw [if_pos hkind, if_pos hkind]
  · rw [if_neg hkind, if_neg hkind, if_pos (hpass.resolve_right hkind)]

theorem exec_ondemandDone_failed {detail : Nat} {dev : List Int} {s : State} (hrun : s.o 0x8200 4 ≠ 0) (hkind : s.test.odKind ≠ 3) :
    exec (.ondemandDone false detail dev) s = .next (odEnd 2 (detail % 2 ^ 32)
      (if s.test.odKind = 1 then writeHealth (fun h => { h with dramStacks := nsAdd s.test.odTarget h.dramStacks }) s
       else writeHealth (fun h => { h with delays :=
         ((bankLands s.test.odTarget).filter (fun l => bitOf detail (l % 32))).foldl (fun d l => nsAdd l d) h.delays }) s)) := by
  refine congrArg Host.Outcome.next ((if_neg hrun).trans ?_)
  dsimp only
  rw [if_neg hkind, if_neg Bool.false_ne_true, if_neg (by simp [hkind])]

/-! ### Tallow (R780-R785) -/

/-- A portion of an area other than the health map's that does not complete the pass. -/
theorem exec_tallowPatrol {area : Nat} {ws : List PatrolWord} {s t : State} (harea : area < 4) (hon : 2 ≤ s.pwr.mode)
    (henabled : bitOf (tallowVoted s).enable area = true) (ht : t = ws.foldl (fun t w => patrolWord area t w) s) :
    exec (.tallowPatrol area ws none) s = .next (chooseDepth (modTest
      (fun y => { y with savedPos := y.savedPos.set area ((tallowVoted t).pos.getD area 0 + 1) })
      (setTallow (fun c => { c with pos := c.pos.set area ((tallowVoted t).pos.getD area 0 + 1) }) t))) := by
  subst ht
  have hother : area ≠ 4 := by omega
  refine (onUnit_of_lt (by omega) _).trans (congrArg Host.Outcome.next ((if_neg (by simp [not_lt.2 hon, henabled])).trans ?_))
  simp only [hother, decide_false, Bool.false_and, Bool.false_eq_true, if_false, Option.isSome_none]

theorem exec_tallowVote {copy : Nat} {s : State} (hcopy : copy < 3) (hon : 2 ≤ s.pwr.mode) :
    exec (.tallowVote copy) s = .next ((modTest (fun t => { t with
      tallow := t.tallow.set copy (s.test.tallow.getD (if copy = 0 then 1 else 0) {}) }) s).incO 0x8300 6 1) :=
  (onUnit_of_lt hcopy _).trans (congrArg _ (if_neg (not_lt.2 hon)))

theorem exec_tallowReset {area : Nat} {s : State} (hon : 2 ≤ s.pwr.mode) : exec (.tallowReset (some area)) s = .next
    (let c : TallowCopy := { s.test.saved with pos := s.test.savedPos }
     raise 0x8303 (pU8 1 ++ pU32 area)
       (((modTest (fun t => { t with tallow := [c, c, c] }) s).setO 0x8300 1 c.rate).incO 0x8300 7 1)) :=
  congrArg Host.Outcome.next (if_neg (not_lt.2 hon))

/-- Settles O59, row by row. -/
theorem selfTestRowsComplete : Obligations.SelfTestRowsComplete :=
  ⟨fun _ _ _ _ _ => exec_scheduledTest_idle, fun _ _ _ _ => exec_scheduledTest_postponed, fun _ _ _ _ _ => exec_testProgressRecord,
    odStart_done, fun _ => writeDone_of_handler (fun _ => rfl) fun _ _ _ => rfl, fun _ _ _ _ => exec_ondemandDone_passed,
    fun _ _ _ => exec_ondemandDone_failed, fun _ _ _ _ => exec_tallowPatrol, fun _ _ => exec_tallowVote, fun _ _ => exec_tallowReset⟩

/-! ### The flow trace (R797-R808) -/

theorem sinkWrite_done (r : Req) (v : WVal) : WriteDone (.sinkWrite r v) r 0x8830 1 v
    (fun _ s => natBE v.data ≤ 3 ∧ natBE v.data ≠ s.o 0x8830 1 ∧ (natBE v.data = 2 → s.o (0x6850 + 9) 1 ≠ 0) ∧
      (natBE v.data = 3 → regionUnits s 6 ≠ []))
    (fun _ s => startStream ((endRec 0 s).setO 0x8830 1 (natBE v.data))) := by
  refine writeDone_of_handler (fun _ => rfl) fun x t ⟨hvalid, hnew, hbank, hregion⟩ => ?_
  exact (if_neg (not_lt.2 hvalid)).trans ((if_neg (by simpa using hbank)).trans
    ((if_neg (by simpa using hregion)).trans (if_neg hnew)))

theorem seqUnsuppress_done (r : Req) (v : WVal) : WriteDone (.seqUnsuppress r v) r 0x8810 3 v
    (fun x s => ∃ y, s.sess x.id = some y ∧ y.level = 3 ∧ y.token = true)
    (fun x s => setLifted (if natBE v.data = 1 then some x.id else none) (s.setO 0x8810 3 (natBE v.data == 1).toNat)) := by
  refine writeDone_of_handler (fun _ => rfl) fun x t ⟨y, hy, hlevel, htoken⟩ => ?_
  dsimp only
  rw [hy]
  refine (if_neg (by simp [hlevel, htoken])).trans ?_
  simp only [beq_iff_eq]

theorem coreTrace_done (r : Req) (v : WVal) : WriteDone (.coreTraceWrite r v) r 0x8820 1 v
    (fun x s => natLE v.data = 0 ∨ s.o 0x8800 5 ≠ 1 ∨ ∃ y, s.sess x.id = some y ∧ y.level = 3)
    (fun x s =>
      let old := s.o 0x8820 1
      let t := (stopCores (old &&& (15 ^^^ natLE v.data)) 0 s).setO 0x8820 1 (natLE v.data)
      let t := coreStart (natLE v.data &&& (15 ^^^ old) &&& (15 ^^^ gatedCores t)) t
      { t with trace := { t.trace with coreBy := if natLE v.data = 0 then none else some x.id } }) := by
  refine writeDone_of_handler (fun _ => rfl) fun x t hmay => if_neg ?_
  rcases hmay with hnone | hopen | ⟨y, hy, hlevel⟩
  · simp [hnone]
  · simp [hopen]
  · simp [hy, hlevel]

theorem exec_traceOverflow {s : State} (hdrop : s.trace.dropping = true) (hroom : s.trace.buf.length + 65536 ≤ traceRoomWords) :
    exec .traceOverflow s = .next
      (let n := s.trace.dropped
       let t := { s with trace := { s.trace with dropping := false, dropped := 0 } }
       let t := traceRecord (nextCyc t) [trcHeader 6 0 1 (min n (2 ^ 32 - 1)), s.trace.dropCycle] t
       let t := syncRec (nextCyc t) t.run.variant 2 t
       raise 0x8801 (pU32 (min n (2 ^ 32 - 1)) ++ pCycle ((t.incO 0x8840 2 n).incO 0x8840 3 1))
         ((t.incO 0x8840 2 n).incO 0x8840 3 1)) := by
  refine congrArg Host.Outcome.next (if_neg ?_)
  rw [hdrop, Bool.not_true, Bool.false_or, decide_eq_true_eq]
  omega

/-- Settles O60, row by row. -/
theorem traceRowsComplete : Obligations.TraceRowsComplete :=
  ⟨sinkWrite_done, seqUnsuppress_done, coreTrace_done, fun _ => exec_traceOverflow⟩

end Sys2Proof.Machine
end

section
/-! SUPPORT. The power limit, Tj and the commit duty, the idle depths and the boundary-scan port (chapters 12 and 15). -/

namespace Sys2Proof.Machine

/-! ### An event raised stands first in the event log (R594) -/

theorem drainQueue_log (n fuel : Nat) (s : State) : (drainQueue n fuel s).acp.log = s.acp.log := by
  induction fuel generalizing s with
  | zero => rfl
  | succ fuel ih =>
    unfold drainQueue
    split
    · rfl
    · split
      · rfl
      · split
        · refine (ih _).trans ?_
          exact (congrArg AcpSt.log (carry_acp _ _ false s) :)
        · rfl

theorem drainQueues_log (s : State) : (drainQueues s).acp.log = s.acp.log := by
  have hfold : ∀ (l : List Session) (t : State), (l.foldl (fun s x => drainQueue x.id 64 s) t).acp.log = t.acp.log := by
    intro l
    induction l with
    | nil => exact fun _ => rfl
    | cons x l ih => exact fun t => (ih _).trans (drainQueue_log ..)
  exact hfold _ s

theorem raise_log_head (code : Nat) (payload : List Octet) (s : State) :
    ∃ e, (raise code payload s).acp.log.head? = some e ∧ e.code = code ∧ e.payload = payload := by
  unfold raise
  extract_lets r acp logged sent
  have hsent : sent.acp.log = (r :: s.acp.log).take 1024 := drainQueues_log _
  clear_value sent
  refine ⟨r, ?_, rfl, rfl⟩
  split
  · rw [signalVector_acp, hsent]
    rfl
  · rw [hsent]
    rfl

/-- Settles O56: the two objects are set before event 2203h is raised, which changes neither. -/
theorem powerLimitFollowsTheWorkingPhases : Obligations.PowerLimitFollowsTheWorkingPhases := by
  unfold Obligations.PowerLimitFollowsTheWorkingPhases
  intro g s hon hfewer
  obtain ⟨e, hhead, hcode, hpayload⟩ := raise_log_head 0x2203 (pU8 g ++ pU32 (powerLimit g))
    ((s.setO 0x2200 5 g).setO 0x2200 4 (powerLimit g))
  refine ⟨_, e, congrArg Host.Outcome.next (if_neg ?_), ?_, ?_, hhead, hcode, hpayload, ?_, ?_, ?_⟩
  · simp [not_lt.2 hon, not_le.2 hfewer]
  · rw [raise_o _ _ _ rfl (by decide), setO_o_same]
    rfl
  · rw [raise_o _ _ _ rfl (by decide), setO_o_other _ (by decide), setO_o_same]
  · rw [raise_run]
    rfl
  · rw [raise_lanes]
    rfl
  · rw [raise_mem]
    rfl

/-! ### A measurement (R740, R746, R750) -/

/-- The objects and the supply after a measurement, before the halt of R750. -/
def measured (p : PowerSample) (s : State) : State :=
  let s := (s.setO 0x2400 1 (ofSigned 32 p.tj)).setO 0x2400 2 (p.sensor % 64)
  let s := s.setO 0x2400 9 (ofSigned 32 (max (toSigned 32 (s.o 0x2400 9)) p.tj))
  let s := (s.setO 0x2200 1 (p.vin % 2 ^ 32)).setO 0x2200 2 (p.vbat % 2 ^ 16)
  let s := (s.setO 0x2200 3 (p.power % 2 ^ 32)).maxO 0x2200 9 p.power
  let s := modPwr (fun q => { q with haltLevel := decide (105000 ≤ p.tj), vbatGone := p.vbat % 2 ^ 16 == 0 }) s
  if s.pwr.vbatGone then s.setO 0x2200 6 0 else s

/-- Whether a measurement finds that Tj has risen to 105 °C. -/
def reachesHalt (p : PowerSample) (s : State) : Bool := decide (105000 ≤ p.tj) && !s.pwr.haltLevel

theorem sampleIn_eq (p : PowerSample) (s : State) : sampleIn p s = if reachesHalt p s then
    raise 0x2402 (pU32 ((measured p s).o 0x2400 1) ++ pU8 ((measured p s).o 0x2400 2) ++ pCycle (measured p s))
      (postStop 6 (measured p s)) else measured p s := rfl

/-- The objects of a measurement. -/
abbrev sampleObject (i j : Nat) : Prop :=
  okey i j ∈ [okey 0x2400 1, okey 0x2400 2, okey 0x2400 9, okey 0x2200 1, okey 0x2200 2, okey 0x2200 3, okey 0x2200 6, okey 0x2200 9]

theorem measured_o_other (p : PowerSample) (s : State) {i j : Nat} (h : ¬ sampleObject i j) : (measured p s).o i j = s.o i j := by
  simp only [sampleObject, List.mem_cons, List.not_mem_nil, or_false, not_or] at h
  obtain ⟨h1, h2, h3, h4, h5, h6, h7, h8⟩ := h
  have hset : ∀ (t : State) {a b v : Nat}, okey i j ≠ okey a b → (t.setO a b v).o i j = t.o i j := fun t _ _ _ hk => setO_o_other t hk
  unfold measured
  extract_lets a b c d e
  have he : e.o i j = s.o i j :=
    ((hset _ h8).trans ((hset _ h6).trans ((hset _ h5).trans ((hset _ h4).trans ((hset _ h3).trans
      ((hset _ h2).trans (hset _ h1)))))))
  clear_value e
  split
  · exact (hset _ h7).trans he
  · exact he

theorem measured_tj (p : PowerSample) (s : State) : (measured p s).o 0x2400 1 = ofSigned 32 p.tj := by
  have hset : ∀ (t : State) {a b v : Nat}, okey 0x2400 1 ≠ okey a b → (t.setO a b v).o 0x2400 1 = t.o 0x2400 1 :=
    fun t _ _ _ hk => setO_o_other t hk
  unfold measured
  extract_lets a b c d e
  have ha : a.o 0x2400 1 = ofSigned 32 p.tj := (hset _ (by decide)).trans (setO_o_same ..)
  have he : e.o 0x2400 1 = ofSigned 32 p.tj := (hset _ (by decide)).trans ((hset _ (by decide)).trans ((hset _ (by decide)).trans
    ((hset _ (by decide)).trans ((hset _ (by decide)).trans ha))))
  clear_value e
  split
  · exact (hset _ (by decide)).trans he
  · exact he

theorem measured_pwr (p : PowerSample) (s : State) :
    (measured p s).pwr = { s.pwr with haltLevel := decide (105000 ≤ p.tj), vbatGone := p.vbat % 2 ^ 16 == 0 } := by
  simp only [measured, apply_ite State.pwr, setO_pwr, ite_self]
  rfl

theorem measured_lanes (p : PowerSample) (s : State) : (measured p s).lanes = s.lanes := by
  simp only [measured, apply_ite State.lanes, setO_lanes, ite_self]
  rfl

theorem measured_mem (p : PowerSample) (s : State) : (measured p s).mem = s.mem := by
  simp only [measured, apply_ite State.mem, setO_mem, ite_self]
  rfl

theorem measured_run (p : PowerSample) (s : State) : (measured p s).run = s.run := by
  simp only [measured, apply_ite State.run, setO_run, ite_self]
  rfl

theorem mem_nsAdd (k : Nat) (l : List Nat) : k ∈ nsAdd k l := by
  induction l with
  | nil => exact List.mem_singleton_self k
  | cons i l ih =>
    unfold nsAdd
    split
    · exact List.mem_cons_self
    · split
      next h => exact h ▸ List.mem_cons_self
      next => exact List.mem_cons_of_mem i ih

/-- A stop cause touches nothing but the run. -/
theorem postStop_frame (cause : Nat) (s : State) : ∃ r, postStop cause s = { s with run := r } := by
  unfold postStop addCause
  split <;> exact ⟨_, rfl⟩

theorem postStop_running {s : State} (h : s.run.state = .running ∨ s.run.state = .stepping) (cause : Nat) :
    (postStop cause s).run.state = .stopping ∧ cause ∈ (postStop cause s).run.causes := by
  have hadd := mem_nsAdd cause s.run.causes
  unfold postStop addCause
  rcases h with h | h <;> simp only [h] <;> exact ⟨trivial, hadd⟩

theorem sampleIn_o_other (p : PowerSample) (s : State) {i j : Nat} (h : ¬ sampleObject i j) (ht : toldObject i j = false)
    (hj : j < 256) : (sampleIn p s).o i j = s.o i j := by
  obtain ⟨r, hr⟩ := postStop_frame 6 (measured p s)
  rw [sampleIn_eq]
  split
  · rw [raise_o _ _ _ ht hj, hr]
    exact measured_o_other p s h
  · exact measured_o_other p s h

theorem sampleIn_tj (p : PowerSample) (s : State) : (sampleIn p s).o 0x2400 1 = ofSigned 32 p.tj := by
  obtain ⟨r, hr⟩ := postStop_frame 6 (measured p s)
  rw [sampleIn_eq]
  split
  · rw [raise_o _ _ _ rfl (by decide), hr]
    exact measured_tj p s
  · exact measured_tj p s

theorem sampleIn_rest (p : PowerSample) (s : State) : (sampleIn p s).pwr = (measured p s).pwr ∧
    (sampleIn p s).lanes = s.lanes ∧ (sampleIn p s).mem = s.mem := by
  obtain ⟨r, hr⟩ := postStop_frame 6 (measured p s)
  rw [sampleIn_eq]
  split
  · rw [raise_pwr, raise_lanes, raise_mem, hr]
    exact ⟨rfl, measured_lanes p s, measured_mem p s⟩
  · exact ⟨rfl, measured_lanes p s, measured_mem p s⟩

theorem sampleIn_halts {p : PowerSample} {s : State} (hhot : 105000 ≤ p.tj) (hnew : s.pwr.haltLevel = false)
    (hgoes : s.run.state = .running ∨ s.run.state = .stepping) :
    (sampleIn p s).run.state = .stopping ∧ 6 ∈ (sampleIn p s).run.causes := by
  have hreach : reachesHalt p s = true := by simp [reachesHalt, hhot, hnew]
  rw [sampleIn_eq, if_pos hreach, raise_run]
  exact postStop_running (by rw [measured_run]; exact hgoes) 6

/-- What an excluded sensor is replaced by is not replaced again. -/
theorem usedSample_idem (p : PowerSample) (s : State) : usedSample (usedSample p s) s = usedSample p s := by
  unfold usedSample
  by_cases h : s.test.booted.sensors.contains (p.sensor % 64) = true
  · rw [if_pos h]
    exact ite_self _
  · rw [if_neg h, if_neg h]

/-! ### The commit duty (R747) -/

theorem setDuty_o (d cause : Nat) (s : State) : (setDuty d cause s).o 0x2400 6 = d := by
  unfold setDuty
  extract_lets old t
  have ht : t.o 0x2400 6 = d := (setO_o_other _ (by decide)).trans (setO_o_same ..)
  clear_value t
  split
  · exact Eq.symm ‹d = old›
  · split
    · exact (raise_o _ _ _ rfl (by decide)).trans ht
    · exact ht

/-- The state in which the duty is adjusted: the measurement taken, the energy counted, the ms of R747's waits advanced. -/
def dutyWaits (p : PowerSample) (s : State) : State :=
  let s := sampleIn p s
  let uj := s.pwr.microJoules + p.power
  let s := modPwr (fun q => { q with microJoules := uj % 1000 }) (s.incO 0x2200 8 (uj / 1000))
  let cool := decide (p.tj < toSigned 32 (s.o 0x2400 3) - 2000) && decide (100 * p.power ≤ 95 * s.o 0x2200 4)
  let coolFor := if cool then min 11 (s.pwr.coolFor + 1) else 0
  let wait := s.pwr.riseWait - 1
  modPwr (fun q => { q with coolFor, riseWait := wait }) s

theorem dutyWaits_o (p : PowerSample) (s : State) {i j : Nat} (h : ¬ sampleObject i j) (h8 : okey i j ≠ okey 0x2200 8)
    (ht : toldObject i j = false) (hj : j < 256) : (dutyWaits p s).o i j = s.o i j :=
  (setO_o_other (sampleIn p s) h8).trans (sampleIn_o_other p s h ht hj)

theorem dutyWaits_limits (p : PowerSample) (s : State) : (dutyWaits p s).o 0x2400 3 = s.o 0x2400 3 ∧
    (dutyWaits p s).o 0x2200 4 = s.o 0x2200 4 ∧ (dutyWaits p s).o 0x2400 6 = s.o 0x2400 6 := by
  refine ⟨?_, ?_, ?_⟩ <;> exact dutyWaits_o p s (by decide) (by decide) rfl (by decide)

theorem exec_dutyAdjust {p : PowerSample} {s : State} (hon : 2 ≤ s.pwr.mode) (hused : usedSample p s = p) :
    exec (.dutyAdjust p) s = .next (
      let t := dutyWaits p s
      let temp := decide (toSigned 32 (t.o 0x2400 3) ≤ p.tj)
      let pow := decide (t.o 0x2200 4 < p.power)
      if temp || pow then setDuty (max 2 (t.o 0x2400 6 - 1)) (temp.toNat + 2 * pow.toNat) t
      else if t.o 0x2400 6 < 16 && t.pwr.coolFor = 11 && t.pwr.riseWait = 0 then
        setDuty (t.o 0x2400 6 + 1) 0 (modPwr (fun q => { q with riseWait := 10 }) t)
      else t) := by
  refine (congrArg Host.Outcome.next (if_neg (not_lt.2 hon))).trans ?_
  rw [hused]
  rfl

/-- The duty rises only after 11 ms that were all cool. -/
theorem cool_of_coolFor {p : PowerSample} {s : State} (h : (dutyWaits p s).pwr.coolFor = 11) :
    p.tj < toSigned 32 (s.o 0x2400 3) - 2000 ∧ 100 * p.power ≤ 95 * s.o 0x2200 4 := by
  obtain ⟨hthr, hlim, -⟩ := dutyWaits_limits p s
  by_contra hwarm
  have hcool : (decide (p.tj < toSigned 32 ((dutyWaits p s).o 0x2400 3) - 2000) &&
      decide (100 * p.power ≤ 95 * (dutyWaits p s).o 0x2200 4)) = false := by
    rw [hthr, hlim, Bool.eq_false_iff, Ne, Bool.and_eq_true, decide_eq_true_eq, decide_eq_true_eq]
    exact hwarm
  have hzero : (dutyWaits p s).pwr.coolFor = 0 := if_neg (Bool.eq_false_iff.1 hcool)
  omega

theorem exec_dutyAdjust_duty {p : PowerSample} {s : State} (hon : 2 ≤ s.pwr.mode) (hused : usedSample p s = p) :
    ∃ t, exec (.dutyAdjust p) s = .next t ∧
      (toSigned 32 (s.o 0x2400 3) ≤ p.tj ∨ s.o 0x2200 4 < p.power → t.o 0x2400 6 = max 2 (s.o 0x2400 6 - 1)) ∧
      (p.tj < toSigned 32 (s.o 0x2400 3) → p.power ≤ s.o 0x2200 4 →
        t.o 0x2400 6 = s.o 0x2400 6 ∨ t.o 0x2400 6 = s.o 0x2400 6 + 1 ∧ s.o 0x2400 6 < 16 ∧
          p.tj < toSigned 32 (s.o 0x2400 3) - 2000 ∧ 100 * p.power ≤ 95 * s.o 0x2200 4) := by
  have hcoolOf := cool_of_coolFor (p := p) (s := s)
  obtain ⟨hthr, hlim, hduty⟩ := dutyWaits_limits p s
  refine ⟨_, exec_dutyAdjust hon hused, ?_⟩
  generalize dutyWaits p s = t at *
  dsimp only
  rw [hthr, hlim, hduty]
  refine ⟨fun hhigh => ?_, fun htj hpow => ?_⟩
  · rw [if_pos (by simpa using hhigh)]
    exact setDuty_o ..
  · rw [if_neg (by simp [not_le.2 htj, not_lt.2 hpow])]
    split
    next hrise =>
      simp only [Bool.and_eq_true, decide_eq_true_eq] at hrise
      obtain ⟨⟨hroom, hcool⟩, -⟩ := hrise
      exact .inr ⟨setDuty_o .., hroom, hcoolOf hcool⟩
    next => exact .inl hduty

/-! ### The idle depths (R737, R739) and the boundary-scan port (R819) -/

theorem exec_idleWake {s : State} {n : Nat} (hidle : s.pwr.mode = 3) (hdeep : s.pwr.depth ≠ 0)
    (hleft : leftOf s s.pwr.depth = some n) (hsoon : n ≤ 1000 * (wakeMicros s.pwr.depth + s.o 0x2100 2)) :
    exec .idleWake s = .next (chooseDepth (wakeDepth s)) := by
  refine congrArg Host.Outcome.next ((if_neg (by simp [hidle, hdeep])).trans ?_)
  rw [hleft]
  exact if_pos hsoon

theorem exec_wakeLate {s : State} {micros : Nat} (hidle : s.pwr.mode = 3) (hdeep : s.pwr.depth ≠ 0) (hm : micros < 2 ^ 32) :
    exec (.wakeLate micros) s = .next (chooseDepth
      (if wakeMicros s.pwr.depth < micros then raise 0x2101 (pU8 s.pwr.depth ++ pU32 micros) (wakeDepth s) else wakeDepth s)) := by
  refine (congrArg Host.Outcome.next (if_neg (by simp [hidle, hdeep]))).trans ?_
  rw [Nat.min_eq_left (Nat.le_sub_one_of_lt hm)]

theorem exec_tapInstruction (code : Nat) {s : State} (hon : s.pwr.mode ≠ 0) : exec (.tapInstruction code) s = .next
    (if code ≤ 1 ∨ s.pwr.mode = 1 ∨ s.pwr.mode = 2 ∧ s.o 0x6000 1 = 0 then ({ s with tap := code }).emit (.tap code) else s) := by
  refine congrArg Host.Outcome.next ((if_neg hon).trans (ite_eq_ite ?_ rfl rfl))
  simp [or_assoc]

/-- Settles O55: every row under the measurement it takes, the depth it leaves or the mode it asks for. -/
theorem temperatureAndDepthRowsComplete : Obligations.TemperatureAndDepthRowsComplete := by
  unfold Obligations.TemperatureAndDepthRowsComplete
  refine ⟨fun p s hon hused => exec_dutyAdjust_duty hon hused, fun p s hon => ?_, fun p s hon hused => ?_,
    fun s n hidle hdeep hleft hsoon => exec_idleWake hidle hdeep hleft hsoon,
    fun micros s hidle hdeep hm => exec_wakeLate hidle hdeep hm, fun code s hon => exec_tapInstruction code hon⟩
  · exact ⟨congrArg Host.Outcome.next (by rw [usedSample_idem]), congrArg Host.Outcome.next (by rw [usedSample_idem])⟩
  · obtain ⟨hpwr, hlanes, hmem⟩ := sampleIn_rest p s
    refine ⟨sampleIn p s, ?_, sampleIn_tj p s, ?_, sampleIn_halts, hlanes, hmem⟩
    · refine (congrArg Host.Outcome.next (if_neg (not_lt.2 hon))).trans ?_
      rw [hused]
    · rw [hpwr, measured_pwr]

end Sys2Proof.Machine
end

section
/-! SUPPORT. The events of a run (chapter 2). -/

namespace Sys2Proof.Machine

/-! ### STATUS on every port in EXCHANGE (Table 3-8) -/

/-- Sending over a list of ports changes nothing but the ports. -/
theorem sendCtl_foldl_frame (typ arg : Nat) (l : List Nat) (s : State) :
    ∃ ports, l.foldl (fun s p => sendCtl p typ arg s) s = { s with ex := { s.ex with ports } } := by
  induction l generalizing s with
  | nil => exact ⟨_, rfl⟩
  | cons p l ih =>
    obtain ⟨ports, h⟩ := ih (sendCtl p typ arg s)
    exact ⟨ports, h⟩

/-- Sending over a list of ports leaves the other ports as they are. -/
theorem sendCtl_foldl_port_other (typ arg q : Nat) (l : List Nat) (hq : q ∉ l) (s : State) :
    (l.foldl (fun s p => sendCtl p typ arg s) s).port q = s.port q := by
  induction l generalizing s with
  | nil => rfl
  | cons p l ih =>
    rw [List.mem_cons, not_or] at hq
    exact (ih hq.2 _).trans (modPort_port_other _ hq.1)

/-- Sending over a list of ports puts one message on each of them. -/
theorem sendCtl_foldl_ctl (typ arg q : Nat) (l : List Nat) (hl : l.Nodup) (hq : q ∈ l) (s : State) (hport : q < s.ex.ports.length) :
    ((l.foldl (fun s p => sendCtl p typ arg s) s).port q).ctl = (s.port q).ctl ++ [typ % 16 * 1024 + arg % 1024] := by
  induction l generalizing s with
  | nil => exact absurd hq List.not_mem_nil
  | cons p l ih =>
    obtain ⟨hp, hrest⟩ := List.nodup_cons.1 hl
    rcases List.mem_cons.1 hq with rfl | hq
    · exact (congrArg Port.ctl (sendCtl_foldl_port_other typ arg q l hp _)).trans (sendCtl_port_same _ _ hport)
    · have hne : q ≠ p := fun h => hp (h ▸ hq)
      have hsame : ((sendCtl p typ arg s).port q).ctl = (s.port q).ctl := congrArg Port.ctl (modPort_port_other _ hne)
      exact (ih hrest hq _ (by simpa [sendCtl, modPort] using hport)).trans (congrArg (fun l => l ++ _) hsame)

theorem statusArg_lt (s : State) : statusArg s < 1024 := by
  have hbit : ∀ b : Bool, b.toNat ≤ 1 := Bool.toNat_le
  have h1 := hbit (!s.run.released)
  have h2 := hbit s.run.holdStop
  have h3 := hbit (decide (s.run.state = .faulted))
  have hid : s.moduleId % 128 < 128 := Nat.mod_lt _ (by decide)
  unfold statusArg
  omega

theorem statusArg_sendCtl (p typ arg : Nat) (s : State) : statusArg (sendCtl p typ arg s) = statusArg s := by
  rw [sendCtl, modPort, statusArg, statusArg]

/-- What STATUS says does not depend on the ports, so every port gets the same word. -/
theorem sendStatus_eq (s : State) : sendStatus s = (exchangePorts s).foldl (fun t p => sendCtl p 1 (statusArg s) t) s := by
  have hsame : ∀ (l : List Nat) (t : State), statusArg t = statusArg s →
      l.foldl (fun t p => sendCtl p 1 (statusArg t) t) t = l.foldl (fun t p => sendCtl p 1 (statusArg s) t) t := by
    intro l
    induction l with
    | nil => exact fun t _ => (List.foldl_nil).trans (List.foldl_nil).symm
    | cons p l ih =>
      intro t ht
      have hnext : statusArg (sendCtl p 1 (statusArg s) t) = statusArg s := (statusArg_sendCtl ..).trans ht
      rw [List.foldl_cons, List.foldl_cons, ht, ih _ hnext]
  exact hsame _ s rfl

theorem sendStatus_frame (s : State) : ∃ ports, sendStatus s = { s with ex := { s.ex with ports } } := by
  rw [sendStatus_eq]
  exact sendCtl_foldl_frame 1 (statusArg s) (exchangePorts s) s

theorem sendStatus_ctl {s : State} {p : Nat} (hp : p < 8) (hport : (s.port p).state = .exchange) :
    ((sendStatus s).port p).ctl = (s.port p).ctl ++ [1024 + statusArg s] := by
  have hmem : p ∈ exchangePorts s := by simpa [exchangePorts, hp, State.port] using hport
  have hlen := lt_ports_length_of_state_ne_off (s := s) (p := p) (by rw [hport]; decide)
  have hword : 1 % 16 * 1024 + statusArg s % 1024 = 1024 + statusArg s := by
    have := statusArg_lt s
    omega
  rw [← hword, sendStatus_eq]
  exact sendCtl_foldl_ctl 1 (statusArg s) p _ (List.nodup_range.filter _) hmem s hlen

/-! ### The events (R122, R133, R137-R141, R147, R150) -/

/-- A module samples SYNC in the wait blocks that start a run and once C8 of a commit window has passed. -/
theorem waits_iff (s : State) : (decide (s.run.phase = .starting) || decide (s.run.phase = .commit) && s.run.settled) = true ↔
    s.run.phase = .starting ∨ s.run.phase = .commit ∧ s.run.settled = true := by simp

theorem waits_of_failsLate {s : State} (h : failsLate s = true) : s.run.phase = .commit ∧ s.run.settled = true := by
  simp only [failsLate, Bool.and_eq_true, beq_iff_eq] at h
  obtain ⟨⟨⟨hwaits, -⟩, -⟩, -⟩ := h
  exact hwaits

theorem exec_sweepStart_begins {s : State} (hwaits : s.run.phase = .starting ∨ s.run.phase = .commit ∧ s.run.settled = true)
    (hrel : s.run.released = true) (hlate : failsLate s = false) : exec (.sweepStart true) s =
      .next (hostStep (beginSweep (if s.run.phase = .starting then { s with trace := { s.trace with syncDue := some 1 } } else s))) := by
  refine congrArg Host.Outcome.next ((if_neg ?_).trans ((if_neg Bool.false_ne_true).trans ((if_pos hrel).trans (if_neg ?_))))
  · simpa [or_iff_not_imp_left] using hwaits
  · simp [hlate]

theorem exec_sweepStart_fails {s : State} (hrel : s.run.released = true) (hlate : failsLate s = true) : exec (.sweepStart true) s =
    .next { lateFailures s with run := { (lateFailures s).run with released := false } } := by
  refine congrArg Host.Outcome.next ((if_neg ?_).trans ((if_neg Bool.false_ne_true).trans ((if_pos hrel).trans (if_pos hlate))))
  simp [waits_of_failsLate hlate]

theorem exec_sweepStart_low {s : State} (hwaits : s.run.phase = .starting ∨ s.run.phase = .commit ∧ s.run.settled = true) :
    exec (.sweepStart false) s =
      .next { s with run := { s.run with syncLevel := false, lowSince := s.run.lowSince.or (some s.now) } } := by
  refine congrArg Host.Outcome.next ((if_neg ?_).trans (if_pos rfl))
  simpa [or_iff_not_imp_left] using hwaits

theorem exec_sweepStep {upsets : List Upset} {s : State} {i : Nat} {rest : List Nat} (hsweep : s.run.phase = .sweep)
    (htodo : s.run.todo = i :: rest) : exec (.sweepStep upsets) s = .next (hostStep (sweepStep i upsets s)) := by
  refine congrArg Host.Outcome.next ?_
  rw [hsweep, htodo]

theorem exec_commitWindow {env : CommitEnv} {s : State} (hsweep : s.run.phase = .sweep) (htodo : s.run.todo = []) :
    exec (.commitWindow env) s = .next (commitWindow env s) := by
  refine congrArg Host.Outcome.next ?_
  rw [hsweep, htodo]

theorem exec_waitBlock {env : CommitEnv} {s : State}
    (hwaits : s.run.phase = .starting ∨ s.run.phase = .commit ∧ s.run.settled = true) :
    exec (.waitBlock env) s = .next (waitBlock env s) :=
  congrArg Host.Outcome.next (if_pos ((waits_iff s).2 hwaits))

/-- The run once SYNC is released. -/
def syncReleased (s : State) : State := { s with run := { s.run with heldNow := 0, released := true } }

theorem exec_holdCausesCleared {s : State} (hwaits : s.run.phase = .starting ∨ s.run.phase = .commit ∧ s.run.settled = true)
    (hheld : s.run.released = false) (hfree : activeHolds s = 0) (hlate : failsLate s = false) :
    exec .holdCausesCleared s = .next (sendStatus (syncReleased s)) := by
  have hmay : ((decide (s.run.phase = .starting) || decide (s.run.phase = .commit) && s.run.settled) && !s.run.released &&
      activeHolds s == 0) = true := by simp [hheld, hfree, hwaits]
  have hnone : lateFailures s = s := if_neg (by simp [hlate])
  refine congrArg Host.Outcome.next ((if_pos hmay).trans ?_)
  rw [hnone, releaseSync, hfree]
  rfl

theorem holdCausesCleared_releases {s : State} (hwaits : s.run.phase = .starting ∨ s.run.phase = .commit ∧ s.run.settled = true)
    (hheld : s.run.released = false) (hfree : activeHolds s = 0) (hlate : failsLate s = false) :
    ∃ t, exec .holdCausesCleared s = .next t ∧ t.run.released = true ∧ t.run.heldNow = 0 ∧
      t = { s with run := t.run, ex := { s.ex with ports := t.ex.ports } } ∧
      ∀ p, p < 8 → (s.port p).state = .exchange → (t.port p).ctl = (s.port p).ctl ++ [1024 + statusArg t] := by
  obtain ⟨ports, hsent⟩ := sendStatus_frame (syncReleased s)
  have hstatus : statusArg (sendStatus (syncReleased s)) = statusArg (syncReleased s) := by
    rw [hsent]
    rfl
  refine ⟨_, exec_holdCausesCleared hwaits hheld hfree hlate, ?_, ?_, ?_, fun p hp hport => ?_⟩
  · rw [hsent]
    rfl
  · rw [hsent]
    rfl
  · rw [hsent]
    rfl
  · rw [hstatus]
    exact sendStatus_ctl (s := syncReleased s) hp hport

theorem exec_syncTimeout {s : State} (honce : s.run.timedOut = false) (hgoes : s.run.holdStop = false) (hstop : s.ex.stopSeen = [])
    (hset : s.o 0x3440 1 ≠ 0) (hlow : s.run.lowSince ≠ none) : exec .syncTimeout s = .next (raise 0x3441
      (pU8 s.moduleId ++ pBits16 (activeHolds s) ++ pU8 s.run.released.toNat ++ pU8 (neighbourHolds s) ++ pCycle s)
      { s with run := { s.run with timedOut := true } }) :=
  congrArg Host.Outcome.next (if_neg (by simp [honce, hgoes, hstop, hset, hlow]))

/-- Settles O11: each event by its test; the release of SYNC by what sending STATUS over the ports leaves alone. -/
theorem sweepEventsComplete : Obligations.SweepEventsComplete := by
  unfold Obligations.SweepEventsComplete
  exact ⟨fun _ hwaits hrel hlate => exec_sweepStart_begins hwaits hrel hlate, fun _ hrel hlate => exec_sweepStart_fails hrel hlate,
    fun _ hwaits => exec_sweepStart_low hwaits, fun _ _ _ _ hsweep htodo => exec_sweepStep hsweep htodo,
    fun _ _ hsweep htodo => exec_commitWindow hsweep htodo, fun _ _ hwaits => exec_waitBlock hwaits,
    fun _ hwaits hheld hfree hlate => holdCausesCleared_releases hwaits hheld hfree hlate,
    fun _ honce hgoes hstop hset hlow => exec_syncTimeout honce hgoes hstop hset hlow⟩

end Sys2Proof.Machine
end

section
/-! SUPPORT. What leaves the supply alone: the ends of a capture, of a trace, of a session and of a run touch no more of it than the mode
and the domains. -/

namespace Sys2Proof.Machine

theorem foldl_pwr {α : Type} {f : State → α → State} (hf : ∀ s x, (f s x).pwr = s.pwr) (l : List α) (s : State) :
    (l.foldl f s).pwr = s.pwr := by
  induction l generalizing s with
  | nil => rfl
  | cons x l ih => exact (ih (f s x)).trans (hf s x)

theorem ite_pwr {P : Prop} [Decidable P] {s t u : State} (ht : t.pwr = s.pwr) (hu : u.pwr = s.pwr) :
    (if P then t else u).pwr = s.pwr := by
  split
  · exact ht
  · exact hu

/-! ### Lantern's writers and the end of a capture (R359) -/

@[simp] theorem regionWrite_pwr (code a : Nat) (l : List Octet) (s : State) : (regionWrite code a l s).pwr = s.pwr :=
  foldl_pwr (f := fun t (x : Octet × Nat) => t.dramSet (regionPlace (regionUnits s code) (a + x.2)) x.1) (fun t x => dramSet_pwr t _ x.1)
    _ s

@[simp] theorem capPut_pwr (a v : Nat) (s : State) : (capPut a v s).pwr = s.pwr := regionWrite_pwr ..

@[simp] theorem openBlock_pwr (g cycle : Nat) (s : State) : (openBlock g cycle s).pwr = s.pwr :=
  (setSeg_pwr ..).trans ((capPut_pwr ..).trans ((capPut_pwr ..).trans ((capPut_pwr ..).trans (capPut_pwr ..))))

@[simp] theorem completeBlock_pwr (g q : Nat) (s : State) : (completeBlock g q s).pwr = s.pwr :=
  (capPut_pwr ..).trans ((capPut_pwr ..).trans (capPut_pwr ..))

@[simp] theorem putWord_pwr (g cycle : Nat) (head : Bool) (w : Nat) (s : State) : (putWord g cycle head w s).pwr = s.pwr := by
  unfold putWord
  extract_lets opened v a headed written placed
  have hopened : opened.pwr = s.pwr := ite_pwr (openBlock_pwr ..) rfl
  have hheaded : headed.pwr = s.pwr := ite_pwr ((capPut_pwr ..).trans hopened) hopened
  have hplaced : placed.pwr = s.pwr := (capPut_pwr ..).trans hheaded
  exact ite_pwr ((completeBlock_pwr ..).trans hplaced) hplaced

@[simp] theorem putRecord_pwr (g typ : Nat) (f : Bool) (time cycle : Nat) (ws : List Nat) (s : State) :
    (putRecord g typ f time cycle ws s).pwr = s.pwr :=
  ite_pwr rfl ((foldl_pwr (fun _ _ => putWord_pwr ..) ws _).trans (putWord_pwr ..))

@[simp] theorem padSegment_pwr (g : Nat) (s : State) : (padSegment g s).pwr = s.pwr :=
  ite_pwr rfl ((foldl_pwr (fun _ _ => putWord_pwr ..) _ _).trans (putWord_pwr ..))

@[simp] theorem noteRecords_pwr (g : Nat) (l : List (Nat × Nat × Bool)) (s : State) : (noteRecords g l s).pwr = s.pwr := rfl

@[simp] theorem closeSegment_pwr (g : Nat) (cut : Bool) (s : State) : (closeSegment g cut s).pwr = s.pwr := by
  simp only [closeSegment, raise_pwr, modCtx_pwr, padSegment_pwr, setSeg_pwr]

@[simp] theorem flushMinMax_pwr (s : State) : (flushMinMax s).pwr = s.pwr := ite_pwr rfl (putRecord_pwr ..)

@[simp] theorem flushExt_pwr (s : State) : (flushExt s).pwr = s.pwr := by
  unfold flushExt
  split
  · rfl
  · simp only [apply_ite State.pwr, noteRecords_pwr, setSeg_pwr, putRecord_pwr, ite_self]

@[simp] theorem disarmNow_pwr (s : State) : (disarmNow s).pwr = s.pwr := by
  simp only [disarmNow, apply_ite State.pwr, padSegment_pwr, setSeg_pwr, closeSegment_pwr, flushMinMax_pwr, flushExt_pwr, ite_self]

/-! ### The trace (R805, R809) -/

@[simp] theorem parallelWord_pwr (w : Nat) (s : State) : (parallelWord w s).pwr = s.pwr := ite_pwr rfl rfl

@[simp] theorem sinkWord_pwr (w : Nat) (s : State) : (sinkWord w s).pwr = s.pwr := by
  unfold sinkWord
  extract_lets j trace t
  have ht : t.pwr = s.pwr := rfl
  clear_value t
  split
  · exact ht
  · exact (parallelWord_pwr ..).trans (ite_pwr ((parallelWord_pwr ..).trans ht) ht)
  · have hput : ∀ off, (regionWrite 6 off (octetsLE 8 w) t).pwr = s.pwr := fun _ => (regionWrite_pwr ..).trans ht
    exact ite_pwr ht (ite_pwr ((setO_pwr ..).trans ((setO_pwr ..).trans (hput _))) ((setO_pwr ..).trans (hput _)))
  · exact ht

@[simp] theorem traceFlush_pwr (s : State) : (traceFlush s).pwr = s.pwr := foldl_pwr (fun _ _ => sinkWord_pwr ..) _ _

@[simp] theorem traceSettle_pwr (s : State) : (traceSettle s).pwr = s.pwr := ite_pwr (traceFlush_pwr s) rfl

@[simp] theorem tracePush_pwr (ws : List Nat) (s : State) : (tracePush ws s).pwr = s.pwr := traceSettle_pwr _

@[simp] theorem traceRaw_pwr (ws : List Nat) (s : State) : (traceRaw ws s).pwr = s.pwr := ite_pwr rfl (tracePush_pwr ..)

@[simp] theorem padFrame_pwr (s : State) : (padFrame s).pwr = s.pwr :=
  ite_pwr rfl (ite_pwr (traceRaw_pwr ..) (traceRaw_pwr ..))

@[simp] theorem timeRec_pwr (next : Nat) (s : State) : (timeRec next s).pwr = s.pwr := traceRaw_pwr ..

@[simp] theorem traceFit_pwr (next n : Nat) (s : State) : (traceFit next n s).pwr = s.pwr := by
  simp only [traceFit, apply_ite State.pwr, timeRec_pwr, padFrame_pwr, ite_self]

@[simp] theorem suppressedRec_pwr (next : Nat) (s : State) : (suppressedRec next s).pwr = s.pwr :=
  ite_pwr rfl ((traceRaw_pwr ..).trans (traceFit_pwr ..))

@[simp] theorem traceRecord_pwr (next : Nat) (ws : List Nat) (s : State) : (traceRecord next ws s).pwr = s.pwr := by
  unfold traceRecord
  extract_lets told timed
  have htold : told.pwr = s.pwr := ite_pwr (suppressedRec_pwr ..) rfl
  have htimed : timed.pwr = s.pwr := ite_pwr htold (ite_pwr ((padFrame_pwr _).trans htold) ((timeRec_pwr ..).trans htold))
  exact ite_pwr rfl ((traceRaw_pwr ..).trans ((traceFit_pwr ..).trans htimed))

@[simp] theorem stopRec_pwr (src mode cause : Nat) (s : State) : (stopRec src mode cause s).pwr = s.pwr := by
  simp only [stopRec, apply_ite State.pwr, traceFlush_pwr, padFrame_pwr, traceRecord_pwr, suppressedRec_pwr, ite_self]

@[simp] theorem endRec_pwr (cause : Nat) (s : State) : (endRec cause s).pwr = s.pwr := by
  simp only [endRec, apply_ite State.pwr, traceFlush_pwr, padFrame_pwr, traceRecord_pwr, ite_self]

@[simp] theorem tracePowerDown_pwr (cause : Nat) (s : State) : (tracePowerDown cause s).pwr = s.pwr := by
  simp only [tracePowerDown, apply_ite State.pwr, raise_pwr, setO_pwr, endRec_pwr, ite_self]

/-! ### The end of a session (R585) -/

@[simp] theorem setLifted_pwr (by_ : Option Nat) (s : State) : (setLifted by_ s).pwr = s.pwr := by
  unfold setLifted
  split
  · rfl
  · cases by_ with
    | none => rfl
    | some n => exact raise_pwr ..

@[simp] theorem stopCores_pwr (cores cause : Nat) (s : State) : (stopCores cores cause s).pwr = s.pwr :=
  foldl_pwr (fun _ _ => stopRec_pwr ..) _ s

@[simp] theorem closeSession_pwr (n cause : Nat) (s : State) : (closeSession n cause s).pwr = s.pwr := by
  unfold closeSession
  split
  · rfl
  · simp only [apply_ite State.pwr, raise_pwr, setO_pwr, stopCores_pwr, setLifted_pwr, ite_self]

/-! ### Checkpoints and swaps (R51, R399, R851) -/

@[simp] theorem failCluster_pwr (pc : Nat) (s : State) : (failCluster pc s).pwr = s.pwr := by
  unfold failCluster
  dsimp only
  split
  · exact ite_pwr rfl rfl
  · exact ite_pwr (ite_pwr rfl rfl) rfl

@[simp] theorem lbsFailure_pwr (p addr plane : Nat) (s : State) : (lbsFailure p addr plane s).pwr = s.pwr := by
  simp only [lbsFailure, failCluster_pwr, raise_pwr, setO_pwr, incO_pwr]

@[simp] theorem failGroups_pwr (p plane mask : Nat) (s : State) : (failGroups p plane mask s).pwr = s.pwr :=
  foldl_pwr (fun _ _ => lbsFailure_pwr ..) _ s

@[simp] theorem withdraw_pwr (p : Ckpt → Bool) (reason : Nat) (s : State) : (withdraw p reason s).pwr = s.pwr := by
  simp only [withdraw, apply_ite State.pwr, raise_pwr, ite_self]

@[simp] theorem withdrawOlder_pwr (reason : Nat) (s : State) : (withdrawOlder reason s).pwr = s.pwr := by
  unfold withdrawOlder
  split
  · rfl
  · exact withdraw_pwr ..

@[simp] theorem freeRing_pwr (need fuel : Nat) (s : State) : (freeRing need fuel s).pwr = s.pwr := by
  induction fuel generalizing s with
  | zero => rfl
  | succ fuel ih =>
    unfold freeRing
    split
    · rfl
    · split
      · exact ih _
      · rfl

@[simp] theorem snapshot_pwr (fresh : Bool) (c cause : Nat) (s : State) : (snapshot fresh c cause s).pwr = s.pwr := by
  simp only [snapshot, freeRing_pwr, apply_ite State.pwr, mapLanes_pwr, foldl_pwr (fun _ _ => failGroups_pwr ..), ite_self]

@[simp] theorem finishDrain_pwr (micros : Nat) (s : State) : (finishDrain micros s).pwr = s.pwr := by
  unfold finishDrain
  refine ite_pwr rfl ?_
  dsimp only
  split
  · rfl
  · exact (mapLanes_pwr ..).trans ((foldl_pwr (fun _ _ => failGroups_pwr ..) _ _).trans (withdraw_pwr ..))

@[simp] theorem uncopyAll_pwr (s : State) : (uncopyAll s).pwr = s.pwr := rfl

@[simp] theorem discardKept_pwr (s : State) : (discardKept s).pwr = s.pwr := rfl

@[simp] theorem checkpointNow_pwr (cause : Nat) (s : State) : (checkpointNow cause s).pwr = s.pwr := by
  simp only [checkpointNow, apply_ite State.pwr, uncopyAll_pwr, snapshot_pwr, discardKept_pwr, finishDrain_pwr, ite_self]

@[simp] theorem checkpointFresh_pwr (cause reason : Nat) (s : State) : (checkpointFresh cause reason s).pwr = s.pwr :=
  ite_pwr rfl ((withdrawOlder_pwr ..).trans (checkpointNow_pwr ..))

@[simp] theorem swapDict_pwr (s : State) : (swapDict s).pwr = s.pwr := raise_pwr ..

@[simp] theorem swapExs_pwr (s : State) : (swapExs s).pwr = s.pwr := raise_pwr ..

@[simp] theorem carrySwaps_pwr (commit : Bool) (s : State) : (carrySwaps commit s).2.pwr = s.pwr := by
  unfold carrySwaps
  split
  · split
    · exact (swapExs_pwr _).trans (swapDict_pwr _)
    · rfl
  · have hdict : ∀ d : Bool, (if d = true then swapDict s else s).pwr = s.pwr := fun _ => ite_pwr (swapDict_pwr s) rfl
    exact ite_pwr ((swapExs_pwr _).trans (hdict _)) (hdict _)

@[simp] theorem settleSwaps_pwr (s : State) : (settleSwaps s).pwr = s.pwr := by
  unfold settleSwaps
  refine ite_pwr rfl ?_
  split
  next t ht => exact (checkpointFresh_pwr ..).trans ((congrArg (fun x => x.2.pwr) ht).symm.trans (carrySwaps_pwr ..))
  next t ht => exact (congrArg (fun x => x.2.pwr) ht).symm.trans (carrySwaps_pwr ..)

/-! ### The host accesses that a step lets through (R292, R301) -/

@[simp] theorem correctBank_pwr (port k : Nat) (s : State) : (correctBank port k s).pwr = s.pwr := ite_pwr rfl (ite_pwr rfl rfl)

@[simp] theorem bankFailure_pwr (k source : Nat) (s : State) : (bankFailure k source s).pwr = s.pwr := by
  simp only [bankFailure, addCause, apply_ite State.pwr, raise_pwr, setO_pwr, incO_pwr, ite_self]

@[simp] theorem readBank_pwr (port k source : Nat) (s : State) : (readBank port k source s).2.pwr = s.pwr := by
  unfold readBank
  split
  · rfl
  · exact correctBank_pwr ..
  · exact bankFailure_pwr ..

@[simp] theorem hostFar_pwr (w : Nat) (s : State) : (hostFar w s).2.pwr = s.pwr := by
  unfold hostFar
  split <;> rfl

@[simp] theorem hostBank_pwr (port k : Nat) (s : State) : (hostBank port k s).2.pwr = s.pwr := readBank_pwr ..

@[simp] theorem writeBack_pwr (k : Nat) (s : State) : (writeBack k s).pwr = s.pwr := by
  unfold writeBack
  split
  · rfl
  · exact ite_pwr rfl rfl

@[simp] theorem writeBacks_pwr (s : State) : (writeBacks s).pwr = s.pwr := foldl_pwr (fun _ _ => writeBack_pwr ..) _ s

@[simp] theorem readWords_pwr (fuel : Nat) (r : HostRead) (s : State) : (readWords fuel r s).2.pwr = s.pwr := by
  induction fuel generalizing r s with
  | zero => rfl
  | succ fuel ih =>
    have hread : ∀ (p : Nat) (t : State), (if r.far = true then hostFar r.addr t else hostBank p r.addr t).2.pwr = t.pwr := by
      intro p t
      split
      · exact hostFar_pwr ..
      · exact hostBank_pwr ..
    unfold readWords
    split
    · rfl
    · split
      · rfl
      · exact (ih ..).trans ((writeBacks_pwr _).trans (hread _ _))

@[simp] theorem advanceStart_pwr (r : HostRead) (s : State) : (advanceStart r s).pwr = s.pwr := by
  unfold advanceStart setStart
  split
  · exact ite_pwr rfl rfl
  · rfl

@[simp] theorem answerParts_pwr (n q : Nat) (l : List Answer) (s : State) : (answerParts n q l s).pwr = s.pwr :=
  (answerParts_told (told_refl s)).pwr

@[simp] theorem serveReads_pwr (s : State) : (serveReads s).pwr = s.pwr := by
  refine (foldl_pwr (fun t r => ?_) _ _).trans rfl
  refine ite_pwr rfl (ite_pwr ?_ ?_)
  · exact (answerParts_pwr ..).trans ((advanceStart_pwr ..).trans (readWords_pwr ..))
  · exact (advanceStart_pwr ..).trans (readWords_pwr ..)

@[simp] theorem hostStep_pwr (s : State) : (hostStep s).pwr = s.pwr := (serveReads_pwr _).trans (writeBacks_pwr s)

/-! ### The mode, and the end of a run (R170-R172, R729) -/

@[simp] theorem enterStop_pwr (s : State) : (enterStop s).pwr = s.pwr := by
  unfold enterStop
  extract_lets settled disarmed
  have hsettled : settled.pwr = s.pwr := (settleSwaps_pwr _).trans (hostStep_pwr s)
  have hdisarmed : disarmed.pwr = s.pwr := ite_pwr ((disarmNow_pwr _).trans hsettled) hsettled
  exact ite_pwr hdisarmed hdisarmed

@[simp] theorem endReplay_pwr (s : State) : (endReplay s).pwr = s.pwr := by
  unfold endReplay
  refine ite_pwr rfl ?_
  dsimp only [lateSwaps]
  split <;> exact ite_pwr rfl rfl

theorem modeOff_kept (m : Nat) (s : State) : Undisturbed s (modeOff m s) := by
  unfold modeOff
  extract_lets keep compute tier ports
  have hcompute : Undisturbed s compute := loseCompute_kept (foldl_kept_mem (fun _ _ hq h => by
    have := quad_lt hq
    exact setDomain_kept (by omega) (setDomain_kept (by omega) h)) (kept_refl s))
  clear_value compute
  have htier : Undisturbed s tier := by
    unfold tier
    split
    · exact hcompute
    · exact loseTier_kept hcompute
  clear_value tier
  have hports : Undisturbed s ports := foldl_kept (fun _ _ h => portOff_kept h) htier
  exact setDomain_kept (by decide) (setDomain_kept (by decide) hports)

theorem modeOn_kept (s : State) : Undisturbed s (modeOn s) := by
  unfold modeOn
  extract_lets woken ports quads roots
  have hwoken : Undisturbed s woken := foldl_kept_mem (fun _ _ hq h => wakeDomain_kept (by have := List.mem_range.mp hq; omega) h)
    (kept_refl s)
  clear_value woken
  have hports : Undisturbed s ports := restDomain_kept (by decide) (restDomain_kept (by decide) hwoken)
  clear_value ports
  have hquads : Undisturbed s quads := foldl_kept_mem (fun _ _ hq h => by
    have := List.mem_range.mp hq
    exact restDomain_kept (by omega) (restDomain_kept (by omega) h)) hports
  clear_value quads
  have hroots : Undisturbed s roots := by
    unfold roots
    split
    · exact hquads
    · exact startRoots_kept hquads
  exact foldl_kept (fun _ _ h => startTraining_kept h) hroots

theorem modeDomains_kept (m : Nat) (s : State) : Undisturbed s (modeDomains m s) := by
  unfold modeDomains
  split
  · exact modeOff_kept m s
  · split
    · exact modeOn_kept s
    · exact kept_refl s

/-- Whether VBAT is at 0 V (R740) changes with nothing but a measurement. -/
theorem setMode_vbatGone (m : Nat) (s : State) : (setMode m s).pwr.vbatGone = s.pwr.vbatGone := by
  have hdomains : (modeDomains m s).pwr.vbatGone = s.pwr.vbatGone :=
    (congrArg PwrSt.vbatGone (modeDomains_kept m s).pwr).trans rfl
  unfold setMode
  split
  · rfl
  · extract_lets old switched pwr raised
    have hraised : raised.pwr.vbatGone = s.pwr.vbatGone :=
      (congrArg PwrSt.vbatGone (raise_pwr ..)).trans hdomains
    clear_value raised
    split
    · rw [traceSettle_pwr, stopRec_pwr, hraised]
    · exact hraised

theorem setRunState_vbatGone (st : RunState) (s : State) : (setRunState st s).pwr.vbatGone = s.pwr.vbatGone := by
  unfold setRunState
  extract_lets run t
  have ht : t.pwr = s.pwr := rfl
  clear_value t
  rw [← ht]
  cases st with
  | stopping | waiting => rfl
  | _ => exact setMode_vbatGone ..

theorem recordStop_vbatGone (causes : List Nat) (st : RunState) (s : State) :
    (recordStop causes st s).pwr.vbatGone = s.pwr.vbatGone := by
  simp only [recordStop, raise_pwr, stopRec_pwr, setRunState_vbatGone, setO_pwr]

theorem abortNow_vbatGone (s : State) : (abortNow s).pwr.vbatGone = s.pwr.vbatGone := by
  simp only [abortNow, stopWith, enterStop_pwr, recordStop_vbatGone]
  exact congrArg PwrSt.vbatGone (endReplay_pwr s)

end Sys2Proof.Machine
end

section
/-! SUPPORT. The supply and the control lands (chapter 12): where they lead and what is lost. -/

namespace Sys2Proof.Machine

/-! ### What an entry into BOOT or a power-down keeps (R557, R558, R740) -/

theorem sparse_get_filter {α : Type} (d : Nat → α) (p : Nat → Bool) (l : Sparse α) {k : Nat} (hk : p k = true) :
    Sparse.get d (l.filter (fun x => p x.1)) k = Sparse.get d l k := by
  induction l with
  | nil => rfl
  | cons x l ih =>
    obtain ⟨i, v⟩ := x
    by_cases hi : p i = true
    · rw [List.filter_cons_of_pos (p := fun x : Nat × α => p x.1) hi, Sparse.get, Sparse.get, ih]
    · have hne : i ≠ k := fun h => hi (h ▸ hk)
      rw [List.filter_cons_of_neg (p := fun x : Nat × α => p x.1) hi, Sparse.get, if_neg hne, ih]

theorem keepObjects_get {p : Nat → Bool} {i j : Nat} (hk : p (okey i j) = true) (s : State) :
    Sparse.get okDflt (keepObjects p s) (okey i j) = s.o i j := sparse_get_filter okDflt p s.obj hk

/-- LAST_OFF_CAUSE survives every power-down. -/
theorem powerDown_cause (m : Nat) (s : State) : (powerDown m s).o 0x2200 6 = s.o 0x2200 6 := by
  change Sparse.get okDflt (keepObjects (if m = 0 then survivesBoot else survivesStandby) s) _ = _
  refine keepObjects_get ?_ s
  split <;> decide

theorem powerDown_moduleId (m : Nat) (s : State) : (powerDown m s).moduleId = s.moduleId := rfl

theorem powerDown_lands (m : Nat) (s : State) :
    (powerDown m s).pwr.resetHigh = s.pwr.resetHigh ∧ (powerDown m s).pwr.vinGood = s.pwr.vinGood := ⟨rfl, rfl⟩

theorem lastOff_cause (n : Nat) (s : State) : (lastOff n s).o 0x2200 6 = if s.pwr.vbatGone then 0 else n := setO_o_same ..

/-! ### The modes below IDLE switch no domain of their own (Table 12-8) -/

theorem setMode_eq_raise {m : Nat} (hm : m < 3) (s : State) : setMode m s = if s.pwr.mode = m then s else
    raise 0x2001 (pU8 s.pwr.mode ++ pU8 m) { s.setO 0x2000 6 s.pwr.mode with pwr := { s.pwr with mode := m } } := by
  have hdomains : modeDomains m s = s := by
    unfold modeDomains
    rw [if_neg (by simp; omega), if_neg (by simp; omega)]
  unfold setMode
  rw [hdomains, if_neg (by omega : ¬ m = 3)]
  rfl

theorem setMode_pwr {m : Nat} (hm : m < 3) (s : State) : (setMode m s).pwr = { s.pwr with mode := m } := by
  rw [setMode_eq_raise hm]
  split
  next h => rw [← h]
  next => exact raise_pwr ..

theorem setMode_moduleId {m : Nat} (hm : m < 3) (s : State) : (setMode m s).moduleId = s.moduleId := by
  rw [setMode_eq_raise hm]
  split
  · rfl
  · exact raise_moduleId ..

theorem setMode_cause {m : Nat} (hm : m < 3) (s : State) : (setMode m s).o 0x2200 6 = s.o 0x2200 6 := by
  rw [setMode_eq_raise hm]
  split
  · rfl
  · exact (raise_o _ _ _ rfl (by decide)).trans (setO_o_other s (by decide))

theorem setMode_design {m : Nat} (hm : m < 3) (s : State) :
    (setMode m s).run = s.run ∧ (setMode m s).lanes = s.lanes ∧ (setMode m s).mem = s.mem := by
  rw [setMode_eq_raise hm]
  split
  · exact ⟨rfl, rfl, rfl⟩
  · exact ⟨raise_run .., raise_lanes .., raise_mem ..⟩

/-! ### STANDBY, OFF and BOOT -/

theorem closeDomains_cause (s : State) : (closeDomains s).o 0x2200 6 = s.o 0x2200 6 :=
  (closeDomains_supplied s).objects _ _ rfl (by decide) (by decide)

theorem toStandby_cause (s : State) : (toStandby s).o 0x2200 6 = s.o 0x2200 6 := by
  rw [toStandby, powerDown_cause, setMode_cause (by decide), closeDomains_cause]

theorem toStandby_moduleId (s : State) : (toStandby s).moduleId = s.moduleId := by
  rw [toStandby, powerDown_moduleId, setMode_moduleId (by decide), (closeDomains_supplied s).moduleId]

/-- The lands and what the supply remembers stay. -/
theorem toStandby_lands (s : State) : (toStandby s).pwr.resetHigh = s.pwr.resetHigh ∧ (toStandby s).pwr.vinGood = s.pwr.vinGood := by
  obtain ⟨hreset, hgood⟩ := powerDown_lands 1 (setMode 1 (closeDomains s))
  rw [toStandby, hreset, hgood, setMode_pwr (by decide), (closeDomains_supplied s).pwr]
  exact ⟨rfl, rfl⟩

theorem enterBoot_pwr (s : State) : (enterBoot s).pwr = { s.pwr with
    mode := 2, dom := [2, 2, 2, 2, 2] ++ List.replicate 15 0, gate := [0, 0, 0, 0, 0] ++ List.replicate 15 2
    pfailDown := false, tripped := false } := setMode_pwr (by decide) _

theorem enterBoot_lands (s : State) : (enterBoot s).pwr.mode = 2 ∧ (enterBoot s).pwr.resetHigh = s.pwr.resetHigh ∧
    (enterBoot s).pwr.vinGood = s.pwr.vinGood := by
  rw [enterBoot_pwr]
  exact ⟨rfl, rfl, rfl⟩

theorem enterBoot_moduleId (s : State) : (enterBoot s).moduleId = s.moduleId := setMode_moduleId (by decide) _

theorem enterBoot_cause (s : State) : (enterBoot s).o 0x2200 6 = s.o 0x2200 6 :=
  (setMode_cause (by decide) _).trans (keepObjects_get (by decide) s)

theorem enterBoot_design (s : State) :
    (enterBoot s).run = s.run ∧ (enterBoot s).lanes = s.lanes ∧ (enterBoot s).mem = s.mem := setMode_design (by decide) _

theorem mayBoot_iff (s : State) : mayBoot s = true ↔ s.pwr.mode = 1 ∧ s.pwr.resetHigh = true ∧ s.pwr.vinGood = true ∧
    s.pwr.tripped = false ∧ (s.pwr.pfailDown && s.pwr.pfailLow) = false := by
  simp only [mayBoot, Bool.and_eq_true, beq_iff_eq, Bool.not_eq_true', and_assoc]

/-! ### The supply (R727, R730, Table 12-13) -/

/-- What the soft start reads of the lands. -/
def powered (straps : Nat) (rh : Bool) (s : State) : State :=
  modPwr (fun p => { p with vinGood := true, resetHigh := rh, overvolted := false, pfailDown := false, tripped := false })
    { s with moduleId := straps % 128 }

theorem exec_vinGood {straps : Nat} {rh : Bool} {s : State} (hoff : s.pwr.mode = 0) (hwaits : s.pwr.offByCommand = false) :
    exec (.vinGood straps rh) s = .next
      (if rh then enterBoot (toStandby (powered straps rh s)) else toStandby (powered straps rh s)) :=
  congrArg Host.Outcome.next (if_neg (by simp [hoff, hwaits]))

theorem exec_vinGood_leads {straps : Nat} {rh : Bool} {s : State} (hoff : s.pwr.mode = 0) (hwaits : s.pwr.offByCommand = false) :
    ∃ t, exec (.vinGood straps rh) s = .next t ∧ t.moduleId = straps % 128 ∧ t.pwr.mode = (if rh then 2 else 1) ∧
      t.pwr.resetHigh = rh ∧ t.pwr.vinGood = true ∧ t.run = State.reset.run ∧ t.lanes = State.reset.lanes ∧
      t.mem = State.reset.mem := by
  obtain ⟨hreset, hgood⟩ := toStandby_lands (powered straps rh s)
  have hid : (toStandby (powered straps rh s)).moduleId = straps % 128 := toStandby_moduleId _
  cases rh with
  | false =>
    have hexec : exec (.vinGood straps false) s = .next (toStandby (powered straps false s)) :=
      (exec_vinGood (rh := false) hoff hwaits).trans (congrArg Host.Outcome.next (if_neg Bool.false_ne_true))
    exact ⟨_, hexec, hid, rfl, hreset, hgood, rfl, rfl, rfl⟩
  | true =>
    have hexec : exec (.vinGood straps true) s = .next (enterBoot (toStandby (powered straps true s))) :=
      (exec_vinGood (rh := true) hoff hwaits).trans (congrArg Host.Outcome.next (if_pos (Eq.refl true)))
    obtain ⟨hrun, hlanes, hmem⟩ := enterBoot_design (toStandby (powered straps true s))
    obtain ⟨hbootMode, hbootReset, hbootGood⟩ := enterBoot_lands (toStandby (powered straps true s))
    refine ⟨_, hexec, (enterBoot_moduleId _).trans hid, hbootMode, hbootReset.trans hreset, hbootGood.trans hgood,
      hrun, hlanes, hmem⟩

theorem supplyStop_mode (n : Nat) (s : State) : (supplyStop n s).pwr.mode = 0 ∧ (supplyStop n s).pwr.vinGood = false := by
  refine ⟨?_, rfl⟩
  change (if s.pwr.mode = 0 then s else powerDown 0 (setMode 0 (lastOff n s))).pwr.mode = 0
  split
  · assumption
  · rfl

theorem supplyStop_loses {s : State} (hon : s.pwr.mode ≠ 0) (n : Nat) :
    (supplyStop n s).o 0x2200 6 = (if s.pwr.vbatGone then 0 else n) ∧ (supplyStop n s).acp = State.reset.acp ∧
      (supplyStop n s).run = State.reset.run ∧ (supplyStop n s).lanes = State.reset.lanes ∧
      (supplyStop n s).mem = State.reset.mem := by
  have heq : supplyStop n s = modPwr (fun p => { p with vinGood := false }) (powerDown 0 (setMode 0 (lastOff n s))) := by
    rw [supplyStop, if_neg hon]
  rw [heq]
  exact ⟨(powerDown_cause 0 _).trans ((setMode_cause (by decide) _).trans (lastOff_cause n s)), rfl, rfl, rfl, rfl⟩

/-! ### Stops that lead to STANDBY (R730, R741, R752) -/

/-- The states of a module in STANDBY that has lost its design, its sessions and its memories. -/
def Emptied (n : Nat) (s t : State) : Prop :=
  t.pwr.mode = 1 ∧ t.o 0x2200 6 = (if s.pwr.vbatGone then 0 else n) ∧ t.run = State.reset.run ∧ t.lanes = State.reset.lanes ∧
    t.mem = State.reset.mem ∧ t.rew = State.reset.rew ∧ t.acp = State.reset.acp

theorem toStandby_emptied {n : Nat} {s t : State} (hcause : t.o 0x2200 6 = if s.pwr.vbatGone then 0 else n) :
    Emptied n s (toStandby t) := ⟨rfl, (toStandby_cause t).trans hcause, rfl, rfl, rfl, rfl, rfl⟩

theorem emergency_emptied (n trace : Nat) {s u : State} (hu : u.pwr.vbatGone = s.pwr.vbatGone) :
    Emptied n s (emergency n trace u) := by
  have hvbat : (tracePowerDown trace (disarmNow (if inRun u then abortNow u else u))).pwr.vbatGone = s.pwr.vbatGone := by
    rw [tracePowerDown_pwr, disarmNow_pwr]
    split
    · exact (abortNow_vbatGone u).trans hu
    · exact hu
  refine toStandby_emptied ?_
  rw [raise_o _ _ _ rfl (by decide), lastOff_cause, hvbat]

theorem exec_resetNLow_empties {s : State} (hon : 2 ≤ s.pwr.mode) : ∃ t, exec .resetNLow s = .next t ∧ Emptied 6 s t := by
  have hexec : exec .resetNLow s = .next (toStandby (lastOff 6 (tracePowerDown 3 (modPwr (fun p => { p with resetHigh := false }) s)))) :=
    congrArg Host.Outcome.next (if_neg (not_lt.2 hon))
  refine ⟨_, hexec, toStandby_emptied ?_⟩
  rw [lastOff_cause, tracePowerDown_pwr]
  rfl

theorem exec_pfail_empties {s : State} (hon : s.pwr.mode ≠ 0) (hfalls : s.pwr.pfailLow = false) :
    ∃ t, exec .pfail s = .next t ∧ Emptied 4 s t := by
  have hexec : exec .pfail s = .next (emergency 4 2 (modPwr (fun p => { p with pfailDown := true })
      (modPwr (fun p => { p with pfailLow := true }) s))) :=
    congrArg Host.Outcome.next ((if_neg (by simp [hfalls])).trans (if_neg hon))
  exact ⟨_, hexec, emergency_emptied 4 2 rfl⟩

theorem exec_thermalTrip_empties {s : State} (hon : s.pwr.mode ≠ 0) : ∃ t, exec .thermalTrip s = .next t ∧ Emptied 5 s t := by
  have hexec : exec .thermalTrip s = .next (tripNow s) := congrArg Host.Outcome.next (if_neg hon)
  refine ⟨_, hexec, ?_⟩
  rw [tripNow]
  exact emergency_emptied 5 4 rfl

/-! ### From STANDBY into BOOT (R728, R743) -/

theorem exec_resetNRise_boots {s : State} (hmode : s.pwr.mode = 1) (hlow : s.pwr.resetHigh = false)
    (hpfail : s.pwr.pfailDown = false ∨ s.pwr.pfailLow = false) :
    ∃ t, exec .resetNRise s = .next t ∧ t.pwr.mode = 2 ∧ t.pwr.resetHigh = true ∧ t.pwr.tripped = false := by
  refine ⟨_, congrArg Host.Outcome.next ((if_neg (by simp [hlow])).trans (if_pos ?_)), ?_, ?_, ?_⟩
  · change (s.pwr.mode == 1 && !(s.pwr.pfailDown && s.pwr.pfailLow)) = true
    rcases hpfail with h | h <;> simp [hmode, h]
  · exact congrArg PwrSt.mode (enterBoot_pwr _)
  · exact congrArg PwrSt.resetHigh (enterBoot_pwr _)
  · exact congrArg PwrSt.tripped (enterBoot_pwr _)

theorem exec_pfailNHigh_boots {s : State} (hmode : s.pwr.mode = 1) (hdown : s.pwr.pfailDown = true) (hreset : s.pwr.resetHigh = true)
    (hgood : s.pwr.vinGood = true) (hcool : s.pwr.tripped = false) :
    ∃ t, exec .pfailNHigh s = .next t ∧ t.pwr.mode = 2 ∧ t.pwr.pfailLow = false := by
  refine ⟨_, congrArg Host.Outcome.next (if_pos ?_), ?_, ?_⟩
  · rw [Bool.and_eq_true, mayBoot_iff]
    exact ⟨hdown, hmode, hreset, hgood, hcool, Bool.and_false _⟩
  · exact congrArg PwrSt.mode (enterBoot_pwr _)
  · exact congrArg PwrSt.pfailLow (enterBoot_pwr _)

theorem exec_standbyWake_boots {s : State} (htime : s.o 0x2000 5 ≠ 0) (hmay : mayBoot s = true) :
    ∃ t, exec .standbyWake s = .next t ∧ t.pwr.mode = 2 :=
  ⟨_, congrArg Host.Outcome.next (if_pos (by simp [htime, hmay])), congrArg PwrSt.mode (enterBoot_pwr _)⟩

theorem exec_supplyOutside {c : Instr} {n : Nat} (s : State)
    (hrow : (c, n) ∈ [(Instr.vinUndervoltage, 2), (Instr.vinOvervoltage, 3)]) :
    ∃ t, exec c s = .next t ∧ t.pwr.mode = 0 ∧ t.pwr.vinGood = false ∧ (n = 2 → t.pwr.offByCommand = false) ∧
      (s.pwr.mode ≠ 0 → t.o 0x2200 6 = (if s.pwr.vbatGone then 0 else n) ∧ t.acp = State.reset.acp ∧ t.run = State.reset.run ∧
        t.lanes = State.reset.lanes ∧ t.mem = State.reset.mem) := by
  obtain ⟨hmode, hgood⟩ := supplyStop_mode n s
  simp only [List.mem_cons, Prod.mk.injEq, List.not_mem_nil, or_false] at hrow
  obtain ⟨rfl, rfl⟩ | ⟨rfl, rfl⟩ := hrow
  · exact ⟨_, rfl, hmode, hgood, fun _ => rfl, fun hon => supplyStop_loses hon 2⟩
  · exact ⟨_, rfl, hmode, hgood, fun h => absurd h (by decide), fun hon => supplyStop_loses hon 3⟩

/-- Settles O54: every row ends in a power-down or in an entry into BOOT, and both keep LAST_OFF_CAUSE. -/
theorem supplyEventsComplete : Obligations.SupplyEventsComplete := by
  unfold Obligations.SupplyEventsComplete
  refine ⟨fun straps rh s hoff hwaits => exec_vinGood_leads hoff hwaits,
    fun straps rh s hwaits => congrArg Host.Outcome.next (if_pos (by simp [hwaits])),
    fun c n s hrow => exec_supplyOutside s hrow, fun c n s hon hrow => ?_,
    fun s hmode hlow hpfail => exec_resetNRise_boots hmode hlow hpfail,
    fun s hmode hdown hreset hgood hcool => exec_pfailNHigh_boots hmode hdown hreset hgood hcool,
    fun s htime hmay => exec_standbyWake_boots htime hmay⟩
  obtain ⟨rfl, hhigh, rfl⟩ | ⟨rfl, hfalls, rfl⟩ | ⟨rfl, rfl⟩ := hrow
  · exact exec_resetNLow_empties hhigh
  · exact exec_pfail_empties hon hfalls
  · exact exec_thermalTrip_empties hon

end Sys2Proof.Machine
end

section
/-! SUPPORT. The mode commands, the orderly shutdown, and the domains that the host switches (chapter 12). -/

namespace Sys2Proof.Machine

/-! ### Commands that act before their answer (Table 12-9) -/

theorem modeRefusal_eq_none {n : Nat} {s : State} (hrun : inRun s = false)
    (hmode : modeAccepted n s.pwr.mode s.run.state (s.o 0x6000 1 == 6) = true) : modeRefusal n s = none := by
  rw [modeRefusal_eq, hrun, if_neg Bool.false_ne_true, if_pos hmode]

theorem modeHandler_analyzer {s : State} (h : modeRefusal 2 s = none) : modeHandler 2 s = (.ok, calibrateEntry (setMode 8 s)) := by
  unfold modeHandler
  rw [h]
  rfl

theorem modeHandler_idle {s : State} (h : modeRefusal 3 s = none) :
    modeHandler 3 s = (.ok, if s.pwr.mode = 8 ∨ s.pwr.mode = 11 then setMode 3 s else unload s) := by
  unfold modeHandler
  rw [h]
  exact congrArg (Prod.mk Status.ok) (ite_eq_ite (by simp) rfl rfl)

theorem modeHandler_service {s : State} (h : modeRefusal 4 s = none) : modeHandler 4 s = (.ok, ffInit (targetOff (setMode 11
    (if s.pwr.mode = 2 then (List.range 4).foldl (fun t q => wakeDomain (13 + q) t) s else s)))) := by
  unfold modeHandler
  rw [h]
  rfl

/-! ### Commands that act after their answer (log 53) -/

theorem modeHandler_due {n : Nat} {s : State} (hn : n ∈ [1, 5, 6]) (h : modeRefusal n s = none) :
    modeHandler n s = (.ok, modPwr (fun p => { p with due := n }) s) := by
  simp only [List.mem_cons, List.not_mem_nil, or_false] at hn
  unfold modeHandler
  rw [h]
  obtain rfl | rfl | rfl := hn <;> rfl

/-- The state in which the effect of a mode command that was answered OK begins. -/
def answeredMode (r : Req) (n : Nat) (x : Session) (s : State) : State :=
  (takeDue (replied r 6 0x2000 2 .ok (modPwr (fun p => { p with due := n }) (accepted r x (takeDue s).2)))).2

theorem takeDue_modeCommand {n : Nat} {r : Req} {x : Session} {s : State} (hn : n ∈ [1, 5, 6]) (h : Reaches r x s)
    (hc : checkWrite (takeDue s).2 x 0x2000 2 (codeVal n) false = none) (hrun : inRun s = false)
    (hmode : modeAccepted n s.pwr.mode s.run.state (s.o 0x6000 1 == 6) = true) :
    takeDue (modeCommand r n (takeDue s).2) = (n, answeredMode r n x s) := by
  have hnone : modeRefusal n (accepted r x (takeDue s).2) = none := modeRefusal_eq_none (s := accepted r x (takeDue s).2) hrun hmode
  have hserved : modeCommand r n (takeDue s).2 =
      replied r 6 0x2000 2 .ok (modPwr (fun p => { p with due := n }) (accepted r x (takeDue s).2)) :=
    serveWrite_eq (reaches_takeDue h) hc (modeHandler_due hn hnone)
  rw [hserved]
  exact Prod.ext (replied_due ..) rfl

theorem answeredMode_vbatGone (r : Req) (n : Nat) (x : Session) (s : State) :
    (answeredMode r n x s).pwr.vbatGone = s.pwr.vbatGone := by
  have hreplied : ∀ t, (replied r 6 0x2000 2 .ok t).pwr.vbatGone = t.pwr.vbatGone := by
    intro t
    have hkept : Undisturbed t (replied r 6 0x2000 2 .ok t) := chooseDepth_kept (answer_kept (kept_refl t))
    rw [hkept.pwr]
  exact hreplied _

theorem wakeDepth_vbatGone (s : State) : (wakeDepth s).pwr.vbatGone = s.pwr.vbatGone := by
  rw [(wakeDepth_kept (kept_refl s)).pwr]

theorem exec_modeStandby {r : Req} {x : Session} {s : State} (h : Reaches r x s)
    (hc : checkWrite (takeDue s).2 x 0x2000 2 (codeVal 1) false = none) (hrun : inRun s = false)
    (hmode : modeAccepted 1 s.pwr.mode s.run.state (s.o 0x6000 1 == 6) = true) :
    exec (.modeStandby r) s = .next (toStandby (tracePowerDown 1 (wakeDepth (answeredMode r 1 x s)))) := by
  change execModeStandby r s = _
  rw [execModeStandby, takeDue_modeCommand (by decide) h hc hrun hmode]
  rfl

/-- Steps 2 to 4 of the orderly shutdown: the shutdown test, when it is asked for, and the end. -/
def shutdownRest (fs : List TestFinding) (done ms : Nat) (s : State) : State :=
  if s.o 0x2000 4 = 1 then
    let s := testSteps fs done ms (startTest false (enterSelfTest { s with img := { s.img with applying := none } }))
    if s.test.running then s else shutdownEnd false s
  else shutdownEnd false s

theorem exec_shutdown {r : Req} {fs : List TestFinding} {done ms : Nat} {x : Session} {s u v : State} (h : Reaches r x s)
    (hc : checkWrite (takeDue s).2 x 0x2000 2 (codeVal 5) false = none) (hrun : inRun s = false)
    (hmode : modeAccepted 5 s.pwr.mode s.run.state (s.o 0x6000 1 == 6) = true)
    (hu : u = shutdownBegin 5 (wakeDepth (answeredMode r 5 x s)))
    (hv : v = testSteps fs done ms (startTest false (enterSelfTest { u with img := { u.img with applying := none } }))) :
    exec (.shutdown r fs done ms) s = .next
      (if u.o 0x2000 4 = 1 then if v.test.running then v else shutdownEnd false v else shutdownEnd false u) := by
  have hexec : exec (.shutdown r fs done ms) s = .next (shutdownRest fs done ms (shutdownBegin 5 (wakeDepth (answeredMode r 5 x s)))) := by
    change execShutdown r fs done ms s = _
    rw [execShutdown, takeDue_modeCommand (by decide) h hc hrun hmode]
    rfl
  rw [hexec, ← hu, shutdownRest, ← hv]

theorem exec_reboot {r : Req} {x : Session} {s : State} (h : Reaches r x s)
    (hc : checkWrite (takeDue s).2 x 0x2000 2 (codeVal 6) false = none) (hrun : inRun s = false)
    (hmode : modeAccepted 6 s.pwr.mode s.run.state (s.o 0x6000 1 == 6) = true) :
    exec (.reboot r) s = .next (shutdownEnd true (shutdownBegin 6 (wakeDepth (answeredMode r 6 x s)))) := by
  change execReboot r s = _
  rw [execReboot, takeDue_modeCommand (by decide) h hc hrun hmode]
  rfl

/-! ### The orderly shutdown -/

theorem shutdownBegin_pwr (c : Nat) (s : State) : (shutdownBegin c s).pwr = s.pwr := by
  unfold shutdownBegin
  dsimp only
  rw [foldl_pwr (fun _ _ => closeSession_pwr ..), tracePowerDown_pwr, disarmNow_pwr, raise_pwr]

/-- The state of a shutdown whose domains are off. -/
def shutDomains (s : State) : State := closeDomains (lastOff 1 s)

theorem shutDomains_cause (s : State) : (shutDomains s).o 0x2200 6 = if s.pwr.vbatGone then 0 else 1 := by
  rw [shutDomains, closeDomains_cause, lastOff_cause]

theorem shutDomains_end (s : State) : (shutDomains s).o 0x2000 3 = s.o 0x2000 3 :=
  ((closeDomains_supplied _).objects _ _ rfl (by decide) (by decide)).trans (setO_o_other s (by decide))

theorem shutDomains_offByCommand (s : State) : (shutDomains s).pwr.offByCommand = s.pwr.offByCommand := by
  rw [shutDomains, (closeDomains_supplied _).pwr]
  rfl

theorem shutdownEnd_eq (reboot : Bool) (s : State) : shutdownEnd reboot s =
    if reboot then enterBoot (powerDown (shutDomains s).pwr.mode (shutDomains s))
    else if (shutDomains s).o 0x2000 3 = 1 then toStandby (shutDomains s)
    else modPwr (fun p => { p with offByCommand := true }) (powerDown 0 (setMode 0 (shutDomains s))) := by
  unfold shutdownEnd shutDomains
  rfl

theorem shutdownEnd_standby {s : State} (h : s.o 0x2000 3 = 1) : shutdownEnd false s = toStandby (shutDomains s) := by
  rw [shutdownEnd_eq, if_neg Bool.false_ne_true, shutDomains_end, if_pos h]

theorem shutdownEnd_off {s : State} (h : s.o 0x2000 3 ≠ 1) : shutdownEnd false s =
    modPwr (fun p => { p with offByCommand := true }) (powerDown 0 (setMode 0 (shutDomains s))) := by
  rw [shutdownEnd_eq, if_neg Bool.false_ne_true, shutDomains_end, if_neg h]

theorem shutdownEnd_boot (s : State) : shutdownEnd true s = enterBoot (powerDown (shutDomains s).pwr.mode (shutDomains s)) := by
  rw [shutdownEnd_eq, if_pos (Eq.refl true)]

theorem toStandby_mode (s : State) : (toStandby s).pwr.mode = 1 := rfl

theorem toStandby_offByCommand (s : State) : (toStandby s).pwr.offByCommand = s.pwr.offByCommand := by
  have hdown : ∀ t, (powerDown 1 t).pwr.offByCommand = t.pwr.offByCommand := fun _ => rfl
  rw [toStandby, hdown, setMode_pwr (by decide), (closeDomains_supplied s).pwr]

theorem shutdownEnd_leads (s : State) : (shutdownEnd false s).pwr.mode = (if s.o 0x2000 3 = 1 then 1 else 0) ∧
    (shutdownEnd false s).o 0x2200 6 = (if s.pwr.vbatGone then 0 else 1) ∧
    (shutdownEnd false s).pwr.offByCommand = (if s.o 0x2000 3 = 1 then s.pwr.offByCommand else true) := by
  by_cases hend : s.o 0x2000 3 = 1
  · rw [shutdownEnd_standby hend, if_pos hend, if_pos hend, toStandby_offByCommand, shutDomains_offByCommand, toStandby_cause,
      shutDomains_cause]
    exact ⟨toStandby_mode _, rfl, rfl⟩
  · have hcause : (shutdownEnd false s).o 0x2200 6 = if s.pwr.vbatGone then 0 else 1 := by
      rw [shutdownEnd_off hend, modPwr_o, powerDown_cause, setMode_cause (by decide), shutDomains_cause]
    rw [if_neg hend, if_neg hend]
    refine ⟨?_, hcause, ?_⟩
    · rw [shutdownEnd_off hend]
      rfl
    · rw [shutdownEnd_off hend]
      rfl

theorem shutdownEnd_reboots {s u : State} (hu : u.pwr.vbatGone = s.pwr.vbatGone) : (shutdownEnd true u).pwr.mode = 2 ∧
    (shutdownEnd true u).o 0x2200 6 = (if s.pwr.vbatGone then 0 else 1) ∧ (shutdownEnd true u).run = State.reset.run ∧
    (shutdownEnd true u).lanes = State.reset.lanes ∧ (shutdownEnd true u).mem = State.reset.mem := by
  rw [shutdownEnd_boot]
  obtain ⟨hmode, -, -⟩ := enterBoot_lands (powerDown (shutDomains u).pwr.mode (shutDomains u))
  obtain ⟨hrun, hlanes, hmem⟩ := enterBoot_design (powerDown (shutDomains u).pwr.mode (shutDomains u))
  refine ⟨hmode, ?_, hrun, hlanes, hmem⟩
  rw [enterBoot_cause, powerDown_cause, shutDomains_cause, hu]

/-! ### The domains that the host switches (R725) -/

/-- Handler of an accepted write of 2300h+d:02. -/
theorem domainWrite_eq {d n : Nat} {s : State} (hlow : 13 ≤ d) (hhigh : d ≤ 18) (hn : n < 2) (hfree : domainFree s d = true) :
    domainWrite d n s = (.ok,
      let t := s.setO (0x2300 + d) 2 n
      if n = 1 then setDomain d 0 2 ((domainPorts d).foldl (fun t p => portOff p t)
        (modPwr (fun p => { p with hostOff := nsAdd d p.hostOff }) t))
      else
        let t := modPwr (fun p => { p with hostOff := p.hostOff.filter (fun k => k != d) }) t
        (domainPorts d).foldl (fun t p => startTraining p t) (if modeWants t d then wakeDomain d t else t)) := by
  have hvalid : ¬ (decide (2 ≤ n) || decide (d < 13) || decide (18 < d)) = true := by simp; omega
  unfold domainWrite
  rw [if_neg hvalid, if_neg (by simp [hfree])]
  dsimp only
  split <;> rfl

/-- Settles O57: the commands that act before their answer by their handler, the others by the effect left due, which ends in STANDBY, in OFF
or in BOOT. -/
theorem modeRowsComplete : Obligations.ModeRowsComplete := by
  unfold Obligations.ModeRowsComplete
  refine ⟨fun r => ?_, fun r => ?_, fun r => ?_, fun r x s h hc hrun hmode => ?_,
    fun r fs done ms x s u v h hc hrun hmode hu hv => exec_shutdown h hc hrun hmode hu hv, fun r x s h hc hrun hmode => ?_,
    shutdownEnd_leads, fun r d v n hlow hhigh => ?_⟩
  · exact writeDone_of_handler (fun _ => rfl) fun x t ⟨hrun, hmode⟩ => modeHandler_analyzer (modeRefusal_eq_none hrun hmode)
  · exact writeDone_of_handler (fun _ => rfl) fun x t ⟨hrun, hmode⟩ => modeHandler_idle (modeRefusal_eq_none hrun hmode)
  · exact writeDone_of_handler (fun _ => rfl) fun x t ⟨hrun, hmode⟩ => modeHandler_service (modeRefusal_eq_none hrun hmode)
  · exact ⟨_, exec_modeStandby h hc hrun hmode, rfl, rfl, rfl, rfl, rfl⟩
  · refine ⟨_, exec_reboot h hc hrun hmode, shutdownEnd_reboots ?_⟩
    rw [shutdownBegin_pwr, wakeDepth_vbatGone, answeredMode_vbatGone]
  · refine writeDone_onObject (Nat.lt_of_le_of_lt hhigh (by decide)) (fun _ => rfl) ?_
    rintro x t ⟨rfl, hn, hfree⟩
    exact domainWrite_eq hlow hhigh hn hfree

end Sys2Proof.Machine
end
